-- ==== Sys2Proof/Word.lean ====
section
/-!
DEFINITION. The word types of the module: the manual numbers bits from 0 (R5), so a register is a bit vector.
-/

namespace Sys2Proof

/-- One byte. -/
abbrev Byte := BitVec 8
/-- A 32-bit set-up register or sequence number. -/
abbrev Word := BitVec 32
/-- A 64-bit word: an entry half (R37), a time in ns (R9), a core register. -/
abbrev Dword := BitVec 64
/-- A signature accumulator or a 160/128 data word (R60, R354). -/
abbrev Sig := BitVec 128

end Sys2Proof
end

