-- ==== Sys2Proof/Types.lean ====
section
/-!
DEFINITION. The data that commands carry and that the state holds: lanes, event records, descriptors, frames.  No
operation of the machine is here.
-/

namespace Sys2Proof

/-- The three processing lanes (glossary of 00_scope.md). -/
inductive Lane where
  | a | b | c
deriving DecidableEq, Repr

/-- One value per lane. -/
structure PerLane (α : Type) where
  a : α
  b : α
  c : α
deriving DecidableEq, Repr

/-- The value of one lane. -/
def PerLane.get {α : Type} (p : PerLane α) : Lane → α
  | .a => p.a
  | .b => p.b
  | .c => p.c

/-- The same with one lane's value replaced. -/
def PerLane.set {α : Type} (p : PerLane α) (l : Lane) (x : α) : PerLane α :=
  match l with
  | .a => { p with a := x }
  | .b => { p with b := x }
  | .c => { p with c := x }

/-- Lane index as registers and events name it: 0 = A, 1 = B, 2 = C. -/
def Lane.idx : Lane → Nat
  | .a => 0
  | .b => 1
  | .c => 2

/-- The lane of an index; none outside 0 to 2. -/
def Lane.ofIdx? : Nat → Option Lane
  | 0 => some .a
  | 1 => some .b
  | 2 => some .c
  | _ => none

/-- All lanes in order. -/
def allLanes : List Lane := [.a, .b, .c]

/-- Lane states of LANE_STATE (R73, R86). -/
inductive LaneState where
  | off | testing | rejoining | voting | excluded | splitRun
deriving DecidableEq, Repr

/-- Vote modes (R72). -/
inductive VoteMode where
  | triple | dual | split | none
deriving DecidableEq, Repr

/-- Module states of MOD_STATE (R386). -/
inductive ModState where
  | sleep | waking | boot | maintenance | joining | standby | active | safeHalt
deriving DecidableEq, Repr

/-- Record severities (R90). -/
inductive Severity where
  | info | notice | warning | fault | safety
deriving DecidableEq, Repr

/-- Reaction levels (R344). -/
inductive Reaction where
  | log | notify | excludeLane | degrade | yield | safeHalt
deriving DecidableEq, Repr

/-- One row of an event table: code, severity, default reaction. -/
structure EvDef where
  code     : Nat
  sev      : Severity
  reaction : Reaction
deriving DecidableEq, Repr

/-- An event record (R90), without the PHASE bit, which its slot gives it (R92). -/
structure Record where
  code     : Nat
  sev      : Severity
  reaction : Reaction
  seq      : Word
  time     : Dword
  detailA  : Dword
  detailB  : Word
  source   : Nat
deriving DecidableEq, Repr

/-- A ring descriptor (R88): 32 bytes. -/
structure Desc where
  opcode : BitVec 16
  flags  : BitVec 16
  seq    : Word
  buf    : Dword
  len    : Word
  tag    : Word
  spec   : Dword
deriving DecidableEq, Repr

/-! ### Lanes and votes -/

/-- A register write folded into a signature (R60). -/
structure RegWrite where
  fp    : Bool
  idx   : Fin 32
  value : Dword
deriving DecidableEq, Repr

/-- A store word (R60): 40-bit address, size code 0 to 3, stored bytes right-aligned. -/
structure StoreWord where
  addr : BitVec 40
  size : BitVec 2
  data : Dword
deriving DecidableEq, Repr

/-- What the instruction of a retirement reads: `2^size` bytes at a physical address, sign-extended or not, or a CSR (R58). -/
inductive CoreLoad where
  | mem (addr : BitVec 40) (size : BitVec 2) (signed : Bool)
  | csr (number : BitVec 12)
deriving DecidableEq, Repr

/-- What one core retires or traps on (R60).  `machine` is retirement in machine mode, which folds nothing.  An AMO or a
successful SC carries both words; a failed SC only its register word.  `trap` is a synchronous exception with its code
and mtval.  `msnapsel` is a write of MSNAPSEL (R21).  `poisoned` is a poisoned word that the core consumed (R57), with
its address; `l1Parity` an L1 parity error met on the way (R57).  `load` is what the instruction reads: where the module
answers the read, the register takes the module's value and not the one that `reg` carries. -/
structure Retire where
  machine  : Bool
  store    : Option StoreWord
  reg      : Option RegWrite
  trap     : Option (BitVec 5 × Dword)
  msnapsel : Option Dword
  poisoned : Option (BitVec 40)
  l1Parity : Bool
  load     : Option CoreLoad
deriving DecidableEq, Repr

/-- The gated clock domains (R45). -/
inductive Domain where
  | safe | isth | img
deriving DecidableEq, Repr

/-! ### Rings and the journal -/

/-- States of a journal record (R101). -/
inductive JState where
  | pending | accepted | started | done
deriving DecidableEq, Repr

/-- Outcome of a descriptor (R91; REFUSED is 0x83, R202, R242, R278, R423). -/
inductive DescOutcome where
  | done | failed | expired | refused
deriving DecidableEq, Repr

/-- A journal record (R101): ring, state, descriptor, payload, and once it is DONE its outcome and DETAIL_A. -/
structure JRecord where
  ring    : Nat
  state   : JState
  desc    : Desc
  payload : List Byte
  outcome : DescOutcome
  detailA : Dword
deriving DecidableEq, Repr

/-- The set-up of a ring (R101): RING_BASE, RING_CTRL, RING_CFG, RING_SEQ_START and RING_JQUOTA. -/
structure RingSetup where
  base     : Word
  ctrl     : Word
  cfg      : Word
  seqStart : Word
  jquota   : Word
deriving DecidableEq, Repr

/-- One item that a journal batch carries (R330), in write order. -/
inductive JItem where
  /-- A new journal record. -/
  | record (r : JRecord)
  /-- A state mark of the record of a ring and SEQ, with its outcome and DETAIL_A once it is DONE. -/
  | mark (ring : Nat) (seq : Word) (state : JState) (outcome : DescOutcome) (detailA : Dword)
  /-- The record of a ring and SEQ is freed and its completion record stands at an index of a queue (R101). -/
  | freed (ring : Nat) (seq : Word)
  /-- An event record at a running index of a queue's event part, with the queue's record count (R104). -/
  | event (queue : Nat) (index count : Word) (r : Record)
  /-- A record of a queue that enters the overflow store, with the queue's record count. -/
  | waiting (queue : Nat) (count : Word) (r : Record)
  /-- A queue's START: T, H and the record count are 0 and its carried-over records dropped (R116). -/
  | started (queue : Nat)
  /-- A ring's set-up as the journal header keeps it (R101). -/
  | setup (ring : Nat) (x : RingSetup)
  /-- New A and C of a ring's header: no record of the ring stands outside them. -/
  | books (ring : Nat) (accepted completed : Word)
  /-- New voted head of a queue. -/
  | head (queue : Nat) (index : Word)
deriving DecidableEq, Repr

/-! ### The pair -/

/-- Levels of a mastery line (R317). -/
inductive MstLevel where
  | low | alive | mastery
deriving DecidableEq, Repr

/-- Content of a STATUS frame (R327). -/
structure StatusInfo where
  state     : ModState
  mode      : VoteMode
  eligible  : Bool
  mstIn     : MstLevel
  pairClass : BitVec 16
deriving DecidableEq, Repr

/-- A mirrored input image (R329): image number, its bytes from offset 0, the two times, and the volatile parts of the
slots captured since the previous image MIRROR, as register keys and values. -/
structure ImageContent where
  image      : Fin 16
  bytes      : List Byte
  cycleStart : Dword
  sampleTime : Dword
  slots      : List (Nat × List (Nat × Word))
deriving DecidableEq, Repr

/-- One COLLECT of an output check (R331). -/
structure CheckItem where
  index        : BitVec 16
  wroteNothing : Bool
  digest       : Sig
deriving DecidableEq, Repr

/-- An output check (R331): its sequence, its COLLECTs in order, and the Rammaon counters of the enabled TX connections
as (connection, counter) (R221). -/
structure CheckContent where
  seq      : Word
  items    : List CheckItem
  counters : List (Nat × Word)
deriving DecidableEq, Repr

/-- Kind of a window access (R260). -/
inductive WinKind where
  | load | store | fence
deriving DecidableEq, Repr

/-- Causes with which a window access or a transfer ends (R272). -/
inductive WinCause where
  | none | berr | timeout | retry | lost | poison
deriving DecidableEq, Repr

/-- A WINDOW_RESULT frame (R334): stream index, kind, address, size in bytes, store data or read result, cause. -/
structure WindowResult where
  stream : Nat
  kind   : WinKind
  addr   : BitVec 40
  size   : Nat
  data   : Dword
  cause  : WinCause
deriving DecidableEq, Repr

/-- Force targets (R158). -/
inductive ForceKind where
  | diChan | doChan | imageWord | outputWord
deriving DecidableEq, Repr

/-- A committed change of the force table (R159, R160): an entry set with its MOD_FORCE_TARGET, mask and value; an entry
removed; every entry removed. -/
inductive ForceChange where
  | set (entry : Nat) (target mask value : Word)
  | remove (entry : Nat)
  | removeAll
deriving DecidableEq, Repr

/-- Content of a NOTICE frame (R327, R141, R157, R160, R366); that one carries an INPUT_XCHK to the active module (R335) or a failed copy
to the joining one (R338) is DEDUCED (assumption log 59). -/
inductive Notice where
  | overrun (task : Fin 48) (hp : Word)
  | force (change : ForceChange) (hp : Word) (cycle : Nat)
  | exchange (hp : Word)
  | sleep (hp : Word)
  | inputXchk (channel : BitVec 8) (kind : BitVec 2)
  | copyFailed
deriving DecidableEq, Repr

/-- Causes of giving up control, as PAIR_LAST_TAKEOVER.CAUSE encodes them (R342). -/
inductive GiveUpCause where
  | none | yield | safeHalt | restart | handover | silence | powerFail | mstLow
deriving DecidableEq, Repr

/-- A commit of retained data in the commit log (R149): the blocks with their bytes, the COLLECT's task and its RELEASE_TIME, and the
APP_BUILD_ID and the retain range's length in blocks at the COLLECT. -/
structure RetainLog where
  blocks   : List (Nat × List Byte)
  task     : Nat
  time     : Dword
  appBuild : Dword
  size     : Nat
deriving DecidableEq, Repr

/-- Content of a COPY frame (R338): the journal, the retained data, or one page of the lane state area. -/
inductive CopyContent where
  | journal (records : List JRecord) (books : List (Nat × Word × Word)) (setups : List (Nat × RingSetup))
      (events : List (Nat × Word × Record)) (heads : List (Nat × Word × Word × Word))
      (overflow : List (Nat × Bool × Record))
  | retained (ever invalid : Bool) (generation : Word) (appBuild : Dword) (size : Nat) (lastRelease : List (Nat × Dword))
      (log : Option RetainLog) (data : List (Nat × Byte))
  | page (page : BitVec 21) (bytes : List Byte)
deriving DecidableEq, Repr

/-- Content of a HELLO frame (R327, R338). -/
structure HelloInfo where
  pairClass  : BitVec 16
  activeId   : Dword
  shadowId   : Dword
  appBuildId : Dword
  extents    : List (Word × Word)
deriving DecidableEq, Repr

/-! ### Transit clock -/

/-- A PTP port identity (IEC 61588). -/
structure PortId where
  clock : Dword
  port  : BitVec 16
deriving DecidableEq, Repr

/-- PTP message types (R174). -/
inductive PtpKind where
  | sync | followUp | delayReq | delayResp | pdelayReq | pdelayResp | pdelayRespFollowUp | announce | management
  | signaling
deriving DecidableEq, Repr

/-- The grandmaster data set that an Announce carries (IEC 61588). -/
structure DataSet where
  priority1 : Byte
  class_    : Byte
  accuracy  : Byte
  variance  : BitVec 16
  priority2 : Byte
  gm        : Dword
  steps     : BitVec 16
deriving DecidableEq, Repr

/-- A PTP message: its type, whether it is mapped on UDP over IPv4 (else on Ethernet, R174), domain, sequenceId, twoStepFlag, correctionField in 2^-16 ns, sender, the time stamp in its
body in ns, the requesting port of a response, the data set of an Announce. -/
structure PtpMsg where
  kind       : PtpKind
  udp        : Bool
  domain     : Byte
  seq        : BitVec 16
  twoStep    : Bool
  correction : BitVec 64
  source     : PortId
  time       : Dword
  requesting : PortId
  data       : DataSet
deriving DecidableEq, Repr

/-! ### Train network -/

/-- Link states of a train port (R186, R207). -/
inductive LinkLevel where
  | down | up100 | up1000
deriving DecidableEq, Repr

/-- TRDP telegram types (R191). -/
inductive TrdpType where
  | pd | pr | pp | mn | mr | mp | mq | mc | me | other
deriving DecidableEq, Repr

/-- A CAN frame (R225, R232): identifier, flags, DLC, data bytes. -/
structure CanFrame where
  id   : BitVec 29
  ide  : Bool
  rtr  : Bool
  fdf  : Bool
  brs  : Bool
  esi  : Bool
  dlc  : BitVec 4
  data : List Byte
deriving DecidableEq, Repr

/-- A TRDP telegram (R191): header fields, whether version and header FCS are right, payload, and for message data the
session, status, timeout and the 116 header bytes as received. -/
structure Telegram where
  typ         : TrdpType
  headerOk    : Bool
  seq         : Word
  comId       : Word
  etbTopo     : Word
  optrnTopo   : Word
  dataLength  : Word
  replyComId  : Word
  replyIp     : Word
  session     : BitVec 128
  status      : Word
  timeout     : Word
  header      : List Byte
  payload     : List Byte
deriving DecidableEq, Repr

/-- A tunnel datagram (R203): tunnel, channel, counter, records with their receive times. -/
structure TunnelMsg where
  tunnel  : Byte
  channel : Byte
  counter : Word
  records : List (CanFrame × Dword)
deriving DecidableEq, Repr

/-- What an Ethernet frame carries, as R190 classifies it. -/
inductive FrameBody where
  | ptp (m : PtpMsg)
  | pause
  | arp (request : Bool) (senderMac : BitVec 48) (senderIp targetIp : Word)
  | fragment
  | trdp (srcIp dstIp : Word) (srcPort dstPort : BitVec 16) (t : Telegram)
  | tunnel (srcIp dstIp : Word) (dstPort : BitVec 16) (m : TunnelMsg)
  | raw
deriving DecidableEq, Repr

/-- An Ethernet frame: addresses, VLAN tag as (identifier, PCP), whether every frame check of R190 passes, body, and its
bytes from the destination address to the last data byte, without FCS. -/
structure EthFrame where
  dst    : BitVec 48
  src    : BitVec 48
  tag    : Option (BitVec 12 × BitVec 3)
  checks : Bool
  body   : FrameBody
  bytes  : List Byte
deriving DecidableEq, Repr

/-! ### CAN -/

/-- CAN protocol errors, as CAN_CH_LAST_ERR.CODE names them (R251). -/
inductive CanErr where
  | stuff | form | ack | bit1 | bit0 | crc
deriving DecidableEq, Repr

/-- A transmission that a channel starts: the channel, and the loop delay that it measures then, in CAN clock periods (R231). -/
structure CanStart where
  chan      : Fin 20
  loopDelay : BitVec 16
deriving DecidableEq, Repr

/-- How an attempt ends without success (R242, R244, R248): arbitration lost, or an error with its place. `late` is an error
within the data field, the stuff count or the CRC field; `noCount` an error to which ISO 11898-1 gives no count; `flag` a further
error of a transmitter after the attempt has ended: a bit error in the active error flag or overload flag that it sends, or a long
run of dominant bits after one. -/
inductive CanEnd where
  | lost
  | flag (bitError : Bool)
  | error (e : CanErr) (dataPhase late noCount : Bool)
deriving DecidableEq, Repr

/-! ### Isthmus -/

/-- Acknowledge that ends a crate cycle (R253): ACK for every word, RETRY or BERR at a word. -/
inductive BusAck where
  | ack | retry | berr
deriving DecidableEq, Repr

/-! ### Holm -/

/-- Latched output faults (R295), in the order of their causes 1 to 5. -/
inductive DoCause where
  | overload | stuckOn | stuckOff | pulse | overtemp
deriving DecidableEq, Repr

/-! ### Strait frame errors and service -/

/-- What is wrong with a received Strait frame (R326, R327). -/
inductive StraitErr where
  | crc | gap (fseq : Word) | reservedType
deriving DecidableEq, Repr

/-- Header of a maintenance request (R430): the client's address and port, COUNT and START. -/
structure SvcReq where
  ip    : Word
  port  : BitVec 16
  count : BitVec 16
  start : Word
deriving DecidableEq, Repr

end Sys2Proof
end

