-- ==== Sys2Proof/Syntax.lean ====
section
/-!
DEFINITION. The commands of the module: one constructor per row of the opcode table, with the row's operands.  A
command is one indivisible step of the part (95_what_each_step_holds.md): a lane's store, an entry of the Ephemeris by
its table index, a frame at a connector, a timer that runs out.
-/

namespace Sys2Proof

/-- One command of the module. -/
inductive Instr where
  /-- SETUP_WRITE (R15). A lane's aligned 32-bit store to a set-up register that has no row of its own is paired by
      issue order and voted; the register is written when the second matching write arrives. -/
  | setupWrite (lane : Lane) (core : Fin 4) (addr : BitVec 40) (value : Word)
  /-- SETUP_VOTE_CLOSE (R15). The coupling window of a set-up vote closes before all writes have arrived; the vote
      completes, its row is decided and its report raised. -/
  | setupVoteClose
  /-- SETUP_QUEUE_STALL_END (R16). A core stalled on a full set-up queue proceeds once the oldest vote of its lane
      completes. -/
  | setupQueueStallEnd (lane : Lane) (core : Fin 4)
  /-- W1C_CLEAR (R7). A write of 1 to a W1C bit clears that sticky flag; a write of 0 has no effect. -/
  | w1cClear (addr : BitVec 40) (value : Word)
  /-- ACCESS_FAULT (R26). A core accesses an unmapped address, writes the boot ROM, or accesses Sound memory outside
      its own staging area while voting; it takes an access fault and an ACCESS_FAULT record is written. -/
  | accessFault (lane : Lane) (core : Fin 4) (addr : BitVec 40) (store : Bool)
  /-- MRAM_WINDOW_ACCESS (R148). A lane accesses the MRAM window; the read is served, or the access faults and, in a
      voting lane, excludes the lane. -/
  | mramWindowAccess (lane : Lane) (core : Fin 4) (addr : BitVec 40) (store : Bool)
  /-- INSTRUCTION_RETIRE (R60). A core retires an instruction or takes an exception in supervisor or user mode, and
      the signature unit folds the resulting words into the task's accumulator. -/
  | instructionRetire (lane : Lane) (core : Fin 4) (what : Retire)
  /-- SIGPRES (R62). A write to SIGPRES presents the task's signature with CHK and FINAL to the Meridian and zeroes
      the accumulator. -/
  | sigpres (lane : Lane) (core : Fin 4) (value : Dword) (rd : Fin 32) (machine : Bool)
  /-- SIGPRES_STALL_END (R63). A core stalled on a full presentation store proceeds when the oldest presentation
      resolves, and its presentation enters the store. -/
  | sigpresStallEnd (lane : Lane) (core : Fin 4)
  /-- LANE_CLOCK_FAULT (R59). A lane PLL deviates beyond ±1 % for 10 µs; the lane is excluded or its self-test or
      rejoin fails. -/
  | laneClockFault (lane : Lane) (deviation : Word)
  /-- LANE_POWER_FAULT (R59). A lane rail is outside its regulation window for 5 µs; the lane is excluded, and the
      third such fault since start sends it OFF. -/
  | lanePowerFault (lane : Lane) (millivolts : Word)
  /-- LANE_TIMER_INTERRUPT (R84). In SPLIT, time reaches LANE_TIMECMP of an enabled core, which receives a machine
      timer interrupt. -/
  | laneTimerInterrupt (lane : Lane) (core : Fin 4)
  /-- AUTO_REJOIN (R73). At the microtick after an exclusion with AUTO_REJOIN set and the count within REJOIN_LIMIT,
      the lane enters TESTING, or goes OFF beyond the limit. -/
  | autoRejoin (lane : Lane)
  /-- LANE_CMD_EXCLUDE (R86). LANE_CMD EXCLUDE excludes a VOTING lane, subject to R66. -/
  | laneCmdExclude (lane : Lane)
  /-- LANE_CMD_REJOIN (R86). LANE_CMD REJOIN sends an EXCLUDED lane to TESTING. -/
  | laneCmdRejoin (lane : Lane)
  /-- LANE_CMD_POWER_OFF (R86). LANE_CMD POWER_OFF sends an EXCLUDED or TESTING lane OFF. -/
  | laneCmdPowerOff (lane : Lane)
  /-- LANE_CMD_POWER_ON (R86). LANE_CMD POWER_ON sends an OFF lane to TESTING. -/
  | laneCmdPowerOn (lane : Lane)
  /-- LANE_MODE_SPLIT (R82). LANE_MODE_REQ with MODE SPLIT requests SPLIT with a designated lane, or is refused with
      MODE_REJECTED. -/
  | laneModeSplit (designated : BitVec 2)
  /-- LANE_MODE_JOIN (R85). LANE_MODE_REQ with MODE JOIN, written by the designated lane in SPLIT, requests a join,
      or is refused. -/
  | laneModeJoin
  /-- LANE_MODE_CANCEL (R82). LANE_MODE_REQ with MODE NONE cancels a pending SPLIT or JOIN request. -/
  | laneModeCancel
  /-- LANE_SA_LOCK_WRITE (R76). A write of LANE_SA_LOCK locks the state-area extents after checking them, or unlocks
      them, with SA_INVALID or CMD_REFUSED on refusal. -/
  | laneSaLockWrite (lock : Bool)
  /-- SELFTEST_STEP_DONE (R75). A self-test step of a lane in TESTING completes; the lane goes on, becomes ready or
      REJOINING, or goes OFF on failure. -/
  | selftestStepDone (lane : Lane) (pass : Bool)
  /-- REJOIN_PAGE_COPY (R78). The rejoin copy engine reads a state-area page from the source lanes, compares the
      copies and writes the target lane. -/
  | rejoinPageCopy (page : BitVec 21)
  /-- REJOIN_BULK_DONE (R78). The BULK phase has copied every state-area page once, and PASS begins. -/
  | rejoinBulkDone
  /-- REJOIN_PASS_DONE (R79). A PASS ends; the next pass begins if pages are dirty, otherwise the engine waits for
      FINAL. -/
  | rejoinPassDone
  /-- REJOIN_FINAL_START (R79). The source lanes are quiet and the dirty pages fit before the next RELEASE, so FINAL
      starts. -/
  | rejoinFinalStart
  /-- REJOIN_FINAL_DONE (R80). FINAL completes; the target lane's counts are equalised and its cores start in WFI
      for OBSERVE or join. -/
  | rejoinFinalDone
  /-- REJOIN_TIMEOUT (R81). REJOIN_TIMEOUT expires for a REJOINING lane; REJOIN_FAILED reason TIMEOUT leaves it
      EXCLUDED. -/
  | rejoinTimeout (lane : Lane)
  /-- CHRONOGRAPH_START (R372). After the restart-record copy has completed, the Chronograph starts at cycle 0 at
      the next aligned microtick or CYCLE_MARK, and ready lanes enter VOTING. -/
  | chronographStart
  /-- BASE_CYCLE_END (R34). A base cycle ends; the Chronograph computes d, inserts idle microticks, and applies
      base-cycle-boundary changes. -/
  | baseCycleEnd
  /-- HYPERPERIOD_BOUNDARY (R32). The cycle index wraps at HP_LEN; CHRONO_HP_COUNT advances and pending boundary
      actions take effect. -/
  | hyperperiodBoundary
  /-- NOP (R40). A NOP entry issues with no effect. -/
  | nop (index : BitVec 16)
  /-- CLOCK_UP (R40). A CLOCK_UP entry starts the fast clock of a gated domain. -/
  | clockUp (index : BitVec 16)
  /-- CLOCK_DOWN (R46). A CLOCK_DOWN entry stops a gated domain's clock, or is deferred while the block is busy. -/
  | clockDown (index : BitVec 16)
  /-- SAMPLE (R40). A SAMPLE entry freezes the named sources and writes them with their status into the input image.
      -/
  | sample (index : BitVec 16)
  /-- SNAPSHOT (R41). A SNAPSHOT entry captures every implemented register into the task's snapshot slot in every
      block. -/
  | snapshot (index : BitVec 16)
  /-- DELIVER (R40). A DELIVER entry copies an input image and delivery header into the task's delivery area of each
      receiving lane and makes its slot current. -/
  | deliver (index : BitVec 16)
  /-- RELEASE (R40). A RELEASE entry raises the release signal for a task in each receiving lane, subject to an
      event task's trigger condition. -/
  | release (index : BitVec 16)
  /-- CHECKPOINT (R49). A CHECKPOINT entry resolves the signatures of a task's checkpoint at its issue, judging
      lateness, quorum and majority. -/
  | checkpoint (index : BitVec 16)
  /-- COLLECT (R69). A COLLECT entry votes the staging blocks of the passing lanes block by block and writes the
      majority into OUTPUT. -/
  | collect (index : BitVec 16)
  /-- EMIT (R192). An EMIT entry builds a flow's telegram from OUTPUT and sends it on the named planes and ports. -/
  | emit (index : BitVec 16)
  /-- CAN_SLOT (R239). A CAN_SLOT entry loads a scheduled frame from the slot table into the channel's reserved
      queue entry. -/
  | canSlot (index : BitVec 16)
  /-- CRATE_XFER (R273). A CRATE_XFER entry performs a scheduled crate transfer from the transfer table. -/
  | crateXfer (index : BitVec 16)
  /-- DRIVE (R289). A DRIVE entry sends refresh messages for the selected connectors, and a motion selection
      message, to Holm. -/
  | drive (index : BitVec 16)
  /-- REFERENCE (R243). A REFERENCE entry loads the channel's reference message into the reserved queue entry. -/
  | reference (index : BitVec 16)
  /-- POLL (R96). A POLL entry reads and votes the doorbell words of the selected rings and the selected EVQ head
      words. -/
  | poll (index : BitVec 16)
  /-- MIRROR (R40). A MIRROR entry sends a journal batch, input image or output check over the Strait link. -/
  | mirror (index : BitVec 16)
  /-- ENTRY_POISON (R48). An entry word found uncorrectable at issue is not executed; ENTRY_POISON is raised and the
      module yields. -/
  | entryPoison (index : BitVec 16)
  /-- DOMAIN_READY (R46). A gated clock domain completes its lead time and becomes ready; waiting unscheduled
      accesses proceed. -/
  | domainReady (domain : Domain)
  /-- DOMAIN_IDLE_STOP (R46). A domain started on demand has been idle for 50 µs with no CLOCK_UP in force, and
      stops. -/
  | domainIdleStop (domain : Domain)
  /-- CLOCK_DOWN_DEFERRED (R46). A deferred CLOCK_DOWN finds its block idle, stops the domain and raises
      CLOCK_DOWN_DEFERRED. -/
  | clockDownDeferred (domain : Domain)
  /-- CHRONO_LOAD_START (R51). CHRONO_LOAD START begins loading the shadow bank from an image-store slot, or is
      refused with BUSY. -/
  | chronoLoadStart (slot : BitVec 8)
  /-- BANK_LOAD_DONE (R51). A shadow-bank load ends; SHADOW reads VALID with BANK_LOADED or INVALID with
      BANK_REJECTED and the reason. -/
  | bankLoadDone
  /-- BANK_SWITCH_REQUEST (R53). Writing the shadow bank's number to CHRONO_BANK_SEL requests a switch at the next
      hyperperiod boundary, or is refused with SWITCH_REJECTED. -/
  | bankSwitchRequest
  /-- BANK_SWITCH_CANCEL (R54). Writing the active bank's number to CHRONO_BANK_SEL cancels a pending switch. -/
  | bankSwitchCancel
  /-- RING_CMD_START (R95). RING_CMD START takes a STOPPED ring with no journaled work to RUNNING from
      RING_SEQ_START, or is refused. -/
  | ringCmdStart (ring : Fin 64)
  /-- RING_CMD_RESUME (R112). RING_CMD RESUME takes a ring to RUNNING with A and C from the journal and re-queues
      its ACCEPTED and STARTED records. -/
  | ringCmdResume (ring : Fin 64)
  /-- RING_CMD_STOP (R95). RING_CMD STOP takes a RUNNING ring to STOPPING. -/
  | ringCmdStop (ring : Fin 64)
  /-- RING_CMD_DISCARD (R95). RING_CMD DISCARD drops a STOPPED ring's journaled work and raises JOURNAL_DISCARD. -/
  | ringCmdDiscard (ring : Fin 64)
  /-- DESCRIPTOR_FETCH (R98). The ring unit reads a pending descriptor and its buffer from every voting lane,
      compares them and checks the descriptor. -/
  | descriptorFetch (ring : Fin 64)
  /-- DESCRIPTOR_ACCEPTED (R100). A descriptor's journal record is written, and in a pair its batch acknowledged; it
      is accepted and RING_ACCEPTED advances. -/
  | descriptorAccepted (ring : Fin 64)
  /-- DESCRIPTOR_NOP (R89). A NOP descriptor on any target is accepted and completes with DONE. -/
  | descriptorNop (ring : Fin 64)
  /-- EVQ_CMD_START (R116). EVQ_CMD START sets T, H and the record count to 0, drops carried-over records and starts
      the queue. -/
  | evqCmdStart (queue : Fin 4)
  /-- EVQ_CMD_RESUME (R112). EVQ_CMD RESUME rewrites each unconsumed journaled record of the queue into its slot and
      starts the queue. -/
  | evqCmdResume (queue : Fin 4)
  /-- EVENT_RECORD_DELIVERY (R351). The pending store delivers its highest-severity record to the routing into an
      event queue, the overflow store or a counter. -/
  | eventRecordDelivery
  /-- DEADLINE_CHECK (R134). A job's deadline is reached; the watchdog checks whether a voting lane has presented
      FINAL. -/
  | deadlineCheck (task : Fin 48)
  /-- TASK_CMD_CLEAR_RESP (R142). TASK_CMD CLEAR_RESP sets TASK_RESP_MAX of a task to 0. -/
  | taskCmdClearResp (task : Fin 48)
  /-- TASK_CMD_CLEAR_COUNT (R142). TASK_CMD CLEAR_COUNT sets TASK_OVERRUN_COUNT of a task to 0. -/
  | taskCmdClearCount (task : Fin 48)
  /-- MOD_RESTART_WARM (R146). MOD_RESTART_CMD WARM requests a restart with cause COMMAND at the next hyperperiod
      boundary, or at once if the Chronograph is stopped. -/
  | modRestartWarm
  /-- MOD_RESTART_COLD (R146). MOD_RESTART_CMD COLD invalidates the retained data and requests a restart with cause
      COMMAND. -/
  | modRestartCold
  /-- RETAIN_COMMIT_DONE (R149). A retain commit completes in MRAM: log written, commit word written and data blocks
      applied. -/
  | retainCommitDone
  /-- XCHG_REPORT_WRITE (R154). A write of MOD_XCHG_REPORT records a removed instance key and raises XCHG_REMOVED. -/
  | xchgReportWrite (key : Word)
  /-- XCHG_SUMMARY_WRITE (R154). A write of MOD_XCHG_SUMMARY records the migration summary and raises XCHG_DONE. -/
  | xchgSummaryWrite (value : Word)
  /-- FORCE_SET (R159). MOD_FORCE_CMD SET copies the staged target, mask and value into a force entry, or is refused
      with FORCE_REFUSED. -/
  | forceSet (entry : Fin 64)
  /-- FORCE_REMOVE (R159). MOD_FORCE_CMD REMOVE removes one force entry at the next base-cycle boundary. -/
  | forceRemove (entry : Fin 64)
  /-- FORCE_REMOVE_ALL (R159). MOD_FORCE_CMD REMOVE_ALL removes every force entry at the next base-cycle boundary. -/
  | forceRemoveAll
  /-- PTP_MESSAGE_RX (R174). The clock port receives a PTP message and processes it under IEC 61588. -/
  | ptpMessageRx (port : Fin 8) (msg : PtpMsg)
  /-- SYNC_LOST (R170). No valid measurement for SYNC_TIMEOUT; STATE becomes HOLDOVER. -/
  | syncLost
  /-- PTP_MESSAGE_TX (R174). The clock sends a PTP message when its message interval elapses or a response is due. -/
  | ptpMessageTx (port : Fin 10) (kind : PtpKind)
  /-- PTP_EVENT_FORWARD (R175). A switch forwards a PTP event message as a transparent clock and corrects the
      associated message. -/
  | ptpEventForward (ingress egress : Fin 10) (msg : PtpMsg)
  /-- TIMESTAMP_ENQUEUE (R177). An egress time stamp enters the transmit time-stamp queue, or is dropped with
      TSQ_OVERFLOW. -/
  | timestampEnqueue (port : Fin 10) (domain : Byte) (mtype : BitVec 4) (seq : BitVec 16)
  /-- TSQ_ENTRY_EXPIRY (R177). A time-stamp queue entry is not consumed within 10 ms, is freed and counted as
      EXPIRED. -/
  | tsqEntryExpiry
  /-- TRANSIT_CAPTURE (R169). TRANSIT_CMD CAPTURE latches the raw counter and corrected time of one edge into the
      capture registers. -/
  | transitCapture
  /-- TRANSIT_CLEAR_COUNTS (R183). TRANSIT_CMD CLEAR_COUNTS sets EXPIRED and DROPS to 0. -/
  | transitClearCounts
  /-- PULSE_OUT (R180). Corrected time reaches a multiple of OUT_PERIOD and the X_TIME output pulse rises. -/
  | pulseOut
  /-- PULSE_IN_EDGE (R181). An active edge on the time-pulse input is time-stamped and, with SOURCE PULSE, feeds
      synchronisation. -/
  | pulseInEdge (rising : Bool) (widthNs : Word)
  /-- PULSE_IN_MISSING (R181). The pulse input is silent for 1.5 × IN_PERIOD; PULSE_IN_MISSING is raised. -/
  | pulseInMissing
  /-- SWITCH_FRAME_RX (R187). A plane switch receives a frame, learns its source and forwards or floods it. -/
  | switchFrameRx (port : Fin 8) (frame : EthFrame)
  /-- EGRESS_FRAME_START (R187). A queued frame starts on an egress port once no hold-back applies. -/
  | egressFrameStart (port : Fin 8)
  /-- MAC_AGEING (R187). A learned address ages out after 300 s. -/
  | macAgeing (plane : Fin 2) (mac : BitVec 48)
  /-- LINK_CHANGED (R186). A port's link state is stable for 10 ms after a change; LINK_CHANGED is raised. -/
  | linkChanged (port : Fin 8) (level : LinkLevel)
  /-- FRAME_RECEIVE (R190). A frame reaches the network engine through an internal port and is classified and
      handled. -/
  | frameReceive (plane : Fin 2)
  /-- PULL_REPLY_TX (R193). A Pp reply is sent from OUTPUT once any hold-back ends. -/
  | pullReplyTx (flow : Fin 1024)
  /-- ARP_REFRESH (R188). An ARP cache entry's 60 s refresh falls due; the entry is refreshed or dropped after three
      failures. -/
  | arpRefresh (plane : Fin 2) (ip : Word)
  /-- MD_NOTIFY (R200). An MD_NOTIFY descriptor sends a TRDP Mn message. -/
  | mdNotify (ring : Fin 64)
  /-- MD_REQUEST (R200). An MD_REQUEST descriptor sends a TRDP Mr message and may take a reply supervision entry. -/
  | mdRequest (ring : Fin 64)
  /-- MD_REPLY (R200). An MD_REPLY descriptor sends a TRDP Mp message. -/
  | mdReply (ring : Fin 64)
  /-- MD_REPLY_QUERY (R200). An MD_REPLY_QUERY descriptor sends a TRDP Mq message and may take a supervision entry. -/
  | mdReplyQuery (ring : Fin 64)
  /-- MD_CONFIRM (R200). An MD_CONFIRM descriptor sends a TRDP Mc message. -/
  | mdConfirm (ring : Fin 64)
  /-- RAW_FRAME (R200). A RAW_FRAME descriptor sends a raw Ethernet frame. -/
  | rawFrame (ring : Fin 64)
  /-- MD_SEND_COMMIT (R111). The last FCS byte of a message-data frame is handed to the PHY; the record is marked
      DONE and completes. -/
  | mdSendCommit (ring : Fin 64)
  /-- MD_REPLY_TIMEOUT (R201). A reply supervision entry expires; it is freed and MD_REPLY_TIMEOUT raised. -/
  | mdReplyTimeout (session : BitVec 128)
  /-- MD_UNRESOLVED_TIMEOUT (R201). A message-data destination is still unresolved 100 ms after the first attempt;
      the descriptor completes REFUSED. -/
  | mdUnresolvedTimeout (ring : Fin 64)
  /-- NET_RX_BUFFER (R202). An RX_BUFFER descriptor on a NET_MD_RX ring supplies a receive buffer, or completes
      REFUSED. -/
  | netRxBuffer (ring : Fin 64)
  /-- TUNNEL_DATAGRAM_SEND (R203). BATCH frames are held or HOLD expires, and a tunnel datagram is sent. -/
  | tunnelDatagramSend (tunnel : Fin 8)
  /-- NET_CLEAR_COUNTS (R206). NET_CMD CLEAR_COUNTS sets all counters of the NET block to 0. -/
  | netClearCounts
  /-- NET_ARP_FLUSH (R206). NET_CMD ARP_FLUSH empties both ARP caches. -/
  | netArpFlush
  /-- NET_FLOW_CFG_WRITE (R206). A committed write of NET_FLOW_CFG validates or invalidates a flow context after its
      checks, or is refused. -/
  | netFlowCfgWrite (flow : Fin 1024) (value : Word)
  /-- SAFE_CONN_ENABLE (R216). Setting ENABLE in SAFE_CONN_CFG checks the connection and enables it, or is refused. -/
  | safeConnEnable (conn : Fin 128) (value : Word)
  /-- SAFE_CONN_DISABLE (R216). Clearing ENABLE in SAFE_CONN_CFG takes the connection to DISABLED. -/
  | safeConnDisable (conn : Fin 128) (value : Word)
  /-- SAFE_RESET_FAULT (R222). SAFE_CMD RESET_FAULT takes a connection from FAULT to WAIT, or is refused. -/
  | safeResetFault (conn : Fin 128)
  /-- SAFE_CLEAR_COUNTS (R222). SAFE_CMD CLEAR_COUNTS sets REJECTS of every connection to 0. -/
  | safeClearCounts
  /-- CAN_FRAME_RX (R234). A frame is received on a channel and handled by the lowest matching filter. -/
  | canFrameRx (chan : Fin 20) (frame : CanFrame) (sofNs : Word)
  /-- CAN_TX_FRAME (R241). A TX_FRAME descriptor places a frame in the channel's transmit queue, or completes
      REFUSED. -/
  | canTxFrame (ring : Fin 64)
  /-- CAN_RX_BUFFER (R236). An RX_BUFFER descriptor on a CAN_RX ring supplies a receive buffer, or completes
      REFUSED. -/
  | canRxBuffer (ring : Fin 64)
  /-- CAN_TX_ATTEMPT (R238). The controller selects the winning queue entry and starts a transmission attempt.  The operand
      is the transmitter loop delay that the attempt measures, in CAN clock periods (R231). -/
  | canTxAttempt (start : CanStart)
  /-- CAN_TX_COMMIT (R242). A frame reaches its sixth EOF bit; its record is DONE and its queue entry freed. -/
  | canTxCommit (chan : Fin 20)
  /-- CAN_TX_ERROR (R244). An attempt ends with lost arbitration or an error; the counters and error state change. -/
  | canTxError (chan : Fin 20) (why : CanEnd)
  /-- CAN_SUSPEND_END (R245). The suspend time of an error-passive transmitter ends and the selected entry is sent. -/
  | canSuspendEnd (start : CanStart)
  /-- CAN_RECOVERY_START (R247). RECOVERY_DELAY expires after bus-off in AUTO mode and the recovery sequence starts.
      -/
  | canRecoveryStart (chan : Fin 20)
  /-- CAN_RECOVERY_DONE (R247). The bus-off recovery sequence completes; TEC and REC become 0. -/
  | canRecoveryDone (chan : Fin 20)
  /-- CAN_INTEGRATION (R230). A channel senses 11 consecutive recessive bits; it integrates, may change profile, and
      a channel returns to its configured mode. -/
  | canIntegration (chan : Fin 20)
  /-- CAN_DEADLINE_EXPIRY (R242). A frame's deadline passes before a transmission has started; it expires and its
      entry is freed. -/
  | canDeadlineExpiry (chan : Fin 20)
  /-- CAN_CMD_RECOVER (R247). CAN_CMD RECOVER starts the recovery sequence of a bus-off channel, or is refused. -/
  | canCmdRecover (chan : Fin 20)
  /-- CAN_CLEAR_COUNTS (R251). CAN_CMD CLEAR_COUNTS sets CAN_CH_COUNTS and ERRORS to 0. -/
  | canClearCounts (chan : Fin 20)
  /-- CAN_CH_ENABLE (R251). Setting ENABLE in CAN_CH_CFG checks the channel and enables it, or is refused. -/
  | canChEnable (chan : Fin 20) (value : Word)
  /-- CAN_CH_DISABLE (R251). Clearing ENABLE in CAN_CH_CFG drops scheduled and tunnel entries, or is refused while
      ring frames are queued. -/
  | canChDisable (chan : Fin 20) (value : Word)
  /-- GROUP_SUPPLY_FAULT (R249). A CAN group's isolated supply is lost; its four channels go bus-off. -/
  | groupSupplyFault (group : Fin 5)
  /-- GROUP_SUPPLY_RETURN (R249). A CAN group's isolated supply returns and recovery begins. -/
  | groupSupplyReturn (group : Fin 5)
  /-- WINDOW_ACCESS (R260). A lane's load, store or fence read to an Isthmus window arrives at the Meridian and is
      paired and voted. -/
  | windowAccess (lane : Lane) (core : Fin 4) (kind : WinKind) (addr : BitVec 40) (size : BitVec 2) (data : Dword)
  /-- WINDOW_VOTE_CLOSE (R260). The coupling window of a window-access vote closes; late lanes or no majority are
      resolved. -/
  | windowVoteClose
  /-- WINDOW_ACCESS_TIMEOUT (R262). A voted window access has not completed 100 µs after its vote formed and ends
      with cause TIMEOUT. -/
  | windowAccessTimeout
  /-- FENCE_COMPLETE (R270). A fence read completes when earlier posted writes have finished, or at 100 µs, and
      returns its summary word. -/
  | fenceComplete
  /-- BUS_CYCLE_START (R267). At an idle clock the bridge starts the next crate bus cycle in order of precedence. -/
  | busCycleStart
  /-- BUS_CYCLE_END (R254). A crate bus cycle ends with ACK, RETRY or BERR, and the access, transfer or posted write
      is settled. -/
  | busCycleEnd (words : List (BitVec 16)) (ended : BusAck)
  /-- BUS_TIMEOUT (R255). BUS_TIMEOUT passes since T1 of a cycle and the cycle ends with cause TIMEOUT. -/
  | busTimeout (words : List (BitVec 16))
  /-- CRATE_RETRY (R256). RETRY_GAP after a RETRY expires and the access is repeated from the retried word. -/
  | crateRetry
  /-- PREFETCH_HOLD_EXPIRY (R266). PREFETCH_HOLD passes since a prefetched block's fill or last hit; the block is
      discarded. -/
  | prefetchHoldExpiry
  /-- CRATE_INT (R277). An enabled, armed interrupt line is sensed low on two consecutive edges and is disarmed. -/
  | crateInt (line : Fin 8)
  /-- CRATE_INT_RECORD (R277). Once earlier writes and their failure records have completed, the CRATE_INT record is
      written. -/
  | crateIntRecord
  /-- ISTH_REVIVE (R271). ISTH_CMD REVIVE clears LOST on a window and raises CARD_REVIVED. -/
  | isthRevive (window : Fin 16)
  /-- ISTH_ARM (R277). ISTH_CMD ARM re-arms the named interrupt lines. -/
  | isthArm (lines : Byte)
  /-- ISTH_CRATE_RESET (R276). ISTH_CMD CRATE_RESET drives RESET_N low for 1 ms, or is refused. -/
  | isthCrateReset
  /-- CRATE_RESET_END (R276). The 1 ms of a crate reset end and RESET_N is released. -/
  | crateResetEnd
  /-- ISTH_CLEAR_COUNTS (R278). ISTH_CMD CLEAR_COUNTS sets ISTH_COUNTS to 0. -/
  | isthClearCounts
  /-- ISTH_WRITE (R275). A WRITE descriptor on an ISTH ring writes LEN bytes to a window in blocks. -/
  | isthWrite (ring : Fin 64)
  /-- ISTH_READ (R275). A READ descriptor on an ISTH ring reads LEN bytes from a window into every receiving lane. -/
  | isthRead (ring : Fin 64)
  /-- ISTH_INT_CFG_WRITE (R277). A write of ISTH_INT_CFG enables interrupt lines and arms them. -/
  | isthIntCfgWrite (value : Word)
  /-- ISTH_WIN_ENABLE (R258). Setting ENABLE in ISTH_WIN_CFG checks the window's attributes and enables it, or is
      refused. -/
  | isthWinEnable (window : Fin 16) (value : Word)
  /-- ISTH_XFER_VALIDATE (R278). Setting VALID in ISTH_XFER_CTL checks the transfer entry, or is refused. -/
  | isthXferValidate (xfer : Fin 256) (value : Word)
  /-- BUS_MONITOR_CYCLE (R264). In STANDBY the bridge monitors a crate cycle of the active module and captures read
      words or marks stores made. -/
  | busMonitorCycle (write : Bool) (addr : BitVec 24) (words : List (BitVec 16)) (ended : BusAck)
  /-- DI_RAW_CHANGE (R284). A digital input's terminal crosses a threshold and a raw change reaches the filter. -/
  | diRawChange (chan : Fin 48) (decivolts : BitVec 12)
  /-- DI_FILTER_ACCEPT (R284). The raw level holds for FILTER and the input filter accepts the new level, advancing
      the edge counter. -/
  | diFilterAccept (chan : Fin 48)
  /-- HOLM_REFRESH_RX (R289). Holm receives a refresh message, applies its six values or discards it. -/
  | holmRefreshRx (conn : Fin 4) (crcOk : Bool)
  /-- LOGIC_SILENCE (R290). No accepted refresh for SILENCE ms; the group goes SILENT and its outputs take
      SAFE_STATE. -/
  | logicSilence (conn : Fin 4)
  /-- FIELD_SUPPLY_LOSS (R282). A group's field supply leaves its range for 1 ms; SUPPLY_OK becomes 0. -/
  | fieldSupplyLoss (conn : Fin 4) (decivolts : BitVec 12)
  /-- FIELD_SUPPLY_RETURN (R282). A group's field supply is within range for 10 ms; SUPPLY_OK returns to 1. -/
  | fieldSupplyReturn (conn : Fin 4) (decivolts : BitVec 12)
  /-- ISLAND_FAULT (R291). Holm's supervisor fails; every output is switched OFF and ISLAND_OK becomes 0. -/
  | islandFault (cause : Fin 3)
  /-- DEMAG_PULSE (R294). A demagnetisation pulse ends; its energy is recorded and limits are checked. -/
  | demagPulse (chan : Fin 24) (millijoules : BitVec 16)
  /-- DO_FAULT_DETECT (R295). An output's read-back or current meets a fault condition; the fault latches and the
      channel goes OFF. -/
  | doFaultDetect (chan : Fin 24) (cause : DoCause)
  /-- DO_OPEN_LOAD (R295). An ON output draws below 5 mA for longer than GRACE; DO_OPEN_LOAD is raised once. -/
  | doOpenLoad (chan : Fin 24) (microamps : Word)
  /-- OFF_PULSE_START (R296). An output's off-pulse falls due and the channel is switched OFF for PULSE_WIDTH. -/
  | offPulseStart (chan : Fin 24)
  /-- OFF_PULSE_END (R296). An off-pulse ends; read-back is evaluated and the channel switches back ON. -/
  | offPulseEnd (chan : Fin 24) (readback : Bool)
  /-- HOLM_REARM (R290). HOLM_CMD REARM takes a SILENT group to IDLE, or is refused. -/
  | holmRearm (conn : Fin 4)
  /-- HOLM_CLEAR_FAULT (R295). HOLM_CMD CLEAR_FAULT clears a channel's latched fault, or is refused. -/
  | holmClearFault (chan : Fin 24)
  /-- POSITION_STEP (R301). A speed-sensor pair moves to an adjacent Gray state and POSITION changes by one step. -/
  | positionStep (sensor : Fin 4) (a b : Bool)
  /-- MOTION_TICK (R303). At each whole millisecond the motion unit evaluates speeds, plausibility, direction,
      standstill and limit. -/
  | motionTick
  /-- PLAUS_FAULT (R304). A pair of used sensors stays implausible for DISC_TIME; PLAUS_FAULT latches. -/
  | plausFault (i j : Fin 4)
  /-- SLS_VIOLATION (R308). SAFE_SPEED stays above LIMIT for LIMIT_TIME; SLS_LATCHED becomes 1. -/
  | slsViolation
  /-- MOTION_SELECTION_RX (R307). Holm accepts a selection message; the selected limit entry applies from the next
      tick. -/
  | motionSelectionRx (crcOk : Bool)
  /-- SEL_DEFAULT (R307). No selection is accepted for SEL_SILENCE ms; entry 0 applies. -/
  | selDefault
  /-- RESET_JUDGE (R311). At the tick after a valid reset press ends, the request is judged and latches cleared or
      refused. -/
  | resetJudge
  /-- RESET_JAMMED (R312). The reset input stays high for more than 5 s; JAMMED becomes 1. -/
  | resetJammed
  /-- MOTION_ENABLE (R315). Setting ENABLE in MOTION_CFG checks the configuration and enables the motion unit, or is
      refused. -/
  | motionEnable (value : Word)
  /-- MST_IN_CHANGE (R317). The level recognised at MST_IN changes among MASTERY, ALIVE and LOW. -/
  | mstInChange (level : MstLevel)
  /-- MASTERY_CLAIM (R319). A module entitled to claim starts its MASTERY wave once MST_IN has shown no MASTERY for
      20 µs. -/
  | masteryClaim
  /-- TAKEOVER (R323). At the first base-cycle boundary at least 60 µs after the claim the module becomes ACTIVE and
      takes over. -/
  | takeover
  /-- CRATE_DRIVERS_RELEASE (R320). After giving up, the module releases the crate bus drivers when the cycle in
      progress ends. -/
  | crateDriversRelease
  /-- SAFE_HALT_AUTO_RESTART (R320). With AUTO_RESTART set, RESTART_DELAY expires in SAFE_HALT and the module
      restarts through BOOT. -/
  | safeHaltAutoRestart
  /-- STRAIT_STATUS (R327). A STATUS frame reports the partner's state, mode, eligibility and lines. -/
  | straitStatus (info : StatusInfo)
  /-- STRAIT_CYCLE_MARK (R328). A CYCLE_MARK frame arrives and the JOINING or STANDBY module starts its cycle
      aligned to it. -/
  | straitCycleMark (hp : Word) (cycle : BitVec 12) (time : Dword)
  /-- STRAIT_IMAGE (R329). A MIRROR image content arrives and is stored for the standby's DELIVER. -/
  | straitImage (content : ImageContent)
  /-- STRAIT_JOURNAL (R330). A journal batch arrives, is written to the standby's journal and queues, and ACK is
      sent. -/
  | straitJournal (batch : Word) (items : List JItem)
  /-- STRAIT_CHECK (R331). An output check arrives and is compared with the standby's own COLLECT digests. -/
  | straitCheck (content : CheckContent)
  /-- STRAIT_ACK (R330). An ACK frame arrives; the batch's PENDING records become accepted or the check result is
      taken. -/
  | straitAck (isCheck : Bool) (seq : Word) (ok : Bool)
  /-- STRAIT_WINDOW_RESULT (R334). A WINDOW_RESULT arrives and completes the standby's window access of the same
      stream index. -/
  | straitWindowResult (result : WindowResult)
  /-- STRAIT_NOTICE (R141). A NOTICE frame delivers an overrun, force change or exchange boundary from the partner. -/
  | straitNotice (notice : Notice)
  /-- STRAIT_GIVE_UP (R321). A GIVE_UP frame arrives from the active module. -/
  | straitGiveUp (cause : GiveUpCause)
  /-- STRAIT_COPY (R338). A COPY frame carries journal, retained data or lane pages to a joining module. -/
  | straitCopy (content : CopyContent)
  /-- STRAIT_HELLO (R338). A HELLO frame is compared for pair class, BUILD_IDs and state-area extents. -/
  | straitHello (info : HelloInfo)
  /-- STRAIT_RESEND (R326). A RESEND request makes the sender repeat a frame on the other lane. -/
  | straitResend (fseq : Word) (lane : Fin 2)
  /-- STRAIT_FRAME_ERROR (R326). A frame fails its CRC, leaves an FSEQ gap or carries a reserved TYPE; a resend is
      requested or it is discarded. -/
  | straitFrameError (lane : Fin 2) (what : StraitErr)
  /-- STRAIT_SILENT (R326). No valid frame on either lane for 20 µs; the link is silent. -/
  | straitSilent
  /-- STRAIT_LANE_DOWN (R326). No valid frame on one lane for 20 µs while the other delivers. -/
  | straitLaneDown (lane : Fin 2)
  /-- STATUS_FRAME_TX (R326). A module sends a STATUS frame on each lane at least every 1 µs. -/
  | statusFrameTx
  /-- STANDBY_RESULT_TIMEOUT (R334). A window result has not arrived 200 µs after the standby's vote formed. -/
  | standbyResultTimeout
  /-- ELIGIBILITY_REGAINED (R336). The count or time after a reason 7 to 9 loss expires with correct conditions and
      the standby is eligible again. -/
  | eligibilityRegained
  /-- JOIN_JOURNAL_DONE (R338). The JOURNAL step of a join completes and batch mirroring begins. -/
  | joinJournalDone
  /-- JOIN_TIMEOUT (R338). A joining module is not in STANDBY 30 s after HELLO; JOIN_FAILED reason TIMEOUT. -/
  | joinTimeout
  /-- JOIN_COMPLETE (R337). ELIG_CYCLES consecutive cycles match after FINAL; the module enters STANDBY. -/
  | joinComplete
  /-- JOIN_RETRY (R337). 1 s after a failed join attempt a new attempt starts. -/
  | joinRetry
  /-- PAIR_HANDOVER (R320). PAIR_CMD HANDOVER requests a give-up at the next hyperperiod boundary, or is refused. -/
  | pairHandover
  /-- PAIR_CLEAR_COUNTS (R342). PAIR_CMD CLEAR_COUNTS sets PAIR_COUNTS to 0. -/
  | pairClearCounts
  /-- FAULT_CLEAR_LEVEL (R346). FAULT_CMD CLEAR_LEVEL lowers the module level to LOG, or is refused at YIELD and
      above. -/
  | faultClearLevel
  /-- FAULT_CLEAR_COUNTS (R360). FAULT_CMD CLEAR_COUNTS sets the corrected and uncorrectable counts to 0. -/
  | faultClearCounts
  /-- FAULT_TABLE_WRITE (R349). A write of a FAULT_TABLE entry is taken or refused under the strengthen-only rules. -/
  | faultTableWrite (entry : Fin 64) (value : Word)
  /-- FAULT_SEV_FLOOR_WRITE (R349). A write of FAULT_SEV_FLOOR is taken or refused if it lowers a floor while
      running. -/
  | faultSevFloorWrite (value : Word)
  /-- SCRUB_READ (R357). The scrubber reads and decodes a protected word, writing back a corrected word. -/
  | scrubRead (region : BitVec 4) (addr : BitVec 40) (word : BitVec 160)
  /-- CORRECTION_AGE_OUT (R358). A word's correction leaves the 24-hour window and its count falls. -/
  | correctionAgeOut (region : BitVec 4) (addr : BitVec 40)
  /-- FM_SELF_FAULT (R353). The duplicated reaction logic disagrees; an independent path forces SAFE_HALT. -/
  | fmSelfFault
  /-- POWER_VALID (R391). X_PWR stays at or above 6 V for 10 ms; a POWER_ON start begins. -/
  | powerValid (decivolts : BitVec 12)
  /-- SUPPLY_INTERRUPTION_BEGIN (R391). X_PWR falls below 5.5 V and operation continues from the hold-up store. -/
  | supplyInterruptionBegin (decivolts : BitVec 12)
  /-- SUPPLY_INTERRUPTION_END (R391). X_PWR is valid again before a warning; SUPPLY_INTERRUPTION is raised with its
      length. -/
  | supplyInterruptionEnd (decivolts : BitVec 12)
  /-- SUPPLY_HIGH (R391). X_PWR stays above 160 V for 1 ms. -/
  | supplyHigh (decivolts : BitVec 12)
  /-- POWER_FAIL_WARNING (R392). The hold-up store falls to 30 V; the module gives up control and targets commit or
      abort. -/
  | powerFailWarning
  /-- POWER_DOWN (R394). Shutdown after a power-fail warning completes and the module becomes Unpowered. -/
  | powerDown
  /-- SKERRY_MINUTE (R363). A minute of corrected time passes; the operating-minutes count advances and the store is
      written. -/
  | skerryMinute
  /-- SKERRY_SLEEP_HOUR (R362). An hour passes in SLEEP and Skerry writes its non-volatile store. -/
  | skerrySleepHour
  /-- XTAL_FAULT (R364). The crystal stops or leaves ±500 ppm; XTAL_OK is cleared. -/
  | xtalFault
  /-- TCXO_SETTLED (R364). The TCXO settles; the raw counter changes source and RATE is restored. -/
  | tcxoSettled
  /-- WAKING_DONE (R365). TCXO running, lane rails and PLLs up and Holm powered; the module enters BOOT. -/
  | wakingDone (di : BitVec 48) (spd : BitVec 8)
  /-- IMAGE_CHECKS_DONE (R380). The image store completes its boot-set checks and selects the slots, or fails to
      MAINTENANCE. -/
  | imageChecksDone
  /-- BOOT_LOADS_DONE (R372). The microcode and Ephemeris boot loads complete. -/
  | bootLoadsDone
  /-- START_GATE (R373). Every lane has passed TESTING or gone OFF with at least two ready and the loads done; ready
      lanes start together. -/
  | startGate
  /-- MOD_START (R374). MOD_START_CMD START decides the start kind, writes the restart record and leads to the
      Chronograph start. -/
  | modStart
  /-- MOD_START_MAINTENANCE (R374). MOD_START_CMD MAINTENANCE sends the module to MAINTENANCE with reason REQUESTED.
      -/
  | modStartMaintenance
  /-- MOD_SLEEP (R366). MOD_SLEEP_CMD SLEEP requests SLEEP, or is refused with SLEEP_REFUSED. -/
  | modSleep
  /-- SLEEP_ENTRY_COMPLETE (R367). At the next crystal edge the counter changes source and the TCXO, lanes, engines
      and Holm are switched off. -/
  | sleepEntryComplete
  /-- WAKE (R370). An enabled wake source is recognised at a crystal edge and the wake proceeds. -/
  | wake (sources : Byte) (channels : BitVec 20)
  /-- IMG_OPEN (R383). IMG_CMD OPEN allocates space to an empty slot for an image type. -/
  | imgOpen
  /-- IMG_WRITE (R383). IMG_CMD WRITE appends bytes from lane DRAM, voted across lanes, to the open slot. -/
  | imgWrite
  /-- IMG_CLOSE (R383). IMG_CMD CLOSE checks the open slot, which becomes VALID or is erased. -/
  | imgClose
  /-- IMG_ERASE (R383). IMG_CMD ERASE erases a slot, or is refused. -/
  | imgErase
  /-- IMG_LOAD (R383). IMG_CMD LOAD copies a VALID slot's payload into lane DRAM, checking its digest. -/
  | imgLoad
  /-- IMG_SET_BOOT (R384). IMG_CMD SET_BOOT writes a bank's boot set with a higher generation, or is refused. -/
  | imgSetBoot
  /-- IMG_INFO (R383). IMG_CMD INFO copies header bytes 0 to 31 of a slot into IMG_INFO. -/
  | imgInfo
  /-- IMG_CMD_COMPLETE (R383). A running image-store command completes; IMG_CMD_DONE is raised and BUSY clears. -/
  | imgCmdComplete
  /-- TEMP_HIGH (R416). The base plate passes +70 °C, or an episode above it reaches 10 min. -/
  | tempHigh (ten : Bool) (base hot : Byte)
  /-- TEMP_CRITICAL (R416). The base plate stays above +88 °C for 1 s or the hot spot passes +125 °C; the module
      yields. -/
  | tempCritical (hotSpot : Bool) (base hot : Byte)
  /-- RECORDER_SAMPLE (R418). Once per second the recorder samples its quantities into histograms and extremes. -/
  | recorderSample (decivolts : BitVec 12) (base hot : Byte) (shockX shockY shockZ load : BitVec 16)
  /-- LOG_ENTRY_WRITE (R422). A log entry from the input queue is written into MRAM, displacing or dropping under
      R424. -/
  | logEntryWrite
  /-- REC_APP_ENTRY (R423). An APP_ENTRY descriptor on a REC ring writes an application log entry, or completes
      REFUSED. -/
  | recAppEntry (ring : Fin 64)
  /-- REC_CMD_CLEAR (R425). REC_CMD CLEAR starts a recorder clear, or is refused while one runs. -/
  | recCmdClear
  /-- REC_CLEAR_DONE (R425). A recorder clear completes and queued entries follow the clear entry. -/
  | recClearDone
  /-- REC_INFO (R426). A REC_INFO request returns the clear record, status, loss counts and ENTRY_SEQ range. -/
  | recInfo (req : SvcReq)
  /-- REC_QUANT (R426). A REC_QUANT request returns bytes of the quantity area. -/
  | recQuant (req : SvcReq)
  /-- REC_LOG (R426). A REC_LOG request returns log entries from START in ENTRY_SEQ order. -/
  | recLog (req : SvcReq)
  /-- REC_CLEAR (R426). A REC_CLEAR request over X_SVC starts a clear and answers when it completes. -/
  | recClear (req : SvcReq)
  /-- SVC_INFO (R432). An INFO request returns MOD_HW_ISSUE, MOD_STATE and SVC_STATUS. -/
  | svcInfo (req : SvcReq)
  /-- SVC_CHALLENGE (R434). A CHALLENGE request draws a new NONCE and returns it with the SALT. -/
  | svcChallenge (req : SvcReq)
  /-- SVC_OPEN (R435). An OPEN request checks the response and opens service access, counts a failure or locks. -/
  | svcOpen (req : SvcReq) (method : Byte) (response : BitVec 256)
  /-- SVC_CLOSE (R438). A CLOSE request from the holder closes service access. -/
  | svcClose (req : SvcReq)
  /-- SVC_SET_SECRET (R432). A SET_SECRET request in MAINTENANCE sets a new password key or module key. -/
  | svcSetSecret (req : SvcReq) (method : Byte) (salt : BitVec 128) (key : BitVec 256)
  /-- SVC_REG_READ (R432). A REG_READ request returns live register values. -/
  | svcRegRead (req : SvcReq)
  /-- SVC_REG_WRITE (R437). A REG_WRITE request writes registers unvoted where the state allows, raising SVC_WRITE. -/
  | svcRegWrite (req : SvcReq) (values : List Word)
  /-- SVC_IMG (R432). An IMG request executes an image-store command and answers when it completes. -/
  | svcImg (req : SvcReq) (arg len : Word) (bootSet : List Word) (cmd : Word)
  /-- SVC_IMG_DATA (R432). An IMG_DATA request appends its payload to the slot opened over X_SVC. -/
  | svcImgData (req : SvcReq) (data : List Byte)
  /-- SVC_KEY_ENROL (R432). A KEY_ENROL request in MAINTENANCE enrols an integrator public key. -/
  | svcKeyEnrol (req : SvcReq) (index : Byte) (key : BitVec 256)
  /-- SVC_RESTART (R432). A RESTART request acts as a warm restart command with cause RESET. -/
  | svcRestart (req : SvcReq)
  /-- SVC_UNKNOWN_OP (R431). A request with an undefined OP is answered UNKNOWN. -/
  | svcUnknownOp (req : SvcReq) (op : Byte)
  /-- SVC_CMD_CLOSE (R438). SVC_CMD CLOSE closes service access. -/
  | svcCmdClose
  /-- SVC_IDLE_TIMEOUT (R438). SVC_CFG.IDLE seconds pass without a request from the holder; access closes. -/
  | svcIdleTimeout
  /-- SVC_LINK_LOSS (R438). X_SVC loses link; service access closes. -/
  | svcLinkLoss
  /-- NONCE_EXPIRY (R434). A NONCE stays unused for 30 s and becomes invalid. -/
  | nonceExpiry
  /-- LOCKOUT_END (R436). LOCK_REMAIN counts down to 0; ACCESS becomes CLOSED and FAILURES 0. -/
  | lockoutEnd
  /-- JTAG_EXTEST (R441). EXTEST is updated into the instruction register and drives pins only in MAINTENANCE with
      access open. -/
  | jtagExtest
  /-- JTAG_SAMPLE_PRELOAD (R439). SAMPLE/PRELOAD is updated and selects the boundary register. -/
  | jtagSamplePreload (cells : BitVec 257)
  /-- JTAG_IDCODE (R439). IDCODE is updated and selects the identification register. -/
  | jtagIdcode
  /-- JTAG_CLAMP (R441). CLAMP is updated and takes effect only in MAINTENANCE with access open. -/
  | jtagClamp
  /-- JTAG_HIGHZ (R441). HIGHZ is updated; where allowed, outputs go OFF, recessive or high impedance. -/
  | jtagHighz
  /-- JTAG_BYPASS (R439). BYPASS, or any undefined code, is updated and selects the bypass register. -/
  | jtagBypass (code : Byte)
  /-- TAP_RESET (R441). The TAP enters Test-Logic-Reset; IDCODE is selected and pins return to their functions. -/
  | tapReset
  /-- QUADRATURE_ERROR (R301). A speed-sensor sample in which both channels change at once is a quadrature error; it
      leaves POSITION unchanged, and the fourth within 1 s latches a QUAD sensor fault. -/
  | quadratureError (sensor : Fin 4)
  /-- CAN_RX_ERROR (R244). A protocol error detected while the channel is receiving raises REC and may change the
      error state (warning, error passive) and update CAN_CH_LAST_ERR. -/
  | canRxError (chan : Fin 20) (e : CanErr) (dataPhase heavy : Bool)
  /-- ANNOUNCE_RECEIPT_TIMEOUT (R174). No Announce arrives on a PTP clock port for announceReceiptTimeout intervals;
      the best-master state decision runs again and the port state and reference may change. -/
  | announceReceiptTimeout (plane : Fin 2)
  /-- HOLD_UP_STORE_CHARGED (R372). After X_PWR becomes valid, the hold-up stores reach their charge and Skerry
      enables the main converter, beginning step 2 of the start. -/
  | holdUpStoreCharged
  /-- SKERRY_SUPPLY_LOSS (R395). During a long interruption the hold-up store falls below 3 V and Skerry loses its
      supply, losing TIME_VALID, the raw counter and the carried Transit parameters. -/
  | skerrySupplyLoss
  /-- SVC_LINK_UP (R442). X_SVC gains link, and the module takes up the SVC_IP address in force for ARP and
      maintenance requests. -/
  | svcLinkUp
  /-- STRAIT_LANE_UP (R326). A Strait lane that was down delivers valid frames again; PAIR_STATUS shows it up and
      traffic uses both lanes at the full rate. -/
  | straitLaneUp (lane : Fin 2)
deriving DecidableEq, Repr

end Sys2Proof
end

