-- ==== Sys2Proof/Decode.lean ====
section
/-!
DEFINITION. The decoder of command words.  The opcode table gives no row any bits: a command is an event at the module's
connectors or inside it, never a word.  So no word spells a command.
-/

namespace Sys2Proof

/-- The command that a word of `nbits` bits spells by the opcode table: none, since no row of it has bits. -/
def decodeTableWord (_nbits _w : Nat) : Option Instr := none

end Sys2Proof
end

