-- ==== Sys2Proof/Config.lean ====
section
/-!
DEFINITION. What the spec leaves open: opaque constants with no body.  Nothing in Lean evaluates them, so a statement
about the model holds whatever they are.
-/

namespace Sys2Proof.Config

/-- The free value number `n` (assumption log 1).  A value that the spec leaves open is this constant applied to the
counter `State.freeCount`, which the step then advances. -/
opaque freeValue : Nat → Dword

/-- Frames that one egress queue of a switch port holds (R187): the spec gives queues no depth (assumption log 21). -/
opaque egressDepth : Nat

/-- The Fitriold public key in the boot ROM (R378), which the spec does not print (assumption log 22). -/
opaque fitrioldKey : List Byte

/-- A factory image of a bank and a TYPE (R1), header and payload: the spec prints none (assumption log 95). -/
opaque factoryImage : Nat → Nat → List Byte

/-- The lane DRAM address of the code and read-only data of the image of a TYPE and BUILD_ID (R75): it stands in the image, whose
payload the spec does not describe (assumption log 28). -/
opaque codePlace : Nat → Nat → Nat

/-- The level of a boundary-scan control cell that enables its output (R440): the spec leaves it to the module-level description
file (assumption log 23). -/
opaque scanEnable : Bool

end Sys2Proof.Config
end

