-- ==== Sys2Proof/Machine/Events.lean ====
section
/-!
DEFINITION. The events of the module: code, severity and default reaction of each, from the event tables of the
chapters (R19, R56, R87, R117, R143, R164, R184, R207, R223, R252, R279, R299, R316, R343, R361, R389, R416, R429,
R443).  Where a table gives the reaction by case, the row holds the first case and the raising operation passes the
other.
-/

namespace Sys2Proof.Machine.Ev

/-- SETUP_MINORITY (R19). -/
def setupMinority : EvDef := ⟨0x0110, .fault, .excludeLane⟩
/-- SETUP_NO_MAJORITY (R19). -/
def setupNoMajority : EvDef := ⟨0x0111, .fault, .yield⟩
/-- SETUP_IGNORED (R19). -/
def setupIgnored : EvDef := ⟨0x0112, .notice, .log⟩
/-- ACCESS_FAULT (R19). -/
def accessFault : EvDef := ⟨0x0113, .warning, .notify⟩
/-- ENTRY_BUSY (R56). -/
def entryBusy : EvDef := ⟨0x0201, .fault, .notify⟩
/-- CLOCK_NOT_READY (R56). -/
def clockNotReady : EvDef := ⟨0x0202, .fault, .notify⟩
/-- SCAN_LATE (R56). -/
def scanLate : EvDef := ⟨0x0203, .fault, .notify⟩
/-- ENTRY_POISON (R56). -/
def entryPoison : EvDef := ⟨0x0204, .fault, .yield⟩
/-- CHECKPOINT_NO_QUORUM (R56). -/
def checkpointNoQuorum : EvDef := ⟨0x0205, .safety, .yield⟩
/-- BANK_LOADED (R56). -/
def bankLoaded : EvDef := ⟨0x0206, .info, .log⟩
/-- BANK_REJECTED (R56). -/
def bankRejected : EvDef := ⟨0x0207, .warning, .notify⟩
/-- BANK_SWITCHED (R56). -/
def bankSwitched : EvDef := ⟨0x0208, .notice, .log⟩
/-- SWITCH_REJECTED (R56). -/
def switchRejected : EvDef := ⟨0x0209, .warning, .notify⟩
/-- ALIGN_START (R56). -/
def alignStart : EvDef := ⟨0x020A, .notice, .log⟩
/-- ALIGN_DONE (R56). -/
def alignDone : EvDef := ⟨0x020B, .info, .log⟩
/-- CLOCK_DOWN_DEFERRED (R56). -/
def clockDownDeferred : EvDef := ⟨0x020C, .info, .log⟩
/-- SIG_MINORITY (R87). -/
def sigMinority : EvDef := ⟨0x0101, .fault, .excludeLane⟩
/-- SIG_NO_MAJORITY (R87). -/
def sigNoMajority : EvDef := ⟨0x0102, .safety, .yield⟩
/-- SIG_SEQUENCE (R87). -/
def sigSequence : EvDef := ⟨0x0103, .fault, .excludeLane⟩
/-- LANE_LATE (R87). -/
def laneLate : EvDef := ⟨0x0104, .fault, .excludeLane⟩
/-- STAGE_MINORITY (R87). -/
def stageMinority : EvDef := ⟨0x0105, .fault, .excludeLane⟩
/-- STAGE_NO_MAJORITY (R87). -/
def stageNoMajority : EvDef := ⟨0x0106, .safety, .yield⟩
/-- LANE_STATE_CHANGED (R87). -/
def laneStateChanged : EvDef := ⟨0x0107, .notice, .log⟩
/-- MODE_CHANGED (R87). -/
def modeChanged : EvDef := ⟨0x0108, .notice, .log⟩
/-- MODE_REJECTED (R87). -/
def modeRejected : EvDef := ⟨0x0109, .warning, .notify⟩
/-- CMD_REFUSED (R87). -/
def cmdRefused : EvDef := ⟨0x010A, .warning, .notify⟩
/-- SELFTEST_FAIL (R87). -/
def selftestFail : EvDef := ⟨0x010B, .fault, .notify⟩
/-- REJOIN_DONE (R87). -/
def rejoinDone : EvDef := ⟨0x010C, .notice, .log⟩
/-- REJOIN_FAILED (R87). -/
def rejoinFailed : EvDef := ⟨0x010D, .warning, .notify⟩
/-- COPY_MISMATCH (R87). -/
def copyMismatch : EvDef := ⟨0x010E, .safety, .yield⟩
/-- LANE_OFF_LIMIT (R87). -/
def laneOffLimit : EvDef := ⟨0x010F, .warning, .notify⟩
/-- LANE_CLOCK_FAULT (R87). -/
def laneClockFault : EvDef := ⟨0x0114, .fault, .excludeLane⟩
/-- LANE_POWER_FAULT (R87). -/
def lanePowerFault : EvDef := ⟨0x0115, .fault, .excludeLane⟩
/-- POISON_CONSUMED (R87). -/
def poisonConsumed : EvDef := ⟨0x0116, .fault, .excludeLane⟩
/-- SA_INVALID (R87). -/
def saInvalid : EvDef := ⟨0x0117, .warning, .notify⟩
/-- RING_MINORITY (R117). -/
def ringMinority : EvDef := ⟨0x0301, .fault, .excludeLane⟩
/-- RING_NO_MAJORITY (R117). -/
def ringNoMajority : EvDef := ⟨0x0302, .safety, .yield⟩
/-- DESC_MINORITY (R117). -/
def descMinority : EvDef := ⟨0x0303, .fault, .excludeLane⟩
/-- DESC_NO_MAJORITY (R117). -/
def descNoMajority : EvDef := ⟨0x0304, .safety, .yield⟩
/-- DESC_INVALID (R117). -/
def descInvalid : EvDef := ⟨0x0305, .warning, .notify⟩
/-- DOORBELL_INVALID (R117). -/
def doorbellInvalid : EvDef := ⟨0x0306, .warning, .notify⟩
/-- RING_BACKPRESSURE (R117). -/
def ringBackpressure : EvDef := ⟨0x0307, .notice, .log⟩
/-- RING_CMD_REFUSED (R117). -/
def ringCmdRefused : EvDef := ⟨0x0308, .warning, .notify⟩
/-- JOURNAL_DISCARD (R117). -/
def journalDiscard : EvDef := ⟨0x0309, .warning, .notify⟩
/-- JOURNAL_POISON (R117). -/
def journalPoison : EvDef := ⟨0x030A, .safety, .yield⟩
/-- EVQ_OVERFLOW (R117). -/
def evqOverflow : EvDef := ⟨0x0401, .warning, .notify⟩
/-- EVQ_COALESCED (R117). -/
def evqCoalesced : EvDef := ⟨0x0402, .warning, .notify⟩
/-- EVQ_HEAD_INVALID (R117). -/
def evqHeadInvalid : EvDef := ⟨0x0403, .warning, .notify⟩
/-- EVQ_HEAD_MINORITY (R117). -/
def evqHeadMinority : EvDef := ⟨0x0404, .fault, .excludeLane⟩
/-- EVQ_HEAD_NO_MAJORITY (R117). -/
def evqHeadNoMajority : EvDef := ⟨0x0405, .safety, .yield⟩
/-- EVQ_CMD_REFUSED (R117). -/
def evqCmdRefused : EvDef := ⟨0x0406, .warning, .notify⟩
/-- TASK_OVERRUN (R143). -/
def taskOverrun : EvDef := ⟨0x0501, .fault, .notify⟩
/-- TASK_OVERRUN_LIMIT (R143). -/
def taskOverrunLimit : EvDef := ⟨0x0502, .fault, .yield⟩
/-- COMMON_CAUSE_STOP (R143). -/
def commonCauseStop : EvDef := ⟨0x0503, .safety, .safeHalt⟩
/-- PARTNER_OVERRUN (R143). -/
def partnerOverrun : EvDef := ⟨0x0504, .warning, .notify⟩
/-- RESPONSE_HIGH (R143). -/
def responseHigh : EvDef := ⟨0x0505, .notice, .log⟩
/-- TASK_CFG_REFUSED (R143). -/
def taskCfgRefused : EvDef := ⟨0x0506, .warning, .notify⟩
/-- RESTART (R164). -/
def restart : EvDef := ⟨0x0030, .notice, .log⟩
/-- RETAIN_LOST (R164). -/
def retainLost : EvDef := ⟨0x0031, .warning, .notify⟩
/-- RETAIN_SKIPPED (R164). -/
def retainSkipped : EvDef := ⟨0x0032, .warning, .notify⟩
/-- XCHG_DONE (R164). -/
def xchgDone : EvDef := ⟨0x0033, .notice, .log⟩
/-- XCHG_REMOVED (R164). -/
def xchgRemoved : EvDef := ⟨0x0034, .notice, .log⟩
/-- XCHG_JOB_ABANDONED (R164). -/
def xchgJobAbandoned : EvDef := ⟨0x0035, .fault, .yield⟩
/-- FORCE_SET (R164). -/
def forceSet : EvDef := ⟨0x0036, .notice, .log⟩
/-- FORCE_REMOVED (R164). -/
def forceRemoved : EvDef := ⟨0x0037, .notice, .log⟩
/-- FORCE_REFUSED (R164). -/
def forceRefused : EvDef := ⟨0x0038, .warning, .notify⟩
/-- FORCE_DROPPED (R164). -/
def forceDropped : EvDef := ⟨0x0039, .warning, .notify⟩
/-- FORCE_CLEARED (R164). -/
def forceCleared : EvDef := ⟨0x003A, .notice, .log⟩
/-- MOD_CFG_REFUSED (R164). -/
def modCfgRefused : EvDef := ⟨0x003B, .warning, .notify⟩
/-- TIME_STEPPED (R184). -/
def timeStepped : EvDef := ⟨0x0601, .notice, .log⟩
/-- SYNC_ACHIEVED (R184). -/
def syncAchieved : EvDef := ⟨0x0602, .info, .log⟩
/-- SYNC_DEGRADED (R184). -/
def syncDegraded : EvDef := ⟨0x0603, .warning, .notify⟩
/-- SYNC_LOST (R184). -/
def syncLost : EvDef := ⟨0x0604, .warning, .notify⟩
/-- OFFSET_HIGH (R184). -/
def offsetHigh : EvDef := ⟨0x0605, .warning, .notify⟩
/-- MASTER_CHANGED (R184). -/
def masterChanged : EvDef := ⟨0x0606, .notice, .log⟩
/-- TSQ_OVERFLOW (R184). -/
def tsqOverflow : EvDef := ⟨0x0607, .warning, .notify⟩
/-- PULSE_IN_MISSING (R184). -/
def pulseInMissing : EvDef := ⟨0x0608, .warning, .notify⟩
/-- TIME_INVALID (R184). -/
def timeInvalid : EvDef := ⟨0x0609, .warning, .notify⟩
/-- RATE_LIMITED (R184). -/
def rateLimited : EvDef := ⟨0x060A, .notice, .log⟩
/-- LINK_CHANGED (R207). -/
def linkChanged : EvDef := ⟨0x0701, .notice, .log⟩
/-- FLOW_TIMEOUT (R207). -/
def flowTimeout : EvDef := ⟨0x0702, .warning, .notify⟩
/-- FLOW_RECOVERED (R207). -/
def flowRecovered : EvDef := ⟨0x0703, .notice, .log⟩
/-- PLANE_DIFFER (R207). -/
def planeDiffer : EvDef := ⟨0x0704, .warning, .notify⟩
/-- PLANE_LOST (R207). -/
def planeLost : EvDef := ⟨0x0705, .warning, .notify⟩
/-- FLOW_UNRESOLVED (R207). -/
def flowUnresolved : EvDef := ⟨0x0706, .warning, .notify⟩
/-- RX_DROP (R207). -/
def rxDrop : EvDef := ⟨0x0707, .notice, .log⟩
/-- MD_REPLY_TIMEOUT (R207). -/
def mdReplyTimeout : EvDef := ⟨0x0708, .warning, .notify⟩
/-- EMIT_POISON (R207). -/
def emitPoison : EvDef := ⟨0x0709, .fault, .notify⟩
/-- RX_POISON (R207). -/
def rxPoison : EvDef := ⟨0x070A, .warning, .notify⟩
/-- TUN_DROP (R207). -/
def tunDrop : EvDef := ⟨0x070B, .warning, .notify⟩
/-- EMIT_INVALID (R207). -/
def emitInvalid : EvDef := ⟨0x070C, .warning, .notify⟩
/-- NET_CFG_REFUSED (R207). -/
def netCfgRefused : EvDef := ⟨0x070D, .warning, .notify⟩
/-- SAFE_CRC_ERROR (R223). -/
def safeCrcError : EvDef := ⟨0x0801, .warning, .notify⟩
/-- SAFE_FORMAT_ERROR (R223). -/
def safeFormatError : EvDef := ⟨0x0802, .warning, .notify⟩
/-- SAFE_SID_MISMATCH (R223). -/
def safeSidMismatch : EvDef := ⟨0x0803, .safety, .notify⟩
/-- SAFE_SEQ_ERROR (R223). -/
def safeSeqError : EvDef := ⟨0x0804, .warning, .notify⟩
/-- SAFE_TIME_LATE (R223). -/
def safeTimeLate : EvDef := ⟨0x0805, .warning, .notify⟩
/-- SAFE_TIMEOUT (R223). -/
def safeTimeout : EvDef := ⟨0x0806, .warning, .notify⟩
/-- SAFE_ESTABLISHED (R223). -/
def safeEstablished : EvDef := ⟨0x0807, .notice, .log⟩
/-- SAFE_UNBOUND (R223). -/
def safeUnbound : EvDef := ⟨0x0808, .warning, .notify⟩
/-- SAFE_CFG_REFUSED (R223). -/
def safeCfgRefused : EvDef := ⟨0x0809, .warning, .notify⟩
/-- SAFE_FORCED_RX (R223). -/
def safeForcedRx : EvDef := ⟨0x080A, .notice, .log⟩
/-- SAFE_TAKEOVER_SKIP (R223). -/
def safeTakeoverSkip : EvDef := ⟨0x080B, .notice, .log⟩
/-- ERROR_WARNING (R252). -/
def errorWarning : EvDef := ⟨0x0901, .notice, .log⟩
/-- ERROR_PASSIVE (R252). -/
def errorPassive : EvDef := ⟨0x0902, .warning, .notify⟩
/-- ERROR_ACTIVE (R252). -/
def errorActive : EvDef := ⟨0x0903, .notice, .log⟩
/-- BUS_OFF (R252). -/
def busOff : EvDef := ⟨0x0904, .warning, .notify⟩
/-- BUS_OFF_RECOVERED (R252). -/
def busOffRecovered : EvDef := ⟨0x0905, .notice, .log⟩
/-- ID_CLASH (R252). -/
def idClash : EvDef := ⟨0x0906, .warning, .notify⟩
/-- SLOT_MISSED (R252). -/
def slotMissed : EvDef := ⟨0x0907, .warning, .notify⟩
/-- SLOT_INVALID (R252). -/
def slotInvalid : EvDef := ⟨0x0908, .warning, .notify⟩
/-- CAN_RX_DROP (R252). -/
def canRxDrop : EvDef := ⟨0x0909, .notice, .log⟩
/-- CAN_RX_TIMEOUT (R252). -/
def canRxTimeout : EvDef := ⟨0x090A, .warning, .notify⟩
/-- CAN_RX_RECOVERED (R252). -/
def canRxRecovered : EvDef := ⟨0x090B, .notice, .log⟩
/-- REF_FOREIGN (R252). -/
def refForeign : EvDef := ⟨0x090C, .warning, .notify⟩
/-- PROFILE_CHANGED (R252). -/
def profileChanged : EvDef := ⟨0x090D, .info, .log⟩
/-- GROUP_SUPPLY_FAULT (R252). -/
def groupSupplyFault : EvDef := ⟨0x090E, .fault, .notify⟩
/-- CAN_CFG_REFUSED (R252). -/
def canCfgRefused : EvDef := ⟨0x090F, .warning, .notify⟩
/-- BUS_ERROR (R279). -/
def busError : EvDef := ⟨0x0A01, .warning, .notify⟩
/-- POSTED_WRITE_FAILED (R279). -/
def postedWriteFailed : EvDef := ⟨0x0A02, .warning, .notify⟩
/-- XFER_ERROR (R279). -/
def xferError : EvDef := ⟨0x0A03, .warning, .notify⟩
/-- XFER_INVALID (R279). -/
def xferInvalid : EvDef := ⟨0x0A04, .warning, .notify⟩
/-- CARD_LOST (R279). -/
def cardLost : EvDef := ⟨0x0A05, .fault, .notify⟩
/-- CARD_REVIVED (R279). -/
def cardRevived : EvDef := ⟨0x0A06, .notice, .log⟩
/-- PREFETCH_DISCARD (R279). -/
def prefetchDiscard : EvDef := ⟨0x0A07, .notice, .log⟩
/-- CRATE_INT (R279). -/
def crateInt : EvDef := ⟨0x0A08, .info, .log⟩
/-- WIN_MINORITY (R279). -/
def winMinority : EvDef := ⟨0x0A09, .fault, .excludeLane⟩
/-- WIN_NO_MAJORITY (R279). -/
def winNoMajority : EvDef := ⟨0x0A0A, .safety, .yield⟩
/-- ISTH_CFG_REFUSED (R279). -/
def isthCfgRefused : EvDef := ⟨0x0A0B, .warning, .notify⟩
/-- DI_CHANGE (R299). -/
def diChange : EvDef := ⟨0x0B01, .info, .log⟩
/-- LOGIC_SILENCE (R299). -/
def logicSilence : EvDef := ⟨0x0B02, .fault, .notify⟩
/-- DO_FAULT (R299). -/
def doFault : EvDef := ⟨0x0B03, .fault, .notify⟩
/-- DO_OPEN_LOAD (R299). -/
def doOpenLoad : EvDef := ⟨0x0B04, .warning, .notify⟩
/-- DEMAG_LIMIT (R299). -/
def demagLimit : EvDef := ⟨0x0B05, .warning, .notify⟩
/-- FIELD_SUPPLY (R299). -/
def fieldSupply : EvDef := ⟨0x0B06, .warning, .notify⟩
/-- BAD_REFRESH (R299). -/
def badRefresh : EvDef := ⟨0x0B07, .warning, .notify⟩
/-- DRIVE_POISON (R299). -/
def drivePoison : EvDef := ⟨0x0B08, .fault, .notify⟩
/-- ISLAND_FAULT (R299). -/
def islandFault : EvDef := ⟨0x0B09, .safety, .yield⟩
/-- HOLM_CFG_REFUSED (R299). -/
def holmCfgRefused : EvDef := ⟨0x0B0A, .warning, .notify⟩
/-- SLS_VIOLATION (R316). -/
def slsViolation : EvDef := ⟨0x0C01, .safety, .notify⟩
/-- PLAUS_FAULT (R316). -/
def plausFault : EvDef := ⟨0x0C02, .safety, .notify⟩
/-- SENSOR_FAULT (R316). -/
def sensorFault : EvDef := ⟨0x0C03, .fault, .notify⟩
/-- STANDSTILL_CHANGED (R316). -/
def standstillChanged : EvDef := ⟨0x0C04, .info, .log⟩
/-- RESET_ACCEPTED (R316). -/
def resetAccepted : EvDef := ⟨0x0C05, .notice, .log⟩
/-- RESET_REFUSED (R316). -/
def resetRefused : EvDef := ⟨0x0C06, .warning, .notify⟩
/-- RESET_JAMMED (R316). -/
def resetJammed : EvDef := ⟨0x0C07, .fault, .notify⟩
/-- SEL_DEFAULT (R316). -/
def selDefault : EvDef := ⟨0x0C08, .warning, .notify⟩
/-- MOTION_CFG_REFUSED (R316). -/
def motionCfgRefused : EvDef := ⟨0x0C09, .warning, .notify⟩
/-- TAKEOVER (R343). -/
def takeover : EvDef := ⟨0x0D01, .notice, .log⟩
/-- GAVE_UP (R343). -/
def gaveUp : EvDef := ⟨0x0D02, .warning, .log⟩
/-- PARTNER_ELIGIBLE (R343). -/
def partnerEligible : EvDef := ⟨0x0D03, .notice, .log⟩
/-- ELIGIBILITY_LOST (R343). -/
def eligibilityLost : EvDef := ⟨0x0D04, .warning, .notify⟩
/-- OUTPUT_MISMATCH (R343). -/
def outputMismatch : EvDef := ⟨0x0D05, .fault, .notify⟩
/-- MIRROR_MISSING (R343). -/
def mirrorMissing : EvDef := ⟨0x0D06, .fault, .notify⟩
/-- INPUT_XCHK (R343). -/
def inputXchk : EvDef := ⟨0x0D07, .warning, .notify⟩
/-- MASTERY_LINE_FAULT (R343). -/
def masteryLineFault : EvDef := ⟨0x0D08, .fault, .notify⟩
/-- STRAIT_LANE_DOWN (R343). -/
def straitLaneDown : EvDef := ⟨0x0D09, .warning, .notify⟩
/-- STRAIT_SILENT (R343). -/
def straitSilent : EvDef := ⟨0x0D0A, .warning, .notify⟩
/-- MASTERY_CONTENTION (R343). -/
def masteryContention : EvDef := ⟨0x0D0B, .warning, .notify⟩
/-- JOIN_FAILED (R343). -/
def joinFailed : EvDef := ⟨0x0D0C, .warning, .notify⟩
/-- PAIR_CLASS_MISMATCH (R343). -/
def pairClassMismatch : EvDef := ⟨0x0D0D, .warning, .notify⟩
/-- PAIR_DESC_MISMATCH (R343). -/
def pairDescMismatch : EvDef := ⟨0x0D0E, .fault, .notify⟩
/-- PAIR_WIN_MISMATCH (R343). -/
def pairWinMismatch : EvDef := ⟨0x0D0F, .fault, .notify⟩
/-- PAIR_CMD_REFUSED (R343). -/
def pairCmdRefused : EvDef := ⟨0x0D10, .warning, .notify⟩
/-- MEM_CORRECTED (R361). -/
def memCorrected : EvDef := ⟨0x0E01, .info, .log⟩
/-- MEM_UNCORRECTABLE (R361). -/
def memUncorrectable : EvDef := ⟨0x0E02, .warning, .notify⟩
/-- MEM_SYMBOL_STUCK (R361). -/
def memSymbolStuck : EvDef := ⟨0x0E03, .warning, .degrade⟩
/-- SCRUB_UNCORRECTABLE (R361). -/
def scrubUncorrectable : EvDef := ⟨0x0E04, .warning, .notify⟩
/-- DELIVER_POISON (R361). -/
def deliverPoison : EvDef := ⟨0x0E05, .safety, .yield⟩
/-- SHARED_POISON (R361). -/
def sharedPoison : EvDef := ⟨0x0E06, .warning, .notify⟩
/-- PENDING_OVERFLOW (R361). -/
def pendingOverflow : EvDef := ⟨0x0E07, .safety, .safeHalt⟩
/-- FM_SELF_FAULT (R361). -/
def fmSelfFault : EvDef := ⟨0x0E08, .safety, .safeHalt⟩
/-- LEVEL_CLEARED (R361). -/
def levelCleared : EvDef := ⟨0x0E09, .notice, .log⟩
/-- FAULT_CFG_REFUSED (R361). -/
def faultCfgRefused : EvDef := ⟨0x0E0A, .warning, .notify⟩
/-- MOD_STATE_CHANGED (R389). -/
def modStateChanged : EvDef := ⟨0x0001, .notice, .log⟩
/-- MAINTENANCE_ENTERED (R389). -/
def maintenanceEntered : EvDef := ⟨0x0002, .warning, .notify⟩
/-- SLEEP_REFUSED (R389). -/
def sleepRefused : EvDef := ⟨0x0003, .warning, .notify⟩
/-- START_DEGRADED (R389). -/
def startDegraded : EvDef := ⟨0x0004, .warning, .notify⟩
/-- WAKE_RECORDED (R389). -/
def wakeRecorded : EvDef := ⟨0x0F01, .notice, .log⟩
/-- XTAL_FAULT (R389). -/
def xtalFault : EvDef := ⟨0x0F02, .warning, .notify⟩
/-- NV_FAULT (R389). -/
def nvFault : EvDef := ⟨0x0F03, .warning, .notify⟩
/-- IMG_CMD_DONE (R389). -/
def imgCmdDone : EvDef := ⟨0x1201, .info, .log⟩
/-- IMG_REFUSED (R389). -/
def imgRefused : EvDef := ⟨0x1202, .warning, .notify⟩
/-- IMG_FALLBACK (R389). -/
def imgFallback : EvDef := ⟨0x1203, .warning, .notify⟩
/-- COMPAT_UNTESTED (R389). -/
def compatUntested : EvDef := ⟨0x1204, .warning, .notify⟩
/-- IMG_DAMAGED (R389). -/
def imgDamaged : EvDef := ⟨0x1205, .warning, .notify⟩
/-- SUPPLY_INTERRUPTION (R416). -/
def supplyInterruption : EvDef := ⟨0x0005, .notice, .log⟩
/-- SUPPLY_HIGH (R416). -/
def supplyHigh : EvDef := ⟨0x0006, .warning, .notify⟩
/-- TEMP_HIGH (R416). -/
def tempHigh : EvDef := ⟨0x0007, .warning, .notify⟩
/-- TEMP_CRITICAL (R416). -/
def tempCritical : EvDef := ⟨0x0008, .safety, .yield⟩
/-- REC_CLEARED (R429). -/
def recCleared : EvDef := ⟨0x1001, .notice, .log⟩
/-- REC_FULL (R429). -/
def recFull : EvDef := ⟨0x1002, .notice, .log⟩
/-- REC_POISON (R429). -/
def recPoison : EvDef := ⟨0x1003, .warning, .notify⟩
/-- REC_CMD_REFUSED (R429). -/
def recCmdRefused : EvDef := ⟨0x1004, .warning, .notify⟩
/-- SVC_OPENED (R443). -/
def svcOpened : EvDef := ⟨0x1101, .notice, .notify⟩
/-- SVC_CLOSED (R443). -/
def svcClosed : EvDef := ⟨0x1102, .notice, .log⟩
/-- SVC_AUTH_FAILED (R443). -/
def svcAuthFailed : EvDef := ⟨0x1103, .warning, .notify⟩
/-- SVC_LOCKED (R443). -/
def svcLocked : EvDef := ⟨0x1104, .warning, .notify⟩
/-- SVC_WRITE (R443). -/
def svcWrite : EvDef := ⟨0x1105, .notice, .notify⟩
/-- SCAN_REFUSED (R443). -/
def scanRefused : EvDef := ⟨0x1106, .warning, .notify⟩

end Sys2Proof.Machine.Ev
end

