-- ==== Sys2Proof/Machine/Parts.lean ====
section
/-!
DEFINITION. The parts of the state: plain data, one structure per block, for everything that the spec gives the block
beside the registers of its register table.
-/

namespace Sys2Proof.Machine

/-- A table kept as a list of keys and values, keys rising, without entries equal to the default of its use. -/
abbrev Tab (α : Type) := List (Nat × α)

/-- Registers that differ from their reset value, by key (`Reg`, `resetVal`). -/
abbrev RegFile := Tab Word

/-- A memory under the 160/128 code: the bytes that differ from 0, addresses strictly rising, and the 16-byte words
(byte address / 16) that carry the poison mark (R356) and those that decode UNCORRECTABLE (R355), each strictly rising.  An
unlisted byte reads 0 (assumption log 3). -/
structure Mem where
  cells  : List Host.Cell
  poison : List Nat
  broken : List Nat
deriving DecidableEq, Repr

/-! ### Meridian -/

/-- A set-up write in a lane's queue (R16), with the microtick count at its arrival, and whether it is one of the matching
writes with which its vote has already written the register (R15, R16). -/
structure SetupReq where
  core    : Fin 4
  addr    : BitVec 40
  value   : Word
  at_     : Nat
  written : Bool
deriving DecidableEq, Repr

/-- A signature presentation (R62) in a lane's store (R63). -/
structure Present where
  core  : Fin 4
  task  : Nat
  job   : Word
  chk   : Nat
  final : Bool
  sig   : Sig
  at_   : Nat
deriving DecidableEq, Repr

/-- A completed set-up vote in which a lane's write is still to come: the microtick in which its window opened, and the address
and value of its two matching writes, if there were two. -/
structure Owed where
  openMt : Nat
  value  : Option (BitVec 40 × Word)
deriving DecidableEq, Repr

/-- The Meridian: per lane the queue of set-up writes (at most 8, R16), the writes of stalled cores and the completed votes whose
write is still to come, the 48 signature accumulators (R60), the unresolved presentations (at most 64, R63) and those of stalled
cores. -/
structure Meridian where
  queue      : PerLane (List SetupReq)
  stalled    : PerLane (List SetupReq)
  owed       : PerLane (List Owed)
  acc        : PerLane (Tab Sig)
  present    : PerLane (List Present)
  sigStalled : PerLane (List Present)
deriving DecidableEq, Repr

/-! ### Lanes and rejoin -/

/-- One lane beside its registers: per core MSNAPSEL (R21), the integer and floating-point registers (keyed core * 32 + index),
mcause, mtval, the value that the latest window read returned (R262, R270), the pending timer and external interrupts; the cores
at which a release signal stands that the core has not taken yet (R23, R120, R136), whether the switch signal stands at core 0
(R153); the image-store slots whose code and read-only data step 5 has loaded (R75, R153), the self-test step in progress (R75,
0 when none), whether it takes part in a join and waits to enter REJOINING in it (R85), the ready mark of start-up (R373), whether
step 5 has been completed in this start (R75), LANE_POWER_FAULT events since the last start (R73), the microtick of the latest
exclusion, and the raw time at which REJOINING began. -/
structure LaneSt where
  msnapsel    : Tab Dword
  xreg        : Tab Dword
  freg        : Tab Dword
  mcause      : Tab Dword
  mtval       : Tab Dword
  loaded      : Tab Dword
  timerIrq    : List Nat
  extIrq      : List Nat
  signals     : List Nat
  switchSig   : Bool
  code        : List Nat
  testStep    : Nat
  joining     : Bool
  joinWait    : Bool
  ready       : Bool
  step5Done   : Bool
  powerFaults : Nat
  exclAt      : Option Nat
  rejoinRaw   : Nat
deriving DecidableEq, Repr

/-- The rejoin copy engine (R78): dirty pages of the state area, pages of the current phase still to copy, pages already
copied, whether this is a join (R85) or a module join from the partner (R338), whether every item compared in OBSERVE
so far has matched, whether FINAL has completed (R80), and whether PASS waits with nothing left to copy (R79). -/
structure RejoinSt where
  dirty     : List Nat
  toCopy    : List Nat
  copied    : List Nat
  join      : Bool
  fromPair  : Bool
  observed  : Bool
  finalOk   : Bool
  waiting   : Bool
deriving DecidableEq, Repr

/-! ### Chronograph -/

/-- An Ephemeris entry (R37): its two words, and whether its 128-bit word is uncorrectable. -/
structure Entry where
  w0     : Dword
  w1     : Dword
  poison : Bool
deriving DecidableEq, Repr

/-- The Ephemeris header (R29): numbers as read, regions and input images as (offset, size) in order. -/
structure Header where
  flags       : Nat
  version     : Nat
  compat      : Nat
  bcLen       : Nat
  hpLen       : Nat
  cw          : Nat
  entryCount  : Nat
  alignOffset : Nat
  laneSlack   : Nat
  buildId     : Dword
  appBuildId  : Dword
  regions     : List (Nat × Nat)
  images      : List (Nat × Nat)
deriving DecidableEq, Repr

/-- A bank: header, task records of 16 bytes in task order (R118), entries in table order. -/
structure Bank where
  header  : Header
  tasks   : List Sig
  entries : List Entry
deriving DecidableEq, Repr

/-- Resources of R43. -/
inductive Res where
  | copyPort | checkpointUnit | stagingUnit | doorbellUnit
  | ethPort (port : Nat)
  | canSlot (channel : Nat)
  | crateBus | holmLink | straitTx
deriving DecidableEq, Repr

/-- A gated clock domain (R45, R46): running, raw time at which its lead time ends, whether the latest clock entry was a
CLOCK_UP, the DETAIL_A of a deferred CLOCK_DOWN (R56), unscheduled accesses in progress or waiting, raw time at which its last use
ends. -/
structure DomainSt where
  running  : Bool
  readyAt  : Nat
  lastUp   : Bool
  deferred : Option Nat
  users    : Nat
  lastUse  : Nat
deriving DecidableEq, Repr

/-- Changes that wait for the first hyperperiod boundary at least one microtick after their commit, each with the
microtick count of its commit. -/
structure Requests where
  bankSwitch  : Option Nat
  mode        : Option (Bool × Nat × Nat)
  restart     : Option (Bool × Nat)
  sleep       : Option Nat
  handover    : Option Nat
deriving DecidableEq, Repr

/-- The Chronograph beside its registers: the two banks, microtick offset in the running cycle, idle microticks still to
pass before it (R34), a boundary of the hyperperiod not yet carried out, lowest table index still to issue in this cycle,
entries issued in this microtick, stretched cycles of the running alignment, corrected time of the cycle's start, busy
resources as (resource, raw time until), the gated domains, the slot being loaded, pending requests, the raw time at which the
Chronograph may start, corrected times of the last SAMPLE of each image. -/
structure ChronoSt where
  bank0      : Option Bank
  bank1      : Option Bank
  offset     : Nat
  idle       : Nat
  hpDue      : Bool
  nextIndex  : Nat
  mtIssued   : Nat
  stretched  : Nat
  cycleStart : Dword
  cycles     : Nat
  occ        : List (Res × Nat)
  domSafe    : DomainSt
  domIsth    : DomainSt
  domImg     : DomainSt
  loadSlot   : Option Nat
  loadPoison : Bool
  req        : Requests
  startAt    : Option Nat
  sampleTimes : Tab Dword
  gateOpen   : Bool
  bootLoaded : Bool
deriving DecidableEq, Repr

/-! ### Jobs -/

/-- A job in one lane: next checkpoint number expected (R68), FINAL presented, checkpoint last passed, abandoned in this
lane alone (R140). -/
structure JobLane where
  nextChk : Nat
  closed  : Bool
  passed  : Bool
  gone    : Bool
deriving DecidableEq, Repr

/-- The latest job of a task (R120, R125, R134): jobs released since the Chronograph started, whether a job has been
released, abandoned, its deadline check made, its response measured; microtick counts of its release and of its deadline;
release times; queues that triggered it; suppression in this cycle (R126); first job of a switched bank; whether its job was
delivered the module's own input image (R323); lane DRAM address of its delivery area (R124); hyperperiod of the last
RESPONSE_HIGH; the lanes. -/
structure JobSt where
  count      : Word
  has        : Bool
  abandoned  : Bool
  checked    : Bool
  measured   : Bool
  releaseMt  : Nat
  deadlineMt : Nat
  relTime    : Dword
  nextRel    : Dword
  trigger    : Nat
  suppressed : Bool
  switched   : Bool
  own        : Bool
  area       : Nat
  highHp     : Option Word
  lanes      : PerLane JobLane
deriving DecidableEq, Repr

/-! ### Rings and event queues -/

/-- A ring beside its registers: voted doorbell S, descriptors still fetched in this POLL (R98), the descriptor and
payload voted but not yet accepted, whether one back-pressure episode has been reported, and in a standby the descriptors
voted that no mirrored record has met (R332). -/
structure RingSt where
  doorbell  : Word
  fetchLeft : Nat
  fetched   : Option (Desc × List Byte)
  bpRaised  : Bool
  voted     : List (Desc × List Byte)
deriving DecidableEq, Repr

/-- A record waiting in the overflow store (R107), with its queue and whether it was raised before the current start
(R116). -/
structure Waiting where
  queue   : Nat
  record  : Record
  carried : Bool
deriving DecidableEq, Repr

/-- A code counter (R107): queue, code, severity, count, first and last TIME, and the count carried over from before the
current start (R116). -/
structure CodeCounter where
  queue   : Nat
  code    : Nat
  sev     : Severity
  count   : Word
  first   : Dword
  last    : Dword
  carried : Word
deriving DecidableEq, Repr

/-- The event queues beside their registers: record counts per queue (R104), unconsumed records of the journal's event
part as (queue, index, record), the overflow store (256, R107), the 64 code counters and the 20 catch-all counters. -/
structure EvqSt where
  counts   : Tab Word
  part     : List (Nat × Word × Record)
  overflow : List Waiting
  codes    : List CodeCounter
  catchAll : List CodeCounter
deriving DecidableEq, Repr

/-! ### Retained data and restart -/

/-- The retain header, log and data of MRAM (R147, R149): whether a generation was ever committed, the generation, its
APP_BUILD_ID and committed size in blocks, LAST_RELEASE per task, the mark of a COLD command, poison of the header, the
data bytes, the commit running, whether its commit word is written, and the bad words of the log's region. -/
structure RetainSt where
  ever        : Bool
  generation  : Word
  appBuild    : Dword
  size        : Nat
  lastRelease : Tab Dword
  invalid     : Bool
  headPoison  : Bool
  data        : Mem
  log         : Option RetainLog
  wordWritten : Bool
  logBad      : List Nat
deriving DecidableEq, Repr

/-- The restart in progress or last made (R371, R149): its cause number as MOD_RESTART_INFO.CAUSE, whether a COLD
command caused it, corrected time at which the previous run ended, raw time at BOOT entry, whether the start is WARM, and whether it
rolled a commit forward. -/
structure RestartSt where
  cause    : Nat
  cold     : Bool
  stopTime : Dword
  bootRaw  : Nat
  warmStart : Bool
  rolled   : Bool
deriving DecidableEq, Repr

/-- Force changes committed and not yet in effect, each with the hyperperiod count and cycle index of the base cycle that begins at
its boundary (R160), the changes of the last boundary, safe entries to drop at the end of the cycle (R162), and whether the last
SAMPLE with MOTION confirmed standstill (R306). -/
structure ForceSt where
  changes    : List (ForceChange × Word × Nat)
  applied    : List ForceChange
  dropSafe   : Bool
  standstill : Bool
deriving DecidableEq, Repr

/-! ### Transit clock -/

/-- An entry of the transmit time-stamp queue (R177), with the raw time at which it entered. -/
structure TsqEntry where
  port   : Nat
  domain : Nat
  mtype  : Nat
  seq    : Nat
  time   : Dword
  at_    : Nat
deriving DecidableEq, Repr

/-- Transit state beside its registers: the raw counter (R165, units of 1/64 ns), RATE kept from SLEEP entry to the wake (R166), the servo
accumulator (R172), microticks counted since power came up, microtick phase against whole µs of corrected time (R179),
the source of the raw counter, whether the Chronograph has started since BOOT entry, synchronisation counts (R170), raw time
of the last valid measurement and the port that gave it (R184), last OFFSET_HIGH and TSQ_OVERFLOW, entry into the rate limit, the pulse output and input,
the time-stamp queue. -/
structure TimeSt where
  raw        : BitVec 72
  keptRate   : Option Word
  acc        : Int
  mt         : Nat
  phase      : Int
  onCrystal  : Bool
  started    : Bool
  measured   : Bool
  lockRun    : Nat
  lossRun    : Nat
  lastMeas   : Nat
  lastRef    : Nat
  offHighAt  : Option Nat
  tsqOvfAt   : Option Nat
  atLimit    : Bool
  pulseHigh  : Bool
  pulseRise  : Nat
  pulseSlot  : Nat
  lastPulse  : Option Nat
  missing    : Bool
  tsq        : List TsqEntry
deriving DecidableEq, Repr

/-- A window access of a core (R260): kind, lane address, size code, store data. -/
structure WinAcc where
  lane : Lane
  core : Fin 4
  kind : WinKind
  addr : BitVec 40
  size : Nat
  data : Dword
deriving DecidableEq, Repr

/-! ### Fault manager -/

/-- Corrections of one word (R358): region, address, operating minutes of each correction in the window, and whether
MEM_SYMBOL_STUCK stands raised. -/
structure Corrected where
  region  : Nat
  addr    : Nat
  minutes : List Nat
  stuck   : Bool
deriving DecidableEq, Repr

/-- What an exclusion changed in a lane that was VOTING, kept for the microtick of the exclusion (R66): the lane, its record,
its set-up writes, owed writes and presentations, its open window accesses by vote, its LANE_EXCL_COUNT, LANE_LAST_EXCL and
the recorder's count before. -/
structure ExclUndo where
  lane       : Lane
  record     : LaneSt
  queue      : List SetupReq
  stalled    : List SetupReq
  owed       : List Owed
  present    : List Present
  sigStalled : List Present
  votes      : List (Nat × WinAcc)
  count      : Nat
  last       : Word
  recorded   : Word
deriving DecidableEq, Repr

/-- The fault manager beside its registers: the pending store (16 records in detection order, R351), the corrected words
(64, R358), the exclusions of the microtick `exclMt` (R66), newest first. -/
structure FaultSt where
  pending   : List Record
  corrected : List Corrected
  exclNow   : List ExclUndo
  exclMt    : Nat
deriving DecidableEq, Repr

/-! ### Pair -/

/-- The pair beside its registers.  Control: claim in progress with its raw time, raw time since which MST_IN shows no
MASTERY, GIVE_UP received, last STATUS and HELLO of the partner, silence, the cause with which this module gave up, raw time
of the latest SAFE_HALT and whether COMMON_CAUSE_STOP led to it.  Mirroring: whether the partner takes journal batches, items
not yet mirrored, batches sent and not acknowledged, checks sent and not acknowledged, COLLECT digests since the last check with
the blocks written and the base cycle, slots captured since the last image MIRROR.  Standby: mirrored images as (image,
bytes, cycle start, SAMPLE_TIME) and volatile slot parts by task, window results that wait for their access, unconfirmed
OUTPUT blocks (R323), whether a SAMPLE was made since the takeover, runs of differing SAMPLEs by channel (49 standstill, 50
speed) and of agreeing ones.  Overruns of this module and notices of the partner (R141); exchange and sleep boundaries from
the partner; eligibility reason, cycles counted, whether something was missing in the running cycle, raw
time since which the lines read correctly, line fault standing; raw
times of HELLO and of a failed join attempt. -/
structure PairSt where
  claimAt     : Option Nat
  noMastery   : Nat
  give        : Option GiveUpCause
  partner     : Option StatusInfo
  hello       : Option HelloInfo
  silent      : Bool
  gaveUp      : Option GiveUpCause
  haltRaw     : Nat
  common      : Bool
  mirroring   : Bool
  delta       : List JItem
  batchSeq    : Word
  batchOpen   : List (Word × List JItem)
  checkSeq    : Word
  checkOpen   : List Word
  digests     : List (CheckItem × List Nat × Nat)
  snapsSince  : List Nat
  images      : List (Nat × List Byte × Dword × Dword)
  slots       : List (Nat × List (Nat × Word))
  results     : List WindowResult
  unconfirmed : List Nat
  ownImage    : Bool
  xchkRun     : Tab Nat
  xchkOk      : Nat
  overruns    : List (Nat × Word)
  notices     : List (Nat × Word)
  exchangeHp  : Option Word
  sleepHp     : Option Word
  reason      : Nat
  eligCount   : Nat
  cycleBad    : Bool
  lineOkRaw   : Nat
  lineFault   : Bool
  joinRaw     : Nat
  retryRaw    : Option Nat
deriving DecidableEq, Repr

/-! ### Skerry, image store -/

/-- Skerry beside its registers (R362): supply valid, hold-up charged, the two copies of the non-volatile store as
(corrected time, operating minutes, power cycles, readable), which copy is written next, the carried TIME_VALID, wake
sources asserted between a sleep command and the end of SLEEP entry (R368), SLEEP entry running, a power-fail warning given, X_PWR valid
again since (R394), raw time at which an interruption began. -/
structure SkerrySt where
  powered    : Bool
  charged    : Bool
  nv0        : Dword × Word × Word × Bool
  nv1        : Dword × Word × Word × Bool
  nextCopy   : Nat
  timeValid  : Bool
  lostSupply : Bool
  held       : Nat
  entering   : Bool
  warned     : Bool
  back       : Option (BitVec 12)
  interruptRaw : Option Nat
deriving DecidableEq, Repr

/-- States of an image-store slot (R383). -/
inductive SlotState where
  | empty | open_ | valid
deriving DecidableEq, Repr

/-- An image-store slot (R376, R377): state, TYPE it was opened for, bytes allocated, bytes written, content (header then
payload), damage mark. -/
structure Slot where
  state   : SlotState
  typ     : Nat
  alloc   : Nat
  written : Nat
  content : Mem
  damaged : Bool
deriving DecidableEq, Repr

/-- A bank's boot set (R376). -/
structure BootSet where
  slots      : List Nat
  generation : Word
  valid      : Bool
deriving DecidableEq, Repr

/-- Operands of an image-store command (R383, R384). -/
structure ImgArgs where
  slot    : Nat
  typ     : Nat
  bank    : Nat
  len     : Nat
  src     : Nat
  bootSet : List Nat
deriving DecidableEq, Repr

/-- The image store beside its registers: the slots by number 0 to 255, the boot sets, the enrolled keys (R378), the command that
runs with its operands and whether it came over X_SVC, whether the start has fallen back, whether the image checks have passed,
whether the open slot belongs to X_SVC. -/
structure StoreSt where
  slots     : Tab Slot
  boot0     : BootSet
  boot1     : BootSet
  keys      : Tab (List Byte)
  running   : Option (Nat × ImgArgs × Bool)
  fellBack  : Bool
  checksOk  : Bool
  viaSvc    : Bool
deriving DecidableEq, Repr

/-! ### PTP clock (R174 to R178) -/

/-- The delay state of a PTP port: path or peer delay in ns with the raw time of its measurement, the running request as
(sequenceId, egress time), receive time stamp of the response with its correction, the latest master-to-slave difference, sequenceIds
of the next messages, the Sync that waits for its Follow_Up as (sender, sequenceId, ingress time, correction), the responses and Follow_Ups due. -/
structure PtpPort where
  delay     : Option (Int × Nat)
  request   : Option (BitVec 16 × Option Dword)
  pdResp    : Option (Dword × Dword × Int)
  ms        : Option Int
  sync      : Option (PortId × BitVec 16 × Dword × Int)
  nextSync  : BitVec 16
  nextDelay : BitVec 16
  nextAnn   : BitVec 16
  sentAt    : Tab Nat
  due       : List (PtpKind × PortId × BitVec 16 × Dword)
  best      : Option (PortId × DataSet)
  lastAnn   : Nat
deriving DecidableEq, Repr

/-- An event message that a switch has forwarded and whose residence waits for the associated message (R175): ingress and egress
port, sender, sequenceId, domain, messageType, ingress time. -/
structure Residence where
  inp    : Nat
  outp   : Nat
  source : PortId
  seq    : BitVec 16
  domain : Nat
  mtype  : Nat
  time   : Dword
deriving DecidableEq, Repr

/-- PTP beside the registers: ports 0 to 9, grandmaster, event messages whose residence waits. -/
structure PtpSt where
  ports     : Tab PtpPort
  gm        : Option Dword
  residence : List Residence
deriving DecidableEq, Repr

/-! ### Train network -/

/-- An ARP cache entry (R188): plane, address, the MAC address once resolved, raw time of the last answer, unanswered
refreshes, raw time of the first request. -/
structure ArpEntry where
  plane : Nat
  ip    : Word
  mac   : Option (BitVec 48)
  at_   : Nat
  tries : Nat
  first : Nat
deriving DecidableEq, Repr

/-- A copy in a receive buffer slot (R194): plane, slot, sequenceCounter, ingress time, whether it came since the previous
SAMPLE, microtick in which it was stored. -/
structure FlowCopy where
  plane : Nat
  slot  : Nat
  seq   : Word
  time  : Dword
  fresh : Bool
  mt    : Nat
deriving DecidableEq, Repr

/-- Reception state of an image record (R195, R196, R199, R235): freshness code, whether a payload has been accepted, its
SEQ and receive time, AGE, payload kept, base-cycle number of the previous SAMPLE, and per plane the base cycles without a
copy and whether PLANE_LOST stands. -/
structure RxState where
  fresh    : Nat
  held     : Bool
  seq      : Word
  time     : Dword
  age      : Nat
  payload  : List Byte
  last     : Option Nat
  missA    : Nat
  missB    : Nat
  lostA    : Bool
  lostB    : Bool
deriving DecidableEq, Repr

/-- A flow context beside its registers: stored copies, reception state, replies sent, a waiting reply as (plane, address,
comId), unresolved planes reported. -/
structure FlowSt where
  copies     : List FlowCopy
  rx         : RxState
  replies    : Word
  reply      : Option (Nat × Word × Word)
  unresolved : List Nat
deriving DecidableEq, Repr

/-- A message-data send in progress: ring, SEQ, planes sent on, raw time of the first attempt, the planes whose destination
is still unresolved, the frames handed to the switches. -/
structure MdSend where
  ring    : Nat
  seq     : Word
  sent    : List Nat
  first   : Nat
  open_   : List Nat
  frames  : List EthFrame
deriving DecidableEq, Repr

/-- A reply supervision entry (R201): ring, SEQ, session, raw time of its expiry. -/
structure Superv where
  ring    : Nat
  seq     : Word
  session : BitVec 128
  expires : Nat
deriving DecidableEq, Repr

/-- A tunnel context beside its registers (R203, R204): frames held with their receive times, the raw times at which they were
received, datagram counter, raw time of the last TUN_DROP, drops since. -/
structure TunnelSt where
  held    : List (CanFrame × Dword)
  since   : List Nat
  counter : Word
  dropAt  : Option Nat
  drops   : Nat
deriving DecidableEq, Repr

/-- The network engine and the two switches (R185 to R205): learned addresses as (plane, MAC, port, raw time), egress
queues keyed port * 8 + PCP, frames that ports send as (port, raw time of the end, frame), frames at the internal ports with
their ingress time, flow contexts, ARP caches, supervision entries, the last 64 accepted MD, message-data sends, tunnels. -/
structure NetSt where
  mac      : List (Nat × BitVec 48 × Nat × Nat)
  egress   : Tab (List EthFrame)
  sending  : List (Nat × Nat × EthFrame)
  engine   : List (Nat × EthFrame × Dword)
  flows    : Tab FlowSt
  arp      : List ArpEntry
  superv   : List Superv
  repeats  : List (Word × BitVec 128 × Word)
  sends    : List MdSend
  tunnels  : Tab TunnelSt
deriving DecidableEq, Repr

/-! ### Rammaon -/

/-- A safe connection beside its registers: its SDC (R211), the time l_r of R215, base cycles since the last release or
the entry into CONFIRM, raw time of the last rejection event, whether the last released container carried FORCED. -/
structure SafeConn where
  sdc     : Word
  refTime : Word
  cycles  : Nat
  evAt    : Option Nat
deriving DecidableEq, Repr

/-! ### CAN -/

/-- Source of a transmit-queue entry (R237): the scheduled frame of a slot, the reference message, a ring frame with its
SEQ, SINGLE_SHOT and deadline, a tunnel record. -/
inductive CanSrc where
  | slot (n : Nat)
  | reference
  | ring (n : Nat) (seq : Word) (single : Bool) (deadline : Option Dword)
  | tunnel
deriving DecidableEq, Repr

/-- A transmit-queue entry: frame, source, attempts made, and the SOF time while it is in transmission. -/
structure TxEntry where
  frame    : CanFrame
  src      : CanSrc
  attempts : Nat
  sof      : Option Dword
deriving DecidableEq, Repr

/-- A CAN channel beside its registers: the transmit queue in queue order, suspend time running, recovery sequence
started, raw time of bus-off, the supply of its group lost at bus-off, SEQ and SOF of the reference message, raw time of
the last SLOT_MISSED, bytes and records in its open receive buffer, whether it waits for 11 recessive bits after a
takeover, the transmitter loop delay kept from the last measurement and the secondary sample point of the frame that it was
measured on, in CAN clock periods (R231). -/
structure CanCh where
  queue     : List TxEntry
  suspend   : Bool
  recovery  : Bool
  busOffAt  : Nat
  noSupply  : Bool
  refSeq    : Nat
  refSof    : Option Dword
  missedAt  : Option Nat
  rxBytes   : Nat
  rxCount   : Nat
  waitIdle  : Bool
  loopDelay : Nat
  ssp       : Nat
deriving DecidableEq, Repr

/-- An IMAGE filter (R235): its newest frame with SOF time, frames since the previous SAMPLE, the frames received in the
microtick `lateMt`, which belong to the next SAMPLE of that microtick, reception state, and which half of its double slot took the
last frame. -/
structure CanFlt where
  newest : Option (CanFrame × Dword)
  count  : Nat
  late   : List (CanFrame × Dword)
  lateMt : Nat
  rx     : RxState
  half   : Bool
deriving DecidableEq, Repr

/-! ### Isthmus -/

/-- A vote on a window access (R260): stream (none: the voted stream; a lane in SPLIT), count in it, accesses that arrived,
the access of two matching ones, microtick of its first access, raw time at which it formed, stream index (R334), place in
the order of operations, whether it holds a delayed-read slot, the prefetched block that serves it, its result, lanes to
which the result was delivered, whether it closed without a majority (R260). -/
structure WinVote where
  stream : Option Lane
  index  : Nat
  got    : List WinAcc
  chosen : Option WinAcc
  openMt : Nat
  formed : Option Nat
  sindex : Nat
  order  : Nat
  slot   : Bool
  block  : Option Nat
  result : Option (WinCause × Dword)
  told   : List Lane
  stuck  : Bool
deriving DecidableEq, Repr

/-- A posted write (R268): stream, window, crate address, size, bytes in crate order, TAG, order in its stream, whether it
has failed and waits for its record. -/
structure PostedWrite where
  stream : Option Lane
  window : Nat
  addr   : Nat
  bytes  : List Byte
  tag    : Word
  order  : Nat
  failed : Bool
deriving DecidableEq, Repr

/-- A prefetched block in a delayed-read slot (R265): window, crate address of the block, its 32 bytes, which of its 16
words a vote delivered, raw time of its fill or last hit, its number, whether it was discarded while a vote that it serves
was still to be delivered. -/
structure Prefetch where
  id        : Nat
  dead      : Bool
  window    : Nat
  addr      : Nat
  bytes     : List Byte
  delivered : List Nat
  at_       : Nat
deriving DecidableEq, Repr

/-- What a crate cycle serves: a voted access or a posted write by its place in the order of operations, a scheduled
transfer, a block of a ring transfer. -/
inductive BusOwner where
  | lane (order : Nat)
  | posted (order : Nat)
  | xfer (i : Nat)
  | ring (n : Nat) (seq : Word)
deriving DecidableEq, Repr

/-- A crate cycle in progress or waiting to be repeated (R254 to R256): owner, window, direction (true: write), crate byte
address, byte cycle, words still to move, words to write, words read so far, retries used, raw time of T1. -/
structure BusOp where
  owner   : BusOwner
  window  : Nat
  write   : Bool
  addr    : Nat
  single  : Bool
  count   : Nat
  out     : List (BitVec 16)
  got     : List (BitVec 16)
  retries : Nat
  at_     : Nat
deriving DecidableEq, Repr

/-- Transfer table state (R274): status and cause of the latest outcome, whether a read completed since the previous
SAMPLE, AGE base, words of the latest read and their time, its bytes as the lanes see them, those of the last FRESH, and which half
of its double slot took the latest read. -/
structure XferSt where
  status : Nat
  cause  : WinCause
  fresh  : Bool
  last   : Option Nat
  words  : List (BitVec 16)
  time   : Dword
  held   : List Byte
  shown  : List Byte
  half   : Bool
deriving DecidableEq, Repr

/-- A stream's fence summary (R270): failed posted writes since the previous fence read, window and address of the first. -/
structure FenceSum where
  failed : Nat
  window : Nat
  addr   : Nat
deriving DecidableEq, Repr

/-- A ring transfer in progress (R275): ring, SEQ, blocks acknowledged, bytes done, bytes read so far. -/
structure RingXfer where
  ring   : Nat
  seq    : Word
  blocks : Nat
  done   : Nat
  data   : List Byte
deriving DecidableEq, Repr

/-- A sensed interrupt that waits for its record (R277): line, posted writes and ring blocks that were in progress. -/
structure IntWait where
  line   : Nat
  posted : List Nat
  rings  : List RingXfer
deriving DecidableEq, Repr

/-- The bridge beside its registers: accesses counted per lane (R260), votes, posted writes, prefetched blocks, the cycle on
the bus, operations that wait for their repeat with the raw time it may start, transfers due, ring transfers, the next of
the two alternating classes (R267), transfer table state, fence summaries per stream, the raw time until which RESET_N is
low, interrupts that wait for their record, stores seen by the bus monitor, the voted stream's count (R334), the order
counter. -/
structure IsthSt where
  counts   : PerLane Nat
  votes    : List WinVote
  posted   : List PostedWrite
  fetched  : List Prefetch
  bus      : Option BusOp
  retry    : List (BusOp × Nat)
  due      : List Nat
  rings    : List RingXfer
  ringTurn : Bool
  xfers    : Tab XferSt
  fences   : Tab FenceSum
  resetTo  : Option Nat
  ints     : List IntWait
  monitor  : List (BitVec 24 × List (BitVec 16))
  stream   : Nat
  order    : Nat
deriving DecidableEq, Repr

/-! ### Holm and motion -/

/-- A field group (R289, R290): sequence bit last accepted, raw time of the last accepted refresh and of the last
BAD_REFRESH event, sequence bit sent, refreshes on the Holm link as (values, sequence bit). -/
structure HolmGroup where
  lastBit  : Option Bool
  refreshAt : Nat
  badAt    : Option Nat
  sendBit  : Bool
  link     : List (Nat × Bool)
deriving DecidableEq, Repr

/-- An output (R295 to R297, R309): commanded value of the last refresh, raw time of the last change of its commanded value
after gating, end of the off-pulse in progress, start of the latest one, open-load episode, held OFF by a gate. -/
structure HolmOut where
  command   : Bool
  changedAt : Nat
  pulse     : Option Nat
  lastPulse : Option Nat
  openLoad  : Bool
  gated     : Bool
deriving DecidableEq, Repr

/-- An input (R283, R284): raw level, raw time and µs time of the change that began the stable run, edge counter, voltage of its
terminal above FS− in 0.1 V, raw time to which it sinks the cleaning current. -/
structure HolmIn where
  raw     : Bool
  since   : Nat
  time    : Dword
  count   : Word
  volts   : Nat
  cleanTo : Nat
deriving DecidableEq, Repr

/-- Holm beside its registers: inputs, outputs and groups by number from 1, demagnetisation energy of the last second as
(raw time, group, mJ), power on. -/
structure HolmSt where
  ins    : Tab HolmIn
  outs   : Tab HolmOut
  groups : Tab HolmGroup
  demag  : List (Nat × Nat × Nat)
  power  : Bool
deriving DecidableEq, Repr

/-- A speed sensor (R300 to R302): levels of A and B, edge counters, POSITION, steps kept as (raw time, time in ns,
POSITION), raw times of quadrature errors, consecutive edges on one channel as (channel B, count). -/
structure Sensor where
  a     : Bool
  b     : Bool
  cntA  : Word
  cntB  : Word
  pos   : Int
  steps : List (Nat × Dword × Int)
  quads : List Nat
  run   : Option (Bool × Nat)
deriving DecidableEq, Repr

/-- The motion unit beside its registers: sensors by number from 1, ms of the latest tick, ticks since which a condition of
R304 holds on a pair (key 8 * i + j, plus 64 for the sign mismatch), raw time since which the limit is exceeded, accepted
selection (none: entry 0 by default) with its raw time, sequence bits and the selections on the link, resets, the running
press of the reset input as (raw rise, ns of the rise, by acceptance), a judged press waiting for its tick as (h in ms, ns
of its end), power-up raw time. -/
structure MotionSt where
  sensors  : Tab Sensor
  tickMs   : Nat
  implaus  : Tab Nat
  overAt   : Option Nat
  selected : Option Nat
  selAt    : Nat
  lastBit  : Option Bool
  sendBit  : Bool
  link     : List (Nat × Bool)
  resets   : Nat
  press    : Option (Nat × Dword × Bool)
  judge    : Option (Nat × Nat)
  powerAt  : Nat
deriving DecidableEq, Repr

/-! ### Recorder, service, test port -/

/-- A log entry (R421). -/
structure LogEntry where
  record  : Record
  app     : Bool
  clear   : Bool
  seq     : Word
  minutes : Word
  cycles  : Word
  poison  : Bool
deriving DecidableEq, Repr

/-- An extreme with the operating minutes and power cycles at which it was taken (R419). -/
structure Extreme where
  value   : Int
  minutes : Word
  cycles  : Word
deriving DecidableEq, Repr

/-- The recorder region (R417): the two copies of the clear record as (count, minutes, cycles, poisoned), the copy written
next, histograms keyed 16 * quantity + bin, extremes keyed 2 * quantity (+ 1 for the highest), counters, poisoned words of
the quantity area by byte offset, the log, whether REC_FULL was raised since the last clear, the clear that runs as its
source and requester. -/
structure RecSt where
  clear0   : Word × Word × Word × Bool
  clear1   : Word × Word × Word × Bool
  nextCopy : Nat
  hist     : Tab Word
  extremes : List (Nat × Extreme)
  counters : Tab Word
  poison   : List Nat
  log      : List LogEntry
  displaced : Bool
  clearing : Option (Nat × Option SvcReq)
deriving DecidableEq, Repr

/-- Service access (R433 to R438): NONCE with its raw time, SALT and derived password key, module key, holder, raw time of
the holder's last request, link, address in force, answer that waits for the image-store command, register writes of the
microtick `writtenMt` (R437). -/
structure SvcSt where
  nonce   : Option (BitVec 128 × Nat)
  salt    : BitVec 128
  pwKey   : BitVec 256
  modKey  : BitVec 256
  holder  : Option (Word × BitVec 16)
  lastReq : Nat
  link    : Bool
  address : Word
  imgFrom : Option SvcReq
  written : List (Nat × Word)
  writtenMt : Nat
deriving DecidableEq, Repr

/-- The test access port (R439 to R441): instruction register, instruction in effect, update latch of the boundary
register. -/
structure TapSt where
  ir     : Byte
  acting : Option Byte
  cells  : BitVec 257
deriving DecidableEq, Repr

end Sys2Proof.Machine
end

