-- ==== Sys2Proof/Machine/Mem.lean ====
section
/-!
DEFINITION. Sparse tables and memories: look-up, write in canonical form (keys rising, no entry equal to the default),
bytes and little-endian words (R6), the poison mark of 16-byte words (R356).
-/

namespace Sys2Proof.Machine

/-- An empty memory: no byte listed, no poison. -/
def noMem : Mem := ⟨[], [], []⟩

/-- Value under a key, or the default. -/
def tget {α : Type} (d : α) : Tab α → Nat → α
  | [], _ => d
  | (k', v) :: r, k => if k' = k then v else tget d r k

/-- The table with a value put under a key, keys rising. -/
def tput {α : Type} : Tab α → Nat → α → Tab α
  | [], k, v => [(k, v)]
  | (k', v') :: r, k, v =>
    if k < k' then (k, v) :: (k', v') :: r
    else if k = k' then (k, v) :: r
    else (k', v') :: tput r k v

/-- The table without a key. -/
def tdel {α : Type} : Tab α → Nat → Tab α
  | [], _ => []
  | (k', v') :: r, k => if k' = k then tdel r k else (k', v') :: tdel r k

/-- The table with a key's value replaced, in canonical form: no entry equal to the default `d`. -/
def tset {α : Type} [DecidableEq α] (d : α) (t : Tab α) (k : Nat) (v : α) : Tab α :=
  if v = d then tdel t k else tput t k v

/-- Keys rise strictly and no value equals the default of its key. -/
def tabWf {α : Type} [DecidableEq α] (d : Nat → α) : Tab α → Bool
  | [] => true
  | [(k, v)] => decide (v ≠ d k)
  | (k, v) :: (k', v') :: r => decide (v ≠ d k) && decide (k < k') && tabWf d ((k', v') :: r)

/-- Strictly rising list of numbers. -/
def risingWf : List Nat → Bool
  | [] => true
  | [_] => true
  | a :: b :: r => decide (a < b) && risingWf (b :: r)

/-- Insert a number into a strictly rising list. -/
def risingPut : List Nat → Nat → List Nat
  | [], k => [k]
  | a :: r, k => if k < a then k :: a :: r else if k = a then a :: r else a :: risingPut r k

/-- Remove a number from a list. -/
def risingDel (l : List Nat) (k : Nat) : List Nat := l.filter (· ≠ k)

/-- The canonical form of a memory. -/
def Memory.wf (m : Mem) : Bool := tabWf (fun _ => (0 : Byte)) m.cells && risingWf m.poison && risingWf m.broken

/-- The byte at an address; an unlisted byte reads 0 (assumption log 3). -/
def readByte (m : Mem) (a : Nat) : Byte := tget 0 m.cells a

/-- The memory with one byte written; the poison mark of its word stands (R356: a partial write keeps the mark). -/
def writeByte (m : Mem) (a : Nat) (b : Byte) : Mem := { m with cells := tset 0 m.cells a b }

/-- `n` bytes from an address. -/
def readBytes (m : Mem) (a : Nat) : Nat → List Byte
  | 0 => []
  | n + 1 => readByte m a :: readBytes m (a + 1) n

/-- Bytes written from an address, one after another. -/
def putBytes (m : Mem) (a : Nat) : List Byte → Mem
  | [] => m
  | b :: r => putBytes (writeByte m a b) (a + 1) r

/-- The poison marks left after `n` bytes from `a` are written anew: a word covered whole loses its mark (R356). -/
def clearPoison (m : Mem) (a n : Nat) : Mem :=
  let keep := fun (l : List Nat) => l.filter (fun w => !(decide (a ≤ 16 * w) && decide (16 * w + 16 ≤ a + n)))
  { m with poison := keep m.poison, broken := keep m.broken }

/-- Bytes written from an address, with R356's rule for poison marks. -/
def writeBytes (m : Mem) (a : Nat) (bs : List Byte) : Mem := clearPoison (putBytes m a bs) a bs.length

/-- Mark the words of `n` bytes from `a` as poisoned (R356). -/
def markPoison (m : Mem) (a n : Nat) : Mem :=
  { m with poison := (List.range ((a + n + 15) / 16 - a / 16)).foldl (fun p i => risingPut p (a / 16 + i)) m.poison }

/-- Mark the word at `a` as UNCORRECTABLE (R355). -/
def markBroken (m : Mem) (a : Nat) : Mem := { m with broken := risingPut m.broken (a / 16) }

/-- A 16-byte word lies in the `n` bytes from `a`, whole or in part. -/
def wordIn (a n w : Nat) : Bool := decide (16 * w < a + n) && decide (a < 16 * w + 16)

/-- Words of the `n` bytes from `a` that decode POISONED or UNCORRECTABLE, with DETAIL_B of R361. -/
def badWords (m : Mem) (a n : Nat) : List (Nat × Nat) :=
  ((m.poison.filter (wordIn a n)).map (fun w => (w, 2))) ++ ((m.broken.filter (wordIn a n)).map (fun w => (w, 1)))

/-- Some word of the `n` bytes from `a` is passed on with a poison tag (R356). -/
def isPoisoned (m : Mem) (a n : Nat) : Bool :=
  m.poison.any (wordIn a n) || m.broken.any (wordIn a n)

/-- Little-endian value of bytes. -/
def leVal : List Byte → Nat
  | [] => 0
  | b :: r => b.toNat + 256 * leVal r

/-- `n` little-endian bytes of a number. -/
def leBytes : Nat → Nat → List Byte
  | 0, _ => []
  | n + 1, v => BitVec.ofNat 8 v :: leBytes n (v / 256)

/-- Big-endian value of bytes. -/
def beVal (bs : List Byte) : Nat := bs.foldl (fun v b => 256 * v + b.toNat) 0

/-- `n` big-endian bytes of a number. -/
def beBytes (n v : Nat) : List Byte := (leBytes n v).reverse

/-- Little-endian number of `n` bytes at an address. -/
def readLE (m : Mem) (a n : Nat) : Nat := leVal (readBytes m a n)

/-- Bits hi:lo of a number. -/
def bitsOf (v hi lo : Nat) : Nat := v / 2 ^ lo % 2 ^ (hi - lo + 1)

/-- Signed reading of the low `w` bits. -/
def signedOf (w v : Nat) : Int := if v % 2 ^ w < 2 ^ (w - 1) then (v % 2 ^ w : Nat) else (v % 2 ^ w : Nat) - (2 ^ w : Nat)

/-- Two's complement in `w` bits. -/
def toTwos (w : Nat) (i : Int) : Nat := (i % (2 ^ w : Nat)).toNat

/-- The list filled or cut to a length. -/
def fit {α : Type} (n : Nat) (d : α) (l : List α) : List α := l.take n ++ List.replicate (n - l.length) d

/-- Element of a list, or the default. -/
def nth {α : Type} (d : α) (l : List α) (i : Nat) : α := (l[i]?).getD d

/-- The list with an element replaced. -/
def setNth {α : Type} (l : List α) (i : Nat) (x : α) : List α := l.set i x

/-- Subtraction of running 32-bit counts, modulo 2^32. -/
def wsub (a b : Word) : Nat := (a - b).toNat

end Sys2Proof.Machine
end

