-- ==== Sys2Proof/Machine/Regs.lean ====
section
/-!
DEFINITION. The set-up register map (R28 and the register table of each block): the key of every register,
and one row per register or register array giving its place, access code (R7), the bits that a committed write
changes, the bits that writing 1 clears, and its reset value.  A key is the lane address minus 0x03_0000_0000,
that is block number * 0x1_0000 + offset.  Where the register table gives no numeric reset value (factory, journal,
store, Skerry, MRAM) the row holds 0, or the letter A for MOD_HW_ISSUE, and assumption log entry 2 names it (DESIGN CHOICE).
-/

namespace Sys2Proof.Machine

/-- Access codes of R7. -/
inductive Access where
  | rw | ro | wo | w1c
deriving DecidableEq, Repr

/-- One register or register array: first key, stride between its elements, number of elements, access code,
bits that a committed write changes, bits that writing 1 clears, reset value. -/
structure RegRow where
  base   : Nat
  stride : Nat
  count  : Nat
  access : Access
  wmask  : Word
  cmask  : Word
  reset  : Word
deriving DecidableEq, Repr

namespace Reg

/-- MOD_STATE (R386). -/
abbrev modState : Nat := 0x0
/-- MOD_HW_ISSUE (R386). -/
abbrev modHwIssue : Nat := 0x4
/-- MOD_SLEEP_CMD (R386). -/
abbrev modSleepCmd : Nat := 0x8
/-- MOD_START_CMD (R386). -/
abbrev modStartCmd : Nat := 0xC
/-- MOD_BOOT_INFO (R386). -/
abbrev modBootInfo : Nat := 0x10
/-- MOD_COMPAT (R386). -/
abbrev modCompat : Nat := 0x14
/-- MOD_THERMAL (R415). -/
abbrev modThermal : Nat := 0x18
/-- MOD_RESTART_CFG (R163). -/
abbrev modRestartCfg : Nat := 0x300
/-- MOD_RESTART_CMD (R163). -/
abbrev modRestartCmd : Nat := 0x304
/-- MOD_RESTART_INFO (R163). -/
abbrev modRestartInfo : Nat := 0x308
/-- MOD_RETAIN_OUT (R163). -/
abbrev modRetainOut : Nat := 0x310
/-- MOD_RETAIN_SIZE (R163). -/
abbrev modRetainSize : Nat := 0x314
/-- MOD_RETAIN_DRAM (R163). -/
abbrev modRetainDram : Nat := 0x318
/-- MOD_RETAIN_GEN (R163). -/
abbrev modRetainGen : Nat := 0x31C
/-- MOD_SAFE_OUT_BASE (R163). -/
abbrev modSafeOutBase : Nat := 0x320
/-- MOD_SAFE_OUT_SIZE (R163). -/
abbrev modSafeOutSize : Nat := 0x324
/-- MOD_XCHG_REPORT (R163). -/
abbrev modXchgReport : Nat := 0x328
/-- MOD_XCHG_SUMMARY (R163). -/
abbrev modXchgSummary : Nat := 0x32C
/-- MOD_FORCE_TARGET (R163). -/
abbrev modForceTarget : Nat := 0x330
/-- MOD_FORCE_MASK (R163). -/
abbrev modForceMask : Nat := 0x334
/-- MOD_FORCE_VALUE (R163). -/
abbrev modForceValue : Nat := 0x338
/-- MOD_FORCE_CMD (R163). -/
abbrev modForceCmd : Nat := 0x33C
/-- MOD_FORCE_STATUS (R163). -/
abbrev modForceStatus : Nat := 0x340
/-- MOD_FORCE_ENTRY_T[n] (R163). -/
abbrev modForceEntryT (n : Nat) : Nat := 0x400 + 16 * n
/-- MOD_FORCE_ENTRY_M[n] (R163). -/
abbrev modForceEntryM (n : Nat) : Nat := 0x404 + 16 * n
/-- MOD_FORCE_ENTRY_V[n] (R163). -/
abbrev modForceEntryV (n : Nat) : Nat := 0x408 + 16 * n
/-- LANE_STATE (R86). -/
abbrev laneState : Nat := 0x10000
/-- LANE_MODE_REQ (R86). -/
abbrev laneModeReq : Nat := 0x10004
/-- LANE_CMD (R86). -/
abbrev laneCmd : Nat := 0x10008
/-- LANE_CFG (R86). -/
abbrev laneCfg : Nat := 0x1000C
/-- LANE_EXCL_COUNT (R86). -/
abbrev laneExclCount : Nat := 0x10010
/-- LANE_LAST_EXCL (R86). -/
abbrev laneLastExcl : Nat := 0x10014
/-- LANE_REJOIN_STATUS (R86). -/
abbrev laneRejoinStatus : Nat := 0x10018
/-- LANE_DIRTY_COUNT (R86). -/
abbrev laneDirtyCount : Nat := 0x1001C
/-- LANE_COPY_PASSES (R86). -/
abbrev laneCopyPasses : Nat := 0x10020
/-- LANE_SA_TOTAL (R86). -/
abbrev laneSaTotal : Nat := 0x10024
/-- LANE_SA_LOCK (R86). -/
abbrev laneSaLock : Nat := 0x10028
/-- LANE_HEALTH (R86). -/
abbrev laneHealth : Nat := 0x1002C
/-- LANE_SA_BASE[n] (R86). -/
abbrev laneSaBase (n : Nat) : Nat := 0x10100 + 8 * n
/-- LANE_SA_PAGES[n] (R86). -/
abbrev laneSaPages (n : Nat) : Nat := 0x10104 + 8 * n
/-- LANE_IRQ_EN (R86). -/
abbrev laneIrqEn : Nat := 0x10800
/-- LANE_IRQ_PEND (R86). -/
abbrev laneIrqPend : Nat := 0x10804
/-- LANE_TIMECMP_LO[n] (R86). -/
abbrev laneTimecmpLo (n : Nat) : Nat := 0x10810 + 8 * n
/-- LANE_TIMECMP_HI[n] (R86). -/
abbrev laneTimecmpHi (n : Nat) : Nat := 0x10814 + 8 * n
/-- CHRONO_STATUS (R55). -/
abbrev chronoStatus : Nat := 0x20000
/-- CHRONO_BANK_SEL (R55). -/
abbrev chronoBankSel : Nat := 0x20004
/-- CHRONO_LOAD (R55). -/
abbrev chronoLoad : Nat := 0x20008
/-- CHRONO_LOAD_RESULT (R55). -/
abbrev chronoLoadResult : Nat := 0x2000C
/-- CHRONO_CYCLE (R55). -/
abbrev chronoCycle : Nat := 0x20010
/-- CHRONO_HP_COUNT (R55). -/
abbrev chronoHpCount : Nat := 0x20014
/-- CHRONO_GEOMETRY (R55). -/
abbrev chronoGeometry : Nat := 0x20018
/-- CHRONO_CW (R55). -/
abbrev chronoCw : Nat := 0x2001C
/-- CHRONO_ALIGN (R55). -/
abbrev chronoAlign : Nat := 0x20020
/-- CHRONO_STRETCH_COUNT (R55). -/
abbrev chronoStretchCount : Nat := 0x20024
/-- CHRONO_FAULT_STATUS (R55). -/
abbrev chronoFaultStatus : Nat := 0x20028
/-- CHRONO_FAULT_ENTRY (R55). -/
abbrev chronoFaultEntry : Nat := 0x2002C
/-- CHRONO_ACTIVE_ID_LO (R55). -/
abbrev chronoActiveIdLo : Nat := 0x20030
/-- CHRONO_ACTIVE_ID_HI (R55). -/
abbrev chronoActiveIdHi : Nat := 0x20034
/-- CHRONO_SHADOW_ID_LO (R55). -/
abbrev chronoShadowIdLo : Nat := 0x20038
/-- CHRONO_SHADOW_ID_HI (R55). -/
abbrev chronoShadowIdHi : Nat := 0x2003C
/-- CHRONO_DOMAIN_STATE (R55). -/
abbrev chronoDomainState : Nat := 0x20040
/-- RING_CMD (R115). -/
abbrev ringCmd : Nat := 0x30000
/-- RING_JOURNAL_USED (R115). -/
abbrev ringJournalUsed : Nat := 0x30004
/-- RING_JOURNAL_BUILD_LO (R115). -/
abbrev ringJournalBuildLo : Nat := 0x30008
/-- RING_JOURNAL_BUILD_HI (R115). -/
abbrev ringJournalBuildHi : Nat := 0x3000C
/-- RING_ERROR (R115). -/
abbrev ringError : Nat := 0x30010
/-- RING_BASE[n] (R115). -/
abbrev ringBase (n : Nat) : Nat := 0x30100 + 32 * n
/-- RING_CTRL[n] (R115). -/
abbrev ringCtrl (n : Nat) : Nat := 0x30104 + 32 * n
/-- RING_CFG[n] (R115). -/
abbrev ringCfg (n : Nat) : Nat := 0x30108 + 32 * n
/-- RING_SEQ_START[n] (R115). -/
abbrev ringSeqStart (n : Nat) : Nat := 0x3010C + 32 * n
/-- RING_JQUOTA[n] (R115). -/
abbrev ringJquota (n : Nat) : Nat := 0x30110 + 32 * n
/-- RING_STATUS[n] (R115). -/
abbrev ringStatus (n : Nat) : Nat := 0x30114 + 32 * n
/-- RING_ACCEPTED[n] (R115). -/
abbrev ringAccepted (n : Nat) : Nat := 0x30118 + 32 * n
/-- RING_COMPLETED[n] (R115). -/
abbrev ringCompleted (n : Nat) : Nat := 0x3011C + 32 * n
/-- EVQ_CMD (R116). -/
abbrev evqCmd : Nat := 0x40000
/-- EVQ_ROUTE_LO (R116). -/
abbrev evqRouteLo : Nat := 0x40004
/-- EVQ_ROUTE_HI (R116). -/
abbrev evqRouteHi : Nat := 0x40008
/-- EVQ_OVF_STATUS (R116). -/
abbrev evqOvfStatus : Nat := 0x4000C
/-- EVQ_ERROR (R116). -/
abbrev evqError : Nat := 0x40010
/-- EVQ_BASE[n] (R116). -/
abbrev evqBase (n : Nat) : Nat := 0x40100 + 32 * n
/-- EVQ_CTRL[n] (R116). -/
abbrev evqCtrl (n : Nat) : Nat := 0x40104 + 32 * n
/-- EVQ_CFG[n] (R116). -/
abbrev evqCfg (n : Nat) : Nat := 0x40108 + 32 * n
/-- EVQ_TAIL[n] (R116). -/
abbrev evqTail (n : Nat) : Nat := 0x4010C + 32 * n
/-- EVQ_HEAD[n] (R116). -/
abbrev evqHead (n : Nat) : Nat := 0x40110 + 32 * n
/-- EVQ_STATUS[n] (R116). -/
abbrev evqStatus (n : Nat) : Nat := 0x40114 + 32 * n
/-- TASK_OVERRUN_LO (R142). -/
abbrev taskOverrunLo : Nat := 0x50000
/-- TASK_OVERRUN_HI (R142). -/
abbrev taskOverrunHi : Nat := 0x50004
/-- TASK_LAST_OVERRUN (R142). -/
abbrev taskLastOverrun : Nat := 0x50008
/-- TASK_PARTNER_NOTICE (R142). -/
abbrev taskPartnerNotice : Nat := 0x5000C
/-- TASK_TABLE_CHECK (R142). -/
abbrev taskTableCheck : Nat := 0x50010
/-- TASK_CMD (R142). -/
abbrev taskCmd : Nat := 0x50014
/-- TASK_INFO[n] (R142). -/
abbrev taskInfo (n : Nat) : Nat := 0x50100 + 16 * n
/-- TASK_DLV_BASE[n] (R142). -/
abbrev taskDlvBase (n : Nat) : Nat := 0x50104 + 16 * n
/-- TASK_RESP_MAX[n] (R142). -/
abbrev taskRespMax (n : Nat) : Nat := 0x50108 + 16 * n
/-- TASK_OVERRUN_COUNT[n] (R142). -/
abbrev taskOverrunCount (n : Nat) : Nat := 0x5010C + 16 * n
/-- TRANSIT_STATUS (R183). -/
abbrev transitStatus : Nat := 0x60000
/-- TRANSIT_CFG (R183). -/
abbrev transitCfg : Nat := 0x60004
/-- TRANSIT_SERVO (R183). -/
abbrev transitServo : Nat := 0x60008
/-- TRANSIT_CMD (R183). -/
abbrev transitCmd : Nat := 0x6000C
/-- TRANSIT_RATE (R183). -/
abbrev transitRate : Nat := 0x60010
/-- TRANSIT_OFFSET (R183). -/
abbrev transitOffset : Nat := 0x60014
/-- TRANSIT_MEAN_DELAY (R183). -/
abbrev transitMeanDelay : Nat := 0x60018
/-- TRANSIT_ERROR (R183). -/
abbrev transitError : Nat := 0x6001C
/-- TRANSIT_BASE_TIME_LO (R183). -/
abbrev transitBaseTimeLo : Nat := 0x60020
/-- TRANSIT_BASE_TIME_HI (R183). -/
abbrev transitBaseTimeHi : Nat := 0x60024
/-- TRANSIT_BASE_RAW_LO (R183). -/
abbrev transitBaseRawLo : Nat := 0x60028
/-- TRANSIT_BASE_RAW_HI (R183). -/
abbrev transitBaseRawHi : Nat := 0x6002C
/-- TRANSIT_BASE_RAW_FRAC (R183). -/
abbrev transitBaseRawFrac : Nat := 0x60030
/-- TRANSIT_CAP_TIME_LO (R183). -/
abbrev transitCapTimeLo : Nat := 0x60034
/-- TRANSIT_CAP_TIME_HI (R183). -/
abbrev transitCapTimeHi : Nat := 0x60038
/-- TRANSIT_CAP_RAW_LO (R183). -/
abbrev transitCapRawLo : Nat := 0x6003C
/-- TRANSIT_CAP_RAW_HI (R183). -/
abbrev transitCapRawHi : Nat := 0x60040
/-- TRANSIT_CAP_RAW_FRAC (R183). -/
abbrev transitCapRawFrac : Nat := 0x60044
/-- TRANSIT_STEP_LO (R183). -/
abbrev transitStepLo : Nat := 0x60048
/-- TRANSIT_STEP_HI (R183). -/
abbrev transitStepHi : Nat := 0x6004C
/-- TRANSIT_PTP_CFG (R183). -/
abbrev transitPtpCfg : Nat := 0x60050
/-- TRANSIT_PTP_INTERVALS (R183). -/
abbrev transitPtpIntervals : Nat := 0x60054
/-- TRANSIT_PORT_STATE (R183). -/
abbrev transitPortState : Nat := 0x60058
/-- TRANSIT_TSQ_STATUS (R183). -/
abbrev transitTsqStatus : Nat := 0x6005C
/-- TRANSIT_PULSE_CFG (R183). -/
abbrev transitPulseCfg : Nat := 0x60060
/-- TRANSIT_PULSE_IN_LO (R183). -/
abbrev transitPulseInLo : Nat := 0x60064
/-- TRANSIT_PULSE_IN_HI (R183). -/
abbrev transitPulseInHi : Nat := 0x60068
/-- TRANSIT_LATENCY[n] (R183). -/
abbrev transitLatency (n : Nat) : Nat := 0x60100 + 4 * n
/-- NET_STATUS (R206). -/
abbrev netStatus : Nat := 0x70000
/-- NET_IP_A (R206). -/
abbrev netIpA : Nat := 0x70010
/-- NET_IP_B (R206). -/
abbrev netIpB : Nat := 0x70014
/-- NET_PREFIX (R206). -/
abbrev netPrefix : Nat := 0x70018
/-- NET_MAC_LO (R206). -/
abbrev netMacLo : Nat := 0x7001C
/-- NET_MAC_HI (R206). -/
abbrev netMacHi : Nat := 0x70020
/-- NET_UDP_PORTS (R206). -/
abbrev netUdpPorts : Nat := 0x70024
/-- NET_TUN_PORT (R206). -/
abbrev netTunPort : Nat := 0x70028
/-- NET_TOPO_ETB (R206). -/
abbrev netTopoEtb : Nat := 0x7002C
/-- NET_TOPO_OPTRN (R206). -/
abbrev netTopoOptrn : Nat := 0x70030
/-- NET_RX_ROUTE (R206). -/
abbrev netRxRoute : Nat := 0x70034
/-- NET_RX_COUNTS (R206). -/
abbrev netRxCounts : Nat := 0x70038
/-- NET_RX_COUNTS_B (R206). -/
abbrev netRxCountsB : Nat := 0x7003C
/-- NET_ERROR (R206). -/
abbrev netError : Nat := 0x70040
/-- NET_CMD (R206). -/
abbrev netCmd : Nat := 0x70044
/-- NET_CFG_RESULT (R206). -/
abbrev netCfgResult : Nat := 0x70048
/-- NET_PORT_CFG[n] (R206). -/
abbrev netPortCfg (n : Nat) : Nat := 0x70080 + 4 * n
/-- NET_PORT_STATUS[n] (R206). -/
abbrev netPortStatus (n : Nat) : Nat := 0x700A0 + 4 * n
/-- NET_VLAN[n] (R206). -/
abbrev netVlan (n : Nat) : Nat := 0x700C0 + 4 * n
/-- NET_TUN_CFG[n] (R206). -/
abbrev netTunCfg (n : Nat) : Nat := 0x70100 + 8 * n
/-- NET_TUN_DST[n] (R206). -/
abbrev netTunDst (n : Nat) : Nat := 0x70104 + 8 * n
/-- NET_FLOW_CFG[n] (R206). -/
abbrev netFlowCfg (n : Nat) : Nat := 0x78000 + 32 * n
/-- NET_FLOW_COMID[n] (R206). -/
abbrev netFlowComid (n : Nat) : Nat := 0x78004 + 32 * n
/-- NET_FLOW_IP[n] (R206). -/
abbrev netFlowIp (n : Nat) : Nat := 0x78008 + 32 * n
/-- NET_FLOW_VLAN[n] (R206). -/
abbrev netFlowVlan (n : Nat) : Nat := 0x7800C + 32 * n
/-- NET_FLOW_DATA[n] (R206). -/
abbrev netFlowData (n : Nat) : Nat := 0x78010 + 32 * n
/-- NET_FLOW_IMG[n] (R206). -/
abbrev netFlowImg (n : Nat) : Nat := 0x78014 + 32 * n
/-- NET_FLOW_SEQ[n] (R206). -/
abbrev netFlowSeq (n : Nat) : Nat := 0x78018 + 32 * n
/-- NET_FLOW_STAT[n] (R206). -/
abbrev netFlowStat (n : Nat) : Nat := 0x7801C + 32 * n
/-- SAFE_STATUS (R222). -/
abbrev safeStatus : Nat := 0x80000
/-- SAFE_ERROR (R222). -/
abbrev safeError : Nat := 0x80004
/-- SAFE_CMD (R222). -/
abbrev safeCmd : Nat := 0x80008
/-- SAFE_CFG_RESULT (R222). -/
abbrev safeCfgResult : Nat := 0x8000C
/-- SAFE_CONN_CFG[n] (R222). -/
abbrev safeConnCfg (n : Nat) : Nat := 0x80100 + 32 * n
/-- SAFE_CONN_SID[n] (R222). -/
abbrev safeConnSid (n : Nat) : Nat := 0x80104 + 32 * n
/-- SAFE_CONN_SDC[n] (R222). -/
abbrev safeConnSdc (n : Nat) : Nat := 0x80108 + 32 * n
/-- SAFE_CONN_TIME[n] (R222). -/
abbrev safeConnTime (n : Nat) : Nat := 0x8010C + 32 * n
/-- SAFE_CONN_TMO[n] (R222). -/
abbrev safeConnTmo (n : Nat) : Nat := 0x80110 + 32 * n
/-- SAFE_CONN_SEQ[n] (R222). -/
abbrev safeConnSeq (n : Nat) : Nat := 0x80114 + 32 * n
/-- SAFE_CONN_STATUS[n] (R222). -/
abbrev safeConnStatus (n : Nat) : Nat := 0x80118 + 32 * n
/-- SAFE_CONN_REF[n] (R222). -/
abbrev safeConnRef (n : Nat) : Nat := 0x8011C + 32 * n
/-- CAN_BUSOFF (R251). -/
abbrev canBusoff : Nat := 0x90000
/-- CAN_PASSIVE (R251). -/
abbrev canPassive : Nat := 0x90004
/-- CAN_CMD (R251). -/
abbrev canCmd : Nat := 0x90008
/-- CAN_ERROR (R251). -/
abbrev canError : Nat := 0x9000C
/-- CAN_CFG_RESULT (R251). -/
abbrev canCfgResult : Nat := 0x90010
/-- CAN_GROUP_STATUS (R251). -/
abbrev canGroupStatus : Nat := 0x90014
/-- CAN_CH_CFG[n] (R251). -/
abbrev canChCfg (n : Nat) : Nat := 0x90100 + 64 * (n - 1)
/-- CAN_CH_NBT_SVC[n] (R251). -/
abbrev canChNbtSvc (n : Nat) : Nat := 0x90104 + 64 * (n - 1)
/-- CAN_CH_DBT_SVC[n] (R251). -/
abbrev canChDbtSvc (n : Nat) : Nat := 0x90108 + 64 * (n - 1)
/-- CAN_CH_NBT_REC[n] (R251). -/
abbrev canChNbtRec (n : Nat) : Nat := 0x9010C + 64 * (n - 1)
/-- CAN_CH_DBT_REC[n] (R251). -/
abbrev canChDbtRec (n : Nat) : Nat := 0x90110 + 64 * (n - 1)
/-- CAN_CH_SLOTS[n] (R251). -/
abbrev canChSlots (n : Nat) : Nat := 0x90114 + 64 * (n - 1)
/-- CAN_CH_REF[n] (R251). -/
abbrev canChRef (n : Nat) : Nat := 0x90118 + 64 * (n - 1)
/-- CAN_CH_RXR[n] (R251). -/
abbrev canChRxr (n : Nat) : Nat := 0x9011C + 64 * (n - 1)
/-- CAN_CH_STATUS[n] (R251). -/
abbrev canChStatus (n : Nat) : Nat := 0x90120 + 64 * (n - 1)
/-- CAN_CH_COUNTS[n] (R251). -/
abbrev canChCounts (n : Nat) : Nat := 0x90124 + 64 * (n - 1)
/-- CAN_CH_LAST_ERR[n] (R251). -/
abbrev canChLastErr (n : Nat) : Nat := 0x90128 + 64 * (n - 1)
/-- CAN_CH_TXQ[n] (R251). -/
abbrev canChTxq (n : Nat) : Nat := 0x9012C + 64 * (n - 1)
/-- CAN_FLT_CFG[n] (R251). -/
abbrev canFltCfg (n : Nat) : Nat := 0x91000 + 16 * n
/-- CAN_FLT_ID[n] (R251). -/
abbrev canFltId (n : Nat) : Nat := 0x91004 + 16 * n
/-- CAN_FLT_MASK[n] (R251). -/
abbrev canFltMask (n : Nat) : Nat := 0x91008 + 16 * n
/-- CAN_FLT_IMG[n] (R251). -/
abbrev canFltImg (n : Nat) : Nat := 0x9100C + 16 * n
/-- ISTH_STATUS (R278). -/
abbrev isthStatus : Nat := 0xA0000
/-- ISTH_CFG (R278). -/
abbrev isthCfg : Nat := 0xA0004
/-- ISTH_CMD (R278). -/
abbrev isthCmd : Nat := 0xA0008
/-- ISTH_ERROR (R278). -/
abbrev isthError : Nat := 0xA000C
/-- ISTH_POST_ERR_ADDR (R278). -/
abbrev isthPostErrAddr : Nat := 0xA0010
/-- ISTH_POST_ERR_TAG (R278). -/
abbrev isthPostErrTag : Nat := 0xA0014
/-- ISTH_INT_CFG (R278). -/
abbrev isthIntCfg : Nat := 0xA0018
/-- ISTH_INT_STATUS (R278). -/
abbrev isthIntStatus : Nat := 0xA001C
/-- ISTH_COUNTS (R278). -/
abbrev isthCounts : Nat := 0xA0020
/-- ISTH_CFG_RESULT (R278). -/
abbrev isthCfgResult : Nat := 0xA0024
/-- ISTH_WIN_CFG[n] (R278). -/
abbrev isthWinCfg (n : Nat) : Nat := 0xA0100 + 16 * n
/-- ISTH_WIN_BASE[n] (R278). -/
abbrev isthWinBase (n : Nat) : Nat := 0xA0104 + 16 * n
/-- ISTH_WIN_STATUS[n] (R278). -/
abbrev isthWinStatus (n : Nat) : Nat := 0xA0108 + 16 * n
/-- ISTH_WIN_POSTCNT[n] (R278). -/
abbrev isthWinPostcnt (n : Nat) : Nat := 0xA010C + 16 * n
/-- ISTH_XFER_CTL[n] (R278). -/
abbrev isthXferCtl (n : Nat) : Nat := 0xA1000 + 16 * n
/-- ISTH_XFER_FAR[n] (R278). -/
abbrev isthXferFar (n : Nat) : Nat := 0xA1004 + 16 * n
/-- ISTH_XFER_DATA[n] (R278). -/
abbrev isthXferData (n : Nat) : Nat := 0xA1008 + 16 * n
/-- ISTH_XFER_STATUS[n] (R278). -/
abbrev isthXferStatus (n : Nat) : Nat := 0xA100C + 16 * n
/-- HOLM_STATUS (R298). -/
abbrev holmStatus : Nat := 0xB0000
/-- HOLM_CMD (R298). -/
abbrev holmCmd : Nat := 0xB0004
/-- HOLM_ERROR (R298). -/
abbrev holmError : Nat := 0xB0008
/-- HOLM_CFG_RESULT (R298). -/
abbrev holmCfgResult : Nat := 0xB000C
/-- HOLM_DRIVE_SRC (R298). -/
abbrev holmDriveSrc : Nat := 0xB0010
/-- HOLM_DI_LO (R298). -/
abbrev holmDiLo : Nat := 0xB0014
/-- HOLM_DI_HI (R298). -/
abbrev holmDiHi : Nat := 0xB0018
/-- HOLM_DO_READBACK (R298). -/
abbrev holmDoReadback : Nat := 0xB001C
/-- HOLM_DO_FAULT (R298). -/
abbrev holmDoFault : Nat := 0xB0020
/-- HOLM_IMG_MAP[n] (R298). -/
abbrev holmImgMap (n : Nat) : Nat := 0xB0040 + 4 * n
/-- HOLM_CONN_CFG[n] (R298). -/
abbrev holmConnCfg (n : Nat) : Nat := 0xB0080 + 4 * (n - 1)
/-- HOLM_CONN_STATUS[n] (R298). -/
abbrev holmConnStatus (n : Nat) : Nat := 0xB0090 + 4 * (n - 1)
/-- HOLM_DI_CFG[n] (R298). -/
abbrev holmDiCfg (n : Nat) : Nat := 0xB0100 + 4 * (n - 1)
/-- HOLM_DO_CFG[n] (R298). -/
abbrev holmDoCfg (n : Nat) : Nat := 0xB0200 + 8 * (n - 1)
/-- HOLM_DO_STATUS[n] (R298). -/
abbrev holmDoStatus (n : Nat) : Nat := 0xB0204 + 8 * (n - 1)
/-- MOTION_STATUS (R315). -/
abbrev motionStatus : Nat := 0xC0000
/-- MOTION_CFG (R315). -/
abbrev motionCfg : Nat := 0xC0004
/-- MOTION_ERROR (R315). -/
abbrev motionError : Nat := 0xC0008
/-- MOTION_CFG_RESULT (R315). -/
abbrev motionCfgResult : Nat := 0xC000C
/-- MOTION_PLAUS (R315). -/
abbrev motionPlaus : Nat := 0xC0010
/-- MOTION_STILL (R315). -/
abbrev motionStill : Nat := 0xC0014
/-- MOTION_RESET_CFG (R315). -/
abbrev motionResetCfg : Nat := 0xC0018
/-- MOTION_SEL_SRC (R315). -/
abbrev motionSelSrc : Nat := 0xC001C
/-- MOTION_GATE_STILL (R315). -/
abbrev motionGateStill : Nat := 0xC0020
/-- MOTION_GATE_SLS (R315). -/
abbrev motionGateSls : Nat := 0xC0024
/-- MOTION_SAFE_SPEED (R315). -/
abbrev motionSafeSpeed : Nat := 0xC0028
/-- MOTION_LIMIT_NOW (R315). -/
abbrev motionLimitNow : Nat := 0xC002C
/-- MOTION_IMG_MAP[n] (R315). -/
abbrev motionImgMap (n : Nat) : Nat := 0xC0040 + 4 * n
/-- MOTION_SPD_MAP[n] (R315). -/
abbrev motionSpdMap (n : Nat) : Nat := 0xC0080 + 4 * n
/-- MOTION_SENSOR_CFG[n] (R315). -/
abbrev motionSensorCfg (n : Nat) : Nat := 0xC0100 + 16 * (n - 1)
/-- MOTION_SENSOR_STATUS[n] (R315). -/
abbrev motionSensorStatus (n : Nat) : Nat := 0xC0104 + 16 * (n - 1)
/-- MOTION_SENSOR_POS[n] (R315). -/
abbrev motionSensorPos (n : Nat) : Nat := 0xC0108 + 16 * (n - 1)
/-- MOTION_SENSOR_SPEED[n] (R315). -/
abbrev motionSensorSpeed (n : Nat) : Nat := 0xC010C + 16 * (n - 1)
/-- MOTION_LIMIT[n] (R315). -/
abbrev motionLimit (n : Nat) : Nat := 0xC0200 + 4 * n
/-- PAIR_STATUS (R342). -/
abbrev pairStatus : Nat := 0xD0000
/-- PAIR_CFG (R342). -/
abbrev pairCfg : Nat := 0xD0004
/-- PAIR_CMD (R342). -/
abbrev pairCmd : Nat := 0xD0008
/-- PAIR_ERROR (R342). -/
abbrev pairError : Nat := 0xD000C
/-- PAIR_CLASS (R342). -/
abbrev pairClass : Nat := 0xD0010
/-- PAIR_XCHK (R342). -/
abbrev pairXchk : Nat := 0xD0014
/-- PAIR_SHARED_HOST (R342). -/
abbrev pairSharedHost : Nat := 0xD0018
/-- PAIR_LAST_TAKEOVER (R342). -/
abbrev pairLastTakeover : Nat := 0xD001C
/-- PAIR_COUNTS (R342). -/
abbrev pairCounts : Nat := 0xD0020
/-- PAIR_LINK (R342). -/
abbrev pairLink : Nat := 0xD0024
/-- PAIR_JOIN (R342). -/
abbrev pairJoin : Nat := 0xD0028
/-- PAIR_BATCH (R342). -/
abbrev pairBatch : Nat := 0xD002C
/-- FAULT_STATUS (R360). -/
abbrev faultStatus : Nat := 0xE0000
/-- FAULT_CMD (R360). -/
abbrev faultCmd : Nat := 0xE0004
/-- FAULT_ERROR (R360). -/
abbrev faultError : Nat := 0xE0008
/-- FAULT_SEV_FLOOR (R360). -/
abbrev faultSevFloor : Nat := 0xE000C
/-- FAULT_CFG_RESULT (R360). -/
abbrev faultCfgResult : Nat := 0xE0010
/-- FAULT_SCRUB_CFG (R360). -/
abbrev faultScrubCfg : Nat := 0xE0014
/-- FAULT_CORR_COUNT (R360). -/
abbrev faultCorrCount : Nat := 0xE0018
/-- FAULT_UNCORR_COUNT (R360). -/
abbrev faultUncorrCount : Nat := 0xE001C
/-- FAULT_LAST_ADDR_LO (R360). -/
abbrev faultLastAddrLo : Nat := 0xE0020
/-- FAULT_LAST_ADDR_HI (R360). -/
abbrev faultLastAddrHi : Nat := 0xE0024
/-- FAULT_LAST_CODE (R360). -/
abbrev faultLastCode : Nat := 0xE0028
/-- FAULT_TABLE[n] (R360). -/
abbrev faultTable (n : Nat) : Nat := 0xE0100 + 4 * n
/-- SKERRY_STATUS (R387). -/
abbrev skerryStatus : Nat := 0xF0000
/-- SKERRY_WAKE_EN (R387). -/
abbrev skerryWakeEn : Nat := 0xF0004
/-- SKERRY_WAKE_CAUSE (R387). -/
abbrev skerryWakeCause : Nat := 0xF0008
/-- SKERRY_SWI_CFG (R387). -/
abbrev skerrySwiCfg : Nat := 0xF000C
/-- SKERRY_ALARM_LO (R387). -/
abbrev skerryAlarmLo : Nat := 0xF0010
/-- SKERRY_ALARM_HI (R387). -/
abbrev skerryAlarmHi : Nat := 0xF0014
/-- SKERRY_HOURS (R387). -/
abbrev skerryHours : Nat := 0xF0018
/-- SKERRY_CYCLES (R387). -/
abbrev skerryCycles : Nat := 0xF001C
/-- SKERRY_SUPPLY (R387). -/
abbrev skerrySupply : Nat := 0xF0020
/-- REC_STATUS (R428). -/
abbrev recStatus : Nat := 0x100000
/-- REC_CMD (R428). -/
abbrev recCmd : Nat := 0x100004
/-- REC_ERROR (R428). -/
abbrev recError : Nat := 0x100008
/-- REC_CLEAR_COUNT (R428). -/
abbrev recClearCount : Nat := 0x10000C
/-- REC_CLEAR_MINUTES (R428). -/
abbrev recClearMinutes : Nat := 0x100010
/-- REC_CLEAR_CYCLES (R428). -/
abbrev recClearCycles : Nat := 0x100014
/-- REC_SEQ (R428). -/
abbrev recSeq : Nat := 0x100018
/-- REC_LOSS (R428). -/
abbrev recLoss : Nat := 0x10001C
/-- SVC_STATUS (R442). -/
abbrev svcStatus : Nat := 0x110000
/-- SVC_CFG (R442). -/
abbrev svcCfg : Nat := 0x110004
/-- SVC_IP (R442). -/
abbrev svcIp : Nat := 0x110008
/-- SVC_CMD (R442). -/
abbrev svcCmd : Nat := 0x11000C
/-- IMG_STATUS (R388). -/
abbrev imgStatus : Nat := 0x120000
/-- IMG_CMD (R388). -/
abbrev imgCmd : Nat := 0x120004
/-- IMG_ARG (R388). -/
abbrev imgArg : Nat := 0x120008
/-- IMG_LEN (R388). -/
abbrev imgLen : Nat := 0x12000C
/-- IMG_SRC_LO (R388). -/
abbrev imgSrcLo : Nat := 0x120010
/-- IMG_SRC_HI (R388). -/
abbrev imgSrcHi : Nat := 0x120014
/-- IMG_RESULT (R388). -/
abbrev imgResult : Nat := 0x120018
/-- IMG_BOOTSET[n] (R388). -/
abbrev imgBootset (n : Nat) : Nat := 0x120020 + 4 * n
/-- IMG_INFO[n] (R388). -/
abbrev imgInfo (n : Nat) : Nat := 0x120040 + 4 * n

end Reg

/-- Registers of block 0x00 MOD. -/
def regRowsMod : List RegRow :=
  [⟨0x0, 0, 1, .ro, 0x0, 0x0, 0x2⟩,
   ⟨0x4, 0, 1, .ro, 0x0, 0x0, 0x41⟩,
   ⟨0x8, 0, 1, .wo, 0xF, 0x0, 0x0⟩,
   ⟨0xC, 0, 1, .wo, 0xF, 0x0, 0x0⟩,
   ⟨0x10, 0, 1, .ro, 0x0, 0x0, 0x0⟩,
   ⟨0x14, 0, 1, .ro, 0x0, 0x0, 0x0⟩,
   ⟨0x18, 0, 1, .ro, 0x0, 0x0, 0x0⟩,
   ⟨0x300, 0, 1, .rw, 0x1, 0x0, 0x0⟩,
   ⟨0x304, 0, 1, .wo, 0xF, 0x0, 0x0⟩,
   ⟨0x308, 0, 1, .ro, 0x0, 0x0, 0x0⟩,
   ⟨0x310, 0, 1, .rw, 0x3FFFF, 0x0, 0x0⟩,
   ⟨0x314, 0, 1, .rw, 0x7FFF, 0x0, 0x0⟩,
   ⟨0x318, 0, 1, .rw, 0x1FFFFF, 0x0, 0x0⟩,
   ⟨0x31C, 0, 1, .ro, 0x0, 0x0, 0x0⟩,
   ⟨0x320, 0, 1, .rw, 0x3FFFF, 0x0, 0x0⟩,
   ⟨0x324, 0, 1, .rw, 0x3FFFF, 0x0, 0x0⟩,
   ⟨0x328, 0, 1, .wo, 0xFFFFFFFF, 0x0, 0x0⟩,
   ⟨0x32C, 0, 1, .wo, 0xFFFFFFFF, 0x0, 0x0⟩,
   ⟨0x330, 0, 1, .rw, 0x3FFFFFFF, 0x0, 0x0⟩,
   ⟨0x334, 0, 1, .rw, 0xFFFFFFFF, 0x0, 0x0⟩,
   ⟨0x338, 0, 1, .rw, 0xFFFFFFFF, 0x0, 0x0⟩,
   ⟨0x33C, 0, 1, .wo, 0xF3F, 0x0, 0x0⟩,
   ⟨0x340, 0, 1, .ro, 0x0, 0x0, 0x0⟩,
   ⟨0x400, 16, 64, .ro, 0x0, 0x0, 0x0⟩,
   ⟨0x404, 16, 64, .ro, 0x0, 0x0, 0x0⟩,
   ⟨0x408, 16, 64, .ro, 0x0, 0x0, 0x0⟩]

/-- Registers of block 0x01 LANE. -/
def regRowsLane : List RegRow :=
  [⟨0x10000, 0, 1, .ro, 0x0, 0x0, 0x3000⟩,
   ⟨0x10004, 0, 1, .rw, 0x33, 0x0, 0x0⟩,
   ⟨0x10008, 0, 1, .wo, 0xF3, 0x0, 0x0⟩,
   ⟨0x1000C, 0, 1, .rw, 0xFFF0FF1, 0x0, 0x640831⟩,
   ⟨0x10010, 0, 1, .ro, 0x0, 0x0, 0x0⟩,
   ⟨0x10014, 0, 1, .ro, 0x0, 0x0, 0x0⟩,
   ⟨0x10018, 0, 1, .ro, 0x0, 0x0, 0x0⟩,
   ⟨0x1001C, 0, 1, .ro, 0x0, 0x0, 0x0⟩,
   ⟨0x10020, 0, 1, .ro, 0x0, 0x0, 0x0⟩,
   ⟨0x10024, 0, 1, .ro, 0x0, 0x0, 0x0⟩,
   ⟨0x10028, 0, 1, .rw, 0x1, 0x0, 0x0⟩,
   ⟨0x1002C, 0, 1, .ro, 0x0, 0x0, 0x0⟩,
   ⟨0x10100, 8, 16, .rw, 0x1FFFFF, 0x0, 0x0⟩,
   ⟨0x10104, 8, 16, .rw, 0x7FFFF, 0x0, 0x0⟩,
   ⟨0x10800, 0, 1, .rw, 0x30F0F, 0x0, 0x0⟩,
   ⟨0x10804, 0, 1, .w1c, 0x0, 0xF00, 0x0⟩,
   ⟨0x10810, 8, 4, .rw, 0xFFFFFFFF, 0x0, 0xFFFFFFFF⟩,
   ⟨0x10814, 8, 4, .rw, 0xFFFFFFFF, 0x0, 0xFFFFFFFF⟩]

/-- Registers of block 0x02 CHRONO. -/
def regRowsChrono : List RegRow :=
  [⟨0x20000, 0, 1, .ro, 0x0, 0x0, 0x0⟩,
   ⟨0x20004, 0, 1, .rw, 0x1, 0x0, 0x0⟩,
   ⟨0x20008, 0, 1, .rw, 0x800000FF, 0x0, 0x0⟩,
   ⟨0x2000C, 0, 1, .ro, 0x0, 0x0, 0x0⟩,
   ⟨0x20010, 0, 1, .ro, 0x0, 0x0, 0x0⟩,
   ⟨0x20014, 0, 1, .ro, 0x0, 0x0, 0x0⟩,
   ⟨0x20018, 0, 1, .ro, 0x0, 0x0, 0x0⟩,
   ⟨0x2001C, 0, 1, .ro, 0x0, 0x0, 0x0⟩,
   ⟨0x20020, 0, 1, .ro, 0x0, 0x0, 0x0⟩,
   ⟨0x20024, 0, 1, .ro, 0x0, 0x0, 0x0⟩,
   ⟨0x20028, 0, 1, .w1c, 0x0, 0x1F, 0x0⟩,
   ⟨0x2002C, 0, 1, .ro, 0x0, 0x0, 0x0⟩,
   ⟨0x20030, 0, 1, .ro, 0x0, 0x0, 0x0⟩,
   ⟨0x20034, 0, 1, .ro, 0x0, 0x0, 0x0⟩,
   ⟨0x20038, 0, 1, .ro, 0x0, 0x0, 0x0⟩,
   ⟨0x2003C, 0, 1, .ro, 0x0, 0x0, 0x0⟩,
   ⟨0x20040, 0, 1, .ro, 0x0, 0x0, 0x0⟩]

/-- Registers of block 0x03 RING. -/
def regRowsRing : List RegRow :=
  [⟨0x30000, 0, 1, .wo, 0xF3F, 0x0, 0x0⟩,
   ⟨0x30004, 0, 1, .ro, 0x0, 0x0, 0x0⟩,
   ⟨0x30008, 0, 1, .ro, 0x0, 0x0, 0x0⟩,
   ⟨0x3000C, 0, 1, .ro, 0x0, 0x0, 0x0⟩,
   ⟨0x30010, 0, 1, .w1c, 0x0, 0x1F, 0x0⟩,
   ⟨0x30100, 32, 64, .rw, 0x1FFFFF, 0x0, 0x0⟩,
   ⟨0x30104, 32, 64, .rw, 0x7FFFFFF, 0x0, 0x0⟩,
   ⟨0x30108, 32, 64, .rw, 0x3F1F0F3F, 0x0, 0x14⟩,
   ⟨0x3010C, 32, 64, .rw, 0xFFFFFFFF, 0x0, 0x1⟩,
   ⟨0x30110, 32, 64, .rw, 0x1FF, 0x0, 0x0⟩,
   ⟨0x30114, 32, 64, .ro, 0x0, 0x0, 0x0⟩,
   ⟨0x30118, 32, 64, .ro, 0x0, 0x0, 0x0⟩,
   ⟨0x3011C, 32, 64, .ro, 0x0, 0x0, 0x0⟩]

/-- Registers of block 0x04 EVQ. -/
def regRowsEvq : List RegRow :=
  [⟨0x40000, 0, 1, .wo, 0xF3, 0x0, 0x0⟩,
   ⟨0x40004, 0, 1, .rw, 0xFFFFFFFF, 0x0, 0x55555555⟩,
   ⟨0x40008, 0, 1, .rw, 0x3F, 0x0, 0x15⟩,
   ⟨0x4000C, 0, 1, .ro, 0x0, 0x0, 0x0⟩,
   ⟨0x40010, 0, 1, .w1c, 0x0, 0x7, 0x0⟩,
   ⟨0x40100, 32, 4, .rw, 0x1FFFFF, 0x0, 0x0⟩,
   ⟨0x40104, 32, 4, .rw, 0x7FFFFFF, 0x0, 0x0⟩,
   ⟨0x40108, 32, 4, .rw, 0xF, 0x0, 0x4⟩,
   ⟨0x4010C, 32, 4, .ro, 0x0, 0x0, 0x0⟩,
   ⟨0x40110, 32, 4, .ro, 0x0, 0x0, 0x0⟩,
   ⟨0x40114, 32, 4, .ro, 0x0, 0x0, 0x0⟩]

/-- Registers of block 0x05 TASK. -/
def regRowsTask : List RegRow :=
  [⟨0x50000, 0, 1, .w1c, 0x0, 0xFFFFFFFF, 0x0⟩,
   ⟨0x50004, 0, 1, .w1c, 0x0, 0xFFFF, 0x0⟩,
   ⟨0x50008, 0, 1, .ro, 0x0, 0x0, 0x0⟩,
   ⟨0x5000C, 0, 1, .ro, 0x0, 0x0, 0x0⟩,
   ⟨0x50010, 0, 1, .ro, 0x0, 0x0, 0x0⟩,
   ⟨0x50014, 0, 1, .wo, 0xF3F, 0x0, 0x0⟩,
   ⟨0x50100, 16, 48, .ro, 0x0, 0x0, 0x0⟩,
   ⟨0x50104, 16, 48, .rw, 0x7FFFFFF, 0x0, 0x0⟩,
   ⟨0x50108, 16, 48, .ro, 0x0, 0x0, 0x0⟩,
   ⟨0x5010C, 16, 48, .ro, 0x0, 0x0, 0x0⟩]

/-- Registers of block 0x06 TRANSIT. -/
def regRowsTransit : List RegRow :=
  [⟨0x60000, 0, 1, .ro, 0x0, 0x0, 0x0⟩,
   ⟨0x60004, 0, 1, .rw, 0xFFFF07, 0x0, 0xA6405⟩,
   ⟨0x60008, 0, 1, .rw, 0x7FFF1F1F, 0x0, 0xD1B0804⟩,
   ⟨0x6000C, 0, 1, .wo, 0xF, 0x0, 0x0⟩,
   ⟨0x60010, 0, 1, .ro, 0x0, 0x0, 0x0⟩,
   ⟨0x60014, 0, 1, .ro, 0x0, 0x0, 0x0⟩,
   ⟨0x60018, 0, 1, .ro, 0x0, 0x0, 0x0⟩,
   ⟨0x6001C, 0, 1, .w1c, 0x0, 0xF, 0x0⟩,
   ⟨0x60020, 0, 1, .ro, 0x0, 0x0, 0x0⟩,
   ⟨0x60024, 0, 1, .ro, 0x0, 0x0, 0x0⟩,
   ⟨0x60028, 0, 1, .ro, 0x0, 0x0, 0x0⟩,
   ⟨0x6002C, 0, 1, .ro, 0x0, 0x0, 0x0⟩,
   ⟨0x60030, 0, 1, .ro, 0x0, 0x0, 0x0⟩,
   ⟨0x60034, 0, 1, .ro, 0x0, 0x0, 0x0⟩,
   ⟨0x60038, 0, 1, .ro, 0x0, 0x0, 0x0⟩,
   ⟨0x6003C, 0, 1, .ro, 0x0, 0x0, 0x0⟩,
   ⟨0x60040, 0, 1, .ro, 0x0, 0x0, 0x0⟩,
   ⟨0x60044, 0, 1, .ro, 0x0, 0x0, 0x0⟩,
   ⟨0x60048, 0, 1, .ro, 0x0, 0x0, 0x0⟩,
   ⟨0x6004C, 0, 1, .ro, 0x0, 0x0, 0x0⟩,
   ⟨0x60050, 0, 1, .rw, 0xFFFF1FFF, 0x0, 0x80800E00⟩,
   ⟨0x60054, 0, 1, .rw, 0xFFFFFFF, 0x0, 0x30000FD⟩,
   ⟨0x60058, 0, 1, .ro, 0x0, 0x0, 0x0⟩,
   ⟨0x6005C, 0, 1, .ro, 0x0, 0x0, 0x0⟩,
   ⟨0x60060, 0, 1, .rw, 0x7FFFF, 0x0, 0xA00⟩,
   ⟨0x60064, 0, 1, .ro, 0x0, 0x0, 0x0⟩,
   ⟨0x60068, 0, 1, .ro, 0x0, 0x0, 0x0⟩,
   ⟨0x60100, 4, 8, .rw, 0xFFFFFFFF, 0x0, 0x0⟩]

/-- Registers of block 0x07 NET. -/
def regRowsNet : List RegRow :=
  [⟨0x70000, 0, 1, .ro, 0x0, 0x0, 0x0⟩,
   ⟨0x70010, 0, 1, .rw, 0xFFFFFFFF, 0x0, 0x0⟩,
   ⟨0x70014, 0, 1, .rw, 0xFFFFFFFF, 0x0, 0x0⟩,
   ⟨0x70018, 0, 1, .rw, 0x3F3F, 0x0, 0x1818⟩,
   ⟨0x7001C, 0, 1, .ro, 0x0, 0x0, 0x0⟩,
   ⟨0x70020, 0, 1, .ro, 0x0, 0x0, 0x0⟩,
   ⟨0x70024, 0, 1, .rw, 0xFFFFFFFF, 0x0, 0x43494348⟩,
   ⟨0x70028, 0, 1, .rw, 0xFFFF, 0x0, 0x4358⟩,
   ⟨0x7002C, 0, 1, .rw, 0xFFFFFFFF, 0x0, 0x0⟩,
   ⟨0x70030, 0, 1, .rw, 0xFFFFFFFF, 0x0, 0x0⟩,
   ⟨0x70034, 0, 1, .rw, 0xBFBF, 0x0, 0x0⟩,
   ⟨0x70038, 0, 1, .ro, 0x0, 0x0, 0x0⟩,
   ⟨0x7003C, 0, 1, .ro, 0x0, 0x0, 0x0⟩,
   ⟨0x70040, 0, 1, .w1c, 0x0, 0xFF, 0x0⟩,
   ⟨0x70044, 0, 1, .wo, 0xF, 0x0, 0x0⟩,
   ⟨0x70048, 0, 1, .ro, 0x0, 0x0, 0x0⟩,
   ⟨0x70080, 4, 8, .rw, 0x7FFF7, 0x0, 0x17⟩,
   ⟨0x700A0, 4, 8, .ro, 0x0, 0x0, 0x0⟩,
   ⟨0x700C0, 4, 16, .rw, 0xFFFF0FFF, 0x0, 0x0⟩,
   ⟨0x70100, 8, 8, .rw, 0xFFF07F7, 0x0, 0x0⟩,
   ⟨0x70104, 8, 8, .rw, 0xFFFFFFFF, 0x0, 0x0⟩,
   ⟨0x78000, 32, 1024, .rw, 0xFFFFFFF, 0x0, 0x0⟩,
   ⟨0x78004, 32, 1024, .rw, 0xFFFFFFFF, 0x0, 0x0⟩,
   ⟨0x78008, 32, 1024, .rw, 0xFFFFFFFF, 0x0, 0x0⟩,
   ⟨0x7800C, 32, 1024, .rw, 0x3FF0FFF, 0x0, 0x0⟩,
   ⟨0x78010, 32, 1024, .rw, 0x1FFFFFFF, 0x0, 0x0⟩,
   ⟨0x78014, 32, 1024, .rw, 0xFFFFF, 0x0, 0x0⟩,
   ⟨0x78018, 32, 1024, .ro, 0x0, 0x0, 0x0⟩,
   ⟨0x7801C, 32, 1024, .ro, 0x0, 0x0, 0x0⟩]

/-- Registers of block 0x08 SAFE. -/
def regRowsSafe : List RegRow :=
  [⟨0x80000, 0, 1, .ro, 0x0, 0x0, 0x0⟩,
   ⟨0x80004, 0, 1, .w1c, 0x0, 0x7F, 0x0⟩,
   ⟨0x80008, 0, 1, .wo, 0xF7F, 0x0, 0x0⟩,
   ⟨0x8000C, 0, 1, .ro, 0x0, 0x0, 0x0⟩,
   ⟨0x80100, 32, 128, .rw, 0xFFF3FF7, 0x0, 0x2040000⟩,
   ⟨0x80104, 32, 128, .rw, 0xFFFFFFFF, 0x0, 0x0⟩,
   ⟨0x80108, 32, 128, .wo, 0xFFFFFFFF, 0x0, 0x0⟩,
   ⟨0x8010C, 32, 128, .rw, 0xFFFFFFF, 0x0, 0x14007D0⟩,
   ⟨0x80110, 32, 128, .rw, 0xFF, 0x0, 0xA⟩,
   ⟨0x80114, 32, 128, .ro, 0x0, 0x0, 0x0⟩,
   ⟨0x80118, 32, 128, .ro, 0x0, 0x0, 0x0⟩,
   ⟨0x8011C, 32, 128, .ro, 0x0, 0x0, 0x0⟩]

/-- Registers of block 0x09 CAN. -/
def regRowsCan : List RegRow :=
  [⟨0x90000, 0, 1, .ro, 0x0, 0x0, 0x0⟩,
   ⟨0x90004, 0, 1, .ro, 0x0, 0x0, 0x0⟩,
   ⟨0x90008, 0, 1, .wo, 0xF1F, 0x0, 0x0⟩,
   ⟨0x9000C, 0, 1, .w1c, 0x0, 0xFF, 0x0⟩,
   ⟨0x90010, 0, 1, .ro, 0x0, 0x0, 0x0⟩,
   ⟨0x90014, 0, 1, .ro, 0x0, 0x0, 0x0⟩,
   ⟨0x90100, 64, 20, .rw, 0xFF03FF, 0x0, 0x0⟩,
   ⟨0x90104, 64, 20, .rw, 0xFFFFFFF, 0x0, 0x73EFC0⟩,
   ⟨0x90108, 64, 20, .rw, 0xFFFFFFFF, 0x0, 0x786780⟩,
   ⟨0x9010C, 64, 20, .rw, 0xFFFFFFF, 0x0, 0x1F3EFC0⟩,
   ⟨0x90110, 64, 20, .rw, 0xFFFFFFFF, 0x0, 0x7A6780⟩,
   ⟨0x90114, 64, 20, .rw, 0x1FFFFFF, 0x0, 0x0⟩,
   ⟨0x90118, 64, 20, .rw, 0xBFFFFFFF, 0x0, 0x0⟩,
   ⟨0x9011C, 64, 20, .rw, 0xBF, 0x0, 0x0⟩,
   ⟨0x90120, 64, 20, .ro, 0x0, 0x0, 0x0⟩,
   ⟨0x90124, 64, 20, .ro, 0x0, 0x0, 0x0⟩,
   ⟨0x90128, 64, 20, .ro, 0x0, 0x0, 0x0⟩,
   ⟨0x9012C, 64, 20, .ro, 0x0, 0x0, 0x0⟩,
   ⟨0x91000, 16, 512, .rw, 0x1FFFF7F, 0x0, 0x0⟩,
   ⟨0x91004, 16, 512, .rw, 0x1FFFFFFF, 0x0, 0x0⟩,
   ⟨0x91008, 16, 512, .rw, 0x1FFFFFFF, 0x0, 0x0⟩,
   ⟨0x9100C, 16, 512, .rw, 0xFFFFF, 0x0, 0x0⟩]

/-- Registers of block 0x0A ISTH. -/
def regRowsIsth : List RegRow :=
  [⟨0xA0000, 0, 1, .ro, 0x0, 0x0, 0x0⟩,
   ⟨0xA0004, 0, 1, .rw, 0x3FFFFF7F, 0x0, 0x3081450⟩,
   ⟨0xA0008, 0, 1, .wo, 0xFFF, 0x0, 0x0⟩,
   ⟨0xA000C, 0, 1, .w1c, 0x0, 0x3F, 0x0⟩,
   ⟨0xA0010, 0, 1, .ro, 0x0, 0x0, 0x0⟩,
   ⟨0xA0014, 0, 1, .ro, 0x0, 0x0, 0x0⟩,
   ⟨0xA0018, 0, 1, .rw, 0xFF, 0x0, 0x0⟩,
   ⟨0xA001C, 0, 1, .ro, 0x0, 0x0, 0x0⟩,
   ⟨0xA0020, 0, 1, .ro, 0x0, 0x0, 0x0⟩,
   ⟨0xA0024, 0, 1, .ro, 0x0, 0x0, 0x0⟩,
   ⟨0xA0100, 16, 16, .rw, 0x1F7F, 0x0, 0x0⟩,
   ⟨0xA0104, 16, 16, .rw, 0xFFFFFF, 0x0, 0x0⟩,
   ⟨0xA0108, 16, 16, .ro, 0x0, 0x0, 0x0⟩,
   ⟨0xA010C, 16, 16, .ro, 0x0, 0x0, 0x0⟩,
   ⟨0xA1000, 16, 256, .rw, 0xFFFF3, 0x0, 0x0⟩,
   ⟨0xA1004, 16, 256, .rw, 0xFFFFFF, 0x0, 0x0⟩,
   ⟨0xA1008, 16, 256, .rw, 0xFFFFFF, 0x0, 0x0⟩,
   ⟨0xA100C, 16, 256, .ro, 0x0, 0x0, 0x0⟩]

/-- Registers of block 0x0B HOLM. -/
def regRowsHolm : List RegRow :=
  [⟨0xB0000, 0, 1, .ro, 0x0, 0x0, 0x0⟩,
   ⟨0xB0004, 0, 1, .wo, 0xF1F, 0x0, 0x0⟩,
   ⟨0xB0008, 0, 1, .w1c, 0x0, 0x3F, 0x0⟩,
   ⟨0xB000C, 0, 1, .ro, 0x0, 0x0, 0x0⟩,
   ⟨0xB0010, 0, 1, .rw, 0x3FFFF, 0x0, 0x0⟩,
   ⟨0xB0014, 0, 1, .ro, 0x0, 0x0, 0x0⟩,
   ⟨0xB0018, 0, 1, .ro, 0x0, 0x0, 0x0⟩,
   ⟨0xB001C, 0, 1, .ro, 0x0, 0x0, 0x0⟩,
   ⟨0xB0020, 0, 1, .ro, 0x0, 0x0, 0x0⟩,
   ⟨0xB0040, 4, 16, .rw, 0x800FFFFF, 0x0, 0x0⟩,
   ⟨0xB0080, 4, 4, .rw, 0xF3FF3, 0x0, 0x20140⟩,
   ⟨0xB0090, 4, 4, .ro, 0x0, 0x0, 0x0⟩,
   ⟨0xB0100, 4, 48, .rw, 0xFFF, 0x0, 0xA⟩,
   ⟨0xB0200, 8, 24, .rw, 0x3FFFFF07, 0x0, 0x641400⟩,
   ⟨0xB0204, 8, 24, .ro, 0x0, 0x0, 0x0⟩]

/-- Registers of block 0x0C MOTION. -/
def regRowsMotion : List RegRow :=
  [⟨0xC0000, 0, 1, .ro, 0x0, 0x0, 0x100000⟩,
   ⟨0xC0004, 0, 1, .rw, 0xFFFFF1, 0x0, 0x143200⟩,
   ⟨0xC0008, 0, 1, .w1c, 0x0, 0x3F, 0x0⟩,
   ⟨0xC000C, 0, 1, .ro, 0x0, 0x0, 0x0⟩,
   ⟨0xC0010, 0, 1, .rw, 0xFFFFFFFF, 0x0, 0x140A01F4⟩,
   ⟨0xC0014, 0, 1, .rw, 0xFFF, 0x0, 0x232⟩,
   ⟨0xC0018, 0, 1, .rw, 0x3F, 0x0, 0x0⟩,
   ⟨0xC001C, 0, 1, .rw, 0xFFFFFFF, 0x0, 0x500000⟩,
   ⟨0xC0020, 0, 1, .rw, 0xFFFFFF, 0x0, 0x0⟩,
   ⟨0xC0024, 0, 1, .rw, 0xFFFFFF, 0x0, 0x0⟩,
   ⟨0xC0028, 0, 1, .ro, 0x0, 0x0, 0x0⟩,
   ⟨0xC002C, 0, 1, .ro, 0x0, 0x0, 0x0⟩,
   ⟨0xC0040, 4, 16, .rw, 0x800FFFFF, 0x0, 0x0⟩,
   ⟨0xC0080, 4, 16, .rw, 0x800FFFFF, 0x0, 0x0⟩,
   ⟨0xC0100, 16, 4, .rw, 0x3FF7FF, 0x0, 0x352⟩,
   ⟨0xC0104, 16, 4, .ro, 0x0, 0x0, 0x0⟩,
   ⟨0xC0108, 16, 4, .ro, 0x0, 0x0, 0x0⟩,
   ⟨0xC010C, 16, 4, .ro, 0x0, 0x0, 0x0⟩,
   ⟨0xC0200, 4, 16, .rw, 0xFFFF, 0x0, 0x0⟩]

/-- Registers of block 0x0D PAIR. -/
def regRowsPair : List RegRow :=
  [⟨0xD0000, 0, 1, .ro, 0x0, 0x0, 0x0⟩,
   ⟨0xD0004, 0, 1, .rw, 0xFFFFF03, 0x0, 0x8100A01⟩,
   ⟨0xD0008, 0, 1, .wo, 0xF, 0x0, 0x0⟩,
   ⟨0xD000C, 0, 1, .w1c, 0x0, 0xFF, 0x0⟩,
   ⟨0xD0010, 0, 1, .ro, 0x0, 0x0, 0x0⟩,
   ⟨0xD0014, 0, 1, .rw, 0xFFFFFFFF, 0x0, 0x1F40A03⟩,
   ⟨0xD0018, 0, 1, .rw, 0xFFFFFFFF, 0x0, 0x0⟩,
   ⟨0xD001C, 0, 1, .ro, 0x0, 0x0, 0x0⟩,
   ⟨0xD0020, 0, 1, .ro, 0x0, 0x0, 0x0⟩,
   ⟨0xD0024, 0, 1, .ro, 0x0, 0x0, 0x0⟩,
   ⟨0xD0028, 0, 1, .ro, 0x0, 0x0, 0x0⟩,
   ⟨0xD002C, 0, 1, .ro, 0x0, 0x0, 0x0⟩]

/-- Registers of block 0x0E FAULT. -/
def regRowsFault : List RegRow :=
  [⟨0xE0000, 0, 1, .ro, 0x0, 0x0, 0x0⟩,
   ⟨0xE0004, 0, 1, .wo, 0xF, 0x0, 0x0⟩,
   ⟨0xE0008, 0, 1, .w1c, 0x0, 0xF, 0x0⟩,
   ⟨0xE000C, 0, 1, .rw, 0x7FFF, 0x0, 0x0⟩,
   ⟨0xE0010, 0, 1, .ro, 0x0, 0x0, 0x0⟩,
   ⟨0xE0014, 0, 1, .rw, 0xFF, 0x0, 0x4⟩,
   ⟨0xE0018, 0, 1, .ro, 0x0, 0x0, 0x0⟩,
   ⟨0xE001C, 0, 1, .ro, 0x0, 0x0, 0x0⟩,
   ⟨0xE0020, 0, 1, .ro, 0x0, 0x0, 0x0⟩,
   ⟨0xE0024, 0, 1, .ro, 0x0, 0x0, 0x0⟩,
   ⟨0xE0028, 0, 1, .ro, 0x0, 0x0, 0x0⟩,
   ⟨0xE0100, 4, 64, .rw, 0x8007FFFF, 0x0, 0x0⟩]

/-- Registers of block 0x0F SKERRY. -/
def regRowsSkerry : List RegRow :=
  [⟨0xF0000, 0, 1, .ro, 0x0, 0x0, 0x0⟩,
   ⟨0xF0004, 0, 1, .rw, 0xFF, 0x0, 0x1⟩,
   ⟨0xF0008, 0, 1, .ro, 0x0, 0x0, 0x0⟩,
   ⟨0xF000C, 0, 1, .rw, 0xFFFFFFFF, 0x0, 0x28282828⟩,
   ⟨0xF0010, 0, 1, .rw, 0xFFFFFFFF, 0x0, 0xFFFFFFFF⟩,
   ⟨0xF0014, 0, 1, .rw, 0xFFFFFFFF, 0x0, 0xFFFFFFFF⟩,
   ⟨0xF0018, 0, 1, .ro, 0x0, 0x0, 0x0⟩,
   ⟨0xF001C, 0, 1, .ro, 0x0, 0x0, 0x0⟩,
   ⟨0xF0020, 0, 1, .ro, 0x0, 0x0, 0x0⟩]

/-- Registers of block 0x10 REC. -/
def regRowsRec : List RegRow :=
  [⟨0x100000, 0, 1, .ro, 0x0, 0x0, 0x0⟩,
   ⟨0x100004, 0, 1, .wo, 0xF, 0x0, 0x0⟩,
   ⟨0x100008, 0, 1, .w1c, 0x0, 0x7, 0x0⟩,
   ⟨0x10000C, 0, 1, .ro, 0x0, 0x0, 0x0⟩,
   ⟨0x100010, 0, 1, .ro, 0x0, 0x0, 0x0⟩,
   ⟨0x100014, 0, 1, .ro, 0x0, 0x0, 0x0⟩,
   ⟨0x100018, 0, 1, .ro, 0x0, 0x0, 0x0⟩,
   ⟨0x10001C, 0, 1, .ro, 0x0, 0x0, 0x0⟩]

/-- Registers of block 0x11 SVC. -/
def regRowsSvc : List RegRow :=
  [⟨0x110000, 0, 1, .ro, 0x0, 0x0, 0x0⟩,
   ⟨0x110004, 0, 1, .rw, 0x3FFFFF, 0x0, 0x180258⟩,
   ⟨0x110008, 0, 1, .rw, 0xFFFFFFFF, 0x0, 0xC0A86401⟩,
   ⟨0x11000C, 0, 1, .wo, 0xF, 0x0, 0x0⟩]

/-- Registers of block 0x12 IMG. -/
def regRowsImg : List RegRow :=
  [⟨0x120000, 0, 1, .ro, 0x0, 0x0, 0x0⟩,
   ⟨0x120004, 0, 1, .wo, 0xF, 0x0, 0x0⟩,
   ⟨0x120008, 0, 1, .rw, 0xFFF, 0x0, 0x0⟩,
   ⟨0x12000C, 0, 1, .rw, 0xFFFFFFFF, 0x0, 0x0⟩,
   ⟨0x120010, 0, 1, .rw, 0xFFFFFFFF, 0x0, 0x0⟩,
   ⟨0x120014, 0, 1, .rw, 0xFF, 0x0, 0x0⟩,
   ⟨0x120018, 0, 1, .ro, 0x0, 0x0, 0x0⟩,
   ⟨0x120020, 4, 7, .rw, 0x7F, 0x0, 0x0⟩,
   ⟨0x120040, 4, 8, .ro, 0x0, 0x0, 0x0⟩]

/-- The rows of one block; none beyond block 0x12 (R28). -/
def regRows (block : Nat) : List RegRow :=
  match block with
  | 0 => regRowsMod
  | 1 => regRowsLane
  | 2 => regRowsChrono
  | 3 => regRowsRing
  | 4 => regRowsEvq
  | 5 => regRowsTask
  | 6 => regRowsTransit
  | 7 => regRowsNet
  | 8 => regRowsSafe
  | 9 => regRowsCan
  | 10 => regRowsIsth
  | 11 => regRowsHolm
  | 12 => regRowsMotion
  | 13 => regRowsPair
  | 14 => regRowsFault
  | 15 => regRowsSkerry
  | 16 => regRowsRec
  | 17 => regRowsSvc
  | 18 => regRowsImg
  | _ => []

/-- The row holds the key. -/
def RegRow.holds (r : RegRow) (key : Nat) : Bool :=
  if r.stride = 0 then key = r.base
  else decide (r.base ≤ key) && decide ((key - r.base) % r.stride = 0)
        && decide ((key - r.base) / r.stride < r.count)

/-- The banked LANE registers (R84), offsets 0x800 to 0x8FF of block 0x01: each lane has its own copy.  The copy of
lane index `lane` is kept under its own key. -/
def isBanked (key : Nat) : Bool := decide (0x10800 ≤ key) && decide (key ≤ 0x108FF)

/-- Key of a lane's copy of a banked register. -/
def bankedKey (lane key : Nat) : Nat := 0x200000 + 0x100000 * lane + key

/-- The architectural key under a stored key: a lane's copy of a banked register has that register's row. -/
def archKey (key : Nat) : Nat := if 0x200000 ≤ key then key % 0x100000 else key

/-- The row of a key, if the key names a register (R28: other offsets hold no register). -/
def regRow? (key : Nat) : Option RegRow :=
  (regRows (archKey key / 0x10000)).find? (·.holds (archKey key))

/-- Reset value of the register at a key; 0 where no register stands (R28).  NET_VLAN[0] alone of its array resets to
0x00FF_0001 (R206). -/
def resetVal (key : Nat) : Word :=
  if key = 0x700C0 then 0x00FF0001
  else match regRow? key with
    | some r => r.reset
    | none => 0

end Sys2Proof.Machine
end

