-- ==== Sys2Proof/Machine/State.lean ====
section
/-!
DEFINITION. The state of the module as plain data, the state after reset, and the ways in which a command can stop.  A
register of the spec's register tables has its home in `State.regs` (key and value, only where it differs from its reset
value); everything else that the spec gives the module is a field of its block's structure.
-/

namespace Sys2Proof.Machine

/-- What the module puts on its connectors, newest first: the model's own record of the outputs. -/
inductive Out where
  | straitStatus (i : StatusInfo)
  | straitMark (hp : Word) (cycle : Nat) (time : Dword)
  | straitImage (c : ImageContent)
  | straitJournal (batch : Word) (items : List JItem)
  | straitCheck (c : CheckContent)
  | straitAck (isCheck : Bool) (seq : Word) (ok : Bool)
  | straitWindow (r : WindowResult)
  | straitNotice (n : Notice)
  | straitGiveUp (c : GiveUpCause)
  | straitCopy (c : CopyContent)
  | straitHello (h : HelloInfo)
  | straitResend (fseq : Word)
  | straitRepeat (fseq : Word) (lane : Nat)
  | frame (port : Nat) (f : EthFrame)
  | ptp (port : Nat) (m : PtpMsg)
  | can (channel : Nat) (f : CanFrame)
  | crate (write : Bool) (addr : Nat) (single : Bool) (count : Nat) (words : List (BitVec 16))
  | crateReset (low : Bool)
  | pulse (high : Bool)
  | svc (req : SvcReq) (op : Nat) (status : Nat) (count : Nat) (data : List Byte)
  | shift (bits : Nat) (value : BitVec 257)
  | scan (code : Byte) (cells : BitVec 257) (crateHighZ : Bool)
deriving DecidableEq, Repr

/-- Why a command stops without a next state. -/
inductive Fault where
  /-- Raised by the meaning of a command whose list operand is longer than the hardware can carry (`Instr.wellFormed`,
  WellFormed.lean): more words than a crate cycle has, more data bytes than a CAN frame has.  Safe: no such command
  exists, and nothing is claimed of the state after it. -/
  | illFormed
deriving DecidableEq, Repr

/-- Why the model refuses a command. -/
inductive Refusal where
  /-- Raised by `exec` for a row of the opcode table whose meaning is not written yet; it carries the row's mnemonic.
  Safe: the model stops where the hardware goes on. -/
  | notModelled (mnemonic : String)
deriving DecidableEq, Repr

/-- The state of the module. -/
structure State where
  pending  : List Instr
  regs     : RegFile
  snaps    : Tab RegFile
  dram     : PerLane Mem
  sound    : Mem
  time     : TimeSt
  ptp      : PtpSt
  meridian : Meridian
  lanes    : PerLane LaneSt
  rejoin   : RejoinSt
  chrono   : ChronoSt
  jobs     : Tab JobSt
  rings    : Tab RingSt
  journal  : List JRecord
  journalBuildSet : Bool
  journalSetup : Tab RingSetup
  journalBad : List Nat
  evq      : EvqSt
  retain   : RetainSt
  restart  : RestartSt
  force    : ForceSt
  net      : NetSt
  safe     : Tab SafeConn
  can      : Tab CanCh
  filters  : Tab CanFlt
  isth     : IsthSt
  holm     : HolmSt
  motion   : MotionSt
  fm       : FaultSt
  pair     : PairSt
  skerry   : SkerrySt
  store    : StoreSt
  recorder : RecSt
  recQ     : List Record
  svc      : SvcSt
  tap      : TapSt
  out      : List Out
  freeCount : Nat
deriving DecidableEq, Repr

/-! ### Reset -/

/-- A lane before any start: OFF, nothing in progress. -/
def lane0 : LaneSt :=
  { msnapsel := [], xreg := [], freg := [], mcause := [], mtval := [], loaded := [], timerIrq := [], extIrq := [],
    signals := [], switchSig := false, code := [], testStep := 0,
    joining := false, joinWait := false, ready := false, step5Done := false, powerFaults := 0, exclAt := none, rejoinRaw := 0 }

/-- The Meridian with nothing presented. -/
def meridian0 : Meridian :=
  { queue := ⟨[], [], []⟩, stalled := ⟨[], [], []⟩, owed := ⟨[], [], []⟩, acc := ⟨[], [], []⟩, present := ⟨[], [], []⟩,
    sigStalled := ⟨[], [], []⟩ }

/-- No rejoin in progress. -/
def rejoin0 : RejoinSt :=
  { dirty := [], toCopy := [], copied := [], join := false, fromPair := false, observed := false, finalOk := false,
    waiting := false }

/-- A gated domain at rest. -/
def domain0 : DomainSt := ⟨false, 0, false, none, 0, 0⟩

/-- No request pending. -/
def requests0 : Requests := ⟨none, none, none, none, none⟩

/-- The Chronograph with empty banks. -/
def chrono0 : ChronoSt :=
  { bank0 := none, bank1 := none, offset := 0, idle := 0, hpDue := false, nextIndex := 0, mtIssued := 0, stretched := 0,
    cycleStart := 0, cycles := 0, occ := [], domSafe := domain0, domIsth := domain0, domImg := domain0, loadSlot := none,
    loadPoison := false, req := requests0, startAt := none, sampleTimes := [], gateOpen := false, bootLoaded := false }

/-- The network engine with empty tables. -/
def net0 : NetSt := ⟨[], [], [], [], [], [], [], [], [], []⟩

/-- The bridge at rest. -/
def isth0 : IsthSt :=
  { counts := ⟨0, 0, 0⟩, votes := [], posted := [], fetched := [], bus := none, retry := [], due := [], rings := [],
    ringTurn := false, xfers := [], fences := [], resetTo := none, ints := [], monitor := [], stream := 0, order := 0 }

/-- Holm without power. -/
def holm0 : HolmSt := ⟨[], [], [], [], false⟩

/-- The motion unit at Holm power-up (R314). -/
def motion0 : MotionSt :=
  { sensors := [], tickMs := 0, implaus := [], overAt := none, selected := none, selAt := 0, lastBit := none, sendBit := false,
    link := [], resets := 0, press := none, judge := none, powerAt := 0 }

/-- The pair without a partner. -/
def pair0 : PairSt :=
  { claimAt := none, noMastery := 0, give := none, partner := none, hello := none, silent := true, gaveUp := none,
    haltRaw := 0, common := false, mirroring := false, delta := [], batchSeq := 0, batchOpen := [], checkSeq := 0,
    checkOpen := [], digests := [], snapsSince := [], images := [], slots := [], results := [], unconfirmed := [],
    ownImage := false, xchkRun := [], xchkOk := 0, overruns := [], notices := [], exchangeHp := none, sleepHp := none,
    reason := 0, eligCount := 0, cycleBad := false, lineOkRaw := 0, lineFault := false, joinRaw := 0, retryRaw := none }

/-- Skerry before X_PWR is first valid (assumption log 5). -/
def skerry0 : SkerrySt :=
  { powered := false, charged := false, nv0 := (0, 0, 0, true), nv1 := (0, 0, 0, true), nextCopy := 0, timeValid := false,
    lostSupply := true, held := 0, entering := false, warned := false, back := none, interruptRaw := none }

/-- A slot that holds a factory image (R1): VALID, under its TYPE. -/
def factorySlot (bank typ : Nat) : Slot :=
  { state := .valid, typ := typ, alloc := (Config.factoryImage bank typ).length, written := (Config.factoryImage bank typ).length,
    content := putBytes noMem 0 (Config.factoryImage bank typ), damaged := false }

/-- The image store as delivered (R1, R2): BOOT, RUNTIME, MICROCODE and COMPAT_TABLE in both banks, no application, no boot set.
Which slots hold them the spec does not say: here the slot TYPE - 1 of each bank (DESIGN CHOICE, assumption log 95). -/
def store0 : StoreSt :=
  { slots := [0, 1].flatMap (fun b => [1, 2, 3, 7].map (fun t => (128 * b + t - 1, factorySlot b t))),
    boot0 := ⟨[], 0, false⟩, boot1 := ⟨[], 0, false⟩, keys := [], running := none, fellBack := false,
    checksOk := false, viaSvc := false }

/-- An empty recorder region (assumption log 2). -/
def recorder0 : RecSt :=
  { clear0 := (0, 0, 0, false), clear1 := (0, 0, 0, false), nextCopy := 0, hist := [], extremes := [], counters := [],
    poison := [], log := [], displaced := false, clearing := none }

/-- The transit clock at power-on: counter at 0 (R173). -/
def time0 : TimeSt :=
  { raw := 0, keptRate := none, acc := 0, mt := 0, phase := 0, onCrystal := false, started := false, measured := false, lockRun := 0,
    lossRun := 0, lastMeas := 0, lastRef := 0xFF, offHighAt := none, tsqOvfAt := none, atLimit := false, pulseHigh := false, pulseRise := 0,
    pulseSlot := 0, lastPulse := none, missing := false, tsq := [] }

/-- The module right after reset: every register at the Reset column of its table (`regs` lists nothing), every memory
empty, the queue empty, no supply yet valid. -/
def State.reset : State :=
  { pending := [], regs := [], snaps := [], dram := ⟨noMem, noMem, noMem⟩, sound := noMem, time := time0,
    ptp := ⟨[], none, []⟩,
    meridian := meridian0,
    lanes := ⟨lane0, lane0, lane0⟩, rejoin := rejoin0, chrono := chrono0, jobs := [], rings := [], journal := [],
    journalBuildSet := false, journalSetup := [], journalBad := [], evq := ⟨[], [], [], [], []⟩,
    retain := { ever := false, generation := 0, appBuild := 0, size := 0, lastRelease := [], invalid := false,
                headPoison := false, data := noMem, log := none, wordWritten := false, logBad := [] },
    restart := ⟨0, false, 0, 0, false, false⟩, force := ⟨[], [], false, false⟩, net := net0, safe := [], can := [], filters := [],
    isth := isth0, holm := holm0, motion := motion0, fm := ⟨[], [], [], 0⟩, pair := pair0, skerry := skerry0,
    store := store0, recorder := recorder0, recQ := [],
    svc := { nonce := none, salt := 0, pwKey := 0, modKey := 0, holder := none, lastReq := 0, link := false, address := 0,
             imgFrom := none, written := [], writtenMt := 0 },
    tap := ⟨2, none, 0⟩, out := [], freeCount := 0 }

end Sys2Proof.Machine
end

