-- ==== Sys2Proof/Machine/Ops.lean ====
section
/-!
DEFINITION. The named operations that the meanings share: registers and their fields, corrected time, the active bank,
lane states and the vote mode, raising an event with its reaction (R344 to R352), excluding a lane (R65, R66, R73), and
giving up or halting (R320, R344).
-/

namespace Sys2Proof.Machine

/-! ### Registers -/

/-- Value of the register stored under a key. -/
def getReg (s : State) (k : Nat) : Word := tget (resetVal k) s.regs k

/-- The state with a register's value replaced; a register at its reset value is not listed. -/
def setReg (s : State) (k : Nat) (v : Word) : State := { s with regs := tset (resetVal k) s.regs k v }

/-- Field hi:lo of a word. -/
def wordFld (v : Word) (hi lo : Nat) : Nat := (v.extractLsb' lo (hi - lo + 1)).toNat

/-- The mask of field hi:lo. -/
def fldMask (hi lo : Nat) : Word := (BitVec.ofNat 32 (2 ^ (hi - lo + 1) - 1)) <<< lo

/-- A word with field hi:lo replaced. -/
def setWordFld (w : Word) (hi lo v : Nat) : Word :=
  (w &&& ~~~ fldMask hi lo) ||| ((BitVec.ofNat 32 v <<< lo) &&& fldMask hi lo)

/-- Field hi:lo of a register. -/
def fld (s : State) (k hi lo : Nat) : Nat := wordFld (getReg s k) hi lo

/-- The state with field hi:lo of a register replaced. -/
def setFld (s : State) (k hi lo v : Nat) : State := setReg s k (setWordFld (getReg s k) hi lo v)

/-- A one-bit field as a Bool. -/
def bit (s : State) (k i : Nat) : Bool := decide (fld s k i i = 1)

/-- The state with a one-bit field replaced. -/
def setBit (s : State) (k i : Nat) (b : Bool) : State := setFld s k i i (if b then 1 else 0)

/-- A saturating count field advanced by `n`. -/
def satAdd (s : State) (k hi lo n : Nat) : State :=
  setFld s k hi lo (min (fld s k hi lo + n) (2 ^ (hi - lo + 1) - 1))

/-- A 64-bit value held in a register pair, _LO at `k` and _HI at `k + 4`. -/
def get64 (s : State) (k : Nat) : Dword := getReg s (k + 4) ++ getReg s k

/-- The state with a register pair written. -/
def set64 (s : State) (k : Nat) (v : Dword) : State :=
  setReg (setReg s k (v.extractLsb' 0 32)) (k + 4) (v.extractLsb' 32 32)

/-- A free value (assumption log 1): the opaque constant applied to the counter of the state, and the state with the
counter advanced. -/
def takeFree (s : State) : Dword × State :=
  (Config.freeValue s.freeCount, { s with freeCount := s.freeCount + 1 })

/-- The state with one message put on a connector. -/
def emitOut (s : State) (o : Out) : State := { s with out := o :: s.out }

/-- A counter of the recorder advances, saturating (R420): 1 to 20 CAN errors by channel, 21 to 44 DO switching by channel,
45 to 47 exclusions by lane, 48 takeovers, 49 give-ups. -/
def recCount (k : Nat) (s : State) : State :=
  let v := tget (0 : Word) s.recorder.counters k
  let c := tset 0 s.recorder.counters k (if v = BitVec.allOnes 32 then v else v + 1)
  { s with recorder := { s.recorder with counters := c } }

/-! ### Time -/

/-- Raw counter as a number of 1/64 ns (R165). -/
def rawNow (s : State) : Nat := s.time.raw.toNat

/-- BASE_RAW in 1/64 ns (R165, R183). -/
def baseRaw (s : State) : BitVec 72 :=
  get64 s Reg.transitBaseRawLo ++ (getReg s Reg.transitBaseRawFrac).extractLsb' 0 8

/-- RATE, signed, in 2^-40 (R167). -/
def rate (s : State) : Int := (getReg s Reg.transitRate).toInt

/-- Corrected time of a raw value (R167): the product is formed exactly and floored. -/
def correctedAt (s : State) (raw : BitVec 72) : Dword :=
  let delta : Int := ((raw - baseRaw s).toNat : Nat)
  get64 s Reg.transitBaseTimeLo + BitVec.ofInt 64 (delta * (2 ^ 40 + rate s) / 2 ^ 46)

/-- Corrected Transit time now, in ns (R9). -/
def corrected (s : State) : Dword := correctedAt s s.time.raw

/-- Number of the microtick that corrected time is in (R179): corrected time less the sum of the steps, in whole µs. -/
def microtickNo (s : State) : Int := (((corrected s).toNat : Int) - s.time.phase) / 1000

/-- Corrected time of the microtick that the module is in. -/
def microtickTime (s : State) : Dword := BitVec.ofInt 64 (1000 * microtickNo s + s.time.phase)

/-- Raw time that elapses in `n` µs: 64 000 units of 1/64 ns each. -/
def usRaw (n : Nat) : Nat := 64000 * n

/-- Raw time that elapses in `n` ms. -/
def msRaw (n : Nat) : Nat := 64000000 * n

/-! ### Module and lane states -/

/-- Encoding of MOD_STATE.STATE (R386). -/
def modCode : ModState → Nat
  | .sleep => 0 | .waking => 1 | .boot => 2 | .maintenance => 3 | .joining => 4 | .standby => 5 | .active => 6
  | .safeHalt => 7

/-- Decoding of MOD_STATE.STATE. -/
def modOf : Nat → ModState
  | 0 => .sleep | 1 => .waking | 2 => .boot | 3 => .maintenance | 4 => .joining | 5 => .standby | 6 => .active
  | _ => .safeHalt

/-- The module state. -/
def modState (s : State) : ModState := modOf (fld s Reg.modState 2 0)

/-- Encoding of a lane state (R86). -/
def laneCode : LaneState → Nat
  | .off => 0 | .testing => 1 | .rejoining => 2 | .voting => 3 | .excluded => 4 | .splitRun => 5

/-- Decoding of a lane state; the codes 6 and 7 are never shown. -/
def laneOf : Nat → LaneState
  | 0 => .off | 1 => .testing | 2 => .rejoining | 3 => .voting | 4 => .excluded | _ => .splitRun

/-- The state of a lane. -/
def laneState (s : State) (l : Lane) : LaneState := laneOf (fld s Reg.laneState (4 * l.idx + 2) (4 * l.idx))

/-- LANE_STATE with a lane's field replaced, no event. -/
def putLaneState (s : State) (l : Lane) (st : LaneState) : State :=
  setFld s Reg.laneState (4 * l.idx + 2) (4 * l.idx) (laneCode st)

/-- Encoding of LANE_STATE.MODE (R86). -/
def voteCode : VoteMode → Nat
  | .triple => 0 | .dual => 1 | .split => 2 | .none => 3

/-- Decoding of LANE_STATE.MODE. -/
def voteOf : Nat → VoteMode
  | 0 => .triple | 1 => .dual | 2 => .split | _ => .none

/-- The vote mode shown in LANE_STATE. -/
def voteMode (s : State) : VoteMode := voteOf (fld s Reg.laneState 13 12)

/-- The lanes in a state. -/
def lanesIn (s : State) (st : LaneState) : List Lane := allLanes.filter (fun l => laneState s l = st)

/-- The VOTING lanes. -/
def votingLanes (s : State) : List Lane := lanesIn s .voting

/-- The vote mode that the lane states give (R72). -/
def modeOfLanes (s : State) : VoteMode :=
  match (votingLanes s).length with
  | 3 => .triple
  | 2 => .dual
  | 0 => if (lanesIn s .splitRun).isEmpty then .none else .split
  | _ => .none

/-- The designated lane of SPLIT (R82). -/
def designated (s : State) : Lane := (Lane.ofIdx? (fld s Reg.laneState 15 14)).getD .a

/-- The lanes that receive deliveries, releases, event records and engine writes (R40); in a join the REJOINING lanes receive
them beside the SPLIT_RUN lanes (R77, R80). -/
def receivingLanes (s : State) : List Lane :=
  if voteMode s = .split then allLanes.filter (fun l => laneState s l = .splitRun ∨ laneState s l = .rejoining)
  else allLanes.filter (fun l => laneState s l = .voting ∨ laneState s l = .rejoining)

/-- TRIPLE or DUAL. -/
def isVoting (s : State) : Bool := decide (voteMode s = .triple) || decide (voteMode s = .dual)

/-- The Chronograph executes the active bank. -/
def running (s : State) : Bool := bit s Reg.chronoStatus 0

/-- The module is in its set-up phase (R374): BOOT with the start gate open. -/
def setupPhase (s : State) : Bool := decide (modState s = .boot) && s.chrono.gateOpen

/-- Ready lanes (R373). -/
def readyLanes (s : State) : List Lane := allLanes.filter (fun l => (s.lanes.get l).ready)

/-- The module behaves as a standby (R40, R338): STANDBY or JOINING. -/
def standsBy (s : State) : Bool := decide (modState s = .standby) || decide (modState s = .joining)

/-- A lane votes in TRIPLE or DUAL. -/
def laneVotes (s : State) (l : Lane) : Bool := isVoting s && decide (laneState s l = .voting)

/-! ### Window accesses in progress (R260 to R265) -/

/-- Delayed-read slots in use (R265, R278). -/
def slotsBusy (s : State) : Nat := (s.isth.votes.filter (·.slot)).length + s.isth.fetched.length

/-- ISTH_STATUS as the slots and entries in use give it. -/
def showIsth (s : State) : State :=
  let s := setFld (setFld s Reg.isthStatus 3 0 (slotsBusy s)) Reg.isthStatus 13 8 s.isth.posted.length
  setBit s Reg.isthStatus 14 (standsBy s)

/-- The state with the votes replaced. -/
def setVotes (s : State) (l : List WinVote) : State := showIsth { s with isth := { s.isth with votes := l } }

/-- Votes that still wait for the result that a prefetched block serves. -/
def blockAwaited (s : State) (id : Nat) : Bool := s.isth.votes.any (fun v => decide (v.block = some id))

/-- A discarded block whose votes have all been delivered leaves its slot. -/
def dropDead (s : State) : State :=
  showIsth { s with isth := { s.isth with fetched := s.isth.fetched.filter (fun p => !p.dead || blockAwaited s p.id) } }

/-- Lanes that a vote's result is still to reach: VOTING lanes, and observing lanes of the voted stream. -/
def lanesAwaited (s : State) (v : WinVote) : List Lane :=
  match v.stream with
  | some l => [l]
  | none => allLanes.filter (fun l => laneVotes s l || (decide (laneState s l = .rejoining) && s.rejoin.finalOk))

/-- Votes that have reached every lane are dropped; their slots are free. -/
def dropTold (s : State) : State :=
  dropDead (setVotes s (s.isth.votes.filter (fun v =>
    !(v.result.isSome && (lanesAwaited s v).all (fun l => v.told.contains l)))))

/-- A lane's own accesses leave the votes: it waits for no result any more (R65, R261). -/
def dropAccesses (l : Lane) (s : State) : State :=
  { s with isth := { s.isth with
      votes := s.isth.votes.map (fun v => { v with got := v.got.filter (fun a => decide (a.lane ≠ l)) }) } }

/-! ### The active bank -/

/-- Number of the active bank. -/
def activeNo (s : State) : Nat := fld s Reg.chronoStatus 1 1

/-- The active bank, if one is loaded. -/
def activeBank (s : State) : Option Bank := if activeNo s = 0 then s.chrono.bank0 else s.chrono.bank1

/-- The shadow bank, if it holds content. -/
def shadowBank (s : State) : Option Bank := if activeNo s = 0 then s.chrono.bank1 else s.chrono.bank0

/-- The header of an empty bank: every number 0. -/
def noHeader : Header :=
  { flags := 0, version := 0, compat := 0, bcLen := 0, hpLen := 0, cw := 0, entryCount := 0, alignOffset := 0,
    laneSlack := 0, buildId := 0, appBuildId := 0, regions := [], images := [] }

/-- Header of the active bank. -/
def header (s : State) : Header := ((activeBank s).map (·.header)).getD noHeader

/-- The bank is built for a pair (R29 FLAGS). -/
def pairBank (s : State) : Bool := decide ((header s).flags % 2 = 1)

/-- Coupling window in force (R31). -/
def couplingWindow (s : State) : Nat := fld s Reg.chronoCw 10 0

/-- A region of Sound memory (R29), as (offset, size): 0 STAGE_A, 1 STAGE_B, 2 STAGE_C, 3 OUTPUT, 4 FLOW, 5 CAN_MIRROR,
6 BRIDGE. -/
def region (s : State) (i : Nat) : Nat × Nat := nth (0, 0) (header s).regions i

/-- An input image, as (offset, size). -/
def imageRegion (s : State) (i : Nat) : Nat × Nat := nth (0, 0) (header s).images i

/-- The partner would take over: it is a pair, the link delivers, and the partner was last reported eligible. -/
def eligiblePartner (s : State) : Bool :=
  pairBank s && !s.pair.silent && (s.pair.partner.map (·.eligible)).getD false

/-- A hyperperiod count lies after another one. -/
def hpAfter (n h : Word) : Bool := decide (n ≠ h) && decide (wsub n h < 2 ^ 31)

/-- A change committed at a microtick takes effect at the hyperperiod boundary that starts at microtick count `start`: it follows
the commit by at least one microtick, so a commit in the last microtick of the hyperperiod waits (R53, R83, R146). -/
def dueAt (start commit : Nat) : Bool := decide (commit + 2 ≤ start)

/-- The boundary that both modules of a pair have set for an exchange (R157): in a standby the one it has been sent, in the active
module the one it has set with an eligible standby. -/
def exchangeBoundary (s : State) : Option Word :=
  if pairBank s && (standsBy s || eligiblePartner s) then s.pair.exchangeHp else none

/-- A pending bank switch is made at the next hyperperiod boundary of the schedule as compiled (R44, R53, R79): in a pair at the
boundary that both modules have set (R157). -/
def switchesNext (s : State) : Bool :=
  match s.chrono.req.bankSwitch with
  | none => false
  | some m =>
    match exchangeBoundary s with
    | some h => !hpAfter h (getReg s Reg.chronoHpCount + 1)
    | none =>
      let h := header s
      !(pairBank s && standsBy s) && dueAt (s.time.mt + (h.hpLen - fld s Reg.chronoCycle 11 0) * h.bcLen - s.chrono.offset) m

/-- Record of a task in the active bank's task table (R118), as 128 bits. -/
def taskRecord (s : State) (t : Nat) : Sig := ((activeBank s).map (fun b => nth 0 b.tasks t)).getD 0

/-- Field of a task record. -/
def taskFld (r : Sig) (hi lo : Nat) : Nat := (r.extractLsb' lo (hi - lo + 1)).toNat

/-- Cycle index. -/
def cycleNow (s : State) : Nat := fld s Reg.chronoCycle 11 0

/-- Hyperperiod count. -/
def hpNow (s : State) : Word := getReg s Reg.chronoHpCount

/-- DETAIL_A of checkpoint, staging, task and pair events: low bits given, cycle index in 43:32, low 20 bits of the
hyperperiod count in 63:44 (R87, R143, R343). -/
def detailCycle (s : State) (low : Nat) : Nat := low + cycleNow s * 2 ^ 32 + (hpNow s).toNat % 2 ^ 20 * 2 ^ 44

/-- State of a task's jobs before the first one. -/
def noJob : JobSt :=
  { count := 0, has := false, abandoned := false, checked := false, measured := false, releaseMt := 0, deadlineMt := 0, relTime := 0,
    nextRel := 0, trigger := 0, suppressed := false, switched := false, own := true, area := 0, highHp := none,
    lanes := ⟨⟨0, true, false, false⟩, ⟨0, true, false, false⟩, ⟨0, true, false, false⟩⟩ }

/-- The job state of a task. -/
def job (s : State) (t : Nat) : JobSt := tget noJob s.jobs t

/-- The state with a task's job state replaced. -/
def setJob (s : State) (t : Nat) (j : JobSt) : State := { s with jobs := tset noJob s.jobs t j }

/-- The state with one lane's record replaced. -/
def setLane (s : State) (l : Lane) (x : LaneSt) : State := { s with lanes := s.lanes.set l x }

/-! ### Events -/

/-- Strength of a reaction (R344). -/
def rankOf : Reaction → Nat
  | .log => 0 | .notify => 1 | .excludeLane => 2 | .degrade => 3 | .yield => 4 | .safeHalt => 5

/-- Reaction of a register code; 6 and 7 are treated as SAFE_HALT (R344). -/
def reactionOf : Nat → Reaction
  | 0 => .log | 1 => .notify | 2 => .excludeLane | 3 => .degrade | 4 => .yield | _ => .safeHalt

/-- The stronger of two reactions. -/
def stronger (a b : Reaction) : Reaction := if rankOf a < rankOf b then b else a

/-- Severity code (R90). -/
def sevCode : Severity → Nat
  | .info => 0 | .notice => 1 | .warning => 2 | .fault => 3 | .safety => 4

/-- The reaction of the valid FAULT_TABLE entries whose CODE is `code`, the strongest (R348). -/
def tableReaction (s : State) (code : Nat) : Reaction :=
  s.regs.foldl (fun r (k, v) =>
    if Reg.faultTable 0 ≤ k ∧ k < Reg.faultTable 64 ∧ k % 4 = 0 ∧ wordFld v 31 31 = 1 ∧ wordFld v 15 0 = code
    then stronger r (reactionOf (wordFld v 18 16)) else r) .log

/-- The floor of FAULT_SEV_FLOOR for a severity (R348). -/
def floorReaction (s : State) (sev : Severity) : Reaction :=
  reactionOf (fld s Reg.faultSevFloor (3 * sevCode sev + 2) (3 * sevCode sev))

/-- The reaction computed for an event (R348): the strongest of default, table and floor. -/
def reactionFor (s : State) (e : EvDef) : Reaction :=
  stronger (stronger e.reaction (tableReaction s e.code)) (floorReaction s e.sev)

/-- The four minority events that name their lane in DETAIL_B bits 1:0 (R344). -/
def namesLaneInB (code : Nat) : Bool :=
  decide (code = Ev.ringMinority.code) || decide (code = Ev.descMinority.code)
    || decide (code = Ev.evqHeadMinority.code) || decide (code = Ev.winMinority.code)

/-- The lane that an event names (R344, R345). -/
def namedLane (code source detailB : Nat) : Option Lane :=
  if namesLaneInB code then Lane.ofIdx? (detailB % 4) else Lane.ofIdx? source

/-- LANE_LAST_EXCL.REASON of an exclusion by an event (R19, R86, R117); none where the spec lists no reason. -/
def exclReason (code : Nat) : Option Nat :=
  if code = Ev.laneLate.code then some 1
  else if code = Ev.sigMinority.code then some 2
  else if code = Ev.sigSequence.code then some 3
  else if code = Ev.stageMinority.code then some 4
  else if code = Ev.setupMinority.code ∨ code = Ev.winMinority.code then some 5
  else if code = Ev.ringMinority.code ∨ code = Ev.descMinority.code ∨ code = Ev.evqHeadMinority.code then some 6
  else if code = Ev.accessFault.code then some 7
  else if code = Ev.poisonConsumed.code then some 8
  else if code = Ev.laneClockFault.code then some 9
  else if code = Ev.lanePowerFault.code then some 10
  else none

/-- Records of the highest severity held in the pending store; the code 0 when it is empty (R360 PENDING_SEV). -/
def pendingSev (l : List Record) : Nat := l.foldl (fun m r => max m (sevCode r.sev)) 0

/-- The pending store replaced, with FAULT_STATUS.PENDING and PENDING_SEV (R360). -/
def setPending (s : State) (l : List Record) : State :=
  setFld (setFld { s with fm := { s.fm with pending := l } } Reg.faultStatus 12 8 l.length)
    Reg.faultStatus 15 13 (pendingSev l)

/-- The newest record of the lowest severity held, taken out: its record and the rest (R352). -/
def takeLowest (l : List Record) : Option (Record × List Record) :=
  let low := l.foldl (fun m r => min m (sevCode r.sev)) 4
  match (l.reverse.findIdx? (fun r => sevCode r.sev = low)) with
  | some i =>
    let rev := l.reverse
    (rev[i]?).map (fun r => (r, (rev.eraseIdx i).reverse))
  | none => none

/-- The queue of a record that is not a completion record (R103): FAULT and SAFETY to EVQ_0, the others by EVQ_ROUTE. -/
def routeQueue (s : State) (code : Nat) (sev : Severity) : Nat :=
  if 3 ≤ sevCode sev then 0
  else
    let b := code / 256
    if b < 16 then fld s Reg.evqRouteLo (2 * b + 1) (2 * b)
    else fld s Reg.evqRouteHi (2 * (b - 16) + 1) (2 * (b - 16))

/-- EVQ_OVF_STATUS and the WAITING bits as the overflow store and the counters give them (R116). -/
def showOverflow (s : State) : State :=
  let s := setFld s Reg.evqOvfStatus 8 0 s.evq.overflow.length
  let s := setFld s Reg.evqOvfStatus 22 16 s.evq.codes.length
  [0, 1, 2, 3].foldl (fun s m =>
    setBit s (Reg.evqStatus m) 1
      (s.evq.overflow.any (fun w => w.queue = m) || s.evq.codes.any (fun c => c.queue = m)
        || s.evq.catchAll.any (fun c => c.queue = m))) s

/-- The record count of a queue advanced (R104): the new count, which is the record's SEQ, and the state. -/
def countRecord (s : State) (q : Nat) : Word × State :=
  let n := tget 0 s.evq.counts q + 1
  (n, { s with evq := { s.evq with counts := tset 0 s.evq.counts q n } })

/-- A record counted in a list of counters under its queue and key (R107). -/
def countIn (l : List CodeCounter) (same : CodeCounter → Bool) (q : Nat) (r : Record) : List CodeCounter :=
  if l.any same then
    l.map (fun c => if same c then { c with count := c.count + 1, last := r.time } else c)
  else l ++ [⟨q, r.code, r.sev, 1, r.time, r.time, 0⟩]

/-- A record placed in the code counters, or where none is free in the catch-all counter of its queue and severity
(R107 places 2 and 3). -/
def toCounters (s : State) (q : Nat) (r : Record) : State :=
  let same : CodeCounter → Bool := fun c => decide (c.queue = q) && decide (c.code = r.code)
  let s :=
    if s.evq.codes.any same ∨ s.evq.codes.length < 64 then
      { s with evq := { s.evq with codes := countIn s.evq.codes same q r } }
    else
      { s with evq := { s.evq with
          catchAll := countIn s.evq.catchAll (fun c => decide (c.queue = q) && decide (c.sev = r.sev)) q r } }
  showOverflow (setBit s Reg.evqError 2 true)

/-- The failure record of a posted write has left the pending store, for its queue or for a counter: its entry is freed (R268). -/
def freeEntry (r : Record) (s : State) : State :=
  if r.code = Ev.postedWriteFailed.code then
    match s.isth.posted.find? (fun p => p.failed && decide (p.tag = r.detailB) && decide (p.window = r.source)) with
    | some p => showIsth { s with isth := { s.isth with posted := s.isth.posted.erase p } }
    | none => s
  else s

/-- The pending store takes a record (R351, R352 1 and 2); `true` when it found the store full of FAULT and SAFETY
records, which makes PENDING_OVERFLOW (R352 3). -/
def pushPending (s : State) (r : Record) : State × Bool :=
  if s.fm.pending.length < 16 then (setPending s (s.fm.pending ++ [r]), false)
  else
    let count := fun (s : State) (r : Record) =>
      let q := routeQueue s r.code r.sev
      let (_, s) := countRecord s q
      freeEntry r (setBit (toCounters s q r) Reg.faultError 3 true)
    if sevCode r.sev < 3 then (count s r, false)
    else match takeLowest s.fm.pending with
      | some (low, rest) =>
        if sevCode low.sev < 3 then (setPending (count s low) (rest ++ [r]), false)
        else (count s r, true)
      | none => (count s r, true)

/-- The level register after a reaction (R346): a stronger reaction replaces it and is named in FAULT_LAST_CODE. -/
def raiseLevel (s : State) (code : Nat) (r : Reaction) : State :=
  if fld s Reg.faultStatus 2 0 < rankOf r then
    let s := setFld s Reg.faultStatus 2 0 (rankOf r)
    setReg s Reg.faultLastCode (setWordFld (BitVec.ofNat 32 code) 18 16 (rankOf r))
  else s

/-- A queued record is an application entry (R421). -/
def isApp (r : Record) : Bool := decide (0xFF00 ≤ r.code)

/-- A record enters the recorder's input queue (R421, R422), which REC_STATUS.QUEUED shows. -/
def queueRec (r : Record) (s : State) : State :=
  let q := s.recQ ++ [r]
  setFld { s with recQ := q } Reg.recStatus 25 19 (min 64 q.length)

/-- The part of a reaction that needs no other unit: recorder entry, NOTIFIED, DEGRADED, level (R344, R346). -/
def applyStatus (s : State) (rec' : Record) : State :=
  let r := rec'.reaction
  let s := if 1 ≤ rankOf r then setBit (queueRec rec' s) Reg.faultStatus 4 true else s
  let s := if r = .degrade then setBit s Reg.faultStatus 3 true else s
  raiseLevel s rec'.code r

/-- No further entry issues (R50): the Chronograph stops executing the bank, and the run's end is noted (R150 STOP_TIME). -/
def stopChrono (s : State) : State :=
  if running s then
    setBit { s with restart := { s.restart with stopTime := corrected s } } Reg.chronoStatus 0 false
  else s

/-- The level that MST_OUT drives in a module state (R317): MASTERY while ACTIVE or claiming, LOW in SLEEP, else ALIVE. -/
def mstOut (s : State) (m : MstLevel) : State :=
  setFld s Reg.pairStatus 9 8 (match m with | .low => 0 | .alive => 1 | .mastery => 2)

/-- Encoding of a give-up cause (R342). -/
def giveUpCode : GiveUpCause → Nat
  | .none => 0 | .yield => 1 | .safeHalt => 2 | .restart => 3 | .handover => 4 | .silence => 5 | .powerFail => 6
  | .mstLow => 7

/-- A function that raises an event with SOURCE_INDEX, DETAIL_A and DETAIL_B. -/
abbrev RaiseFn := EvDef → Nat → Nat → Nat → State → State

/-- MOD_STATE.STATE changes, with MOD_STATE_CHANGED (R365). -/
def changeModState (rz : RaiseFn) (new : ModState) (s : State) : State :=
  let old := modState s
  if old = new then s
  else
    let role := match new with | .active => 1 | .standby => 2 | .joining => 3 | _ => 0
    let s := setFld s Reg.modState 2 0 (modCode new)
    let s := if pairBank s then setFld s Reg.pairStatus 1 0 role else s
    rz Ev.modStateChanged 0xFF 0 (modCode old + 16 * modCode new) s

/-! ### Aborting what is in progress (R111) -/

/-- A channel with nothing queued. -/
def canCh0 : CanCh :=
  { queue := [], suspend := false, recovery := false, busOffAt := 0, noSupply := false, refSeq := 0, refSof := none,
    missedAt := none, rxBytes := 0, rxCount := 0, waitIdle := false, loopDelay := 0, ssp := 0 }

/-- A channel. -/
def chan (s : State) (n : Nat) : CanCh := tget canCh0 s.can n

/-- Channels at rest, those without the supply of their group marked: a start does not bring it back (R249). -/
def unsupplied (s : State) : Tab CanCh :=
  (s.can.filter (fun x => x.2.noSupply)).map (fun x => (x.1, { canCh0 with noSupply := true }))

/-- The state with a channel replaced. -/
def setChan (s : State) (n : Nat) (c : CanCh) : State := { s with can := tset canCh0 s.can n c }

/-- A channel's frame in transmission is aborted (R111): the transmitter drives recessive, the entry stays queued; an attempt that
ends so sets the clash count to 0 (R248). -/
def abortChan (n : Nat) (s : State) : State :=
  let c := chan s n
  if c.queue.any (fun e => e.sof.isSome) then
    setFld (setChan s n { c with queue := c.queue.map (fun e => { e with sof := none }) }) (Reg.canChTxq n) 9 8 0
  else s

/-- Abort of frames in transmission (R111). -/
def abortCan (s : State) : State := (List.range 20).foldl (fun s i => abortChan (i + 1) s) s

/-- Abort of message-data sends in progress (R111): their frames not yet handed to the PHY whole are taken back or truncated; the
records stay. -/
def abortNet (s : State) : State :=
  let mine := fun (f : EthFrame) => s.net.sends.any (fun x => x.frames.contains f)
  { s with net := { s.net with
      sends := []
      egress := s.net.egress.filterMap (fun (k, q) =>
        let q := q.filter (fun f => !mine f)
        if q.isEmpty then none else some (k, q))
      sending := s.net.sending.filter (fun (_, _, f) => !mine f) } }

/-- Abort of the bridge (R111): the cycle in progress is abandoned before the data strobe.  A core that waits for an access is
answered when its bound has passed (R262). -/
def abortIsth (s : State) : State :=
  showIsth { s with isth := { s.isth with bus := none, retry := [], due := [], rings := [], posted := [], fetched := [] } }

/-- Entries of the recorder's queue that a ring's target put there are not started (R111); their records stay in the journal. -/
def abortRec (s : State) : State :=
  let q := s.recQ.filter (fun r => !isApp r)
  if q.length = s.recQ.length then s else setFld { s with recQ := q } Reg.recStatus 25 19 (min 64 q.length)

/-- Every target aborts the operation in progress, so that the far side does not take it (R111). -/
def abortAll (s : State) : State := abortRec (abortIsth (abortNet (abortCan s)))

/-- The module goes to SAFE_HALT: operations in progress are aborted (R111), no further entry, MST_OUT without MASTERY (R317, R344,
R365). -/
def enterSafeHalt (rz : RaiseFn) (s : State) : State :=
  let s := mstOut (stopChrono (if modState s = .active then abortAll s else s)) .alive
  let s := setBit { s with pair := { s.pair with haltRaw := rawNow s, claimAt := none } } Reg.pairStatus 2 false
  changeModState rz .safeHalt s

/-- The active module of a pair gives up control (R320): GIVE_UP frame, the MASTERY wave stops, no further entry; SAFE_HALT
follows when the crate bus drivers are released.  A module whose bank has no PAIR goes to SAFE_HALT at once. -/
def giveUp (rz : RaiseFn) (cause : GiveUpCause) (s : State) : State :=
  if modState s = .active then
    if pairBank s then
      if s.pair.gaveUp = none then
        let s := emitOut s (.straitGiveUp cause)
        let s := mstOut (stopChrono s) .alive
        let s := recCount 49 { s with pair := { s.pair with gaveUp := some cause } }
        rz Ev.gaveUp 0xFF (detailCycle s 0) (giveUpCode cause) s
      else s
    else enterSafeHalt rz s
  else s

/-- The module state admits a YIELD or SAFE_HALT reaction (R353: BOOT, MAINTENANCE and SAFE_HALT leave the state). -/
def inControl (s : State) : Bool :=
  match modState s with
  | .joining | .standby | .active => true
  | _ => false

/-- Effect of a YIELD reaction (R344): an ACTIVE module gives up; STANDBY or JOINING goes to SAFE_HALT. -/
def applyYield (rz : RaiseFn) (s : State) : State :=
  match modState s with
  | .active => giveUp rz .yield s
  | .standby | .joining => enterSafeHalt rz s
  | _ => s

/-- Effect of a SAFE_HALT reaction (R344): as YIELD, with SAFE_HALT as the resulting state in every case. -/
def applySafeHalt (rz : RaiseFn) (s : State) : State :=
  if inControl s then
    let s := if modState s = .active ∧ pairBank s then giveUp rz .safeHalt s else s
    enterSafeHalt rz s
  else s

/-- A standby loses eligibility for a reason of R336; one that is not eligible keeps the reason only. -/
def loseEligible (rz : RaiseFn) (reason : Nat) (s : State) : State :=
  let was := bit s Reg.pairStatus 2
  let s := { s with pair := { s.pair with reason := reason, eligCount := 0, xchkOk := 0 } }
  if was then
    let s := satAdd (setBit s Reg.pairStatus 2 false) Reg.pairCounts 15 8 1
    rz Ev.eligibilityLost 0xFF (detailCycle s 0) reason s
  else s

/-- LANE_STATE.MODE follows from the lane states (R72), with MODE_CHANGED; a safe force entry is marked for dropping when
the mode leaves TRIPLE and DUAL (R162).  In NONE a module is neither ACTIVE nor STANDBY; the spec does not say how it leaves
them: it yields, without an event of its own (DESIGN CHOICE, assumption log 79). -/
def updateMode (rz : RaiseFn) (s : State) : State :=
  let old := voteMode s
  let new := modeOfLanes s
  if old = new then s
  else
    let s := setFld s Reg.laneState 13 12 (voteCode new)
    let s := if new = .split ∨ new = .none then { s with force := { s.force with dropSafe := true } } else s
    let s := rz Ev.modeChanged 0xFF 0 (voteCode old + 16 * voteCode new) s
    let s := if modState s = .standby ∧ new ≠ .triple ∧ new ≠ .dual then loseEligible rz 7 s else s
    if new = .none ∧ (modState s = .active ∨ modState s = .standby) then applyYield rz s else s

/-- No interrupt stands at a lane's cores (R23, R84: they are raised in SPLIT only). -/
def dropIrqs (l : Lane) (s : State) : State := setLane s l { s.lanes.get l with timerIrq := [], extIrq := [] }

/-- A lane's state is put, without event; outside SPLIT_RUN its interrupt inputs are inactive (R23). -/
def enterState (l : Lane) (new : LaneState) (s : State) : State :=
  let s := putLaneState s l new
  if new = .splitRun then s else dropIrqs l s

/-- A lane enters a state (R73), with LANE_STATE_CHANGED and the mode that follows. -/
def changeLane (rz : RaiseFn) (l : Lane) (new : LaneState) (s : State) : State :=
  let old := laneState s l
  if old = new then s
  else
    let s := enterState l new s
    let s := rz Ev.laneStateChanged l.idx 0 (laneCode old + 16 * laneCode new) s
    updateMode rz s

/-- Bits of a lane in LANE_EXCL_COUNT (R86). -/
def exclCount (s : State) (l : Lane) : Nat := fld s Reg.laneExclCount (8 * l.idx + 7) (8 * l.idx)

/-- LANE_EXCL_COUNT and LANE_LAST_EXCL of one exclusion (R73, R86). -/
def countExclusion (l : Lane) (reason task : Nat) (s : State) : State :=
  let s := recCount (45 + l.idx) (satAdd s Reg.laneExclCount (8 * l.idx + 7) (8 * l.idx) 1)
  setReg s Reg.laneLastExcl
    (BitVec.ofNat 32 (l.idx + 16 * reason + 256 * task + 65536 * cycleNow s + 2 ^ 31))

/-- A lane loses its place in every vote (R65): its set-up writes, presentations and window accesses are dropped. -/
def isolate (l : Lane) (s : State) : State :=
  { dropAccesses l s with meridian := { s.meridian with
      queue := s.meridian.queue.set l []
      stalled := s.meridian.stalled.set l []
      owed := s.meridian.owed.set l []
      present := s.meridian.present.set l []
      sigStalled := s.meridian.sigStalled.set l [] } }

/-- REJOIN status back to IDLE, no page dirty (R77, R86). -/
def rejoinIdle (s : State) : State :=
  let s := setFld (setFld (setFld s Reg.laneRejoinStatus 2 0 0) Reg.laneRejoinStatus 6 4 0) Reg.laneRejoinStatus 10 8 0
  setFld s Reg.laneDirtyCount 18 0 0

/-- A lane enters EXCLUDED: counted, isolated, the microtick noted for AUTO_REJOIN (R65, R73). -/
def toExcluded (rz : RaiseFn) (l : Lane) (reason task : Nat) (s : State) : State :=
  let s := isolate l (countExclusion l reason task s)
  let s := setLane s l { s.lanes.get l with
    exclAt := some s.time.mt, ready := false, joining := false, joinWait := false, signals := [], switchSig := false }
  dropTold (changeLane rz l .excluded s)

/-- A lane leaves the copy in progress, which ends with the last target (R81, R86). -/
def leaveCopy (l : Lane) (s : State) : State :=
  let left := fld s Reg.laneRejoinStatus 2 0
  let s := setFld s Reg.laneRejoinStatus 2 0 (left - (if left / 2 ^ l.idx % 2 = 1 then 2 ^ l.idx else 0))
  if fld s Reg.laneRejoinStatus 2 0 = 0 then rejoinIdle s else s

/-- A rejoin or join fails (R81): REJOIN_FAILED with its reason, the lane EXCLUDED with REASON 0xC. -/
def rejoinFailed (rz : RaiseFn) (l : Lane) (reason : Nat) (s : State) : State :=
  leaveCopy l (toExcluded rz l 12 0 (rz Ev.rejoinFailed l.idx 0 reason s))

/-- The exclusions of this microtick so far (R66). -/
def exclToday (s : State) : List ExclUndo := if s.fm.exclMt = s.time.mt then s.fm.exclNow else []

/-- What an exclusion of a lane will change, as it stands before. -/
def undoOf (s : State) (l : Lane) : ExclUndo :=
  let m := s.meridian
  { lane := l, record := s.lanes.get l, queue := m.queue.get l, stalled := m.stalled.get l, owed := m.owed.get l,
    present := m.present.get l, sigStalled := m.sigStalled.get l,
    votes := s.isth.votes.flatMap (fun v => (v.got.filter (fun a => decide (a.lane = l))).map (fun a => (v.order, a))),
    count := exclCount s l, last := getReg s Reg.laneLastExcl, recorded := tget 0 s.recorder.counters (45 + l.idx) }

/-- An exclusion decided earlier in the microtick is not made after all (R66): the lane keeps its state, its place in the votes
and its counts. -/
def undoExclusion (u : ExclUndo) (s : State) : State :=
  let l := u.lane
  let m := s.meridian
  let s := { s with
    meridian := { m with
      queue := m.queue.set l u.queue, stalled := m.stalled.set l u.stalled, owed := m.owed.set l u.owed
      present := m.present.set l u.present, sigStalled := m.sigStalled.set l u.sigStalled }
    isth := { s.isth with votes := s.isth.votes.map (fun v =>
      { v with got := v.got ++ (u.votes.filter (fun x => decide (x.1 = v.order))).map (·.2) }) }
    recorder := { s.recorder with counters := tset 0 s.recorder.counters (45 + l.idx) u.recorded } }
  let s := setReg (setFld s Reg.laneExclCount (8 * l.idx + 7) (8 * l.idx) u.count) Reg.laneLastExcl u.last
  putLaneState (setLane s l u.record) l .voting

/-- Exclude VOTING lanes (R65, R66): exclusions of one microtick count together; if fewer than two VOTING lanes would
remain, none is excluded, those already excluded in this microtick are undone, and the reaction is YIELD. -/
def excludeVoting (rz : RaiseFn) (code : Option Nat) (ls : List Lane) (reason task : Nat) (s : State) : State :=
  let voting := votingLanes s
  let out := ls.filter (fun l => voting.contains l)
  if out.isEmpty then s
  else if voting.length - out.length < 2 then
    let s := (exclToday s).foldl (fun s u => undoExclusion u s) s
    let s := setFld { s with fm := { s.fm with exclNow := [] } } Reg.laneState 13 12 (voteCode (modeOfLanes s))
    let (code, s) := match code with
      | some c => (c, s)
      | none => let (v, s) := takeFree s; (v.toNat % 65536, s)
    applyYield rz (raiseLevel s code .yield)
  else
    let s := { s with fm := { s.fm with exclNow := out.map (undoOf s) ++ exclToday s, exclMt := s.time.mt } }
    let s := out.foldl (fun s l => toExcluded rz l reason task s) s
    let src := fld s Reg.laneRejoinStatus 6 4
    let hit := out.any (fun l => src / 2 ^ l.idx % 2 = 1)
    if hit then
      (lanesIn s .rejoining).foldl (fun s l => rejoinFailed rz l 5 s) s
    else s

/-- An exclusion reaction on one lane (R73, R344, R353): in BOOT, MAINTENANCE and SAFE_HALT only the count and
LANE_LAST_EXCL change; a VOTING lane is excluded under R66; a SPLIT_RUN lane is excluded by a lane fault, which fails
the join that it is the source of; a REJOINING lane fails its rejoin by a lane fault. -/
def excludeLane (rz : RaiseFn) (code : Option Nat) (l : Lane) (reason task : Nat) (s : State) : State :=
  let laneFault := reason = 8 ∨ reason = 9 ∨ reason = 10
  if !(inControl s) then countExclusion l reason task s
  else match laneState s l with
    | .voting =>
      let noQuorum := (votingLanes s).length < 3
      let s := excludeVoting rz code [l] reason task s
      if noQuorum then (lanesIn s .rejoining).foldl (fun s r => rejoinFailed rz r 5 s) s else s
    | .splitRun =>
      if laneFault then
        let s := toExcluded rz l reason task s
        if fld s Reg.laneRejoinStatus 6 4 / 2 ^ l.idx % 2 = 1 then
          (lanesIn s .rejoining).foldl (fun s r => rejoinFailed rz r 5 s) s
        else s
      else s
    | .rejoining => if laneFault then rejoinFailed rz l 7 s else s
    | _ => s

/-- The record of a detected event (R90), with its reaction after R345. -/
def mkRecord (s : State) (e : EvDef) (src dA dB : Nat) : Record :=
  let r := reactionFor s e
  let r := if r = .excludeLane ∧ namedLane e.code src dB = none then .degrade else r
  ⟨e.code, e.sev, r, 0, corrected s, BitVec.ofNat 64 dA, BitVec.ofNat 32 dB, src⟩

/-- The reaction of a record is applied (R344 to R348, R350).  `task` is for LANE_LAST_EXCL. -/
def applyReaction (rz : RaiseFn) (task : Nat) (r : Record) (s : State) : State :=
  let s := applyStatus s r
  match r.reaction with
  | .excludeLane =>
    match namedLane r.code r.source r.detailB.toNat with
    | some l =>
      match exclReason r.code with
      | some why => excludeLane rz (some r.code) l why task s
      | none =>
        let (v, s) := takeFree s
        excludeLane rz (some r.code) l (v.toNat % 16) task s
    | none => s
  | .yield => applyYield rz s
  | .safeHalt => applySafeHalt rz s
  | _ => s

/-- A detected record takes effect (R344 to R352): it enters the pending store, its reaction is applied, and a full store
raises PENDING_OVERFLOW; that event's own record, which finds the store full as well, raises no further one (DEDUCED, assumption
log 103). -/
def reactTo (rz : RaiseFn) (task : Nat) (r : Record) (s : State) : State :=
  let (s, full) := pushPending s r
  let s := applyReaction rz task r s
  if full ∧ r.code ≠ Ev.pendingOverflow.code then rz Ev.pendingOverflow 0xFF 0 r.code s else s

/-- Raise an event (R344 to R352), with `fuel` for the events that its reaction raises in turn. -/
def raiseF : Nat → Nat → RaiseFn
  | 0, _, _, _, _, _, s => s
  | fuel + 1, task, e, src, dA, dB, s => reactTo (raiseF fuel task) task (mkRecord s e src dA dB) s

/-- Raise an event: code and defaults, SOURCE_INDEX, DETAIL_A, DETAIL_B. -/
def raise (e : EvDef) (src dA dB : Nat) (s : State) : State := raiseF 5 0 e src dA dB s

/-- Raise an event whose record carries a TIME of its own (R286). -/
def raiseAt (time : Dword) (e : EvDef) (src dA dB : Nat) (s : State) : State :=
  reactTo (raiseF 4 0) 0 { mkRecord s e src dA dB with time := time } s

/-- Raise an event that concerns a task. -/
def raiseTask (task : Nat) (e : EvDef) (src dA dB : Nat) (s : State) : State := raiseF 5 task e src dA dB s

/-- Raise an event whose record and status effects stand while its effect on lanes and control is left to the caller. -/
def raiseRecord (e : EvDef) (src dA dB : Nat) (s : State) : State :=
  let r := mkRecord s e src dA dB
  applyStatus (pushPending s r).1 r

/-- Raise minority or lateness events of several lanes that are decided together (R66): each is recorded, and the lanes
whose reaction is EXCLUDE_LANE are excluded together. -/
def raiseLanes (task : Nat) (e : EvDef) (evs : List (Lane × Nat × Nat)) (s : State) : State :=
  match evs with
  | [] => s
  | [(l, dA, dB)] => raiseTask task e (if namesLaneInB e.code then 0 else l.idx) dA dB s
  | _ =>
    let strong := reactionFor s e
    let s := evs.foldl (fun s (l, dA, dB) => raiseRecord e l.idx dA dB s) s
    match strong with
    | .excludeLane =>
      if inControl s then excludeVoting (raiseF 4 task) (some e.code) (evs.map (·.1)) ((exclReason e.code).getD 0) task s
      else evs.foldl (fun s (l, _, _) => countExclusion l ((exclReason e.code).getD 0) task s) s
    | .yield => applyYield (raiseF 4 task) s
    | .safeHalt => applySafeHalt (raiseF 4 task) s
    | _ => s

/-- A decode found UNCORRECTABLE (1) or POISONED (2) at a consumer (R359, R360): counts, address registers, flag, event. -/
def memUncorrectable (regionNo addr kind : Nat) (s : State) : State :=
  let s := satAdd s Reg.faultUncorrCount 31 0 1
  let s := setReg s Reg.faultLastAddrLo (BitVec.ofNat 32 addr)
  let s := setReg s Reg.faultLastAddrHi (BitVec.ofNat 32 (addr / 2 ^ 32 % 256 + 256 * regionNo + 2 ^ 31))
  let s := setBit s Reg.faultError 0 true
  raise Ev.memUncorrectable regionNo addr kind s

/-- A consumer meets the bad words of `n` bytes at `a` of a memory (R359): each decode is reported; `base` is the address
of the memory's first byte as R360 shows it. -/
def meetBad (m : Mem) (regionNo base a n : Nat) (s : State) : State :=
  (badWords m a n).foldl (fun s (w, kind) => memUncorrectable regionNo (base + 16 * w) kind s) s

/-- A consumer meets the bad words of `n` bytes of Sound memory at offset `a`. -/
def meetSound (a n : Nat) (s : State) : State := meetBad s.sound 6 0x200000000 a n s

/-- A mirror slot or bridge slot of `n` bytes at Sound offset `a` is read at SAMPLE (R359).  A bad one raises SHARED_POISON with its
first bad word. -/
def sharedSlot (a n index : Nat) (s : State) : Bool × State :=
  match badWords s.sound a n with
  | [] => (false, s)
  | (w, _) :: _ =>
    let s := meetSound a n s
    (true, raise Ev.sharedPoison 6 (0x200000000 + 16 * w) index (setBit s Reg.faultError 2 true))

/-- The lane enters a state, with its events. -/
def setLaneTo (l : Lane) (new : LaneState) (s : State) : State := changeLane (raiseF 4 0) l new s

/-- The module enters a state, with its event. -/
def setModTo (new : ModState) (s : State) : State := changeModState (raiseF 4 0) new s

end Sys2Proof.Machine
end

