-- ==== Sys2Proof/Machine/Operands.lean ====
section
/-!
DEFINITION. The operand forms: fields of an Ephemeris entry (R37, R39), of a task record (R118), bytes of descriptors
(R88) and event records (R90, R92), the occupancy of an entry (R43), and the one operation by which an entry issues or
fails (R42, R48, R50).
-/

namespace Sys2Proof.Machine

/-- Field of a 64-bit entry word. -/
def dfld (w : Dword) (hi lo : Nat) : Nat := (w.extractLsb' lo (hi - lo + 1)).toNat

/-- KIND of an entry (R37). -/
def Entry.kind (e : Entry) : Nat := dfld e.w0 3 0
/-- OFFSET of an entry. -/
def Entry.offset (e : Entry) : Nat := dfld e.w0 20 4
/-- Period in base cycles: PERIOD_M1 + 1. -/
def Entry.period (e : Entry) : Nat := dfld e.w0 43 32 + 1
/-- PHASE of an entry. -/
def Entry.phase (e : Entry) : Nat := dfld e.w0 55 44
/-- The entry applies in a cycle (R32). -/
def Entry.applies (e : Entry) (cycle : Nat) : Bool := decide (cycle % e.period = e.phase)

/-- The task that an entry names, for the kinds that name one (R39). -/
def Entry.task (e : Entry) : Nat := if e.kind = 4 then dfld e.w1 13 8 else dfld e.w1 5 0

/-! ### Descriptors and records -/

/-- The descriptor that 32 bytes hold (R88). -/
def descOf (bs : List Byte) : Desc :=
  let at_ := fun (i n : Nat) => leVal ((bs.drop i).take n)
  { opcode := BitVec.ofNat 16 (at_ 0 2), flags := BitVec.ofNat 16 (at_ 2 2), seq := BitVec.ofNat 32 (at_ 4 4),
    buf := BitVec.ofNat 64 (at_ 8 8), len := BitVec.ofNat 32 (at_ 16 4), tag := BitVec.ofNat 32 (at_ 20 4),
    spec := BitVec.ofNat 64 (at_ 24 8) }

/-- The 32 bytes of an event record with a PHASE bit (R90). -/
def recordBytes (r : Record) (phase : Bool) : List Byte :=
  leBytes 2 r.code ++ leBytes 1 (sevCode r.sev) ++ leBytes 1 (rankOf r.reaction) ++ leBytes 4 r.seq.toNat
    ++ leBytes 8 r.time.toNat ++ leBytes 8 r.detailA.toNat ++ leBytes 4 r.detailB.toNat ++ leBytes 2 r.source
    ++ leBytes 1 (if phase then 1 else 0) ++ [0]

/-! ### Occupancy of resources (R43), in units of 1/64 ns -/

/-- Occupancy of the copy port by a SAMPLE of `size` bytes: 0.5 µs and 12.8 bytes per ns. -/
def occSample (size : Nat) : Nat := 32000 + 5 * size
/-- Occupancy of a SNAPSHOT: 2.5 µs. -/
def occSnapshot : Nat := 160000
/-- Occupancy of a DELIVER of `size` image bytes. -/
def occDeliver (size : Nat) : Nat := 32000 + 15 * (size + 64)
/-- Occupancy of a CHECKPOINT: 1 µs. -/
def occCheckpoint : Nat := 64000
/-- Occupancy of a COLLECT of `len` bytes. -/
def occCollect (len : Nat) : Nat := 32000 + 20 * len
/-- Occupancy of a DRIVE: 8 µs. -/
def occDrive : Nat := 512000
/-- Occupancy of a POLL of `rings` rings. -/
def occPoll (rings : Nat) : Nat := 32000 + 6400 * rings
/-- Occupancy of a MIRROR of `bytes` bytes; 2.5 bytes per ns on two Strait lanes, 1.25 on one (R326). -/
def occMirror (bytes : Nat) (oneLane : Bool) : Nat :=
  64000 + (if oneLane then bytes * 256 / 5 else bytes * 128 / 5)

/-- The transmit queue of a CAN channel. -/
def canQueue (s : State) (n : Nat) : List TxEntry := ((s.can.find? (fun x => x.1 = n)).map (fun x => x.2.queue)).getD []

/-- A transmit-queue entry is the scheduled one (R237). -/
def TxEntry.scheduled (e : TxEntry) : Bool :=
  match e.src with
  | .slot _ | .reference => true
  | _ => false

/-- A resource is occupied at a raw time; a channel's scheduled transmit slot while its frame is in transmission (R239). -/
def busyRes (s : State) (r : Res) : Bool :=
  s.chrono.occ.any (fun (r', t) => decide (r' = r) && decide (rawNow s < t))
    || match r with
      | .canSlot n => (canQueue s n).any (fun e => e.scheduled && e.sof.isSome)
      | .ethPort p => s.net.sending.any (fun (q, t, _) => decide (q = p) && decide (rawNow s < t))
      | .crateBus => s.isth.bus.isSome || !s.isth.due.isEmpty
      | _ => false

/-- The state with a resource occupied for a duration from now; past occupancies are dropped. -/
def occupy (s : State) (r : Res) (d : Nat) : State :=
  { s with chrono := { s.chrono with
      occ := (r, rawNow s + d) :: s.chrono.occ.filter (fun (r', t) => decide (r' ≠ r) && decide (rawNow s < t)) } }

/-- DETAIL_B of ENTRY_BUSY (R56). -/
def resCode : Res → Nat
  | .copyPort => 0
  | .checkpointUnit | .stagingUnit | .doorbellUnit => 1
  | .ethPort _ => 2
  | .canSlot _ => 3
  | .crateBus => 4
  | .holmLink => 5
  | .straitTx => 6

/-! ### Gated domains (R45) -/

/-- State of a gated domain. -/
def domSt (s : State) : Domain → DomainSt
  | .safe => s.chrono.domSafe
  | .isth => s.chrono.domIsth
  | .img => s.chrono.domImg

/-- The state with a gated domain's record replaced. -/
def setDom (s : State) (d : Domain) (x : DomainSt) : State :=
  { s with chrono := match d with
      | .safe => { s.chrono with domSafe := x }
      | .isth => { s.chrono with domIsth := x }
      | .img => { s.chrono with domImg := x } }

/-- Block number of a gated domain (R45). -/
def domBlock : Domain → Nat
  | .safe => 0x08
  | .isth => 0x0A
  | .img => 0x12

/-- The gated domain of a block number. -/
def domOfBlock? : Nat → Option Domain
  | 0x08 => some .safe
  | 0x0A => some .isth
  | 0x12 => some .img
  | _ => none

/-- Bit of a domain in CHRONO_DOMAIN_STATE (R55). -/
def domBit : Domain → Nat
  | .safe => 0
  | .isth => 1
  | .img => 2

/-- Lead time of a domain (R45) in raw units: 6, 12 and 40 µs. -/
def domLead : Domain → Nat
  | .safe => 384000
  | .isth => 768000
  | .img => 2560000

/-- The domain is ready: its clock runs and its lead time has passed. -/
def domReady (s : State) (d : Domain) : Bool := (domSt s d).running && decide ((domSt s d).readyAt ≤ rawNow s)

/-- Start a domain's clock; no effect if it already runs (R40, R46). -/
def startDomain (s : State) (d : Domain) : State :=
  let x := domSt s d
  if x.running then s
  else setDom s d { x with running := true, readyAt := rawNow s + domLead d, lastUse := rawNow s }

/-- Stop a domain's clock. -/
def stopDomain (s : State) (d : Domain) : State :=
  setBit (setDom s d { domSt s d with running := false, deferred := none }) Reg.chronoDomainState (domBit d) false

/-- An unscheduled access begins: it starts a stopped domain and keeps it busy (R46). -/
def domAcquire (s : State) (d : Domain) : State :=
  let s := startDomain s d
  setDom s d { domSt s d with users := (domSt s d).users + 1 }

/-- An unscheduled access ends. -/
def domRelease (s : State) (d : Domain) : State :=
  setDom s d { domSt s d with users := (domSt s d).users - 1, lastUse := max (domSt s d).lastUse (rawNow s) }

/-- The block of a domain is busy (R46): an unscheduled access, or the occupancy of a scheduled entry that uses it. -/
def domBusy (s : State) (d : Domain) : Bool :=
  decide (0 < (domSt s d).users) || decide (rawNow s < (domSt s d).lastUse) || (decide (d = .isth) && busyRes s .crateBus)

/-! ### Issue of an entry -/

/-- The entry at a table index of the active bank. -/
def entryAt (s : State) (i : Nat) : Option Entry := (activeBank s).bind (fun b => b.entries[i]?)

/-- Nanoseconds from now to the issue of the entries at an offset, `cycles` whole base cycles on, on the schedule as
compiled (R44). -/
def nsUntil (s : State) (cycles offset : Nat) : Int :=
  let into : Int := (((corrected s).toNat : Int) - s.time.phase) % 1000
  (((cycles * (header s).bcLen + offset : Nat) : Int) - ((s.chrono.offset : Nat) : Int)) * 1000 - into

/-- An entry that satisfies a test issues within `ns` nanoseconds, in this base cycle or the next (R44); beyond the boundary of a
pending switch the shadow bank is judged. -/
def entryWithin (s : State) (test : Entry → Bool) (ns : Nat) : Bool :=
  let wraps := decide ((header s).hpLen ≤ cycleNow s + 1)
  let nextBank := if wraps ∧ switchesNext s then shadowBank s else activeBank s
  let nextCycle := if wraps then 0 else cycleNow s + 1
  let entries := fun (b : Option Bank) => (b.map (·.entries)).getD []
  running s &&
    (((entries (activeBank s)).zipIdx.any (fun (e, i) => test e && e.applies (cycleNow s) && decide (s.chrono.nextIndex ≤ i)
        && decide (0 ≤ nsUntil s 0 e.offset) && decide (nsUntil s 0 e.offset ≤ ns)))
      || (entries nextBank).any (fun e => test e && e.applies nextCycle && decide (nsUntil s 1 e.offset ≤ ns)))

/-- What an entry needs at its issue: the gated domain it uses, and the resources it occupies with their durations. -/
structure Needs where
  domain    : Option Domain
  resources : List (Res × Nat)
deriving DecidableEq, Repr

/-- No domain and no resource. -/
def noNeeds : Needs := ⟨none, []⟩

/-- Default reaction to a failed entry of a KIND (R48, R56). -/
def failReaction (kind : Nat) : Reaction :=
  if kind ∈ [3, 15, 4, 5, 6, 7, 13] then .yield else .notify

/-- DETAIL_A of an entry event (R56). -/
def entryDetail (s : State) (i kind : Nat) : Nat :=
  i + kind * 2 ^ 16 + cycleNow s % 2 ^ 12 * 2 ^ 20 + (hpNow s).toNat * 2 ^ 32

/-- CHRONO_FAULT_STATUS takes a flag; CHRONO_FAULT_ENTRY takes the first failed entry since it was all zero (R55). -/
def noteEntryFault (s : State) (flag i kind : Nat) : State :=
  let s := if getReg s Reg.chronoFaultStatus = 0 then
      setReg s Reg.chronoFaultEntry (BitVec.ofNat 32 (i + kind * 2 ^ 16 + 2 ^ 31)) else s
  setBit s Reg.chronoFaultStatus flag true

/-- An entry fails at issue (R48): the flag, and the event with the reaction of its KIND. -/
def failEntry (s : State) (e : EvDef) (flag i kind detailB : Nat) : State :=
  let s := noteEntryFault s flag i kind
  raise { e with reaction := failReaction kind } (activeNo s) (entryDetail s i kind) detailB s

/-- Bytes of an Ephemeris bank: a header and 65,536 entries (R29). -/
abbrev bankBytes : Nat := 1049600

/-- An entry word found uncorrectable (R48): ENTRY_POISON, reaction YIELD, and the decode reported (R359).  KIND in DETAIL_A is 0 as in
CHRONO_FAULT_ENTRY; R56 does not say what it holds while the kind is unknown (DESIGN CHOICE, assumption log 87). -/
def failPoison (s : State) (i : Nat) : State :=
  let s := noteEntryFault (memUncorrectable 8 (bankBytes * activeNo s + 1024 + 16 * i) 1 s) 3 i 0
  raise Ev.entryPoison (activeNo s) (entryDetail s i 0) 0 s

/-- The entry of an index is due: the Chronograph runs, no idle microtick or boundary stands before it, it applies in the
cycle, its microtick has come, and it has not been passed in this cycle (R32, R42, R50). -/
def entryDue (s : State) (i : Nat) (e : Entry) : Bool :=
  running s && !s.chrono.hpDue && decide (s.chrono.idle = 0) && e.applies (cycleNow s)
    && decide (e.offset ≤ s.chrono.offset) && decide (s.chrono.nextIndex ≤ i)

/-- The state with an entry marked as passed in this cycle. -/
def passEntry (s : State) (i : Nat) : State := { s with chrono := { s.chrono with nextIndex := i + 1 } }

/-- The failure of an entry at issue (R48): scan, clock, busy.  Of several at once the spec does not say which are raised: the first in
the order of R48, poison before all, fails the entry and is raised alone (DESIGN CHOICE, assumption log 88). -/
def entryFailure (s : State) (e : Entry) (n : Needs) : Option (EvDef × Nat × Nat) :=
  if e.offset < s.chrono.offset ∨ 4 ≤ s.chrono.mtIssued then
    some (Ev.scanLate, 2, min (s.chrono.offset - e.offset) (2 ^ 32 - 1))
  else match n.domain with
    | some d => if domReady s d then busy else some (Ev.clockNotReady, 1, domBlock d)
    | none => busy
where
  busy : Option (EvDef × Nat × Nat) :=
    (n.resources.find? (fun (r, _) => busyRes s r)).map (fun (r, _) => (Ev.entryBusy, 0, resCode r))

/-- A scheduled entry uses its gated domain until its occupancy ends (R46). -/
def useDomain (s : State) (n : Needs) : State :=
  match n.domain with
  | some d =>
    setDom s d { domSt s d with lastUse := max (domSt s d).lastUse (rawNow s + ((n.resources.map (·.2)).max?).getD 0) }
  | none => s

/-- An entry issues (R42): it counts in its microtick and occupies its resources and its domain. -/
def takeIssue (s : State) (n : Needs) : State :=
  n.resources.foldl (fun s (r, d) => occupy s r d)
    (useDomain { s with chrono := { s.chrono with mtIssued := s.chrono.mtIssued + 1 } } n)

/-- A command of an entry: it does nothing while the entry at the index is not due or is of another KIND; a poisoned word
fails with ENTRY_POISON; another failure of R48 raises its event; otherwise the entry issues and has its effect. -/
def issueEntry (kind : Nat) (i : BitVec 16) (needs : State → Entry → Needs) (body : Entry → State → State)
    (s : State) : State :=
  match entryAt s i.toNat with
  | none => s
  | some e =>
    if !(entryDue s i.toNat e) then s
    else if e.poison then failPoison (passEntry s i.toNat) i.toNat
    else if e.kind ≠ kind then s
    else
      let s := passEntry s i.toNat
      match entryFailure s e (needs s e) with
      | some (ev, flag, b) => failEntry s ev flag i.toNat kind b
      | none => body e (takeIssue s (needs s e))

end Sys2Proof.Machine
end

