-- ==== Sys2Proof/Machine/Flags.lean ====
section
/-!
DEFINITION. Status computations that several blocks share: sticky W1C flags (R7), refusals of a block's CFG_RESULT,
completion outcomes (R91), the delivery of a record into an event queue (R92, R104, R107).
-/

namespace Sys2Proof.Machine

/-- Set a sticky flag. -/
def stick (s : State) (k i : Nat) : State := setBit s k i true

/-- Clear the bits of a W1C register where `v` holds 1 (R7). -/
def clearW1C (s : State) (k : Nat) (v : Word) : State :=
  match regRow? k with
  | some r => if r.access = .w1c then setReg s k (getReg s k &&& ~~~(v &&& r.cmask)) else s
  | none => s

/-- What a register holds after a committed write of `v` that nothing refuses: its writable bits from `v` (R7). -/
def committed (s : State) (k : Nat) (v : Word) : Word :=
  match regRow? k with
  | some r => (getReg s k &&& ~~~r.wmask) ||| (v &&& r.wmask)
  | none => v

/-- Event byte of an outcome (R91); REFUSED is 0x83 where a target defines it. -/
def outcomeByte : DescOutcome → Nat
  | .done => 0x80
  | .failed => 0x81
  | .expired => 0x82
  | .refused => 0x83

/-- Severity of an outcome (R91); REFUSED is a WARNING. -/
def outcomeSev : DescOutcome → Severity
  | .done => .info
  | _ => .warning

/-- Slots of a queue (R104). -/
def evqSize (s : State) (m : Nat) : Nat := 2 ^ fld s (Reg.evqCfg m) 3 0

/-- T of a queue. -/
def evqTail (s : State) (m : Nat) : Word := getReg s (Reg.evqTail m)

/-- H of a queue, last voted. -/
def evqHead (s : State) (m : Nat) : Word := getReg s (Reg.evqHead m)

/-- The queue is started. -/
def evqRunning (s : State) (m : Nat) : Bool := bit s (Reg.evqStatus m) 0

/-- Credits of a queue (R106): SIZE - (T - H) while it runs.  Before its START or RESUME the queue gives no credit and EVQ_STATUS
resets to 0, whatever the books kept in the journal hold: the model shows 0 (DESIGN CHOICE, assumption log 90). -/
def evqCredits (s : State) (m : Nat) : Nat :=
  if evqRunning s m then evqSize s m - wsub (evqTail s m) (evqHead s m) else 0

/-- EVQ_STATUS.CREDITS as the books give it. -/
def showCredits (s : State) (m : Nat) : State := setFld s (Reg.evqStatus m) 28 16 (evqCredits s m)

/-- The partner takes journal batches and acknowledges them (R330). -/
def mirrors (s : State) : Bool :=
  pairBank s && decide (modState s = .active) && s.pair.mirroring && !s.pair.silent

/-- Items for the next journal batch to the partner (R330). -/
def addDelta (s : State) (i : JItem) : State :=
  if mirrors s then { s with pair := { s.pair with delta := s.pair.delta ++ [i] } } else s

/-- Index of the next record of a queue: beyond T where records wait for their batch's acknowledgement (R330). -/
def evqNext (s : State) (m : Nat) : Word :=
  evqTail s m + BitVec.ofNat 32
    (s.evq.part.filter (fun (q, i, _) => decide (q = m) && decide (wsub i (evqTail s m) < 2 ^ 31))).length

/-- Slots of a running queue that no unconsumed record occupies. -/
def evqRoom (s : State) (m : Nat) : Nat :=
  if evqRunning s m then evqSize s m - wsub (evqNext s m) (evqHead s m) else 0

/-- Lane DRAM address of a queue's slot. -/
def evqSlot (s : State) (m : Nat) (i : Word) : Nat :=
  fld s (Reg.evqBase m) 20 0 * 4096 + 32 * (i.toNat % evqSize s m)

/-- PHASE bit of running index `i` (R92). -/
def phaseBit (s : State) (m : Nat) (i : Word) : Bool := decide (i.toNat / evqSize s m % 2 = 0)

/-- Bytes written into the DRAM of each receiving lane. -/
def toLanes (s : State) (a : Nat) (bs : List Byte) : State :=
  (receivingLanes s).foldl (fun s l => { s with dram := s.dram.set l (writeBytes (s.dram.get l) a bs) }) s

/-- A record of SPLIT sets LANE_IRQ_PEND.EVQ bit m in every lane's copy, and where it is enabled the core of a SPLIT_RUN lane that
TARGET names has a machine external interrupt (R84). -/
def splitIrq (s : State) (m : Nat) : State :=
  if voteMode s = .split then
    allLanes.foldl (fun s l =>
      let kp := bankedKey l.idx Reg.laneIrqPend
      let ke := bankedKey l.idx Reg.laneIrqEn
      let s := setBit s kp (8 + m) true
      if bit s ke (8 + m) ∧ laneState s l = .splitRun then
        let x := s.lanes.get l
        setLane s l { x with extIrq := risingPut x.extIrq (fld s ke 17 16) }
      else s) s
  else s

/-- A record is written into the journal's event part and its slot of every receiving lane; T then advances (R104).  With a
partner that acknowledges, the lanes take it and T passes it only with the batch (R330, R341). -/
def writeRecord (s : State) (m : Nat) (r : Record) : State :=
  let t := evqNext s m
  if mirrors s then
    let s := { s with evq := { s.evq with part := s.evq.part ++ [(m, t, r)] } }
    showCredits (addDelta s (.event m t (tget 0 s.evq.counts m) r)) m
  else
    let s := toLanes s (evqSlot s m t) (recordBytes r (phaseBit s m t))
    let s := { s with evq := { s.evq with part := s.evq.part ++ [(m, t, r)] } }
    splitIrq (showCredits (setReg s (Reg.evqTail m) (t + 1)) m) m

/-- The batch that carries a record is acknowledged, or no partner acknowledges any more: the record enters the lanes and T passes
it (R330, R341). -/
def showRecord (s : State) (m : Nat) (t : Word) (r : Record) : State :=
  let s := toLanes s (evqSlot s m t) (recordBytes r (phaseBit s m t))
  splitIrq (showCredits (setReg s (Reg.evqTail m) (t + 1)) m) m

/-- A record enters the overflow store, which is journaled (R107), for the partner too (R110, R330). -/
def storeOverflow (s : State) (m : Nat) (r : Record) : State :=
  let s := { s with evq := { s.evq with overflow := s.evq.overflow ++ [⟨m, r, false⟩] } }
  addDelta s (.waiting m (tget 0 s.evq.counts m) r)

/-- The reaction of EVQ_OVERFLOW or EVQ_COALESCED is applied (R107): as for every detected event, without the pending store. -/
def reactPlaced (r : Record) (s : State) : State := applyReaction (raiseF 4 0) 0 r s

/-- A record raised for a queue (R107): written where the queue has a credit and nothing older waits; else into the
overflow store, with EVQ_OVERFLOW behind the first of the queue; else into the counters. -/
def placeRecord (s : State) (m : Nat) (r : Record) : State :=
  let waits := s.evq.overflow.any (fun w => w.queue = m)
      || s.evq.codes.any (fun c => c.queue = m) || s.evq.catchAll.any (fun c => c.queue = m)
  if 0 < evqRoom s m ∧ ¬waits then writeRecord s m r
  else if s.evq.overflow.length < 256 ∧ ¬(s.evq.codes.any (fun c => c.queue = m))
      ∧ ¬(s.evq.catchAll.any (fun c => c.queue = m)) then
    let first := !(s.evq.overflow.any (fun w => w.queue = m))
    let s := stick (storeOverflow s m r) Reg.evqError 1
    let s := if first then
        let o := mkRecord s Ev.evqOverflow m 0 s.evq.overflow.length
        let (n, s) := countRecord s m
        let o := { o with seq := n }
        reactPlaced o (if s.evq.overflow.length < 256 then storeOverflow s m o else toCounters s m o)
      else s
    showOverflow s
  else toCounters s m r

/-- A detected record is routed to its queue with the queue's running count as SEQ (R103, R104). -/
def routeRecord (s : State) (r : Record) : State :=
  let m := routeQueue s r.code r.sev
  let (n, s) := countRecord s m
  placeRecord s m { r with seq := n }

/-- The queue of a ring's completion records (R115): 0b00 is treated as EVQ_1. -/
def ringQueue (s : State) (n : Nat) : Nat := max 1 (fld s (Reg.ringCfg n) 5 4)

/-- One EVQ_COALESCED summary of a counter (R107). -/
def summaryRecord (s : State) (c : CodeCounter) (catchAll : Bool) : Record :=
  let low := if catchAll then 0xFFFF + sevCode c.sev * 2 ^ 16 else c.code
  let r := mkRecord s Ev.evqCoalesced c.queue (low + c.first.toNat % 2 ^ 40 * 2 ^ 24) c.count.toNat
  { r with time := c.last }

/-- Credits have returned to a queue (R107): its overflow records are written in order while credits last, then one
summary per counter, which does not pass through the pending store. -/
def drainQueue (s : State) (m : Nat) : Nat → State
  | 0 => s
  | fuel + 1 =>
    if evqRoom s m = 0 then s
    else match s.evq.overflow.find? (fun w => w.queue = m) with
      | some w =>
        let s := { s with evq := { s.evq with overflow := s.evq.overflow.erase w } }
        drainQueue (showOverflow (writeRecord s m w.record)) m fuel
      | none =>
        match s.evq.codes.find? (fun c => c.queue = m) with
        | some c =>
          let s := { s with evq := { s.evq with codes := s.evq.codes.erase c } }
          let r := summaryRecord s c false
          let (n, s) := countRecord s m
          let r := { r with seq := n }
          drainQueue (reactPlaced r (showOverflow (writeRecord s m r))) m fuel
        | none =>
          match s.evq.catchAll.find? (fun c => c.queue = m) with
          | some c =>
            let s := { s with evq := { s.evq with catchAll := s.evq.catchAll.erase c } }
            let r := summaryRecord s c true
            let (n, s) := countRecord s m
            let r := { r with seq := n }
            drainQueue (reactPlaced r (showOverflow (writeRecord s m r))) m fuel
          | none => s

/-- A refusal of the FAULT, NET, SAFE, CAN, ISTH, HOLM and MOTION blocks: CFG_RESULT takes REASON in 7:0 and the offset of
the refused register in 31:16, and the block's CFG_REFUSED event is raised with what the block's event table puts into SOURCE_INDEX
and DETAIL_A. -/
def refuseCfg (s : State) (result : Nat) (e : EvDef) (reason key src dA : Nat) : State :=
  raise e src dA reason (setReg s result (BitVec.ofNat 32 (reason + key % 65536 * 65536)))

end Sys2Proof.Machine
end

