-- ==== Sys2Proof/Machine/Bank.lean ====
section
/-!
DEFINITION. An Ephemeris image: its header, task table and entries as bytes (R29, R37, R118), and the load checks of
R52 and R119 with the first failure in their order.
-/

namespace Sys2Proof.Machine

/-- The header that an Ephemeris image holds at a place of its slot (R29). -/
def parseHeader (m : Mem) (b : Nat) : Header :=
  { flags := readLE m (b + 6) 2, version := readLE m (b + 8) 6, compat := readLE m (b + 14) 2,
    bcLen := readLE m (b + 16) 4, hpLen := readLE m (b + 20) 2, cw := readLE m (b + 22) 2,
    entryCount := readLE m (b + 24) 4, alignOffset := readLE m (b + 28) 4, laneSlack := readLE m (b + 32) 4,
    buildId := BitVec.ofNat 64 (readLE m (b + 40) 8), appBuildId := BitVec.ofNat 64 (readLE m (b + 48) 8),
    regions := (List.range 7).map (fun i => (readLE m (b + 56 + 8 * i) 4, readLE m (b + 60 + 8 * i) 4)),
    images := (List.range 16).map (fun i => (readLE m (b + 120 + 8 * i) 4, readLE m (b + 124 + 8 * i) 4)) }

/-- The bank that an Ephemeris image holds. -/
def parseBank (m : Mem) (b : Nat) : Bank :=
  let h := parseHeader m b
  { header := h
    tasks := (List.range 48).map (fun t => BitVec.ofNat 128 (readLE m (b + 256 + 16 * t) 16))
    entries := (List.range h.entryCount).map (fun i =>
      { w0 := BitVec.ofNat 64 (readLE m (b + 1024 + 16 * i) 8)
        w1 := BitVec.ofNat 64 (readLE m (b + 1032 + 16 * i) 8)
        poison := isPoisoned m (b + 1024 + 16 * i) 16 }) }

/-- HEADER check (R52): MAGIC, FORMAT, reserved bits and bytes, shortest length. -/
def badHeader (m : Mem) (b len : Nat) : Bool :=
  decide (len < 1024) || decide (readLE m b 4 ≠ 0x4B504550) || decide (readLE m (b + 4) 2 ≠ 1)
    || decide (readLE m (b + 6) 2 / 2 ≠ 0) || decide (readLE m (b + 36) 4 ≠ 0)
    || decide (readLE m (b + 112) 8 ≠ 0) || decide (readLE m (b + 248) 8 ≠ 0)

/-- GEOMETRY check (R29, R52). -/
def badGeometry (h : Header) (len : Nat) : Bool :=
  !(decide (250 ≤ h.bcLen) && decide (h.bcLen ≤ 100000) && decide (1 ≤ h.hpLen) && decide (h.hpLen ≤ 4096)
    && decide (h.hpLen * h.bcLen ≤ 60000000) && decide (20 ≤ h.cw) && decide (h.cw ≤ 2000)
    && decide (1 ≤ h.entryCount) && decide (h.entryCount ≤ 65536) && decide (h.alignOffset < h.bcLen)
    && decide (len = 1024 + 16 * h.entryCount))

/-- Two places of Sound memory overlap. -/
def placesOverlap (p q : Nat × Nat) : Bool :=
  decide (0 < p.2) && decide (0 < q.2) && decide (p.1 < q.1 + q.2) && decide (q.1 < p.1 + p.2)

/-- Some two places of a list overlap. -/
def anyOverlap : List (Nat × Nat) → Bool
  | [] => false
  | p :: r => r.any (placesOverlap p) || anyOverlap r

/-- LAYOUT check (R30). -/
def badLayout (h : Header) : Bool :=
  let ps := h.regions ++ h.images
  ps.any (fun (o, n) => decide (o % 64 ≠ 0) || decide (n % 64 ≠ 0) || decide (0x1000000 < o + n))
    || anyOverlap ps
    || decide ((nth (0, 0) h.regions 0).2 ≠ (nth (0, 0) h.regions 1).2)
    || decide ((nth (0, 0) h.regions 0).2 ≠ (nth (0, 0) h.regions 2).2)

/-- Index of the first element that fails a test. -/
def firstBad {α : Type} (bad : α → Bool) : List α → Option Nat
  | [] => none
  | x :: r => if bad x then some 0 else (firstBad bad r).map (· + 1)

/-- ORDER check (R52): OFFSET does not ascend, or reaches BC_LEN. -/
def badOrder (bcLen : Nat) : Nat → Nat → List Entry → Option Nat
  | _, _, [] => none
  | prev, i, e :: r => if e.offset < prev ∨ bcLen ≤ e.offset then some i else badOrder bcLen e.offset (i + 1) r

/-- Bits of W1 that a KIND uses (R39). -/
def w1Mask (kind : Nat) : Nat :=
  match kind with
  | 0 => 0
  | 1 | 2 => 0xFF
  | 3 => 0x3F0F
  | 15 | 5 => 0x3F
  | 4 => 0x3F0F
  | 6 => 0xFF3F
  | 7 => 0xFFFFFFFFFFF3F
  | 8 => 0x303FF
  | 9 => 0x3F1F
  | 10 => 0xFF
  | 11 => 0xF
  | 12 => 0x1F
  | 13 => 0xF7F3F
  | _ => 0xF3

/-- OPERAND check of one entry (R52). -/
def badOperand (h : Header) (e : Entry) : Bool :=
  let k := e.kind
  let w := e.w1
  let unusedImage := fun i => decide ((nth (0, 0) h.images i).2 = 0)
  decide (dfld e.w0 31 21 ≠ 0) || decide (dfld e.w0 63 56 ≠ 0)
    || decide (w &&& ~~~(BitVec.ofNat 64 (w1Mask k)) ≠ 0)
    || (decide (k ∈ [15, 4, 5, 6, 7]) && decide (47 < e.task))
    || (decide (k = 3 ∨ k = 4) && unusedImage (dfld w 3 0))
    || (decide (k = 3) && decide (dfld w 13 8 = 0))
    || (decide (k = 1 ∨ k = 2) && decide (domOfBlock? (dfld w 7 0) = none))
    || (decide (k = 7) && (decide ((nth (0, 0) h.regions 0).2 < 64 * (dfld w 23 8 + dfld w 51 40 + 1))
          || decide ((nth (0, 0) h.regions 3).2 < 64 * (dfld w 39 24 + dfld w 51 40 + 1))))
    || (decide (k = 9 ∨ k = 12) && (decide (dfld w 4 0 = 0) || decide (20 < dfld w 4 0)))
    || (decide (k = 13) && decide (64 < dfld w 5 0 + dfld w 14 8))
    || (decide (k = 14) && (decide (dfld w 1 0 = 3) || decide (h.flags % 2 = 0)
          || (decide (dfld w 1 0 = 1) && unusedImage (dfld w 7 4))))

/-- PERIOD check of one entry (R52). -/
def badPeriod (hpLen : Nat) (e : Entry) : Bool := decide (hpLen % e.period ≠ 0) || decide (e.period ≤ e.phase)

/-- SEQUENCE check (R47, R52): a RELEASE without an earlier SNAPSHOT and DELIVER of its task, period and phase. -/
def badSequence : List Entry → Nat → List Entry → Option Nat
  | _, _, [] => none
  | seen, i, e :: r =>
    let same := fun k (x : Entry) => decide (x.kind = k) && decide (x.task = e.task) && decide (x.period = e.period)
      && decide (x.phase = e.phase)
    if e.kind = 5 ∧ ¬(seen.any (same 15) ∧ seen.any (same 4)) then some i else badSequence (e :: seen) (i + 1) r

/-- SCAN check (R47): OFFSET < (i - 64) / 400. -/
def badScan : Nat → List Entry → Option Nat
  | _, [] => none
  | i, e :: r => if 64 < i ∧ e.offset * 400 < i - 64 then some i else badScan (i + 1) r

/-- ISSUE check (R47): more than 4 entries applicable at one offset in some cycle of the hyperperiod.  Of such a group ENTRY names
the first in the table; the spec does not say which (DESIGN CHOICE, assumption log 85). -/
def badIssue (hpLen : Nat) (es : List Entry) : Option Nat :=
  firstBad (fun e => (List.range hpLen).any (fun c =>
    e.applies c && decide (4 < (es.filter (fun x => decide (x.offset = e.offset) && x.applies c)).length))) es

/-- Absolute microticks, with table index and CHK, at which the entries of a KIND and task issue in three hyperperiods. -/
def occurrences (b : Bank) (kind t : Nat) : List (Nat × Nat × Nat) :=
  let all := b.entries.zipIdx
  (List.range (3 * b.header.hpLen)).flatMap (fun c =>
    all.filterMap (fun (e, i) =>
      if e.kind = kind ∧ e.task = t ∧ e.applies (c % b.header.hpLen) then
        some (c * b.header.bcLen + e.offset, i, dfld e.w1 15 8) else none))

/-- Issue order of two occurrences: by microtick, then by table index. -/
def issuesAfter (a b : Nat × Nat × Nat) : Bool := decide (b.1 < a.1) || (decide (a.1 = b.1) && decide (b.2.1 < a.2.1))

/-- Rule 6 of R119 fails for a task: the CHECKPOINTs between some RELEASE and the next are not numbered 0 to CHK_M1 in issue order,
or the last issues less than DEADLINE + CW microticks after it. -/
def badRule6 (b : Bank) (t : Nat) : Bool :=
  let r := nth 0 b.tasks t
  let n := taskFld r 15 8 + 1
  let checks := occurrences b 6 t
  let releases := occurrences b 5 t
  releases.any (fun x =>
    decide (x.1 < b.header.hpLen * b.header.bcLen) &&
      (let next := releases.filter (fun y => issuesAfter y x)
       let after := checks.filter (fun c => issuesAfter c x && !(next.any (issuesAfter c)))
       decide (after.map (·.2.2) ≠ List.range n)
         || decide ((after.getLastD (0, 0, 0)).1 < x.1 + taskFld r 89 64 + b.header.cw)))

/-- The first rule of R119 that a task record breaks; 0 when none.  Which task a failure of rule 2 names, and whether rule 4's
CRITICAL 1 with STOP_ON_OVERRUN 0 is a fault of an UNUSED record, the spec leaves open: the record that is the 33rd CYCLIC or the
17th EVENT in task order is named, and an UNUSED record is not held to rule 4 (DESIGN CHOICE, assumption log 84). -/
def taskRule (b : Bank) (t : Nat) : Nat :=
  let r := nth 0 b.tasks t
  let kind := taskFld r 1 0
  let names := b.entries.filter (fun e => decide (e.kind ∈ [15, 4, 5, 6, 7]) && decide (e.task = t))
  let releases := (b.entries.filter (fun e => decide (e.kind = 5) && decide (e.task = t))).length
  let upTo := fun k => ((b.tasks.take (t + 1)).filter (fun x => decide (taskFld x 1 0 = k))).length
  let reserved := decide (kind = 3) || decide (taskFld r 7 6 ≠ 0) || decide (taskFld r 31 24 ≠ 0)
    || decide (taskFld r 63 58 ≠ 0) || decide (taskFld r 95 90 ≠ 0) || decide (taskFld r 127 122 ≠ 0)
    || (decide (kind ≠ 2) && decide (taskFld r 19 16 ≠ 0))
  if reserved then 1
  else if (kind = 1 ∧ 32 < upTo 1) ∨ (kind = 2 ∧ 16 < upTo 2) then 2
  else if (kind = 0 ∧ ¬names.isEmpty) ∨ (kind ≠ 0 ∧ releases = 0) then 3
  else if (kind = 1 ∧ 1 < releases) ∨ (kind = 2 ∧ taskFld r 19 16 = 0)
      ∨ (kind ≠ 0 ∧ taskFld r 3 3 = 1 ∧ taskFld r 2 2 = 0) then 4
  else if kind ≠ 0 ∧ (taskFld r 57 32 = 0 ∨ taskFld r 121 96 < taskFld r 57 32
      ∨ taskFld r 89 64 < taskFld r 121 96) then 5
  else if kind ≠ 0 ∧ badRule6 b t then 6
  else 0

/-- The first task and rule of R119 that fail, in task order. -/
def badTaskTable (b : Bank) : Option (Nat × Nat) :=
  (List.range 48).findSome? (fun t => if taskRule b t = 0 then none else some (t, taskRule b t))

/-- Result of a load: REASON and ENTRY of CHRONO_LOAD_RESULT (R52), and the task and rule of TASK_TABLE_CHECK (R119). -/
structure LoadResult where
  reason : Nat
  entry  : Nat
  task   : Option (Nat × Nat)
deriving DecidableEq, Repr

/-- The load checks of R52 on an image of `len` bytes at a place of a slot, first failure in table order. -/
def loadChecks (m : Mem) (b len : Nat) : LoadResult :=
  let bank := parseBank m b
  let h := bank.header
  let es := bank.entries
  let fail := fun r (i : Option Nat) => (⟨r, i.getD 0, none⟩ : LoadResult)
  if badHeader m b len then fail 1 none
  else if badGeometry h len then fail 2 none
  else if badLayout h then fail 3 none
  else match badOrder h.bcLen 0 0 es with
  | some i => fail 4 (some i)
  | none => match firstBad (badPeriod h.hpLen) es with
  | some i => fail 5 (some i)
  | none => match firstBad (badOperand h) es with
  | some i => fail 6 (some i)
  | none => match badTaskTable bank with
  | some tr => ⟨6, 0, some tr⟩
  | none => match badSequence [] 0 es with
  | some i => fail 7 (some i)
  | none => match badScan 0 es with
  | some i => fail 8 (some i)
  | none => match badIssue h.hpLen es with
  | some i => fail 9 (some i)
  | none => if isPoisoned m b len then fail 10 (firstBad (·.poison) es) else ⟨0, 0, none⟩

/-- CHRONO_LOAD_RESULT and TASK_TABLE_CHECK of a load (R52, R119). -/
def showLoad (s : State) (r : LoadResult) : State :=
  let s := setReg s Reg.chronoLoadResult (BitVec.ofNat 32 (r.reason + r.entry * 65536))
  setReg s Reg.taskTableCheck (match r.task with
    | some (t, k) => BitVec.ofNat 32 (t + 256 * k + 2 ^ 31)
    | none => 0)

/-- TASK_INFO of every task, CHRONO_GEOMETRY, CHRONO_CW, CHRONO_ALIGN and the BUILD_IDs, as the banks hold them (R55, R142). -/
def showBanks (s : State) : State :=
  let h := header s
  let s := setReg s Reg.chronoGeometry (BitVec.ofNat 32 (h.bcLen + (h.hpLen - 1) * 2 ^ 17))
  let s := setReg (setFld s Reg.chronoAlign 16 0 h.alignOffset) Reg.chronoCw (BitVec.ofNat 32 h.cw)
  let s := set64 s Reg.chronoActiveIdLo h.buildId
  let shadow := if fld s Reg.chronoStatus 3 2 = 0 ∨ fld s Reg.chronoStatus 3 2 = 3 then 0
    else ((shadowBank s).map (·.header.buildId)).getD 0
  let s := set64 s Reg.chronoShadowIdLo shadow
  (List.range 48).foldl (fun s t =>
    let r := taskRecord s t
    setReg s (Reg.taskInfo t) (BitVec.ofNat 32 (taskFld r 5 0 + 256 * taskFld r 15 8 + 65536 * taskFld r 23 16))) s

/-- The state with a bank's content replaced. -/
def setBank (s : State) (n : Nat) (b : Option Bank) : State :=
  { s with chrono := if n = 0 then { s.chrono with bank0 := b } else { s.chrono with bank1 := b } }

/-- A location of `size` bytes at a byte offset lies inside a region of the active bank (R444). -/
def inRegion (s : State) (i off size : Nat) : Bool :=
  (activeBank s).isSome && decide (off + size ≤ (region s i).2)

/-- A location lies inside an input image of the active bank (R444). -/
def inImage (s : State) (i off size : Nat) : Bool :=
  (activeBank s).isSome && decide (0 < (imageRegion s i).2) && decide (off + size ≤ (imageRegion s i).2)

end Sys2Proof.Machine
end

