-- ==== Sys2Proof/Machine/Lanes.lean ====
section
/-!
DEFINITION. The lanes (03_lanes_meridian.md): the signature unit and presentations, lane faults, lane commands, modes,
self-test and the rejoin copy engine.
-/

namespace Sys2Proof.Machine

/-! ### Signature unit -/

/-- Product of two elements of GF(2^128) modulo x^128 + x^7 + x^2 + x + 1 (R61). -/
def gfMul (a b : Sig) : Sig :=
  ((List.range 128).foldl (fun (acc, x) i =>
    let acc := if b.getLsbD i then acc ^^^ x else acc
    let x := if x.getLsbD 127 then (x <<< 1) ^^^ 0x87 else x <<< 1
    (acc, x)) ((0 : Sig), a)).1

/-- H of R61: x^89 + x^41 + x^13 + x^2 + 1. -/
def foldH : Sig := BitVec.ofNat 128 (2 ^ 89 + 2 ^ 41 + 2 ^ 13 + 2 ^ 2 + 1)

/-- The fold of a word into an accumulator (R61). -/
def foldWord (acc w : Sig) : Sig := gfMul (acc ^^^ w) foldH

/-- The register-write word (R60). -/
def regWord (r : RegWrite) : Sig :=
  BitVec.ofNat 128 (r.value.toNat + r.idx.val * 2 ^ 64 + (if r.fp then 2 ^ 69 else 0) + 2 ^ 126)

/-- The stored bytes of a store, right-aligned and zero-extended (R60). -/
def storeValue (w : StoreWord) : Nat := w.data.toNat % 2 ^ (8 * 2 ^ w.size.toNat)

/-- The store word (R60). -/
def storeWord (w : StoreWord) : Sig :=
  BitVec.ofNat 128 (storeValue w + w.addr.toNat * 2 ^ 64 + w.size.toNat * 2 ^ 104 + 2 ^ 127)

/-- The exception word (R60). -/
def trapWord (code : BitVec 5) (mtval : Dword) : Sig :=
  BitVec.ofNat 128 (mtval.toNat + code.toNat * 2 ^ 64 + 2 ^ 127 + 2 ^ 126)

/-- The snapshot slot that a core's MSNAPSEL selects; 48 to 63 are treated as slot 0 (R21). -/
def snapSlot (s : State) (l : Lane) (core : Nat) : Nat :=
  let v := (tget 0 (s.lanes.get l).msnapsel core).toNat % 64
  if v < 48 then v else 0

/-- The snapshot slot of a task. -/
def slotRegs (s : State) (t : Nat) : RegFile := tget [] s.snaps t

/-- A register of a task's slot. -/
def snapReg (s : State) (t k : Nat) : Word := tget (resetVal k) (slotRegs s t) k

/-- The accumulator of a task in a lane. -/
def accOf (s : State) (l : Lane) (t : Nat) : Sig := tget 0 (s.meridian.acc.get l) t

/-- The state with an accumulator replaced. -/
def setAcc (s : State) (l : Lane) (t : Nat) (v : Sig) : State :=
  { s with meridian := { s.meridian with acc := s.meridian.acc.set l (tset 0 (s.meridian.acc.get l) t v) } }

/-- Fold a word into the accumulator that a core's MSNAPSEL selects. -/
def foldCore (s : State) (l : Lane) (core : Nat) (w : Sig) : State :=
  let t := snapSlot s l core
  setAcc s l t (foldWord (accOf s l t) w)

/-- The words that a retirement folds, in order (R60): nothing in machine mode; an exception word alone; else the store
word and then the register word, a write to x0 being none. -/
def foldWords (w : Retire) : List Sig :=
  if w.machine then []
  else match w.trap with
    | some (code, mtval) => [trapWord code mtval]
    | none =>
      (w.store.map storeWord).toList
        ++ ((w.reg.filter (fun r => r.fp || decide (r.idx ≠ 0))).map regWord).toList

/-! ### State area and dirty pages -/

/-- Pages of the declared state area, in extent order (R76). -/
def saPages (s : State) : List Nat :=
  (List.range 16).flatMap (fun n =>
    (List.range (fld s (Reg.laneSaPages n) 18 0)).map (· + fld s (Reg.laneSaBase n) 20 0))

/-- A page lies in the declared state area. -/
def inStateArea (s : State) (page : Nat) : Bool :=
  (List.range 16).any (fun n =>
    let b := fld s (Reg.laneSaBase n) 20 0
    decide (b ≤ page) && decide (page < b + fld s (Reg.laneSaPages n) 18 0))

/-- Phase of the copy engine (R86): 2 BULK, 3 PASS, 4 FINAL, 5 OBSERVE. -/
def copyPhase (s : State) : Nat :=
  if s.rejoin.fromPair then
    match fld s Reg.pairJoin 2 0 with
    | 3 => 2 | 4 => 3 | 5 => 4 | 6 => 5 | _ => 0
  else fld s Reg.laneRejoinStatus 10 8

/-- Set the phase of the copy engine, in LANE_REJOIN_STATUS, or in PAIR_JOIN for a copy to a joining module (R338). -/
def setCopyPhase (p : Nat) (s : State) : State :=
  if s.rejoin.fromPair then setFld s Reg.pairJoin 2 0 (match p with | 2 => 3 | 3 => 4 | 4 => 5 | 5 => 6 | _ => 0)
  else setFld s Reg.laneRejoinStatus 10 8 p

/-- A copy is in BULK, PASS or FINAL, so source lanes keep dirty bits (R77). -/
def copying (s : State) : Bool := decide (2 ≤ copyPhase s) && decide (copyPhase s ≤ 4) && !s.rejoin.finalOk

/-- LANE_DIRTY_COUNT, and PAIR_JOIN.DIRTY for a module join, as the dirty bits give them. -/
def showDirty (s : State) : State :=
  let s := setFld s Reg.laneDirtyCount 18 0 s.rejoin.dirty.length
  if s.rejoin.fromPair then setFld s Reg.pairJoin 26 8 s.rejoin.dirty.length else s

/-- FINAL is abandoned (R79): counted, and PASS resumes over the dirty pages. -/
def abortFinal (s : State) : State :=
  if copyPhase s = 4 ∧ !s.rejoin.finalOk then
    let s := setCopyPhase 3 (satAdd s Reg.laneRejoinStatus 31 16 1)
    { s with rejoin := { s.rejoin with toCopy := s.rejoin.dirty, waiting := s.rejoin.dirty.isEmpty } }
  else s

/-- A page of a source lane becomes dirty (R77); in FINAL a newly dirtied copied page abandons FINAL (R79); a waiting
engine starts a pass. -/
def markDirty (page : Nat) (s : State) : State :=
  if copying s && inStateArea s page then
    let wasCopied := s.rejoin.copied.contains page
    let fresh := !(s.rejoin.dirty.contains page)
    let s := { s with rejoin := { s.rejoin with dirty := risingPut s.rejoin.dirty page } }
    let s := if copyPhase s = 4 ∧ wasCopied ∧ fresh then abortFinal s else s
    let s := if copyPhase s = 3 ∧ s.rejoin.waiting then
        { s with rejoin := { s.rejoin with toCopy := s.rejoin.dirty, waiting := false } } else s
    showDirty s
  else s

/-- Lanes that are the source of the copy in progress: for a module join the VOTING lanes of the active module (R338). -/
def sourceLanes (s : State) : List Lane :=
  if s.rejoin.fromPair then votingLanes s
  else allLanes.filter (fun l => fld s Reg.laneRejoinStatus 6 4 / 2 ^ l.idx % 2 = 1)

/-- Lanes that the copy in progress writes. -/
def targetLanes (s : State) : List Lane :=
  allLanes.filter (fun l => fld s Reg.laneRejoinStatus 2 0 / 2 ^ l.idx % 2 = 1)

/-! ### Retirement -/

/-- An access is not naturally aligned (R57). -/
def misaligned (addr : BitVec 40) (size : BitVec 2) : Bool := decide (addr.toNat % 2 ^ size.toNat ≠ 0)

/-- The lane may run its cores: VOTING, SPLIT_RUN, REJOINING after FINAL (R80), ready in the set-up phase, or in
MAINTENANCE (R381). -/
def coresRun (s : State) (l : Lane) : Bool :=
  match laneState s l with
  | .voting | .splitRun => true
  | .rejoining => decide (fld s Reg.laneRejoinStatus 10 8 = 5)
  | _ => (setupPhase s || decide (modState s = .maintenance)) && (s.lanes.get l).ready

/-- The registers of the core after a retirement: the integer and floating-point files, mcause and mtval, MSNAPSEL. -/
def coreWrites (l : Lane) (core : Nat) (w : Retire) (s : State) : State :=
  let x := s.lanes.get l
  let x := match w.reg with
    | some r =>
      if r.fp then { x with freg := tset 0 x.freg (32 * core + r.idx.val) r.value }
      else if r.idx = 0 then x
      else { x with xreg := tset 0 x.xreg (32 * core + r.idx.val) r.value }
    | none => x
  let x := match w.trap with
    | some (code, mtval) =>
      { x with mcause := tset 0 x.mcause core (code.zeroExtend 64), mtval := tset 0 x.mtval core mtval }
    | none => x
  let x := match w.msnapsel with
    | some v => { x with msnapsel := tset 0 x.msnapsel core (v &&& 0x3F) }
    | none => x
  setLane s l x

/-- Lanes that begin REJOINING together (R78, R85): the copy starts in BULK over the whole state area; with LANE_SA_LOCK = 0
each fails with NO_AREA, and without two VOTING sources, or in a join its designated lane, with SOURCE_LOST (R81). -/
def beginRejoin (targets sources : List Lane) (join : Bool) (s : State) : State :=
  if fld s Reg.laneSaLock 0 0 = 0 then targets.foldl (fun s l => rejoinFailed (raiseF 4 0) l 6 s) s
  else
    let s := targets.foldl (fun s l =>
      let x := s.lanes.get l
      setLaneTo l .rejoining (setLane s l { x with testStep := 0, joinWait := false, rejoinRaw := rawNow s })) s
    if sources.length < (if join then 1 else 2) then targets.foldl (fun s l => rejoinFailed (raiseF 4 0) l 5 s) s
    else
      let mask := fun (ls : List Lane) => (ls.map (fun l => 2 ^ l.idx)).sum
      let s := setReg s Reg.laneRejoinStatus (BitVec.ofNat 32 (mask targets + 16 * mask sources + 256 * 2))
      let s := setFld s Reg.laneCopyPasses 15 0 0
      showDirty { s with rejoin :=
        { dirty := [], toCopy := saPages s, copied := [], join := join, fromPair := false, observed := false,
          finalOk := false, waiting := false } }

/-- A copy between lanes is in progress, or waits for its boundary or CHECKPOINT. -/
def laneCopyOn (s : State) : Bool := decide (2 ≤ fld s Reg.laneRejoinStatus 10 8)

/-- The joining lanes enter REJOINING together (R85) once each has passed TESTING or gone OFF. -/
def joinAdvance (s : State) : State :=
  let js := allLanes.filter (fun l => (s.lanes.get l).joining)
  let passed := js.filter (fun l => (s.lanes.get l).joinWait)
  let source := (lanesIn s .splitRun).filter (fun l => decide (l = designated s))
  if ¬passed.isEmpty ∧ passed.length = js.length ∧ ¬laneCopyOn s then beginRejoin passed source true s
  else s

/-- A lane that was to be tested leaves LANE_REJOIN_STATUS.TARGET (R86); PHASE TEST ends with the last one. -/
def testEnds (l : Lane) (s : State) : State :=
  let t := fld s Reg.laneRejoinStatus 2 0
  if t / 2 ^ l.idx % 2 = 1 ∧ fld s Reg.laneRejoinStatus 10 8 = 1 then
    let s := setFld s Reg.laneRejoinStatus 2 0 (t - 2 ^ l.idx)
    if t = 2 ^ l.idx then setFld s Reg.laneRejoinStatus 10 8 0 else s
  else s

/-- A lane goes OFF (R73): a join goes on without it (R85). -/
def laneOff (l : Lane) (s : State) : State :=
  let s := if laneState s l = .rejoining then leaveCopy l s else s
  let x := s.lanes.get l
  joinAdvance (setLaneTo l .off (testEnds l (setLane s l { x with
    testStep := 0, ready := false, exclAt := none, joining := false, joinWait := false, step5Done := false,
    signals := [], switchSig := false })))

/-- A self-test step fails (R75): SELFTEST_FAIL names the step and the lane goes OFF.  The spec does not say what a clock, power
or poison fault of a TESTING lane is while no step is in progress (ready for the start, or waiting to join): the lane goes OFF
too, with DETAIL_B 0 (DESIGN CHOICE, assumption log 80). -/
def selftestFail (l : Lane) (s : State) : State :=
  laneOff l (raise Ev.selftestFail l.idx 0 (s.lanes.get l).testStep s)

/-- A poisoned word consumed by a core (R57, R73): the decode is reported, and POISON_CONSUMED excludes the lane, fails its
rejoin, or fails the self-test step of a TESTING lane. -/
def poisonConsumed (l : Lane) (addr : BitVec 40) (s : State) : State :=
  let wasTesting := laneState s l = .testing
  let s := memUncorrectable l.idx addr.toNat 2 s
  let s := raise Ev.poisonConsumed l.idx 0 (addr.toNat % 2 ^ 32) s
  if wasTesting then selftestFail l s else s

/-! ### Presentations -/

/-- DETAIL_A of a checkpoint event (R87). -/
def checkDetail (s : State) (t chk : Nat) : Nat := detailCycle s (t + 256 * chk)

/-- The response of a job (R123): TASK_RESP_MAX, and RESPONSE_HIGH above WCRT once per task and hyperperiod. -/
def measureResponse (t : Nat) (s : State) : State :=
  let j := job s t
  if j.measured then s
  else
    let resp := s.time.mt - j.releaseMt
    let s := setJob s t { j with measured := true }
    let s := if fld s (Reg.taskRespMax t) 25 0 < resp then
        setFld s (Reg.taskRespMax t) 25 0 (min resp (2 ^ 26 - 1)) else s
    if taskFld (taskRecord s t) 121 96 < resp ∧ j.highHp ≠ some (hpNow s) then
      let s := setJob s t { job s t with highHp := some (hpNow s) }
      raiseTask t Ev.responseHigh 0xFF (detailCycle s t) resp s
    else s

/-- The lane's record of a job replaced. -/
def setJobLane (s : State) (t : Nat) (l : Lane) (x : JobLane) : State :=
  let j := job s t
  setJob s t { j with lanes := j.lanes.set l x }

/-- A presentation enters a lane's store (R62, R63, R68): one for an abandoned job is discarded; one that breaks the order
of CHK or FINAL raises SIG_SEQUENCE, or fails an observed rejoin; otherwise it is kept, and a FINAL closes the job. -/
def enterPresentation (l : Lane) (p : Present) (s : State) : State :=
  let t := p.task
  let j := job s t
  let x := j.lanes.get l
  let last := taskFld (taskRecord s t) 15 8
  if j.has ∧ (j.abandoned ∨ x.gone) then s
  else if !j.has ∨ x.closed ∨ p.chk ≠ x.nextChk ∨ (p.final ↔ p.chk ≠ last) then
    if laneState s l = .rejoining then rejoinFailed (raiseF 4 t) l 3 s
    else raiseTask t Ev.sigSequence l.idx (checkDetail s t p.chk) (p.chk + (if p.final then 256 else 0)) s
  else
    let s := setJobLane s t l { x with nextChk := x.nextChk + 1, closed := p.final }
    let s := if p.final ∧ laneState s l ≠ .rejoining then measureResponse t s else s
    if voteMode s = .split then s
    else
      { s with meridian := { s.meridian with
          present := s.meridian.present.set l (s.meridian.present.get l ++ [{ p with at_ := s.time.mt }]) } }

/-! ### Lane faults -/

/-- A lane's clock deviates (R59): LANE_HEALTH, LANE_CLOCK_FAULT, and a TESTING lane fails its step (R73). -/
def clockFault (l : Lane) (dev : Word) (s : State) : State :=
  let wasTesting := laneState s l = .testing
  let s := setBit s Reg.laneHealth (4 * l.idx + 1) false
  let s := raise Ev.laneClockFault l.idx 0 dev.toNat s
  if wasTesting then selftestFail l s else s

/-- LANE_CLOCK_FAULT (R59). -/
def execLaneClockFault (l : Lane) (dev : Word) (s : State) : Host.Outcome State Fault Refusal :=
  .next (clockFault l dev s)

/-- A lane's rail leaves its window (R59): LANE_HEALTH, the count of such faults, LANE_POWER_FAULT; the third since the
last start sends an EXCLUDED lane OFF (R73). -/
def powerFault (l : Lane) (mv : Word) (s : State) : State :=
  let wasTesting := laneState s l = .testing
  let s := setBit s Reg.laneHealth (4 * l.idx + 2) false
  let s := setLane s l { s.lanes.get l with powerFaults := (s.lanes.get l).powerFaults + 1 }
  let s := raise Ev.lanePowerFault l.idx 0 mv.toNat s
  let s := if wasTesting then selftestFail l s else s
  if 3 ≤ (s.lanes.get l).powerFaults ∧ laneState s l = .excluded then
    setLaneTo l .off (setLane s l { s.lanes.get l with exclAt := none })
  else s

/-- LANE_POWER_FAULT (R59). -/
def execLanePowerFault (l : Lane) (mv : Word) (s : State) : Host.Outcome State Fault Refusal :=
  .next (powerFault l mv s)

/-- Bits of the cores whose time compare is met: LANE_IRQ_PEND.TIMER (R86). -/
def timerBits (s : State) (l : Lane) : Nat :=
  ([0, 1, 2, 3].map (fun n =>
    if (get64 s (bankedKey l.idx (Reg.laneTimecmpLo n))).toNat ≤ (corrected s).toNat then 2 ^ n else 0)).sum

/-- A lane's interrupts follow its banked registers (R84): the timer bits show the compare, and interrupts reach its cores only
in SPLIT. -/
def showIrqs (l : Lane) (s : State) : State :=
  let b := fun k => bankedKey l.idx k
  let s := setFld s (b Reg.laneIrqPend) 3 0 (timerBits s l)
  let on := decide (voteMode s = .split) && decide (laneState s l = .splitRun)
  let both := fun hi lo => fld s (b Reg.laneIrqPend) hi lo &&& fld s (b Reg.laneIrqEn) hi lo
  let timers := if on then [0, 1, 2, 3].filter (fun n => (both 3 0).testBit n) else []
  let ext := if on ∧ both 11 8 ≠ 0 then [fld s (b Reg.laneIrqEn) 17 16] else []
  setLane s l { s.lanes.get l with timerIrq := timers, extIrq := ext }

/-- In SPLIT the time compare of a core is met (R84): LANE_IRQ_PEND.TIMER, and the machine timer interrupt where it is
enabled. -/
def timerInterrupt (l : Lane) (core : Fin 4) (s : State) : State :=
  if voteMode s = .split ∧ laneState s l = .splitRun ∧ (timerBits s l).testBit core.val then showIrqs l s else s

/-- LANE_TIMER_INTERRUPT (R84). -/
def execLaneTimerInterrupt (l : Lane) (core : Fin 4) (s : State) : Host.Outcome State Fault Refusal :=
  .next (timerInterrupt l core s)

/-! ### Lane commands -/

/-- CMD_REFUSED with the value written (R86, R87). -/
def laneRefuse (l : Lane) (value : Nat) (s : State) : State := raise Ev.cmdRefused l.idx 0 value s

/-- A lane enters TESTING at step 1 (R75).  LANE_REJOIN_STATUS shows PHASE TEST unless a copy to another lane runs (R85, R86). -/
def startTesting (l : Lane) (s : State) : State :=
  let x := s.lanes.get l
  let s := setLane s l { x with
    testStep := 1, ready := false, exclAt := none, joining := false, joinWait := false, step5Done := false,
    signals := [], switchSig := false, code := [] }
  let s := setLaneTo l .testing s
  if running s ∧ ¬laneCopyOn s then
    let t := fld s Reg.laneRejoinStatus 2 0
    let s := setFld s Reg.laneRejoinStatus 2 0 (if t / 2 ^ l.idx % 2 = 1 then t else t + 2 ^ l.idx)
    setFld s Reg.laneRejoinStatus 10 8 1
  else s

/-- AUTO_REJOIN (R73): at the microtick after the exclusion, TESTING while the count is within REJOIN_LIMIT, else OFF with
LANE_OFF_LIMIT; it does not act outside a running module (R353). -/
def autoRejoin (l : Lane) (s : State) : State :=
  match (s.lanes.get l).exclAt with
  | some m =>
    if laneState s l = .excluded ∧ m < s.time.mt ∧ inControl s ∧ bit s Reg.laneCfg 0 then
      if exclCount s l ≤ fld s Reg.laneCfg 7 4 then startTesting l s
      else
        let s := setLane s l { s.lanes.get l with exclAt := none }
        let s := raise Ev.laneOffLimit l.idx 0 (exclCount s l) s
        setLaneTo l .off s
    else s
  | none => s

/-- AUTO_REJOIN (R73). -/
def execAutoRejoin (l : Lane) (s : State) : Host.Outcome State Fault Refusal := .next (autoRejoin l s)

/-- LANE_CMD EXCLUDE on a VOTING lane, subject to R66 (R86). -/
def laneExclude (l : Lane) (v : Nat) (s : State) : State :=
  if laneState s l = .voting then excludeLane (raiseF 4 0) none l 11 0 s else laneRefuse l v s

/-- LANE_CMD_EXCLUDE (R86). -/
def execLaneCmdExclude (l : Lane) (s : State) : Host.Outcome State Fault Refusal := .next (laneExclude l (l.idx + 0x10) s)

/-- LANE_CMD REJOIN on an EXCLUDED lane (R86). -/
def laneRejoin (l : Lane) (v : Nat) (s : State) : State :=
  if laneState s l = .excluded then startTesting l s else laneRefuse l v s

/-- LANE_CMD_REJOIN (R86). -/
def execLaneCmdRejoin (l : Lane) (s : State) : Host.Outcome State Fault Refusal := .next (laneRejoin l (l.idx + 0x20) s)

/-- LANE_CMD POWER_OFF on an EXCLUDED or TESTING lane (R86). -/
def lanePowerOff (l : Lane) (v : Nat) (s : State) : State :=
  if laneState s l = .excluded ∨ laneState s l = .testing then laneOff l s else laneRefuse l v s

/-- LANE_CMD_POWER_OFF (R86). -/
def execLaneCmdPowerOff (l : Lane) (s : State) : Host.Outcome State Fault Refusal := .next (lanePowerOff l (l.idx + 0x30) s)

/-- LANE_CMD POWER_ON on an OFF lane (R86). -/
def lanePowerOn (l : Lane) (v : Nat) (s : State) : State :=
  if laneState s l = .off then startTesting l s else laneRefuse l v s

/-- LANE_CMD_POWER_ON (R86). -/
def execLaneCmdPowerOn (l : Lane) (s : State) : Host.Outcome State Fault Refusal := .next (lanePowerOn l (l.idx + 0x40) s)

/-! ### SPLIT and JOIN -/

/-- A mode request is refused (R82). -/
def modeReject (reason : Nat) (s : State) : State := raise Ev.modeRejected 0xFF 0 reason s

/-- A mode request waits for its boundary (R83). -/
def modeRequest (join : Bool) (d value : Nat) (s : State) : State :=
  let s := setReg s Reg.laneModeReq (BitVec.ofNat 32 value)
  let s := setBit s Reg.laneState 16 true
  { s with chrono := { s.chrono with req := { s.chrono.req with mode := some (join, d, s.time.mt) } } }

/-- LANE_MODE_REQ SPLIT (R82): reasons 1, 2 and 3 in that order. -/
def modeSplit (d : BitVec 2) (s : State) : State :=
  if voteMode s ≠ .triple then modeReject 1 s
  else if pairBank s then modeReject 2 s
  else if d = 3 then modeReject 3 s
  else modeRequest false d.toNat (1 + 16 * d.toNat) s

/-- LANE_MODE_SPLIT (R82). -/
def execLaneModeSplit (d : BitVec 2) (s : State) : Host.Outcome State Fault Refusal := .next (modeSplit d s)

/-- LANE_MODE_REQ JOIN (R82, R85): reasons 4 and 5 in that order. -/
def modeJoin (s : State) : State :=
  if voteMode s ≠ .split then modeReject 4 s
  else if fld s Reg.laneSaLock 0 0 = 0 then modeReject 5 s
  else modeRequest true (designated s).idx 2 s

/-- LANE_MODE_JOIN (R85). -/
def execLaneModeJoin (s : State) : Host.Outcome State Fault Refusal := .next (modeJoin s)

/-- LANE_MODE_REQ NONE cancels a pending request (R82). -/
def modeCancel (s : State) : State :=
  let s := setBit (setReg s Reg.laneModeReq 0) Reg.laneState 16 false
  { s with chrono := { s.chrono with req := { s.chrono.req with mode := none } } }

/-- LANE_MODE_CANCEL (R82). -/
def execLaneModeCancel (s : State) : Host.Outcome State Fault Refusal := .next (modeCancel s)

/-! ### State-area lock -/

/-- First extent that breaks R76: outside lane DRAM, overlapping an earlier one, or carrying the total past 262,144. -/
def badExtent (s : State) : Option Nat :=
  let ext := fun n => (fld s (Reg.laneSaBase n) 20 0, fld s (Reg.laneSaPages n) 18 0)
  (List.range 16).find? (fun n =>
    let (b, k) := ext n
    decide (0 < k) && (decide (0x200000 < b + k)
      || (List.range n).any (fun m => placesOverlap (ext m) (b, k))
      || decide (262144 < ((List.range (n + 1)).map (fun m => (ext m).2)).sum)))

/-- LANE_SA_LOCK written with a value (R76). -/
def saLock (v : Word) (s : State) : State :=
  if v.getLsbD 0 then
    match badExtent s with
    | some n => raise Ev.saInvalid 0xFF 0 n s
    | none =>
      let total := ((List.range 16).map (fun n => fld s (Reg.laneSaPages n) 18 0)).sum
      setFld (setReg s Reg.laneSaLock 1) Reg.laneSaTotal 18 0 total
  else if allLanes.any (fun l => laneState s l = .testing ∨ laneState s l = .rejoining) then
    raise Ev.cmdRefused 0xFF 0 v.toNat s
  else setFld (setReg s Reg.laneSaLock 0) Reg.laneSaTotal 18 0 0

/-- LANE_SA_LOCK_WRITE (R76). -/
def execLaneSaLockWrite (lock : Bool) (s : State) : Host.Outcome State Fault Refusal := .next (saLock (if lock then 1 else 0) s)

/-! ### Rejoin copy engine -/

/-- A lane outside start-up has passed TESTING (R73, R85, R338): in a join it waits until the other joining lane has passed
or gone OFF; otherwise it begins REJOINING with the VOTING lanes as sources. -/
def testingPassed (l : Lane) (s : State) : State :=
  if (s.lanes.get l).joining then joinAdvance (setLane s l { s.lanes.get l with testStep := 0, joinWait := true })
  else if modState s = .joining then
    let s := setLane { s with rejoin := rejoin0 } l { s.lanes.get l with testStep := 0, rejoinRaw := rawNow s }
    setLaneTo l .rejoining s
  else beginRejoin [l] (votingLanes s) false s

/-- A page copy compared block by block (R78): for each 64-byte block the bytes to write, `none` where every copy is
poisoned; and whether unpoisoned copies differ. -/
def pageBlocks (mems : List Mem) (page : Nat) : List (Option (List Byte)) × Bool :=
  let blocks := (List.range 64).map (fun b =>
    let a := 4096 * page + 64 * b
    (mems.filter (fun m => !(isPoisoned m a 64))).map (fun m => readBytes m a 64))
  (blocks.map List.head?, blocks.any (fun cs => cs.any (fun c => decide (some c ≠ cs.head?))))

/-- The rejoin of every target lane fails. -/
def failTargets (reason : Nat) (s : State) : State :=
  (targetLanes s).foldl (fun s l => rejoinFailed (raiseF 4 0) l reason s) s

/-- The copy to a joining partner fails at the active module (R338): JOIN_FAILED with reason COPY, the engine stops, and a notice
tells the partner, whose join fails with it (the frame is DEDUCED, assumption log 59). -/
def copyFailed (s : State) : State :=
  let s := setBit (setReg { s with rejoin := rejoin0 } Reg.pairJoin 0) Reg.pairError 7 true
  raise Ev.joinFailed 0xFF (detailCycle s 0) 3 (emitOut s (.straitNotice .copyFailed))

/-- The copy engine reads a page, clears its dirty bit, compares the source copies and writes the target (R77, R78); for a
module join the page goes out as a COPY frame (R338). -/
def copyPage (page : Nat) (s : State) : State :=
  if copying s && s.rejoin.toCopy.contains page then
    let s := showDirty { s with rejoin := { s.rejoin with
      toCopy := s.rejoin.toCopy.erase page, dirty := risingDel s.rejoin.dirty page,
      copied := risingPut s.rejoin.copied page } }
    let (blocks, differ) := pageBlocks ((sourceLanes s).take 2 |>.map (fun l => s.dram.get l)) page
    if blocks.any (·.isNone) then
      if s.rejoin.fromPair then copyFailed s else failTargets 2 s
    else
      let bytes := blocks.flatMap (fun b => b.getD [])
      let s := if s.rejoin.fromPair then emitOut s (.straitCopy (.page (BitVec.ofNat 21 page) bytes))
        else (targetLanes s).foldl (fun s l =>
          { s with dram := s.dram.set l (writeBytes (s.dram.get l) (4096 * page) bytes) }) s
      if differ then
        if copyPhase s = 4 then raise Ev.copyMismatch 0xFF 0 page s
        else showDirty { s with rejoin := { s.rejoin with dirty := risingPut s.rejoin.dirty page } }
      else s
  else s

/-- REJOIN_PAGE_COPY (R78). -/
def execRejoinPageCopy (page : BitVec 21) (s : State) : Host.Outcome State Fault Refusal :=
  .next (copyPage page.toNat s)

/-- The module is the target of a module join, in a step of R338. -/
def joinStep (s : State) (p : Nat) : Bool := decide (modState s = .joining) && decide (fld s Reg.pairJoin 2 0 = p)

/-- BULK is done (R78, R338): PASS begins over the dirty pages. -/
def bulkDone (s : State) : State :=
  if joinStep s 3 then setFld s Reg.pairJoin 2 0 4
  else if copyPhase s = 2 ∧ s.rejoin.toCopy.isEmpty then
    let s := setCopyPhase 3 s
    { s with rejoin := { s.rejoin with toCopy := s.rejoin.dirty, waiting := s.rejoin.dirty.isEmpty } }
  else s

/-- REJOIN_BULK_DONE (R78). -/
def execRejoinBulkDone (s : State) : Host.Outcome State Fault Refusal := .next (bulkDone s)

/-- A pass ends (R79): the next begins if pages are dirty, otherwise the engine waits for FINAL. -/
def passDone (s : State) : State :=
  if copyPhase s = 3 ∧ s.rejoin.toCopy.isEmpty ∧ !s.rejoin.waiting then
    let s := satAdd s Reg.laneCopyPasses 15 0 1
    { s with rejoin := { s.rejoin with toCopy := s.rejoin.dirty, waiting := s.rejoin.dirty.isEmpty } }
  else s

/-- REJOIN_PASS_DONE (R79). -/
def execRejoinPassDone (s : State) : Host.Outcome State Fault Refusal := .next (passDone s)

/-- A task's job is open in a lane: from its RELEASE until its FINAL presentation there or its abandonment (R120). -/
def openIn (s : State) (t : Nat) (l : Lane) : Bool :=
  let j := job s t
  j.has && !j.abandoned && !((j.lanes.get l).closed || (j.lanes.get l).gone)

/-- A task runs on a core: CORE of its record (R118, R120). -/
def runsOn (s : State) (t core : Nat) : Bool := decide (taskFld (taskRecord s t) 5 4 = core)

/-- The job that a core runs: of those open on it the one of the highest priority, the lowest task (R120, R121). -/
def coreJob (s : State) (l : Lane) (core : Nat) : Option Nat :=
  (List.range 48).find? (fun t => runsOn s t core && openIn s t l)

/-- The source lanes are quiet (R79): every core of each waits in WFI, since no job released to it is open (R120). -/
def sourcesQuiet (s : State) : Bool :=
  (sourceLanes s).all (fun l => [0, 1, 2, 3].all (fun core => (coreJob s l core).isNone))

/-- The release signal is raised at a task's core (R120, R136). -/
def signalCore (t : Nat) (l : Lane) (s : State) : State :=
  let x := s.lanes.get l
  setLane s l { x with signals := risingPut x.signals (taskFld (taskRecord s t) 5 4) }

/-- Microticks from now to the next RELEASE of the schedule as compiled (R79), looking through one hyperperiod and one
cycle; beyond the boundary of a pending switch the shadow bank's entries count. -/
def nextRelease (s : State) : Option Nat :=
  let h := header s
  let hp := h.hpLen
  (List.range (hp + 1)).findSome? (fun k =>
    let c := cycleNow s + k
    let b := if hp ≤ c ∧ switchesNext s then shadowBank s else activeBank s
    let offs := ((b.map (·.entries)).getD []).zipIdx.filterMap (fun (e, i) =>
      if e.kind = 5 ∧ e.applies (c % hp) ∧ (0 < k ∨ (s.chrono.offset ≤ e.offset ∧ s.chrono.nextIndex ≤ i)) then some e.offset
      else none)
    (offs.min?).map (fun o => k * h.bcLen + o - s.chrono.offset))

/-- Copy rate in units of 0.1 GB/s: LANE_CFG.COPY_RATE x 0.8 (R78, R86), or PAIR_CFG.COPY_RATE x 0.25 for a module join
(R338), here in units of 0.05 GB/s. -/
def copyRate20 (s : State) : Nat :=
  if s.rejoin.fromPair then 5 * (min 8 (max 1 (fld s Reg.pairCfg 27 24)))
  else 16 * (min 8 (max 1 (fld s Reg.laneCfg 11 8)))

/-- The dirty pages fit before the next RELEASE (R79): 20 µs + D x 4,096 bytes / rate ≤ q; a join needs a hyperperiod
boundary in the interval as well. -/
def finalFits (s : State) : Bool :=
  let d := s.rejoin.dirty.length
  match nextRelease s with
  | some q =>
    decide (20000 * copyRate20 s + d * 4096 * 20 ≤ q * 1000 * copyRate20 s)
      && (!s.rejoin.join ||
        decide (((header s).hpLen - cycleNow s) * (header s).bcLen ≤ s.chrono.offset + q))
  | none => true

/-- FINAL starts (R79) once BULK is done, the sources are quiet and the dirty pages fit. -/
def finalStart (s : State) : State :=
  if joinStep s 4 then setFld s Reg.pairJoin 2 0 5
  else if copyPhase s = 3 && sourcesQuiet s && finalFits s then
    let s := setCopyPhase 4 s
    { s with rejoin := { s.rejoin with toCopy := s.rejoin.dirty, waiting := false } }
  else s

/-- REJOIN_FINAL_START (R79). -/
def execRejoinFinalStart (s : State) : Host.Outcome State Fault Refusal := .next (finalStart s)

/-- A lane's count of window accesses is set equal to that of the voting lanes (R260); its set-up writes pair from the oldest
open vote on (R80). -/
def joinCounts (l : Lane) (s : State) : State :=
  let n := ((votingLanes s).map s.isth.counts.get).foldl max 0
  { s with isth := { s.isth with counts := s.isth.counts.set l n } }

/-- FINAL completes (R80): the target's set-up write count equals that of the voting lanes and its cores start in WFI, in
OBSERVE for a rejoin; a join waits for the hyperperiod boundary; a module join goes on to OBSERVE (R338). -/
def finalDone (s : State) : State :=
  if joinStep s 5 then
    let (v, s) := takeFree s
    let s := (lanesIn s .rejoining).foldl (fun s l => setLaneTo l .voting (isolate l s)) s
    let s := { s with isth := { s.isth with counts := ⟨0, 0, 0⟩, stream := v.toNat } }
    setFld { s with pair := { s.pair with eligCount := 0, cycleBad := false, digests := [] } } Reg.pairJoin 2 0 6
  else if copyPhase s = 4 ∧ s.rejoin.toCopy.isEmpty ∧ s.rejoin.dirty.isEmpty then
    let s := (targetLanes s).foldl (fun s l => joinCounts l (isolate l s)) s
    let s := { s with rejoin := { s.rejoin with finalOk := true, observed := true } }
    if s.rejoin.join then s else setCopyPhase 5 s
  else s

/-- REJOIN_FINAL_DONE (R80). -/
def execRejoinFinalDone (s : State) : Host.Outcome State Fault Refusal := .next (finalDone s)

/-- REJOIN_TIMEOUT has passed since the lane entered REJOINING (R81). -/
def rejoinTimeout (l : Lane) (s : State) : State :=
  let limit := msRaw (100 * max 1 (fld s Reg.laneCfg 27 16))
  if laneState s l = .rejoining ∧ limit < rawNow s - (s.lanes.get l).rejoinRaw then
    rejoinFailed (raiseF 4 0) l 1 s
  else s

/-- REJOIN_TIMEOUT (R81). -/
def execRejoinTimeout (l : Lane) (s : State) : Host.Outcome State Fault Refusal := .next (rejoinTimeout l s)

/-- A rejoined lane enters VOTING (R80): REJOIN_DONE with the milliseconds spent in REJOINING, rounded to the nearest (R87 does not
say how: DESIGN CHOICE, assumption log 86). -/
def rejoinDone (l : Lane) (s : State) : State :=
  let ms := (rawNow s - (s.lanes.get l).rejoinRaw + 32000000) / 64000000
  let s := setLaneTo l .voting (rejoinIdle { s with rejoin := rejoin0 })
  raise Ev.rejoinDone l.idx 0 ms s

end Sys2Proof.Machine
end

