-- ==== Sys2Proof/Machine/Access.lean ====
section
/-!
DEFINITION. Access faults of the lanes (R13, R26, R27, R148): which accesses the lane address map lets through, the exception
in the core, and the ACCESS_FAULT record; the cores that stall (R16, R63, R262).
-/

namespace Sys2Proof.Machine

/-- The core takes a load access fault (5) or a store access fault (7): mcause and mtval.  Its exception word is folded by the
INSTRUCTION_RETIRE of the exception (R60). -/
def coreFault (l : Lane) (core : Fin 4) (store : Bool) (addr : BitVec 40) (s : State) : State :=
  let x := s.lanes.get l
  setLane s l { x with mcause := tset 0 x.mcause core.val (if store then 7 else 5),
                       mtval := tset 0 x.mtval core.val (addr.setWidth 64) }

/-- ACCESS_FAULT: the exception and the record, with reaction EXCLUDE_LANE where R27 or R148 states it. -/
def accessFault (l : Lane) (core : Fin 4) (addr : BitVec 40) (store excludes : Bool) (s : State) : State :=
  let e := if excludes then { Ev.accessFault with reaction := .excludeLane } else Ev.accessFault
  raise e l.idx addr.toNat 0 (coreFault l core store addr s)

/-- An address lies in the lane's own staging area of Sound memory (R27). -/
def ownStaging (s : State) (l : Lane) (a : Nat) : Bool :=
  let (o, n) := region s l.idx
  decide (0x200000000 + o ≤ a) && decide (a < 0x200000000 + o + n)

/-- How the address map of R25 takes an access: `none` lets it through, `some excludes` faults.  A store named here to a
register block is one of R13 (wrong width or alignment); an access named here to a window is one of R257 (an AMO, LR, SC or
instruction fetch). -/
def mapFault (s : State) (l : Lane) (a : Nat) (store : Bool) : Option Bool :=
  if a < 0x200000000 then none
  else if a < 0x201000000 then
    if laneVotes s l ∧ ¬ownStaging s l a then some true else none
  else if 0x300000000 ≤ a ∧ a < 0x300130000 then (if store then some false else none)
  else if 0x400000000 ≤ a ∧ a < 0x410000000 then some false
  else if 0x500000000 ≤ a ∧ a < 0x500040000 then (if store then some false else none)
  else if 0x501000000 ≤ a ∧ a < 0x501800000 then none
  else some false

/-- A window access of a core whose result has not reached it (R262). -/
def accessOpen (s : State) (l : Lane) (core : Fin 4) : Bool :=
  s.isth.votes.any (fun v => !v.told.contains l && v.got.any (fun a => decide (a.lane = l) && decide (a.core = core)))

/-- A core stalls: on a set-up write (R16) or a presentation (R63) that finds no room, or on a window access (R262). -/
def coreStalled (s : State) (l : Lane) (core : Fin 4) : Bool :=
  (s.meridian.stalled.get l).any (fun r => decide (r.core = core))
    || (s.meridian.sigStalled.get l).any (fun p => decide (p.core = core)) || accessOpen s l core

/-- A core executes instructions: its lane may run its cores, and it does not stall. -/
def coreActs (s : State) (l : Lane) (core : Fin 4) : Bool := coresRun s l && !coreStalled s l core

/-- A core that executes has taken the release signal, and core 0 the switch signal, that stood at it (R23, R120, R153; DESIGN
CHOICE, assumption log 81: the spec does not say when the signal is withdrawn). -/
def takeSignal (l : Lane) (core : Fin 4) (s : State) : State :=
  let x := s.lanes.get l
  setLane s l { x with signals := risingDel x.signals core.val,
                       switchSig := if core.val = 0 then false else x.switchSig }

/-- ACCESS_FAULT (R13, R26, R27, R257): an access that the map faults; another leaves the state as it is. -/
def mapAccess (l : Lane) (core : Fin 4) (addr : BitVec 40) (store : Bool) (s : State) : State :=
  if coreActs s l core then
    match mapFault s l addr.toNat store with
    | some excludes => accessFault l core addr store excludes s
    | none => s
  else s

/-- ACCESS_FAULT. -/
def execAccessFault (l : Lane) (core : Fin 4) (addr : BitVec 40) (store : Bool) (s : State) :
    Host.Outcome State Fault Refusal := .next (mapAccess l core addr store s)

/-- MRAM_WINDOW_ACCESS (R148): a write always faults; a voting lane's write, and its read while the Chronograph runs, exclude it; a
read is served while the Chronograph is stopped or in SPLIT. -/
def mramAccess (l : Lane) (core : Fin 4) (addr : BitVec 40) (store : Bool) (s : State) : State :=
  let a := addr.toNat
  if ¬coreActs s l core ∨ a < 0x501000000 ∨ 0x501800000 ≤ a then s
  else if laneVotes s l ∧ (store ∨ running s) then accessFault l core addr store true s
  else if store then accessFault l core addr store false s
  else if ¬running s ∨ voteMode s = .split then s
  else accessFault l core addr store false s

/-- MRAM_WINDOW_ACCESS. -/
def execMramWindowAccess (l : Lane) (core : Fin 4) (addr : BitVec 40) (store : Bool) (s : State) :
    Host.Outcome State Fault Refusal := .next (mramAccess l core addr store s)

end Sys2Proof.Machine
end

