-- ==== Sys2Proof/Machine/Journal.lean ====
section
/-!
DEFINITION. The acceptance journal (R100, R101) as the targets use it: the next record to start, state marks, completion in
SEQ order (R91, R100), and the ring books that follow (R95, R114, R115).
-/

namespace Sys2Proof.Machine

/-- 64-byte blocks of a journal record (R101): its header and its payload, rounded up. -/
def recBlocks (r : JRecord) : Nat := 1 + (r.payload.length + 63) / 64

/-- RING_STATUS.STATE of a ring: 0 STOPPED, 1 RUNNING, 2 STOPPING, 3 HALTED. -/
def ringState (s : State) (n : Nat) : Nat := fld s (Reg.ringStatus n) 1 0

/-- A of a ring. -/
def ringA (s : State) (n : Nat) : Word := getReg s (Reg.ringAccepted n)

/-- C of a ring. -/
def ringC (s : State) (n : Nat) : Word := getReg s (Reg.ringCompleted n)

/-- TARGET of a ring. -/
def ringTarget (s : State) (n : Nat) : Nat := fld s (Reg.ringCfg n) 11 8

/-- UNIT of a ring. -/
def ringUnit (s : State) (n : Nat) : Nat := fld s (Reg.ringCfg n) 20 16

/-- Block number of a ring's target, the code block of its completion records (R91). -/
def targetBlock : Nat → Nat
  | 1 | 2 => 0x07
  | 3 | 4 => 0x09
  | 5 => 0x0A
  | _ => 0x10

/-- The ring registers that follow from the books: IN_FLIGHT, ALLOCATED and USED; STOPPING and HALTED rings stop when
nothing is in flight (R95). -/
def showRing (s : State) (n : Nat) : State :=
  let fl := wsub (ringA s n) (ringC s n)
  let s := setFld s (Reg.ringStatus n) 28 16 fl
  let s := if fl = 0 ∧ 2 ≤ ringState s n then setFld s (Reg.ringStatus n) 1 0 0 else s
  let alloc := ((List.range 64).map (fun m => if ringState s m = 0 then 0 else fld s (Reg.ringJquota m) 8 0)).sum
  let s := setFld s Reg.ringJournalUsed 8 0 alloc
  setFld s Reg.ringJournalUsed 30 16 ((s.journal.map recBlocks).sum)

/-- The journal record of a ring and SEQ. -/
def findRec (s : State) (n : Nat) (seq : Word) : Option JRecord :=
  s.journal.find? (fun r => decide (r.ring = n) && decide (r.desc.seq = seq))

/-- The state with the record of a ring and SEQ changed. -/
def mapRec (s : State) (n : Nat) (seq : Word) (f : JRecord → JRecord) : State :=
  { s with journal := s.journal.map (fun r => if r.ring = n ∧ r.desc.seq = seq then f r else r) }

/-- A record's state mark (R101), also for the partner (R330). -/
def markRec (s : State) (n : Nat) (seq : Word) (st : JState) : State :=
  let s := mapRec s n seq (fun r => { r with state := st })
  match findRec s n seq with
  | some r => addDelta s (.mark n seq st r.outcome r.detailA)
  | none => s

/-- FLAGS bit of a descriptor. -/
def descFlag (d : Desc) (i : Nat) : Bool := d.flags.getLsbD i

/-- The next record that a ring's target may start (R102): the oldest ACCEPTED one; with FENCE only once every earlier
descriptor has completed (R89).  A STOPPED ring's records wait for a RESUME (R112). -/
def nextRec (s : State) (n : Nat) : Option JRecord :=
  if ringState s n = 0 then none
  else match s.journal.find? (fun r => decide (r.ring = n) && decide (r.state = .accepted)) with
  | some r => if descFlag r.desc 0 ∧ r.desc.seq ≠ ringC s n + 1 then none else some r
  | none => none

/-- The completion record of a journal record (R91). -/
def completionOf (s : State) (r : JRecord) : Record :=
  { code := targetBlock (ringTarget s r.ring) * 256 + outcomeByte r.outcome, sev := outcomeSev r.outcome, reaction := .log,
    seq := r.desc.seq, time := corrected s, detailA := r.detailA, detailB := r.desc.tag, source := r.ring }

/-- The DONE records at the head of a ring's order are completed: the completion record is written, the journal record
freed in the same write, and C advances (R100, R101).  The completion is a record raised for its queue, so the queue's count
advances, while its SEQ is the descriptor's (R90, R104). -/
def completeReady (n : Nat) : Nat → State → State
  | 0, s => s
  | fuel + 1, s =>
    match findRec s n (ringC s n + 1) with
    | some r =>
      if r.state = .done then
        let m := ringQueue s n
        let s := placeRecord (countRecord { s with journal := s.journal.erase r } m).2 m (completionOf s r)
        let s := addDelta (setReg s (Reg.ringCompleted n) r.desc.seq) (.freed n r.desc.seq)
        completeReady n fuel (showRing s n)
      else s
    | none => s

/-- A descriptor reaches its outcome: its record is DONE with DETAIL_A, and completions are written in SEQ order. -/
def finishDesc (s : State) (n : Nat) (seq : Word) (o : DescOutcome) (detailA : Nat) : State :=
  let s := mapRec s n seq (fun r => { r with outcome := o, detailA := BitVec.ofNat 64 detailA })
  completeReady n (s.journal.length + 1) (markRec s n seq .done)

/-- The oldest accepted receive buffer of a ring (R202, R236) that holds at least `least` bytes.  Descriptors start in SEQ order
(R102): nothing before it is left to complete, and a FENCE holds it back as any other (R89). -/
def oldestBuffer (s : State) (n least : Nat) : Option JRecord :=
  match nextRec s n with
  | some r => if r.desc.opcode = 1 ∧ least ≤ r.desc.len.toNat then some r else none
  | none => none

/-- The module carries out its rings' work: ACTIVE and not giving up (R111, R250, R332). -/
def ringsAct (s : State) : Bool := decide (modState s = .active) && decide (s.pair.gaveUp = none)

/-- The module sends scheduled outputs (R40, R74): ACTIVE and not giving up, in a vote mode other than NONE. -/
def sendsOutputs (s : State) : Bool := ringsAct s && decide (voteMode s ≠ .none)

/-- The OUTPUT bytes that an entry reads lie in an unconfirmed block, so the entry is withheld (R323). -/
def withheld (s : State) (off len : Nat) : Bool :=
  s.pair.unconfirmed.any (fun b => decide (64 * b < off + len) && decide (off < 64 * b + 64))

/-- An ACCEPTED record of an opcode is the next one that a ring with a target may start (R102). -/
def startable (s : State) (n target opcode : Nat) : Option JRecord :=
  match nextRec s n with
  | some r => if ringsAct s ∧ ringTarget s n = target ∧ r.desc.opcode.toNat = opcode then some r else none
  | none => none

/-- The journal's records of a ring or queue are read (R102): where words of it are uncorrectable, whether one lies in what is read,
and in which record, is free, since the spec does not place the records; then JOURNAL_POISON.  `ids` are the SEQs or indices read.
The result says that a bad word was met. -/
def readJournal (n : Nat) (ids : List Word) (s : State) : Bool × State :=
  if s.journalBad.isEmpty then (false, s)
  else
    let (v, s) := takeFree s
    let x := v.toNat
    if v.getLsbD 0 then
      let w := nth 0 s.journalBad (x / 2 % 2 ^ 20 % s.journalBad.length)
      let id := nth 0 ids (x / 2 ^ 21 % max 1 ids.length)
      (true, raise Ev.journalPoison n id.toNat (16 * w)
        (stick (memUncorrectable 10 (0x501200000 + 16 * w) 1 s) Reg.ringError 3))
    else (false, s)

/-- A target starts the next record of an opcode: it reads the record, and one found bad is not started (R102). -/
def startRec (s : State) (n target opcode : Nat) : Option JRecord × State :=
  match startable s n target opcode with
  | some r =>
    let (bad, s) := readJournal n [r.desc.seq] s
    (if bad then none else some r, s)
  | none => (none, s)

/-- SEQs of a ring's journal records. -/
def ringSeqs (s : State) (n : Nat) : List Word := (s.journal.filter (fun r => decide (r.ring = n))).map (·.desc.seq)

end Sys2Proof.Machine
end

