-- ==== Sys2Proof/WellFormed.lean ====
section
/-!
DEFINITION. Which commands the hardware can be given: the bounds on the list operands that the types do not carry.  Every
other operand is bounded by its type.
-/

namespace Sys2Proof

/-- VALID_BYTES of a frame (R233): by DLC, FDF and RTR. -/
def CanFrame.validBytes (f : CanFrame) : Nat :=
  if f.rtr then 0
  else
    let d := f.dlc.toNat
    if d ≤ 8 then d
    else if f.fdf then
      match d with
      | 9 => 12 | 10 => 16 | 11 => 20 | 12 => 24 | 13 => 32 | 14 => 48 | _ => 64
    else 8

/-- A CAN frame that R225 and R232 allow: its data bytes are those of its DLC, a base identifier has 11 bits, a remote frame
is classical, bit-rate switching needs the FD format. -/
def CanFrame.wellFormed (f : CanFrame) : Bool :=
  decide (f.data.length = f.validBytes) && (f.ide || decide (f.id.toNat < 2048)) && !(f.rtr && f.fdf)
    && (f.fdf || !f.brs)

/-- An Ethernet frame within the lengths of R186: 1,518 bytes with its FCS, 1,522 with a VLAN tag. -/
def EthFrame.wellFormed (f : EthFrame) : Bool :=
  decide (f.bytes.length ≤ if f.tag.isSome then 1518 else 1514)

/-- A payload of whole pages, images and batches that one Strait frame carries. -/
def CopyContent.wellFormed : CopyContent → Bool
  | .page _ bytes => decide (bytes.length = 4096)
  | _ => true

/-- The command is one that the hardware can be given. -/
def Instr.wellFormed : Instr → Bool
  | .canFrameRx _ f _ => f.wellFormed
  | .switchFrameRx _ f => f.wellFormed
  | .busCycleEnd ws _ => decide (ws.length ≤ 16)
  | .busTimeout ws => decide (ws.length ≤ 16)
  | .busMonitorCycle _ _ ws _ => decide (ws.length ≤ 16)
  | .straitCopy c => c.wellFormed
  | .svcRegWrite _ vs => decide (vs.length ≤ 366)
  | .svcImg _ _ _ bs _ => decide (bs.length = 7)
  | .svcImgData _ d => decide (d.length ≤ 1464)
  | _ => true

end Sys2Proof
end

