-- ==== Sys2Proof/Machine/Can.lean ====
section
/-!
DEFINITION. The CAN FD channels (R224 to R252): frame records, receive filters and their actions, transmit queues and
arbitration, reference messages, error states, bus-off and recovery, channel and filter set-up.
-/

namespace Sys2Proof.Machine

/-! ### Channels -/

/-- Reception state before any payload (R195): NEVER. -/
def rx0 : RxState :=
  { fresh := 0, held := false, seq := 0, time := 0, age := 0, payload := [], last := none, missA := 0, missB := 0,
    lostA := false, lostB := false }

/-- An IMAGE filter that has received nothing. -/
def canFlt0 : CanFlt := ⟨none, 0, [], 0, rx0, false⟩

/-- CAN_CH_STATUS.STATE. -/
def chState (s : State) (n : Nat) : Nat := fld s (Reg.canChStatus n) 2 0

/-- The state with CAN_CH_STATUS.STATE replaced, and CAN_BUSOFF and CAN_PASSIVE as it gives them (R251). -/
def setChState (s : State) (n st : Nat) : State :=
  let s := setFld s (Reg.canChStatus n) 2 0 st
  let s := setBit s Reg.canBusoff (n - 1) (decide (st = 4) || decide (st = 5))
  setBit s Reg.canPassive (n - 1) (decide (st = 3))

/-- CAN_CH_CFG.ENABLE. -/
def chEnabled (s : State) (n : Nat) : Bool := bit s (Reg.canChCfg n) 0

/-- Internal loopback (R251 MODE). -/
def chLoopback (s : State) (n : Nat) : Bool := decide (fld s (Reg.canChCfg n) 2 1 = 2)

/-- Listen-only (R250): MODE LISTEN, STANDBY, or after a takeover until 11 recessive bits have passed. -/
def listenOnly (s : State) (n : Nat) : Bool :=
  chEnabled s n && (decide (fld s (Reg.canChCfg n) 2 1 % 2 = 1) || standsBy s || (chan s n).waitIdle)

/-- CAN_CH_STATUS.LISTEN of a channel. -/
def showListen (n : Nat) (s : State) : State := setBit s (Reg.canChStatus n) 4 (listenOnly s n)

/-- CAN_CH_STATUS.LISTEN of every channel. -/
def showListenAll (s : State) : State := (List.range 20).foldl (fun s i => showListen (i + 1) s) s

/-- TEC and REC. -/
def tec (s : State) (n : Nat) : Nat := fld s (Reg.canChStatus n) 16 8
/-- REC. -/
def rec_ (s : State) (n : Nat) : Nat := fld s (Reg.canChStatus n) 31 24

/-- DETAIL_A of error-state events (R252). -/
def canDetail (s : State) (n : Nat) : Nat := tec s n + rec_ s n * 65536

/-- A profile in use (R230), with PROFILE_CHANGED when it changes: 0 service, 1 recovery. -/
def setProfile (n p : Nat) (s : State) : State :=
  if fld s (Reg.canChStatus n) 3 3 = p then s
  else raise Ev.profileChanged n 0 p (setFld s (Reg.canChStatus n) 3 3 p)

/-- Skerry reports the TCXO settled (R230, R364). -/
def tcxoSettled (s : State) : Bool := bit s Reg.skerryStatus 2

/-- The profile after an integration (R230). -/
def integratedProfile (n : Nat) (s : State) : State :=
  if chLoopback s n then setProfile n 1 s else if tcxoSettled s then setProfile n 0 s else s

/-- Internal loopback uses the recovery profile; the change takes effect between two frames (R230). -/
def loopProfile (n : Nat) (s : State) : State :=
  if chLoopback s n ∧ ¬(chan s n).queue.any (fun e => e.sof.isSome) then setProfile n 1 s else s

/-- Shared entries in use (R237). -/
def canShared (s : State) (n : Nat) : Nat := ((chan s n).queue.filter (fun e => !e.scheduled)).length

/-- Accepted frames of the channel's rings that have not entered the queue; each has taken an entry (R237). -/
def canWaiting (s : State) (n : Nat) : Nat :=
  (s.journal.filter (fun r => decide (r.state = .accepted) && decide (r.desc.opcode = 1)
    && decide (ringTarget s r.ring = 3) && decide (ringUnit s r.ring = n))).length

/-- Frames of the channel's rings whose acceptance waits for the partner's acknowledgement (R330); each is to take an entry. -/
def canPending (s : State) (n : Nat) : Nat :=
  (s.journal.filter (fun r => decide (r.state = .pending) && decide (r.desc.opcode = 1)
    && decide (ringTarget s r.ring = 3) && decide (ringUnit s r.ring = n))).length

/-- Free shared entries of a channel (R237, R114), one set aside for each record that waits for its acceptance. -/
def canFree (s : State) (n : Nat) : Nat := 31 - (canShared s n + canWaiting s n + canPending s n)

/-- CAN_CH_TXQ as the queue gives it. -/
def showTxq (n : Nat) (s : State) : State :=
  let s := setFld s (Reg.canChTxq n) 5 0 (min 32 ((chan s n).queue.length + canWaiting s n))
  setBit s (Reg.canChTxq n) 6 ((chan s n).queue.any (·.scheduled))

/-- CAN_CH_TXQ of a CAN_TX ring's channel follows the ring's records (R237, R251). -/
def showRingTxq (k : Nat) (s : State) : State := if ringTarget s k = 3 then showTxq (ringUnit s k) s else s

/-- The state with a channel's queue replaced. -/
def setQueue (s : State) (n : Nat) (q : List TxEntry) : State := showTxq n (setChan s n { chan s n with queue := q })

/-! ### Frame records (R232, R233) -/

/-- ID word of a frame: bytes 0 to 3 of its record. -/
def idWord (f : CanFrame) : Nat := f.id.toNat + (if f.rtr then 2 ^ 30 else 0) + (if f.ide then 2 ^ 31 else 0)

/-- Flags of a frame: byte 5 of its record. -/
def frameFlags (f : CanFrame) : Nat := (if f.fdf then 1 else 0) + (if f.brs then 2 else 0) + (if f.esi then 4 else 0)

/-- Bytes filled with zeros up to a multiple of `m`. -/
def padTo (m : Nat) (bs : List Byte) : List Byte := bs ++ List.replicate ((m - bs.length % m) % m) 0

/-- The frame record of a frame, with its STATUS byte and TIME. -/
def frameRecord (f : CanFrame) (status : Nat) (time : Dword) : List Byte :=
  leBytes 4 (idWord f) ++ leBytes 1 f.dlc.toNat ++ leBytes 1 (frameFlags f) ++ leBytes 1 f.validBytes ++ leBytes 1 status
    ++ leBytes 8 time.toNat ++ padTo 16 f.data

/-- The frame that a frame record holds. -/
def frameOf (bs : List Byte) : CanFrame :=
  let w := leVal (bs.take 4)
  let fl := (nth 0 bs 5).toNat
  let ide := decide (bitsOf w 31 31 = 1)
  let id := if ide then bitsOf w 28 0 else bitsOf w 10 0
  let f : CanFrame :=
    { id := BitVec.ofNat 29 id, ide := ide, rtr := decide (bitsOf w 30 30 = 1), fdf := decide (fl % 2 = 1),
      brs := decide (fl / 2 % 2 = 1), esi := decide (fl / 4 % 2 = 1), dlc := BitVec.ofNat 4 (nth 0 bs 4).toNat, data := [] }
  { f with data := fit f.validBytes 0 (bs.drop 16) }

/-- The record breaks R232 or R233: a reserved bit of bytes 0 to 5, or VALID_BYTES. -/
def badRecord (bs : List Byte) : Bool :=
  decide (bitsOf (leVal (bs.take 4)) 29 29 = 1) || decide (16 ≤ (nth 0 bs 4).toNat) || decide (8 ≤ (nth 0 bs 5).toNat)
    || decide ((nth 0 bs 6).toNat ≠ (frameOf bs).validBytes)

/-- The frame is of a format that the channel does not send (R225, R241 reason 3). -/
def badFormat (s : State) (n : Nat) (f : CanFrame) : Bool :=
  (f.fdf && !bit s (Reg.canChCfg n) 3) || (f.brs && !f.fdf) || (f.rtr && f.fdf)

/-! ### Reception -/

/-- A dropped frame (R234 to R236): counted, flagged, CAN_RX_DROP with its reason. -/
def canDrop (n reason : Nat) (f : CanFrame) (s : State) : State :=
  let s := satAdd s (Reg.canChCounts n) 31 24 1
  raise Ev.canRxDrop n (idWord f) reason (stick s Reg.canError 4)

/-- The receive ring of a channel (R236). -/
def rxRing? (s : State) (n : Nat) : Option Nat :=
  let r := getReg s (Reg.canChRxr n)
  let k := wordFld r 5 0
  if wordFld r 7 7 = 1 ∧ ringTarget s k = 4 ∧ ringUnit s k = n then some k else none

/-- The open receive buffer of a channel completes (R236).  A count above 255 does not fit its field: free (assumption log 94). -/
def completeRx (n : Nat) (flushed : Bool) (s : State) : State :=
  match rxRing? s n with
  | some k =>
    match oldestBuffer s k 80 with
    | some r =>
      let c := chan s n
      let (count, s) : Nat × State := if c.rxCount < 256 then (c.rxCount, s) else
        let (v, s) := takeFree s
        (v.toNat % 256, s)
      let d := c.rxBytes + count * 65536 + (if flushed then 2 ^ 24 else 0)
      finishDesc (setChan s n { c with rxBytes := 0, rxCount := 0 }) k r.desc.seq .done d
    | none => s
  | none => s

/-- A frame record goes into the channel's receive ring (R236); a buffer in which it does not fit completes first. -/
def toRxRing (n : Nat) (f : CanFrame) (sof : Dword) (s : State) : State :=
  let bs := padTo 16 (frameRecord f 0 sof)
  let full := match (rxRing? s n).bind (fun k => oldestBuffer s k 80) with
    | some r => decide (r.desc.len.toNat < (chan s n).rxBytes + bs.length)
    | none => false
  let s := if full then completeRx n false s else s
  match (rxRing? s n).bind (fun k => oldestBuffer s k 80) with
  | some r =>
    if ringsAct s then
      let c := chan s n
      let (bad, s) := if c.rxCount = 0 then readJournal r.ring [r.desc.seq] s else (false, s)
      if bad then canDrop n 1 f s
      else
        let s := toLanes s (r.desc.buf.toNat + c.rxBytes) bs
        setChan s n { c with rxBytes := c.rxBytes + bs.length, rxCount := c.rxCount + 1 }
    else if standsBy s then s
    else canDrop n 1 f s
  | none => if standsBy s then s else canDrop n 1 f s

/-- Receive buffers that hold a record complete at a base-cycle boundary (R236). -/
def flushRx (s : State) : State :=
  (List.range 20).foldl (fun s i => if 0 < (chan s (i + 1)).rxCount then completeRx (i + 1) true s else s) s

/-- The state of an IMAGE filter. -/
def canFlt (s : State) (k : Nat) : CanFlt := tget canFlt0 s.filters k

/-- The state with an IMAGE filter replaced. -/
def setFlt (s : State) (k : Nat) (x : CanFlt) : State := { s with filters := tset canFlt0 s.filters k x }

/-- The frames of an earlier microtick belong to the next SAMPLE (R235). -/
def settleFlt (mt : Nat) (x : CanFlt) : CanFlt :=
  if x.lateMt = mt then x
  else match x.late.getLast? with
    | some f => { x with newest := some f, count := x.count + x.late.length, late := [] }
    | none => x

/-- Bytes that a filter's image record holds (R235). -/
def fltRoom (s : State) (k : Nat) : Nat := if bit s (Reg.canFltCfg k) 11 then 64 else 16

/-- Half of an IMAGE filter's double slot in CAN_MIRROR (R235), as a Sound offset: two records of 80 bytes a filter, in filter
order.  The spec does not place them (DESIGN CHOICE, assumption log 97). -/
def mirrorSlot (s : State) (k : Nat) (half : Bool) : Nat := (region s 5).1 + 160 * k + (if half then 80 else 0)

/-- A frame enters the half of its filter's double slot that did not take the last one; outside the region nothing is written. -/
def toMirror (k : Nat) (half : Bool) (f : CanFrame) (sof : Dword) (s : State) : State :=
  if 160 * (k + 1) ≤ (region s 5).2 then
    { s with sound := writeBytes s.sound (mirrorSlot s k half) (fit 80 0 (frameRecord f 0 sof)) }
  else s

/-- IMAGE action (R235). -/
def toImage (n k : Nat) (f : CanFrame) (sof : Dword) (s : State) : State :=
  if fltRoom s k < f.data.length then canDrop n 3 f s
  else
    let x := settleFlt s.time.mt (canFlt s k)
    toMirror k (!x.half) f sof (setFlt s k { x with late := x.late ++ [(f, sof)], lateMt := s.time.mt, half := !x.half })

/-- An empty tunnel context. -/
def tunnel0 : TunnelSt := ⟨[], [], 0, none, 0⟩

/-- TUNNEL action (R203): every enabled tunnel of the channel with OUT holds the frame. -/
def toTunnels (n : Nat) (f : CanFrame) (time : Dword) (s : State) : State :=
  (List.range 8).foldl (fun s k =>
    let cfg := getReg s (Reg.netTunCfg k)
    if wordFld cfg 0 0 = 1 ∧ wordFld cfg 1 1 = 1 ∧ wordFld cfg 8 4 = n then
      let t := tget tunnel0 s.net.tunnels k
      let t := { t with held := t.held ++ [(f, time)], since := t.since ++ [rawNow s] }
      { s with net := { s.net with tunnels := tset tunnel0 s.net.tunnels k t } }
    else s) s

/-- Enabled filters by number, rising. -/
def enabledFilters (s : State) : List Nat :=
  s.regs.filterMap (fun (k, v) =>
    if Reg.canFltCfg 0 ≤ k ∧ k < Reg.canFltCfg 512 ∧ (k - Reg.canFltCfg 0) % 16 = 0 ∧ wordFld v 0 0 = 1
    then some ((k - Reg.canFltCfg 0) / 16) else none)

/-- A frame on a channel matches a filter (R234). -/
def fltMatches (s : State) (n : Nat) (f : CanFrame) (k : Nat) : Bool :=
  let cfg := getReg s (Reg.canFltCfg k)
  let differ : BitVec 29 := (f.id ^^^ BitVec.ofNat 29 (fld s (Reg.canFltId k) 28 0)) &&&
    BitVec.ofNat 29 (fld s (Reg.canFltMask k) 28 0)
  decide (wordFld cfg 5 1 = n) && decide ((wordFld cfg 6 6 = 1) = (f.ide = true)) && decide (differ = 0)

/-- The lowest matching filter decides a frame's handling (R234). -/
def filterFrame (n : Nat) (f : CanFrame) (sof : Dword) (s : State) : State :=
  match (enabledFilters s).find? (fltMatches s n f) with
  | some k =>
    let cfg := getReg s (Reg.canFltCfg k)
    let s := if wordFld cfg 8 8 = 1 then toImage n k f sof s else s
    let s := if wordFld cfg 9 9 = 1 then toRxRing n f sof s else s
    if wordFld cfg 10 10 = 1 then toTunnels n f sof s else s
  | none => if bit s (Reg.canChCfg n) 9 then toRxRing n f sof s else canDrop n 2 f s

/-- A frame with the channel's reference identifier (R243). -/
def refForeign (n : Nat) (f : CanFrame) (s : State) : State :=
  let r := getReg s (Reg.canChRef n)
  let id := if f.ide then wordFld r 28 0 else wordFld r 10 0
  if wordFld r 29 29 = 1 ∧ id = f.id.toNat ∧ ((wordFld r 31 31 = 1) ↔ f.ide) then
    raise Ev.refForeign n (idWord f) (idWord f) (stick s Reg.canError 6)
  else s

/-- The two frames are the same for R250: ID word, DLC, FDF, BRS and data. -/
def sameFrame (a b : CanFrame) : Bool :=
  decide (idWord a = idWord b) && decide (a.dlc = b.dlc) && decide (a.fdf = b.fdf) && decide (a.brs = b.brs)
    && decide (a.data = b.data)

/-- A standby marks the first mirrored record that the frame matches DONE (R250, R113). -/
def seenFrame (n : Nat) (f : CanFrame) (sof : Dword) (s : State) : State :=
  if standsBy s then
    match s.journal.find? (fun r => decide (ringTarget s r.ring = 3) && decide (ringUnit s r.ring = n)
        && decide (r.desc.opcode = 1) && decide (r.state ≠ .done) && sameFrame (frameOf r.payload) f) with
    | some r => mapRec s r.ring r.desc.seq (fun r => { r with state := .done, outcome := .done, detailA := sof })
    | none => s
  else s

/-! ### Error counters (R244) -/

/-- The channel enters bus-off (R246): a single-shot frame in transmission fails with the cause, every other entry stays. -/
def busOff (n cause : Nat) (s : State) : State :=
  let failing := (chan s n).queue.filterMap (fun e => match e.src with
    | .ring k seq true _ => if e.sof.isSome then some (k, seq) else none
    | _ => none)
  let q := (chan s n).queue.filter (fun e => match e.src with
    | .ring _ _ true _ => e.sof.isNone
    | _ => true)
  let q := q.map (fun e => { e with sof := none })
  let sent := (chan s n).queue.any (fun e => e.sof.isSome)
  let s := setChan s n { chan s n with queue := q, suspend := false, recovery := false, busOffAt := rawNow s }
  let s := if sent then setFld s (Reg.canChTxq n) 9 8 0 else s
  let s := failing.foldl (fun s (k, seq) => finishDesc s k seq .failed cause) s
  let s := showTxq n (setChState s n 4)
  let s := stick (satAdd s (Reg.canChCounts n) 7 0 1) Reg.canError 0
  let s := raise Ev.busOff n (canDetail s n) q.length s
  setProfile n 1 s

/-- The error state that the counters give, with its events (R244). -/
def errorState (n oldTec oldRec cause : Nat) (s : State) : State :=
  let s := setBit s (Reg.canChStatus n) 5 (decide (96 ≤ tec s n) || decide (96 ≤ rec_ s n))
  let s := if (oldTec < 96 ∧ 96 ≤ tec s n) ∨ (oldRec < 96 ∧ 96 ≤ rec_ s n) then
      raise Ev.errorWarning n (canDetail s n) (tec s n) s else s
  if 255 < tec s n then busOff n cause s
  else if 128 ≤ tec s n ∨ 128 ≤ rec_ s n then
    if chState s n = 2 then
      let s := stick (satAdd (setChState s n 3) (Reg.canChCounts n) 15 8 1) Reg.canError 1
      raise Ev.errorPassive n (canDetail s n) (tec s n) s
    else s
  else if chState s n = 3 then raise Ev.errorActive n (canDetail s n) (tec s n) (setChState s n 2)
  else s

/-- The counters replaced, and the state that follows. -/
def setCounters (n newTec newRec cause : Nat) (s : State) : State :=
  let t := tec s n
  let r := rec_ s n
  let s := setFld (setFld s (Reg.canChStatus n) 16 8 (min 511 newTec)) (Reg.canChStatus n) 31 24 (min 255 newRec)
  errorState n t r cause s

/-- Code of a protocol error in CAN_CH_LAST_ERR. -/
def canErrCode : CanErr → Nat
  | .stuff => 1 | .form => 2 | .ack => 3 | .bit1 => 4 | .bit0 => 5 | .crc => 6

/-- CAN_CH_LAST_ERR of a protocol error. -/
def noteCanErr (n : Nat) (e : CanErr) (dataPhase own : Bool) (s : State) : State :=
  let s := setFld s (Reg.canChLastErr n) 2 0 (canErrCode e)
  let s := setBit (setBit s (Reg.canChLastErr n) 3 dataPhase) (Reg.canChLastErr n) 4 own
  recCount n (satAdd s (Reg.canChLastErr n) 31 16 1)

/-- The channel takes part in bus activity: enabled, error active or passive. -/
def chOnBus (s : State) (n : Nat) : Bool := chEnabled s n && (decide (chState s n = 2) || decide (chState s n = 3))

/-- A reception without error: REC falls by 1, or from above 127 to some value between 119 and 127 (ISO 11898-1; which one is
free). -/
def rxGood (n : Nat) (s : State) : State :=
  if listenOnly s n ∨ rec_ s n = 0 then s
  else if rec_ s n ≤ 127 then setCounters n (tec s n) (rec_ s n - 1) 0 s
  else
    let (v, s) := takeFree s
    setCounters n (tec s n) (119 + v.toNat % 9) 0 s

/-- CAN_RX_ERROR: a protocol error while receiving. -/
def rxError (n : Nat) (e : CanErr) (dataPhase heavy : Bool) (s : State) : State :=
  if chOnBus s n then
    let s := noteCanErr n e dataPhase false s
    if listenOnly s n then s else setCounters n (tec s n) (rec_ s n + if heavy then 8 else 1) 0 s
  else s

/-- CAN_RX_ERROR. -/
def execCanRxError (c : Fin 20) (e : CanErr) (dataPhase heavy : Bool) (s : State) : Host.Outcome State Fault Refusal :=
  .next (rxError (c.val + 1) e dataPhase heavy s)

/-- A time stamp at the 12.5 ns resolution of the CAN clock, in whole ns (R227); the grid starts at 0 and values are cut (DESIGN
CHOICE, assumption log 100). -/
def canStamp (t : Dword) : Dword := BitVec.ofNat 64 (t.toNat * 2 / 25 * 25 / 2)

/-- CAN_FRAME_RX: a frame received on a channel, `sofNs` nanoseconds after the sample point of its SOF (R225, R227, R234). -/
def frameRx (n : Nat) (f : CanFrame) (sofNs : Word) (s : State) : State :=
  if ¬chOnBus s n ∨ chLoopback s n then s
  else if f.fdf ∧ ¬bit s (Reg.canChCfg n) 3 then
    if bit s (Reg.canChCfg n) 4 then setChState s n 1 else rxError n .form false false s
  else
    let sof := canStamp (corrected s - sofNs.setWidth 64)
    filterFrame n f sof (seenFrame n f sof (refForeign n f (rxGood n s)))

/-- CAN_FRAME_RX. -/
def execCanFrameRx (c : Fin 20) (f : CanFrame) (sofNs : Word) (s : State) : Host.Outcome State Fault Refusal :=
  if f.wellFormed then .next (frameRx (c.val + 1) f sofNs s) else .fault .illFormed

/-! ### Rings -/

/-- REFUSED reason of a TX_FRAME (R241), in table order; 0 when it is taken. -/
def txReason (s : State) (n : Nat) (d : Desc) (bs : List Byte) : Nat :=
  if d.len.toNat ≠ 16 + (nth 0 bs 6).toNat then 1
  else if badRecord bs then 2
  else if badFormat s n (frameOf bs) then 3
  else if ¬chEnabled s n then 5
  else 0

/-- CAN_TX_FRAME: the next TX_FRAME of a ring enters the transmit queue, STARTED, or is REFUSED (R237, R241, R242). -/
def txFrame (k : Nat) (s : State) : State :=
  match startRec s k 3 1 with
  | (none, s) => s
  | (some r, s) =>
    let n := ringUnit s k
    let why := txReason s n r.desc r.payload
    if why ≠ 0 then showTxq n (finishDesc s k r.desc.seq .refused why)
    else if 31 ≤ canShared s n then s
    else
      let deadline := if descFlag r.desc 1 then some r.desc.spec else none
      let s := markRec s k r.desc.seq .started
      setQueue s n ((chan s n).queue ++
        [⟨frameOf r.payload, .ring k r.desc.seq (descFlag r.desc 2) deadline, 0, none⟩])

/-- CAN_TX_FRAME. -/
def execCanTxFrame (k : Fin 64) (s : State) : Host.Outcome State Fault Refusal := .next (txFrame k s)

/-- CAN_RX_BUFFER: an accepted buffer supplies room; one of less than 80 bytes is REFUSED with reason 4 (R236). -/
def rxBuffer (k : Nat) (s : State) : State :=
  match startRec s k 4 1 with
  | (some r, s) => if r.desc.len.toNat < 80 then finishDesc s k r.desc.seq .refused 4 else s
  | (none, s) => s

/-- CAN_RX_BUFFER. -/
def execCanRxBuffer (k : Fin 64) (s : State) : Host.Outcome State Fault Refusal := .next (rxBuffer k s)

/-! ### Transmission -/

/-- Arbitration rank of a frame: the bits that it sends up to the RTR bit; the lower wins (R238, ISO 11898-1). -/
def arbRank (f : CanFrame) : Nat :=
  let r := if f.rtr then 1 else 0
  if f.ide then f.id.toNat / 2 ^ 18 * 2 ^ 21 + 2 ^ 20 + 2 ^ 19 + f.id.toNat % 2 ^ 18 * 2 + r
  else f.id.toNat % 2 ^ 11 * 2 ^ 21 + r * 2 ^ 20

/-- The deadline of an entry has passed (R242). -/
def pastDeadline (s : State) (e : TxEntry) : Bool :=
  match e.src with
  | .ring _ _ _ (some d) => decide (d.toNat ≤ (corrected s).toNat)
  | _ => false

/-- Position of the entry that wins arbitration against every other entry (R238). -/
def winner (s : State) (q : List TxEntry) : Option Nat :=
  let able := (q.zipIdx).filter (fun (e, _) => !pastDeadline s e)
  able.foldl (fun best (e, i) => match best with
    | some j => if arbRank e.frame < arbRank (nth e q j).frame then some i else best
    | none => some i) none

/-- Loop delay kept and secondary sample point after a frame's start (R231): measured on an FD frame with BRS under TDC_EN; a
measured delay below TDCF leaves the one before. -/
def measureLoop (s : State) (n delay : Nat) (f : CanFrame) : Nat × Nat :=
  let c := chan s n
  let d := getReg s (if fld s (Reg.canChStatus n) 3 3 = 1 then Reg.canChDbtRec n else Reg.canChDbtSvc n)
  if bit s (Reg.canChCfg n) 5 ∧ f.fdf ∧ f.brs then
    let kept := if delay < wordFld d 31 25 then c.loopDelay else delay
    (kept, kept + wordFld d 24 18)
  else (c.loopDelay, c.ssp)

/-- CAN_TX_ATTEMPT: the winning entry starts a transmission (R231, R238, R242, R245, R250). -/
def txAttempt (n delay : Nat) (s : State) : State :=
  let c := chan s n
  if chOnBus s n ∧ ¬listenOnly s n ∧ ¬c.suspend ∧ ¬(c.queue.any (fun e => e.sof.isSome)) ∧ s.tap.acting.isNone then
    match winner s c.queue with
    | some i =>
      let sof := canStamp (corrected s)
      let passive := decide (chState s n = 3)
      let (loop, ssp) := match c.queue[i]? with
        | some e => measureLoop s n delay e.frame
        | none => (c.loopDelay, c.ssp)
      setChan s n { c with loopDelay := loop, ssp := ssp, queue := c.queue.modify i (fun e =>
        { e with attempts := e.attempts + 1, sof := some sof, frame := { e.frame with esi := e.frame.fdf && passive } }) }
    | none => s
  else s

/-- CAN_TX_ATTEMPT. -/
def execCanTxAttempt (c : CanStart) (s : State) : Host.Outcome State Fault Refusal :=
  .next (txAttempt (c.chan.val + 1) c.loopDelay.toNat s)

/-- The entry in transmission and the queue without it. -/
def inFlight (s : State) (n : Nat) : Option (TxEntry × List TxEntry) :=
  match (chan s n).queue.findIdx? (fun e => e.sof.isSome) with
  | some i => ((chan s n).queue[i]?).map (fun e => (e, (chan s n).queue.eraseIdx i))
  | none => none

/-- An error-passive sender waits the suspend time (R245). -/
def beginSuspend (n : Nat) (passive : Bool) (s : State) : State :=
  setChan s n { chan s n with suspend := passive && chOnBus s n }

/-- CAN_TX_COMMIT: the frame reaches its sixth EOF bit (R242, R244); in loopback the channel receives it (R234). -/
def txCommit (n : Nat) (s : State) : State :=
  match inFlight s n with
  | none => s
  | some (e, rest) =>
    let sof := e.sof.getD 0
    let passive := decide (chState s n = 3)
    let s := setQueue s n rest
    let s := setFld s (Reg.canChTxq n) 9 8 0
    let s := match e.src with
      | .ring k seq _ _ => finishDesc s k seq .done sof.toNat
      | .reference => setChan s n { chan s n with refSof := some sof }
      | _ => s
    let s := if 0 < tec s n then setCounters n (tec s n - 1) (rec_ s n) 0 s else s
    let s := beginSuspend n passive s
    loopProfile n (if chLoopback s n then filterFrame n e.frame sof s else emitOut s (.can n e.frame))

/-- CAN_TX_COMMIT. -/
def execCanTxCommit (c : Fin 20) (s : State) : Host.Outcome State Fault Refusal := .next (txCommit (c.val + 1) s)

/-- A frame whose attempt ended without success: a single-shot frame fails, one past its deadline expires (R242). -/
def endAttempt (n cause : Nat) (e : TxEntry) (rest : List TxEntry) (s : State) : State :=
  match e.src with
  | .ring k seq single _ =>
    if single then finishDesc (setQueue s n rest) k seq .failed cause
    else if pastDeadline s e then finishDesc (setQueue s n rest) k seq .expired (e.attempts % 256 * 256)
    else setChan s n { chan s n with queue := (chan s n).queue.map (fun x => { x with sof := none }) }
  | _ => setChan s n { chan s n with queue := (chan s n).queue.map (fun x => { x with sof := none }) }

/-- Attempts in a row that end in a bit error within the data field, the stuff count or the CRC field (R248). -/
def clashRun (n : Nat) (f : CanFrame) (late : Bool) (s : State) : State :=
  let run := if late then fld s (Reg.canChTxq n) 9 8 + 1 else 0
  if 3 ≤ run then
    let s := setFld s (Reg.canChTxq n) 9 8 0
    let s := stick (satAdd s (Reg.canChCounts n) 23 16 1) Reg.canError 2
    raise Ev.idClash n (idWord f) (idWord f) s
  else setFld s (Reg.canChTxq n) 9 8 run

/-- A transmitter's further error after its attempt (R244, ISO 11898-1): TEC rises by 8; a bit error in its flag is a protocol
error of its own. -/
def txFlagError (n : Nat) (bitError : Bool) (s : State) : State :=
  if chOnBus s n ∧ ¬listenOnly s n then
    let s := if bitError then noteCanErr n .bit0 false true s else s
    setCounters n (tec s n + 8) (rec_ s n) 0 s
  else s

/-- CAN_TX_ERROR: an attempt ends with lost arbitration or an error (R242, R244, R248), or a further error follows one. -/
def txError (n : Nat) (why : CanEnd) (s : State) : State :=
  match inFlight s n, why with
  | none, .flag b => txFlagError n b s
  | none, _ => s
  | some _, .flag _ => s
  | some (e, rest), .lost => loopProfile n (endAttempt n 8 e rest (clashRun n e.frame false s))
  | some (e, rest), .error err dataPhase late noCount =>
      let passive := decide (chState s n = 3)
      let bitErr := decide (err = .bit0) || decide (err = .bit1)
      let s := noteCanErr n err dataPhase true s
      let s := clashRun n e.frame (late && bitErr) s
      let s := endAttempt n (canErrCode err) e rest s
      let s := if noCount then s else setCounters n (tec s n + 8) (rec_ s n) (canErrCode err) s
      loopProfile n (beginSuspend n passive s)

/-- CAN_TX_ERROR. -/
def execCanTxError (c : Fin 20) (why : CanEnd) (s : State) : Host.Outcome State Fault Refusal :=
  .next (txError (c.val + 1) why s)

/-- CAN_SUSPEND_END: the suspend time ends and the entry selected now is sent (R245). -/
def suspendEnd (n delay : Nat) (s : State) : State :=
  if (chan s n).suspend then txAttempt n delay (setChan s n { chan s n with suspend := false }) else s

/-- CAN_SUSPEND_END. -/
def execCanSuspendEnd (c : CanStart) (s : State) : Host.Outcome State Fault Refusal :=
  .next (suspendEnd (c.chan.val + 1) c.loopDelay.toNat s)

/-- CAN_DEADLINE_EXPIRY: a frame whose deadline has passed before a transmission has started expires (R89, R242), in the
queue or still before it. -/
def deadlineExpiry (n : Nat) (s : State) : State :=
  match (chan s n).queue.findIdx? (fun e => pastDeadline s e && e.sof.isNone) with
  | some i =>
    match (chan s n).queue[i]? with
    | some ⟨_, .ring k seq _ _, attempts, _⟩ =>
      finishDesc (setQueue s n ((chan s n).queue.eraseIdx i)) k seq .expired (attempts % 256 * 256)
    | _ => s
  | none =>
    match s.journal.find? (fun r => decide (r.state = .accepted) && decide (r.desc.opcode = 1) && descFlag r.desc 1
        && decide (ringState s r.ring ≠ 0) && decide (ringTarget s r.ring = 3) && decide (ringUnit s r.ring = n)
        && decide (r.desc.spec.toNat ≤ (corrected s).toNat)) with
    | some r => if ringsAct s then showTxq n (finishDesc s r.ring r.desc.seq .expired 0) else s
    | none => s

/-- CAN_DEADLINE_EXPIRY. -/
def execCanDeadlineExpiry (c : Fin 20) (s : State) : Host.Outcome State Fault Refusal :=
  .next (deadlineExpiry (c.val + 1) s)

/-! ### Bus-off, integration, supplies -/

/-- CAN_RECOVERY_START: in AUTO the recovery sequence starts RECOVERY_DELAY ms after bus-off (R247, R249). -/
def recoveryStart (n : Nat) (s : State) : State :=
  if chEnabled s n ∧ chState s n = 4 ∧ ¬bit s (Reg.canChCfg n) 6 ∧ ¬(chan s n).noSupply
      ∧ (chan s n).busOffAt + msRaw (fld s (Reg.canChCfg n) 23 16) ≤ rawNow s then setChState s n 5
  else s

/-- CAN_RECOVERY_START. -/
def execCanRecoveryStart (c : Fin 20) (s : State) : Host.Outcome State Fault Refusal := .next (recoveryStart (c.val + 1) s)

/-- A refusal of the CAN block (R251), with the channel concerned (R252). -/
def refuseCan (n reason key : Nat) (s : State) : State := refuseCfg s Reg.canCfgResult Ev.canCfgRefused reason key n 0

/-- CAN_CMD RECOVER (R247, R251); without its group's supply the channel starts the sequence when the supply returns. -/
def cmdRecover (n : Nat) (s : State) : State :=
  if chEnabled s n ∧ chState s n = 4 then
    if (chan s n).noSupply then setChan s n { chan s n with recovery := true } else setChState s n 5
  else refuseCan n 10 Reg.canCmd s

/-- CAN_CMD RECOVER. -/
def execCanCmdRecover (c : Fin 20) (s : State) : Host.Outcome State Fault Refusal := .next (cmdRecover (c.val + 1) s)

/-- CAN_RECOVERY_DONE: the recovery sequence completes (R247). -/
def recoveryDone (n : Nat) (s : State) : State :=
  if chEnabled s n ∧ chState s n = 5 then
    let ms := (rawNow s - (chan s n).busOffAt) / msRaw 1
    let s := setFld (setFld s (Reg.canChStatus n) 16 8 0) (Reg.canChStatus n) 31 24 0
    let s := setChState (setBit s (Reg.canChStatus n) 5 false) n 2
    let s := showListen n (setChan s n { chan s n with waitIdle := false })
    integratedProfile n (raise Ev.busOffRecovered n (canDetail s n) ms s)
  else s

/-- CAN_RECOVERY_DONE. -/
def execCanRecoveryDone (c : Fin 20) (s : State) : Host.Outcome State Fault Refusal := .next (recoveryDone (c.val + 1) s)

/-- CAN_INTEGRATION: 11 consecutive recessive bits (R230, R250).  A channel in bus-off or recovering only leaves the listen-only
state after a takeover. -/
def integration (n : Nat) (s : State) : State :=
  if chEnabled s n then
    let s := setChan s n { chan s n with waitIdle := false }
    if chState s n ≤ 3 then
      let s := if chState s n = 1 then setChState s n (if 128 ≤ tec s n ∨ 128 ≤ rec_ s n then 3 else 2) else s
      showListen n (integratedProfile n s)
    else showListen n s
  else s

/-- CAN_INTEGRATION. -/
def execCanIntegration (c : Fin 20) (s : State) : Host.Outcome State Fault Refusal := .next (integration (c.val + 1) s)

/-- CAN_CMD CLEAR_COUNTS (R251). -/
def canClear (n : Nat) (s : State) : State := setFld (setReg s (Reg.canChCounts n) 0) (Reg.canChLastErr n) 31 16 0

/-- CAN_CMD CLEAR_COUNTS. -/
def execCanClearCounts (c : Fin 20) (s : State) : Host.Outcome State Fault Refusal := .next (canClear (c.val + 1) s)

/-- The channels of an isolation group (R224). -/
def groupChannels (g : Nat) : List Nat := [4 * g - 3, 4 * g - 2, 4 * g - 1, 4 * g]

/-- GROUP_SUPPLY_FAULT (R249): the group's four channels are without supply; a disabled one shows DISABLED until it is enabled,
which puts it into bus-off (assumption log 101). -/
def supplyFault (g : Nat) (s : State) : State :=
  if bit s Reg.canGroupStatus (g - 1) then
    let s := stick (setBit s Reg.canGroupStatus (g - 1) false) Reg.canError 7
    let s := raise Ev.groupSupplyFault g 0 (15 * 2 ^ (4 * (g - 1))) s
    (groupChannels g).foldl (fun s n =>
      let s := if ¬chEnabled s n then s
        else if chState s n = 4 ∨ chState s n = 5 then setChState s n 4
        else busOff n 0 s
      setChan s n { chan s n with noSupply := true, recovery := false }) s
  else s

/-- GROUP_SUPPLY_FAULT. -/
def execGroupSupplyFault (g : Fin 5) (s : State) : Host.Outcome State Fault Refusal := .next (supplyFault (g.val + 1) s)

/-- GROUP_SUPPLY_RETURN (R249): recovery begins under R247. -/
def supplyReturn (g : Nat) (s : State) : State :=
  let s := setBit s Reg.canGroupStatus (g - 1) true
  (groupChannels g).foldl (fun s n =>
    if (chan s n).noSupply then
      let go := (chan s n).recovery
      let s := setChan s n { chan s n with noSupply := false, recovery := false }
      if go ∧ chState s n = 4 then setChState s n 5 else s
    else s) s

/-- GROUP_SUPPLY_RETURN. -/
def execGroupSupplyReturn (g : Fin 5) (s : State) : Host.Outcome State Fault Refusal := .next (supplyReturn (g.val + 1) s)

/-! ### Set-up (R228 to R231, R251) -/

/-- Nominal bit time in CAN clock periods. -/
def nomBit (w : Word) : Nat := (wordFld w 4 0 + 1) * (1 + (wordFld w 12 5 + 1) + (wordFld w 19 13 + 1))
/-- Data bit time in CAN clock periods. -/
def dataBit (w : Word) : Nat := (wordFld w 4 0 + 1) * (1 + (wordFld w 9 5 + 1) + (wordFld w 13 10 + 1))

/-- Refusal reason of setting ENABLE with a CAN_CH_CFG value (R251), in the order of the codes; 0 when it is taken. -/
def chReason (s : State) (n : Nat) (v : Word) : Nat :=
  let ns := getReg s (Reg.canChNbtSvc n)
  let nr := getReg s (Reg.canChNbtRec n)
  let ds := getReg s (Reg.canChDbtSvc n)
  let dr := getReg s (Reg.canChDbtRec n)
  let slots := getReg s (Reg.canChSlots n)
  let rxr := getReg s (Reg.canChRxr n)
  let badN := fun w => decide (wordFld w 12 5 = 0) || decide (nomBit w < 80) || decide (8000 < nomBit w)
  let badD := fun w => decide (dataBit w < 10)
  let sjwN := fun w (lim : Nat) => decide (lim < wordFld w 26 20 + 1)
  let sjwD := fun w (lim : Nat) => decide (lim < wordFld w 17 14 + 1)
  let size := (wordFld slots 23 18 + 1) * 64 * (wordFld slots 24 24 + 1)
  if badN ns ∨ badN nr ∨ badD ds ∨ badD dr ∨ nomBit ns < dataBit ds ∨ nomBit nr < dataBit dr then 1
  else if nomBit ns ≠ nomBit nr ∨ dataBit ds ≠ dataBit dr then 2
  else if wordFld ns 27 27 = 1 ∧ (nomBit ns < 320 ∨ wordFld ns 12 5 + 1 < 3) then 3
  else if sjwN ns (max 1 ((wordFld ns 19 13 + 1) / 2)) ∨ sjwN nr (wordFld nr 19 13 + 1)
      ∨ sjwD ds (max 1 ((wordFld ds 13 10 + 1) / 2)) ∨ sjwD dr (wordFld dr 13 10 + 1) then 4
  else if wordFld v 5 5 = 0 ∧ dataBit ds < 80 then 5
  else if wordFld rxr 7 7 = 1 ∧ ¬(ringTarget s (wordFld rxr 5 0) = 4 ∧ ringUnit s (wordFld rxr 5 0) = n) then 7
  else if ¬inRegion s 3 (64 * wordFld slots 17 0) size then 8
  else 0

/-- Some entry of a queue is a ring frame. -/
def hasRingFrame (q : List TxEntry) : Bool := q.any (fun e => match e.src with | .ring _ _ _ _ => true | _ => false)

/-- A committed write of CAN_CH_CFG (R251): setting ENABLE checks the channel, clearing it drops scheduled and tunnel
entries. -/
def writeChCfg (n : Nat) (v : Word) (s : State) : State :=
  let k := Reg.canChCfg n
  let old := getReg s k
  let on := wordFld old 0 0 = 1
  let want := wordFld v 0 0 = 1
  let kept := wordFld old 5 3 = wordFld v 5 3
  if on ∧ ¬kept then refuseCan n 6 k s
  else if on ∧ want then loopProfile n (showListen n (setReg s k v))
  else if on then
    if hasRingFrame (chan s n).queue ∨ 0 < canWaiting s n then refuseCan n 6 k s
    else
      let s := setQueue (setReg s k v) n []
      showListen n (setChState (setChan s n { chan s n with suspend := false, waitIdle := false }) n 0)
  else if want then
    let why := chReason s n v
    if why ≠ 0 then refuseCan n why k s
    else
      let s := setReg s k v
      let s := setFld (setFld s (Reg.canChStatus n) 16 8 0) (Reg.canChStatus n) 31 24 0
      let s := setProfile n 1 (setChState (setBit s (Reg.canChStatus n) 5 false) n 1)
      showListen n (if (chan s n).noSupply then busOff n 0 s else s)
  else setReg s k v

/-- CAN_CH_ENABLE. -/
def execCanChEnable (c : Fin 20) (v : Word) (s : State) : Host.Outcome State Fault Refusal :=
  .next (writeChCfg (c.val + 1) (committed s (Reg.canChCfg (c.val + 1)) (v ||| 1)) s)

/-- CAN_CH_DISABLE. -/
def execCanChDisable (c : Fin 20) (v : Word) (s : State) : Host.Outcome State Fault Refusal :=
  .next (writeChCfg (c.val + 1) (committed s (Reg.canChCfg (c.val + 1)) (v &&& ~~~1)) s)

/-- A committed write of CAN_FLT_CFG (R251). -/
def writeFltCfg (k : Nat) (v : Word) (s : State) : State :=
  let key := Reg.canFltCfg k
  let n := wordFld v 5 1
  let size := if wordFld v 11 11 = 1 then 80 else 32
  if wordFld v 0 0 = 1 then
    if n = 0 ∨ 20 < n ∨ wordFld v 10 8 = 0 then refuseCan n 9 key s
    else if wordFld v 8 8 = 1 ∧ ¬inImage s (wordFld v 15 12) (16 * fld s (Reg.canFltImg k) 19 0) size then
      refuseCan n 8 key s
    else
      let s := if bit s key 0 then s else setFlt s k canFlt0
      setReg s key v
  else setReg s key v

/-! ### Scheduled frames (R239, R240, R243) -/

/-- Offset in OUTPUT and length of a slot record of a channel's slot table (R239). -/
def slotPlace (s : State) (n slot : Nat) : Nat × Nat :=
  let t := getReg s (Reg.canChSlots n)
  let size := 64 * (wordFld t 24 24 + 1)
  ((region s 3).1 + 64 * wordFld t 17 0 + slot * size, size)

/-- SLOT_INVALID with its cause. -/
def slotInvalid (n why : Nat) (s : State) : State := raise Ev.slotInvalid n 0 why (stick s Reg.canError 3)

/-- DETAIL_B of SLOT_MISSED for what a withdrawn entry was. -/
def missedDetail : CanSrc → Nat
  | .slot k => k
  | _ => 0xFFFFFFFF

/-- A frame takes the channel's reserved entry; a waiting one is withdrawn with SLOT_MISSED, at most once a second. -/
def loadReserved (n : Nat) (f : CanFrame) (src : CanSrc) (s : State) : State :=
  let c := chan s n
  let new : TxEntry := ⟨f, src, 0, none⟩
  match c.queue.find? (·.scheduled) with
  | some old =>
    let q := c.queue.erase old ++ [new]
    let due := match c.missedAt with | some t => decide (t + msRaw 1000 ≤ rawNow s) | none => true
    let c := if old.src = .reference then { c with refSof := none } else c
    if due then
      let s := setQueue (setChan s n { c with missedAt := some (rawNow s) }) n q
      raise Ev.slotMissed n (idWord old.frame) (missedDetail old.src) (stick s Reg.canError 3)
    else setQueue (setChan s n c) n q
  | none => setQueue s n (c.queue ++ [new])

/-- Effect of a CAN_SLOT entry (R239). -/
def canSlotBody (e : Entry) (s : State) : State :=
  let n := dfld e.w1 4 0
  let slot := dfld e.w1 13 8
  if ¬sendsOutputs s ∨ ¬chEnabled s n then s
  else if fld s (Reg.canChSlots n) 23 18 < slot then slotInvalid n 3 s
  else
    let (at_, size) := slotPlace s n slot
    let bs := readBytes s.sound at_ size
    if withheld s (at_ - (region s 3).1) size then s else
    if isPoisoned s.sound at_ size then slotInvalid n 1 (meetSound at_ size s)
    else if (nth 0 bs 7).toNat % 2 = 0 then s
    else if badRecord bs ∨ badFormat s n (frameOf bs) ∨ size < 16 + (frameOf bs).validBytes then slotInvalid n 2 s
    else loadReserved n (frameOf bs) (.slot slot) s

/-- Bits of a frame at the nominal and at the data rate at worst, the intermission included (R240).  A classical frame follows the
rule's formulas.  An FD frame has 17 or 36 bits up to BRS and 13 from the CRC delimiter on at the nominal rate, and between them ESI,
DLC, data, stuff count and CRC with its fixed stuff bits; a part of m bits takes at most a dynamic stuff bit for every 4 (ISO 11898-1;
assumption log 46). -/
def frameBits (f : CanFrame) : Nat × Nat :=
  let n := f.validBytes
  if f.fdf then
    let head := if f.ide then 36 else 17
    let mid := 5 + 8 * n
    let crc := if n ≤ 16 then 4 + 17 + 6 else 4 + 21 + 7
    let nom := head + (head - 1) / 4 + 13
    let dat := mid + (mid + 3) / 4 + crc
    if f.brs then (nom, dat) else (nom + dat, 0)
  else if f.ide then (8 * n + 64 + (8 * n + 53) / 4 + 3, 0)
  else (8 * n + 44 + (8 * n + 33) / 4 + 3, 0)

/-- Worst-case time of a frame at its channel's rates as raw time (R240): 800 units a CAN clock period. -/
def frameTime (s : State) (n : Nat) (f : CanFrame) : Nat :=
  let (a, b) := frameBits f
  800 * (a * nomBit (getReg s (Reg.canChNbtSvc n)) + b * dataBit (getReg s (Reg.canChDbtSvc n)))

/-- The frame that a CAN_SLOT entry would load (R239): its slot's record, with SEND 1 and nothing wrong. -/
def slotFrame? (s : State) (n slot : Nat) : Option CanFrame :=
  let (at_, size) := slotPlace s n slot
  let bs := readBytes s.sound at_ size
  if fld s (Reg.canChSlots n) 23 18 < slot ∨ isPoisoned s.sound at_ size ∨ (nth 0 bs 7).toNat % 2 = 0 ∨ badRecord bs
      ∨ badFormat s n (frameOf bs) ∨ size < 16 + (frameOf bs).validBytes then none
  else some (frameOf bs)

/-- What a CAN_SLOT entry occupies (R43, R239, R240): the channel's scheduled transmit slot for the worst-case time of the frame it
loads, and on while its frame is in transmission. -/
def canNeeds (s : State) (e : Entry) : Needs :=
  let n := dfld e.w1 4 0
  if sendsOutputs s then
    ⟨none, [(.canSlot n, match slotFrame? s n (dfld e.w1 13 8) with | some f => frameTime s n f | none => 0)]⟩
  else noNeeds

/-- CAN_SLOT. -/
def execCanSlot (i : BitVec 16) (s : State) : Host.Outcome State Fault Refusal :=
  .next (issueEntry 9 i canNeeds canSlotBody s)

/-- The reference message of a channel (R243). -/
def refFrame (s : State) (n seq : Nat) : CanFrame :=
  let r := getReg s (Reg.canChRef n)
  let ide := decide (wordFld r 31 31 = 1)
  let prev := (chan s n).refSof
  let synced := decide (fld s Reg.transitStatus 1 0 = 2)
  let b0 := seq + (if prev.isSome then 16 else 0) + (if synced then 32 else 0)
  { id := BitVec.ofNat 29 (if ide then wordFld r 28 0 else wordFld r 10 0), ide := ide, rtr := false, fdf := false,
    brs := false, esi := false, dlc := 8, data := leBytes 1 b0 ++ beBytes 7 ((prev.getD 0).toNat % 2 ^ 56) }

/-- What a REFERENCE entry occupies (R43, R240, R243): as a CAN_SLOT, for a classical frame of 8 data bytes. -/
def refNeeds (s : State) (e : Entry) : Needs :=
  let n := dfld e.w1 4 0
  if sendsOutputs s then
    ⟨none, [(.canSlot n, if bit s (Reg.canChRef n) 29 then frameTime s n (refFrame s n 0) else 0)]⟩
  else noNeeds

/-- Effect of a REFERENCE entry (R243). -/
def referenceBody (e : Entry) (s : State) : State :=
  let n := dfld e.w1 4 0
  if ¬sendsOutputs s ∨ ¬chEnabled s n ∨ ¬bit s (Reg.canChRef n) 29 then s
  else
    let withdrawn := (chan s n).queue.any (fun x => decide (x.src = .reference))
    let s := if withdrawn then setChan s n { chan s n with refSof := none } else s
    let seq := (chan s n).refSeq
    let f := refFrame s n seq
    let s := loadReserved n f .reference s
    setChan s n { chan s n with refSeq := (seq + 1) % 16, refSof := none }

/-- REFERENCE. -/
def execReference (i : BitVec 16) (s : State) : Host.Outcome State Fault Refusal :=
  .next (issueEntry 12 i refNeeds referenceBody s)

/-! ### The CAN part of a SAMPLE (R235) -/

/-- Absolute base-cycle number (R192). -/
def absCycle (s : State) : Nat := (hpNow s).toNat * (header s).hpLen + cycleNow s

/-- FRESHNESS and AGE of a source without a fresh payload (R196): (code, AGE, whether it just timed out).  Codes: 0 NEVER,
1 FRESH, 2 HELD, 3 TIMED_OUT. -/
def ageOn (fresh age timeout : Nat) : Nat × Bool :=
  if timeout = 0 ∨ age < timeout then (if fresh = 0 then 0 else 2, false) else (3, decide (fresh ≠ 3))

/-- One filter's record at a SAMPLE. -/
def sampleFilter (k : Nat) (s : State) : State :=
  let cfg := getReg s (Reg.canFltCfg k)
  let x := settleFlt s.time.mt (canFlt s k)
  let half := if x.late.isEmpty then x.half else !x.half
  let placed := decide (160 * (k + 1) ≤ (region s 5).2)
  let (bad, s) := if x.newest.isSome ∧ placed then sharedSlot (mirrorSlot s k half) 80 k s else (false, s)
  let x := if bad then { x with count := 0 } else x
  let timeout := wordFld cfg 23 16
  let cyc := s.chrono.cycles
  let (rx, ev) :=
    if 0 < x.count then
      ({ x.rx with fresh := 1, held := true, age := 0, last := some cyc }, if x.rx.fresh = 3 then some true else none)
    else
      let age := x.rx.age + (match x.rx.last with | some c => cyc - c | none => 0)
      let (code, timedOut) := ageOn x.rx.fresh age timeout
      ({ x.rx with fresh := code, age := age, last := some cyc }, if timedOut then some false else none)
  let status := rx.fresh + (if 1 < x.count then 4 else 0)
  let zero := rx.fresh = 3 ∧ wordFld cfg 24 24 = 1
  let size := 16 + fltRoom s k
  let bs := match x.newest with
    | some (f, t) =>
      let b := frameRecord f status t
      if zero then b.take 16 else b
    | none => List.replicate 7 0 ++ leBytes 1 status
  let (off, _) := imageRegion s (wordFld cfg 15 12)
  let s := { s with sound := writeBytes s.sound (off + 16 * fld s (Reg.canFltImg k) 19 0) (fit size 0 bs) }
  let s := setFlt s k { x with count := 0, rx := rx }
  match ev with
  | some true => raise Ev.canRxRecovered k 0 0 s
  | some false => raise Ev.canRxTimeout k 0 timeout (stick s Reg.canError 5)
  | none => s

/-- The CAN source of a SAMPLE of an image. -/
def sampleCan (img : Nat) (s : State) : State :=
  ((enabledFilters s).filter (fun k => decide (fld s (Reg.canFltCfg k) 8 8 = 1)
    && decide (fld s (Reg.canFltCfg k) 15 12 = img))).foldl (fun s k => sampleFilter k s) s

end Sys2Proof.Machine
end

