-- ==== Sys2Proof/Machine/Safe.lean ====
section
/-!
DEFINITION. The Rammaon engine (R208 to R223): the container's CRC, sending, the checks on a received copy, the states of a
connection, and its set-up.
-/

namespace Sys2Proof.Machine

/-- A connection with no safety-domain code. -/
def safeConn0 : SafeConn := ⟨0, 0, 0, none⟩

/-- A safe connection. -/
def conn (s : State) (c : Nat) : SafeConn := tget safeConn0 s.safe c

/-- The state with a connection replaced. -/
def setConn (s : State) (c : Nat) (x : SafeConn) : State := { s with safe := tset safeConn0 s.safe c x }

/-- SAFE_CONN_STATUS.STATE. -/
def connState (s : State) (c : Nat) : Nat := fld s (Reg.safeConnStatus c) 2 0

/-- Connections in a state, saturating at 255. -/
def connsIn (s : State) (st : Nat) : Nat :=
  min 255 ((List.range 128).filter (fun c => decide (connState s c = st))).length

/-- A connection enters a state; SAFE_STATUS follows. -/
def setConnState (c st : Nat) (s : State) : State :=
  let s := setFld s (Reg.safeConnStatus c) 2 0 st
  let s := setFld s Reg.safeStatus 7 0 (connsIn s 3)
  setFld (setFld s Reg.safeStatus 15 8 (connsIn s 5)) Reg.safeStatus 23 16 (connsIn s 4)

/-- Flow context that a connection binds. -/
def connFlow (s : State) (c : Nat) : Nat := fld s (Reg.safeConnCfg c) 13 4

/-- The enabled connection that binds a flow. -/
def connOf? (s : State) (f : Nat) : Option Nat :=
  (List.range 128).find? (fun c => bit s (Reg.safeConnCfg c) 0 && decide (connFlow s c = f))

/-! ### The check value (R211) -/

/-- One bit of the CRC register. -/
def crcBit (r : Word) : Word := if r.getLsbD 31 then (r <<< 1) ^^^ 0xF4ACFB13 else r <<< 1

/-- One byte, most significant bit first. -/
def crcByte (r : Word) (b : Byte) : Word :=
  let r := r ^^^ (b.setWidth 32 <<< 24)
  crcBit (crcBit (crcBit (crcBit (crcBit (crcBit (crcBit (crcBit r)))))))

/-- CHECK over SID, payload and trailer bytes 0 to 15, from the safety-domain code. -/
def safeCheckValue (sdc sid : Word) (payload trailer : List Byte) : Word :=
  (beBytes 4 sid.toNat ++ payload ++ trailer.take 16).foldl crcByte sdc

/-- TRANSIT_STATUS.STATE is SYNCED. -/
def clockSynced (s : State) : Bool := decide (fld s Reg.transitStatus 1 0 = 2)

/-- The trailer that an EMIT sends (R210, R212): the connection's counter advances by 1. -/
def sendContainer (c : Nat) (payload : List Byte) (s : State) : List Byte × State :=
  let n := getReg s (Reg.safeConnSeq c) + 1
  let s := setReg s (Reg.safeConnSeq c) n
  let sid := getReg s (Reg.safeConnSid c)
  let us := (microtickTime s).toNat / 1000 % 2 ^ 32
  let flags := (if bit s Reg.modState 3 then 1 else 0) + (if clockSynced s then 2 else 0)
  let head := beBytes 4 sid.toNat ++ beBytes 4 n.toNat ++ beBytes 4 us ++ [1, BitVec.ofNat 8 flags, 0, 0]
  (head ++ beBytes 4 (safeCheckValue (conn s c).sdc sid payload head).toNat, s)

/-! ### Receiving (R214 to R218) -/

/-- Fields of a received trailer. -/
structure Trailer where
  sid     : Word
  counter : Word
  time    : Word
  check   : Word
  bytes   : List Byte
deriving DecidableEq, Repr

/-- The trailer of a payload of LEN bytes, and the payload before it. -/
def splitContainer (bs : List Byte) : List Byte × Trailer :=
  let t := bs.drop (bs.length - 20)
  let be := fun i => BitVec.ofNat 32 (beVal ((t.drop i).take 4))
  (bs.take (bs.length - 20), ⟨be 0, be 4, be 8, be 16, t⟩)

/-- What the engine answers for a context at a SAMPLE: whether the copy is released, SAFE_STATUS (R217), and whether the payload is
zero because no connection in RUN stands behind it. -/
structure SafeOut where
  released : Bool
  status   : Nat
  zero     : Bool
deriving DecidableEq, Repr

/-- DETAIL_A of a connection's events (R223). -/
def safeDetail (s : State) (c : Nat) (counter : Word) : Nat := connFlow s c + counter.toNat * 2 ^ 32

/-- A rejection event, at most once per connection and second (R223). -/
def rejectEvent (c : Nat) (e : EvDef) (dA dB : Nat) (s : State) : State :=
  let x := conn s c
  let due := match x.evAt with | some t => decide (t + msRaw 1000 ≤ rawNow s) | none => true
  if due then raise e c dA dB (setConn s c { x with evAt := some (rawNow s) }) else s

/-- A rejected copy (R214): counted, LAST_REJECT, the sticky flag. -/
def noteReject (c code : Nat) (s : State) : State :=
  let s := setFld s (Reg.safeConnStatus c) 11 8 code
  let s := satAdd s (Reg.safeConnStatus c) 31 16 1
  match code with
  | 1 => stick s Reg.safeError 0
  | 2 => stick s Reg.safeError 1
  | 3 => stick s Reg.safeError 2
  | 5 => stick s Reg.safeError 3
  | 6 => stick s Reg.safeError 4
  | _ => s

/-- SAFE_STATUS of a context (R217) whose checked copy was rejected or not. -/
def safeStatusCode (s : State) (c : Nat) (rejected : Bool) : Nat :=
  match connState s c with
  | 3 => if rejected then 2 else 1
  | 4 => 3
  | _ => 0

/-- TIME_MODE is ABSOLUTE; reserved values are treated as RELATIVE. -/
def absoluteMode (s : State) (c : Nat) : Bool := decide (fld s (Reg.safeConnCfg c) 2 1 = 1)

/-- The time expectation fails (R215): e and the container's SYNCED flag. -/
def timeFails (s : State) (c : Nat) (e : Int) (synced : Bool) : Bool :=
  let maxAge : Int := (max 1 (fld s (Reg.safeConnTime c) 19 0) : Nat)
  let early : Int := (fld s (Reg.safeConnTime c) 27 20 : Nat)
  let r := (getReg s (Reg.safeConnRef c)).toInt
  if absoluteMode s c && synced && clockSynced s then decide (e < -early) || decide (maxAge < e)
  else decide (connState s c ≠ 1) && decide (maxAge < e - r)

/-- The reference delay and its time after an accepted copy (R215). -/
def updateRef (c : Nat) (e : Int) (l : Word) (s : State) : State :=
  let r := (getReg s (Reg.safeConnRef c)).toInt
  let x := conn s c
  let r' := if connState s c = 1 ∨ e < r then e else r + min (e - r) (((l - x.refTime).toNat / 100000 : Nat) : Int)
  setConn (setReg s (Reg.safeConnRef c) (BitVec.ofInt 32 r')) c { x with refTime := l }

/-- A SAFE_TIMEOUT of base cycles without a released copy takes CONFIRM and RUN to WAIT (R216). -/
def safeTimeout (c : Nat) (s : State) : State :=
  let limit := max 1 (fld s (Reg.safeConnTmo c) 7 0)
  let gone := s.chrono.cycles - (conn s c).cycles
  if (connState s c = 2 ∨ connState s c = 3) ∧ limit ≤ gone then
    raise Ev.safeTimeout c (connFlow s c) gone (stick (setConnState c 1 s) Reg.safeError 5)
  else s

/-- A copy that passes R214: WAIT stores it and goes to CONFIRM, CONFIRM and RUN release it (R216, R218). -/
def acceptCopy (c : Nat) (t : Trailer) (e : Int) (l : Word) (s : State) : Bool × State :=
  let old := connState s c
  let s := updateRef c e l s
  let s := setReg s (Reg.safeConnSeq c) t.counter
  let s := setConn s c { conn s c with cycles := s.chrono.cycles }
  if old = 1 then (false, setConnState c 2 s)
  else
    let forced := decide ((nth 0 t.bytes 13).toNat % 2 = 1)
    let was := bit s (Reg.safeConnStatus c) 3
    let s := setBit (setBit s (Reg.safeConnStatus c) 3 forced) (Reg.safeConnStatus c) 4
      (decide ((nth 0 t.bytes 13).toNat / 2 % 2 = 1))
    let s := if old = 2 then raise Ev.safeEstablished c (safeDetail s c t.counter) t.counter.toNat (setConnState c 3 s) else s
    (true, if forced ∧ ¬was then raise Ev.safeForcedRx c (safeDetail s c t.counter) t.counter.toNat s else s)

/-- The state that a failed check of R214 takes a connection to; FAULT is left only by RESET_FAULT (R216). -/
def toWait (c : Nat) (s : State) : State := if connState s c = 4 then s else setConnState c 1 s

/-- The checks of R214 on a copy with its receive time, in their order.  A connection in FAULT accepts none (assumption log 45). -/
def checkCopy (c : Nat) (bs : List Byte) (rxTime : Dword) (s : State) : Bool × Bool × State :=
  let (payload, t) := splitContainer bs
  let dA := safeDetail s c t.counter
  let l := BitVec.ofNat 32 (rxTime.toNat / 1000)
  let e := (l - t.time).toInt
  let b := fun i => (nth 0 t.bytes i).toNat
  let delta := (t.counter - getReg s (Reg.safeConnSeq c)).toNat
  let skip := max 1 (fld s (Reg.safeConnCfg c) 23 16)
  if t.check ≠ safeCheckValue (conn s c).sdc t.sid payload t.bytes then
    (false, true, rejectEvent c Ev.safeCrcError dA t.check.toNat (noteReject c 1 s))
  else if b 12 ≠ 1 ∨ 4 ≤ b 13 ∨ b 14 ≠ 0 ∨ b 15 ≠ 0 then
    (false, true, rejectEvent c Ev.safeFormatError dA (beVal ((t.bytes.drop 12).take 4)) (noteReject c 2 s))
  else if t.sid ≠ getReg s (Reg.safeConnSid c) then
    (false, true, rejectEvent c Ev.safeSidMismatch dA t.sid.toNat (setConnState c 4 (noteReject c 3 s)))
  else if connState s c ≠ 1 ∧ delta = 0 then (false, true, noteReject c 4 s)
  else if connState s c ≠ 1 ∧ skip < delta then
    (false, true, rejectEvent c Ev.safeSeqError dA (getReg s (Reg.safeConnSeq c)).toNat (toWait c (noteReject c 5 s)))
  else if timeFails s c e (decide (b 13 / 2 % 2 = 1)) then
    (false, true, rejectEvent c Ev.safeTimeLate dA (toTwos 32 e) (noteReject c 6 s))
  else if connState s c = 4 then (false, false, s)
  else
    let (rel, s) := acceptCopy c t e l s
    (rel, false, s)

/-- The engine at a SAMPLE of a SAFE context, with the copy that R198 would take as fresh (R214, R216, R217). -/
def sampleSafe (f : Nat) (copy : Option (List Byte × Dword)) (s : State) : SafeOut × State :=
  match connOf? s f with
  | none => (⟨false, 0, true⟩, s)
  | some c =>
    let was := connState s c
    let (rel, rejected, s) := match copy with
      | some (bs, t) => if was = 0 ∨ was = 5 then (false, false, s) else checkCopy c bs t s
      | none => (false, false, s)
    let s := if rel then s else safeTimeout c s
    (⟨rel, safeStatusCode s c rejected, decide (connState s c ≠ 3)⟩, s)

/-! ### Takeover, start, set-up -/

/-- Every TX counter advances by TAKEOVER_SKIP at a takeover (R221). -/
def safeTakeover (s : State) : State :=
  (List.range 128).foldl (fun s c =>
    if connState s c = 5 then
      let n := getReg s (Reg.safeConnSeq c) + BitVec.ofNat 32 (fld s (Reg.safeConnCfg c) 27 24)
      raise Ev.safeTakeoverSkip c (connFlow s c) n.toNat (setReg s (Reg.safeConnSeq c) n)
    else s) s

/-- At every start of the Chronograph every connection is DISABLED with counter 0 (R213). -/
def safeStart (s : State) : State :=
  (List.range 128).foldl (fun s c =>
    if connState s c = 0 ∧ getReg s (Reg.safeConnSeq c) = 0 then s
    else setReg (setConnState c 0 (setBit s (Reg.safeConnCfg c) 0 false)) (Reg.safeConnSeq c) 0) s

/-- A refusal of the SAFE block (R222). -/
def refuseSafe (c reason : Nat) (s : State) : State :=
  let s := setReg s Reg.safeCfgResult (BitVec.ofNat 32 (reason + c * 256))
  raise Ev.safeCfgRefused c (connFlow s c) reason s

/-- Refusal reason of enabling a connection with a SAFE_CONN_CFG value (R219, R222), in the order of the codes. -/
def connReason (s : State) (c : Nat) (v : Word) : Nat :=
  let f := wordFld v 13 4
  let cfg := getReg s (Reg.netFlowCfg f)
  let sid := getReg s (Reg.safeConnSid c)
  let others := (List.range 128).filter (fun d => decide (d ≠ c) && bit s (Reg.safeConnCfg d) 0)
  if wordFld cfg 0 0 = 0 ∨ wordFld cfg 13 13 = 0 ∨ wordFld cfg 3 2 ≠ 0 then 1
  else if fld s (Reg.netFlowData f) 28 18 < 21 then 2
  else if others.any (fun d => decide (connFlow s d = f)) then 3
  else if sid = 0 ∨ sid = 0xFFFFFFFF then 4
  else if wordFld cfg 1 1 = 0 ∧ others.any (fun d => decide (connState s d = 5) && decide (getReg s (Reg.safeConnSid d) = sid)) then 5
  else 0

/-- A committed write of SAFE_CONN_CFG (R216, R222).  An enabled connection takes one that passes the checks; bound to a flow of the
other direction it starts anew (assumption log 99). -/
def writeConnCfg (c : Nat) (v : Word) (s : State) : State :=
  let k := Reg.safeConnCfg c
  let on := bit s k 0
  if wordFld v 0 0 = 1 then
    let why := connReason s c v
    if why ≠ 0 then refuseSafe c why s
    else
      let rx := bit s (Reg.netFlowCfg (wordFld v 13 4)) 1
      if on ∧ rx = decide (connState s c ≠ 5) then setReg s k v
      else setConnState c (if rx then 1 else 5) (setReg s k v)
  else setConnState c 0 (setReg s k v)

/-- SAFE_CONN_ENABLE. -/
def execSafeConnEnable (c : Fin 128) (v : Word) (s : State) : Host.Outcome State Fault Refusal :=
  .next (writeConnCfg c.val (committed s (Reg.safeConnCfg c.val) (v ||| 1)) s)

/-- SAFE_CONN_DISABLE. -/
def execSafeConnDisable (c : Fin 128) (v : Word) (s : State) : Host.Outcome State Fault Refusal :=
  .next (writeConnCfg c.val (committed s (Reg.safeConnCfg c.val) (v &&& ~~~1)) s)

/-- SAFE_CMD RESET_FAULT (R216, R222). -/
def resetFault (c : Nat) (s : State) : State :=
  if connState s c = 4 then setConnState c 1 s else refuseSafe c 7 s

/-- SAFE_CMD RESET_FAULT. -/
def execSafeResetFault (c : Fin 128) (s : State) : Host.Outcome State Fault Refusal := .next (resetFault c.val s)

/-- SAFE_CMD CLEAR_COUNTS (R222). -/
def safeClear (s : State) : State :=
  (List.range 128).foldl (fun s c => setFld s (Reg.safeConnStatus c) 31 16 0) s

/-- SAFE_CMD CLEAR_COUNTS. -/
def execSafeClearCounts (s : State) : Host.Outcome State Fault Refusal := .next (safeClear s)

end Sys2Proof.Machine
end

