-- ==== Sys2Proof/Machine/Isth.lean ====
section
/-!
DEFINITION. The Isthmus bridge (R253 to R279): byte rules, votes on window accesses, delayed reads and prefetch, posted
writes and fences, crate cycles and their ends, scheduled and ring transfers, interrupts, the bus monitor of a standby, and
set-up.
-/

namespace Sys2Proof.Machine

/-! ### Windows and byte lanes (R257 to R259) -/

/-- ISTH_WIN_CFG. -/
def winCfg (s : State) (w : Nat) : Word := getReg s (Reg.isthWinCfg w)
/-- Crate base of a window. -/
def winBase (s : State) (w : Nat) : Nat := fld s (Reg.isthWinBase w) 23 0
/-- Bytes of a window. -/
def winSize (s : State) (w : Nat) : Nat := 2 ^ wordFld (winCfg s w) 12 8
/-- ENABLE of a window. -/
def winEnabled (s : State) (w : Nat) : Bool := (winCfg s w).getLsbD 0
/-- SAFE of a window. -/
def winSafe (s : State) (w : Nat) : Bool := (winCfg s w).getLsbD 4
/-- LOST mark of a window. -/
def winLost (s : State) (w : Nat) : Bool := bit s (Reg.isthWinStatus w) 0
/-- k of BYTE_RULE (R259); 0b11 is treated as ADDRESS. -/
def byteRule (s : State) (w : Nat) : Nat :=
  match wordFld (winCfg s w) 2 1 with
  | 1 => 1
  | 2 => 3
  | _ => 0

/-- Byte at an index of a list that a byte rule permutes within `[0, n)`: index `i` of one side is index `((off + i) XOR k) - off`
of the other.  An index outside the list takes its byte from `d`, which is a free value. -/
def ruleByte (k off : Nat) (bs : List Byte) (d : Dword) (i : Nat) : Byte :=
  let j := (off + i) ^^^ k
  if off ≤ j then (bs[j - off]?).getD (d.extractLsb' (8 * (i % 8)) 8) else d.extractLsb' (8 * (i % 8)) 8

/-- Some index of `n` bytes from `off` leaves the list under the rule. -/
def ruleLeaves (k off n : Nat) : Bool :=
  (List.range n).any (fun i => let j := (off + i) ^^^ k; decide (j < off) || decide (off + n ≤ j))

/-- The bytes of the other side under a byte rule (R259), with a free value where the rule leaves the range. -/
def applyRule (k off : Nat) (bs : List Byte) (s : State) : List Byte × State :=
  let (d, s) := if ruleLeaves k off bs.length then takeFree s else (0, s)
  ((List.range bs.length).map (ruleByte k off bs d), s)

/-- 16-bit words of bytes in crate order: AD15:8 carries the byte at the even address. -/
def wordsOf : List Byte → List (BitVec 16)
  | a :: b :: r => (a ++ b) :: wordsOf r
  | [a] => [a ++ (0 : Byte)]
  | [] => []

/-- Bytes of words in crate order. -/
def bytesOf (ws : List (BitVec 16)) : List Byte := ws.flatMap (fun w => [w.extractLsb' 8 8, w.extractLsb' 0 8])

/-- First crate offset, within the window, of an access of `n` bytes at offset `a`: the least of its permuted offsets. -/
def crateStart (k a n : Nat) : Nat := (List.range n).foldl (fun m i => min m ((a + i) ^^^ k)) (a ^^^ k)

/-- Bytes in crate order of store data at offset `a`. -/
def storeBytes (k a n : Nat) (d : Dword) : List Byte :=
  let c := crateStart k a n
  (List.range n).map (fun i => let j := ((c + i) ^^^ k) - a; d.extractLsb' (8 * j) 8)

/-- Lane value of `n` bytes at offset `a` from the bytes in crate order that start at `crateStart`. -/
def loadValue (k a n : Nat) (bs : List Byte) : Dword :=
  let c := crateStart k a n
  BitVec.ofNat 64 (leVal ((List.range n).map (fun i => nth 0 bs (((a + i) ^^^ k) - c))))

/-- Window and offset of a lane address. -/
def winOf (addr : BitVec 40) : Nat × Nat := ((addr.toNat - 0x400000000) / 0x1000000, addr.toNat % 0x1000000)

/-- Bytes of a size code. -/
def accBytes (size : Nat) : Nat := 2 ^ size

/-- A doubleword load at the window's last doubleword is its fence read (R257, R270). -/
def accKind (kind : WinKind) (off size : Nat) : WinKind :=
  if kind = .load ∧ off = 0xFFFFF8 ∧ size = 3 then .fence else kind

/-- The access raises ACCESS_FAULT (R257): outside the window, window not enabled, not naturally aligned. -/
def winFaults (s : State) (kind : WinKind) (addr : BitVec 40) (size : Nat) : Bool :=
  let (w, off) := winOf addr
  decide (addr.toNat < 0x400000000) || decide (16 ≤ w) || !winEnabled s w
    || match kind with
      | .fence => decide (off ≠ 0xFFFFF8) || decide (size ≠ 3)
      | _ => decide (winSize s w < off + accBytes size) || decide (off % accBytes size ≠ 0)

/-! ### State of the bridge -/

/-- The state with one vote, named by its order, changed. -/
def mapVote (s : State) (order : Nat) (f : WinVote → WinVote) : State :=
  setVotes s (s.isth.votes.map (fun v => if v.order = order then f v else v))

/-- A vote by its order. -/
def voteAt (s : State) (order : Nat) : Option WinVote := s.isth.votes.find? (fun v => decide (v.order = order))

/-- Key of a stream's fence summary. -/
def streamKey : Option Lane → Nat
  | none => 0
  | some l => 1 + l.idx

/-- No failed posted write. -/
def fence0 : FenceSum := ⟨0, 0, 0⟩

/-- Cause codes (R272). -/
def causeCode : WinCause → Nat
  | .none => 0 | .berr => 1 | .timeout => 2 | .retry => 3 | .lost => 4 | .poison => 5

/-- DETAIL_A of window and transfer events (R279). -/
def winDetail (w addr : Nat) : Nat := addr % 2 ^ 24 + w * 2 ^ 24

/-- LAST_CAUSE of a window. -/
def noteCause (w : Nat) (c : WinCause) (s : State) : State := setFld s (Reg.isthWinStatus w) 11 8 (causeCode c)

/-- The bridge drives the crate bus: not in STANDBY or JOINING (R264), and not after giving up (R320). -/
def drivesCrate (s : State) : Bool :=
  (decide (modState s = .active) || decide (modState s = .maintenance)) && decide (s.pair.gaveUp = none)

/-! ### Prefetched blocks (R265, R266) -/

/-- A prefetched block is discarded: words that no vote delivered are lost and reported with AUDIT. -/
def discardBlock (p : Prefetch) (s : State) : State :=
  let unread := (List.range 16).filter (fun i => !p.delivered.contains i)
  let fetched := if blockAwaited s p.id then
      s.isth.fetched.map (fun q => if q.id = p.id then { q with dead := true } else q)
    else s.isth.fetched.filter (fun q => decide (q.id ≠ p.id))
  let s := showIsth { s with isth := { s.isth with fetched := fetched } }
  match unread with
  | [] => s
  | i :: _ =>
    let s := satAdd s Reg.isthCounts 31 24 1
    if (winCfg s p.window).getLsbD 6 then
      raise Ev.prefetchDiscard p.window (winDetail p.window (p.addr + 2 * i)) unread.length (stick s Reg.isthError 4)
    else s

/-- Live blocks that overlap `n` crate bytes from an address are discarded (R266). -/
def discardOverlap (addr n : Nat) (s : State) : State :=
  (s.isth.fetched.filter (fun p => !p.dead && decide (p.addr < addr + n) && decide (addr < p.addr + 32))).foldl
    (fun s p => discardBlock p s) s

/-- A slot for a new read: a free one, or that of the oldest block whose votes have all been delivered. -/
def freeSlot (s : State) : Option State :=
  if slotsBusy s < 8 then some s
  else (s.isth.fetched.find? (fun p => !blockAwaited s p.id)).map (fun p => discardBlock p s)

/-- The live block that holds `n` bytes at a window offset. -/
def blockHit (s : State) (w off n : Nat) : Option Prefetch :=
  s.isth.fetched.find? (fun p => !p.dead && decide (p.window = w) && decide (p.addr ≤ winBase s w + off)
    && decide (winBase s w + off + n ≤ p.addr + 32))

/-! ### Completing votes -/

/-- A core that waits for an access receives its result (R262, R270): an error is an access fault; a load or fence read brings the
value. -/
def answerCore (c a : WinAcc) (cause : WinCause) (value : Dword) (s : State) : State :=
  if cause ≠ .none then coreFault a.lane a.core (decide (c.kind = .store)) c.addr s
  else if c.kind = .store then s
  else
    let x := s.lanes.get a.lane
    setLane s a.lane { x with loaded := tset 0 x.loaded a.core.val value }

/-- A held result reaches the cores that wait for it (R262). -/
def tell (order : Nat) (s : State) : State :=
  match voteAt s order with
  | none => s
  | some v =>
    match v.result, v.chosen with
    | some (cause, value), some c =>
      let s := v.got.foldl (fun s a => if v.told.contains a.lane then s else answerCore c a cause value s) s
      mapVote s order (fun v => { v with told := v.told ++ v.got.map (·.lane) })
    | _, _ => s

/-- A voted access completes with a result (R262): the record of an error, the frame to a partner (R334), delivery. -/
def complete (order : Nat) (cause : WinCause) (value : Dword) (s : State) : State :=
  match voteAt s order with
  | none => s
  | some v =>
    match v.result, v.chosen with
    | none, some c =>
      let (w, off) := winOf c.addr
      let s := mapVote s order (fun v => { v with result := some (cause, value) })
      let s := if c.kind ≠ .fence ∧ ¬standsBy s then domRelease s .isth else s
      let s := if cause = .none then s
        else raise Ev.busError w (winDetail w (winBase s w + off)) (causeCode cause) (noteCause w cause (stick s Reg.isthError 0))
      let s := if v.stream = none ∧ pairBank s ∧ modState s = .active then
          emitOut s (.straitWindow ⟨v.sindex, c.kind, c.addr, accBytes c.size, if c.kind = .store then c.data else value, cause⟩)
        else s
      dropTold (tell order s)
    | _, _ => s

/-- A vote's read is served by a block: words delivered, hold restarted (R265, R266). -/
def serveBlock (order : Nat) (p : Prefetch) (s : State) : State :=
  match (voteAt s order).bind (·.chosen) with
  | none => s
  | some c =>
    let (w, off) := winOf c.addr
    let n := accBytes c.size
    let k := byteRule s w
    let at_ := winBase s w + crateStart k off n - p.addr
    let words := (List.range ((at_ % 2 + n + 1) / 2)).map (· + at_ / 2)
    let p' := { p with delivered := p.delivered ++ words, at_ := rawNow s }
    let s := { s with isth := { s.isth with fetched := s.isth.fetched.map (fun q => if q.id = p.id then p' else q) } }
    let s := mapVote s order (fun v => { v with block := some p.id, slot := false })
    complete order .none (loadValue k off n ((p.bytes.drop at_).take n)) s

/-! ### Forming a vote (R260, R265, R268, R271) -/

/-- A posted store takes an entry (R268): `true` when one was free. -/
def takePosted (v : WinVote) (c : WinAcc) (s : State) : Bool × State :=
  if 32 ≤ s.isth.posted.length then (false, s)
  else
    let (w, off) := winOf c.addr
    let n := accBytes c.size
    let k := byteRule s w
    let tag := getReg s (Reg.isthWinPostcnt w) + 1
    let e : PostedWrite := ⟨v.stream, w, winBase s w + crateStart k off n, storeBytes k off n c.data, tag, v.order, false⟩
    let s := setReg s (Reg.isthWinPostcnt w) tag
    (true, domAcquire (showIsth { s with isth := { s.isth with posted := s.isth.posted ++ [e] } }) .isth)

/-- Start of a formed access: at once where the window is LOST or in reset, a posted store with a free entry, a hit in a
prefetched block; else it waits. -/
def startAccess (order : Nat) (s : State) : State :=
  match voteAt s order with
  | none => s
  | some v =>
    match v.result, v.chosen with
    | none, some c =>
      let (w, off) := winOf c.addr
      let n := accBytes c.size
      if standsBy s ∨ c.kind = .fence then s
      else if winLost s w then complete order .lost 0 s
      else if s.isth.resetTo.isSome then complete order .timeout 0 s
      else if c.kind = .store then
        if (winCfg s w).getLsbD 3 then
          let (ok, s) := takePosted v c s
          if ok then complete order .none 0 s else s
        else s
      else if v.slot then s
      else match (if (winCfg s w).getLsbD 5 then blockHit s w off n else none) with
        | some p => serveBlock order p s
        | none =>
          match freeSlot s with
          | some s => mapVote s order (fun v => { v with slot := true })
          | none => s
    | _, _ => s

/-- Two accesses match: the vote forms and its far operation may start (R260). -/
def formVote (order : Nat) (c : WinAcc) (s : State) : State :=
  let n := s.isth.stream
  let voted := ((voteAt s order).map (fun v => decide (v.stream = none))).getD false
  let s := if voted then { s with isth := { s.isth with stream := n + 1 } } else s
  let s := mapVote s order (fun v => { v with chosen := some c, formed := some (rawNow s), sindex := n })
  let (w, off) := winOf c.addr
  let s := if c.kind = .fence ∨ standsBy s then s else domAcquire s .isth
  let s := if c.kind = .store ∧ ¬standsBy s then discardOverlap (winBase s w + crateStart (byteRule s w) off (accBytes c.size))
    (accBytes c.size) s else s
  startAccess order s

/-- Formed accesses that wait for an entry or a slot are tried again, in order. -/
def retryWaiting (s : State) : State :=
  s.isth.votes.foldl (fun s v => if v.formed.isSome ∧ v.result.isNone then startAccess v.order s else s) s

/-- Two accesses match (R260). -/
def sameAccess (a b : WinAcc) : Bool :=
  decide (a.kind = b.kind) && decide (a.addr = b.addr) && decide (a.size = b.size)
    && (decide (a.kind ≠ .store) || decide ((a.data.toNat % 2 ^ (8 * accBytes a.size)) = b.data.toNat % 2 ^ (8 * accBytes b.size)))

/-- WIN_MINORITY of a lane (R260, R279). -/
def winMinority (a : WinAcc) (s : State) : State :=
  raise Ev.winMinority a.lane.idx a.addr.toNat a.lane.idx (stick s Reg.isthError 5)

/-- WIN_NO_MAJORITY (R260): the vote never forms, and its cores stay stalled. -/
def winNoMajority (order : Nat) (a : WinAcc) (s : State) : State :=
  let s := mapVote s order (fun v => { v with stuck := true })
  raise Ev.winNoMajority 0xFF (winDetail (winOf a.addr).1 (winOf a.addr).2) 0 (stick s Reg.isthError 5)

/-- The accesses of a vote that VOTING lanes made: those of other lanes take no part in it (R260, R261). -/
def voters (s : State) (v : WinVote) : List WinAcc := v.got.filter (fun a => laneVotes s a.lane)

/-- An access that differs from its vote: a minority (R260), or the end of a rejoin (R261). -/
def accessDiffers (a : WinAcc) (s : State) : State :=
  if laneVotes s a.lane then winMinority a s
  else if laneState s a.lane = .rejoining then rejoinFailed (raiseF 4 0) a.lane 3 s
  else s

/-- A vote opens with an access (R260). -/
def openVote (k : Nat) (a : WinAcc) (s : State) : State :=
  let o := s.isth.order
  setVotes { s with isth := { s.isth with order := o + 1 } } (s.isth.votes ++
    [{ stream := none, index := k, got := [a], chosen := none, openMt := s.time.mt, formed := none, sindex := 0, order := o,
       slot := false, block := none, result := none, told := [], stuck := false }])

/-- An access of a VOTING lane joins its vote (R260); the window opens at the first of them. -/
def joinVote (a : WinAcc) (s : State) : State :=
  let k := s.isth.counts.get a.lane
  let s := { s with isth := { s.isth with counts := s.isth.counts.set a.lane (k + 1) } }
  match s.isth.votes.find? (fun v => decide (v.stream = none) && decide (v.index = k)) with
  | none => openVote k a s
  | some v =>
    let prior := voters s v
    let from_ := if prior.isEmpty then s.time.mt else v.openMt
    let s := mapVote s v.order (fun v => { v with got := v.got ++ [a], openMt := from_ })
    if v.stuck then s
    else match v.chosen with
    | some c =>
      let s := if sameAccess a c then s else winMinority a s
      dropTold (tell v.order s)
    | none =>
      match prior.find? (sameAccess a) with
      | some c =>
        let s := formVote v.order c s
        (v.got.filter (fun b => !sameAccess b c)).foldl (fun s b => accessDiffers b s) s
      | none =>
        if voteMode s = .dual ∧ ¬prior.isEmpty then winNoMajority v.order a s else s

/-- An access of an observing lane is paired by count and takes no part in the vote (R261). -/
def observeAccess (a : WinAcc) (s : State) : State :=
  let k := s.isth.counts.get a.lane
  let s := { s with isth := { s.isth with counts := s.isth.counts.set a.lane (k + 1) } }
  match s.isth.votes.find? (fun v => decide (v.stream = none) && decide (v.index = k)) with
  | some v =>
    match v.chosen with
    | some c =>
      if sameAccess a c then dropTold (tell v.order (mapVote s v.order (fun v => { v with got := v.got ++ [a] })))
      else rejoinFailed (raiseF 4 0) a.lane 3 s
    | none => mapVote s v.order (fun v => { v with got := v.got ++ [a] })
  | none => openVote k a s

/-- WINDOW_ACCESS (R257, R260, R261, R263). -/
def windowAccess (l : Lane) (core : Fin 4) (kind : WinKind) (addr : BitVec 40) (size : BitVec 2) (data : Dword) (s : State) :
    State :=
  let (w, off) := winOf addr
  let a : WinAcc := ⟨l, core, accKind kind off size.toNat, addr, size.toNat, data⟩
  if ¬coreActs s l core then s
  else if winFaults s a.kind addr size.toNat ∨ (laneState s l = .splitRun ∧ winSafe s w) then
    accessFault l core addr (decide (kind = .store)) false s
  else match laneState s l with
    | .voting => retryWaiting (joinVote a s)
    | .rejoining => if s.rejoin.finalOk then retryWaiting (observeAccess a s) else s
    | .splitRun =>
      let o := s.isth.order
      let s := setVotes { s with isth := { s.isth with order := o + 1 } } (s.isth.votes ++
        [{ stream := some l, index := 0, got := [a], chosen := none, openMt := s.time.mt, formed := none, sindex := 0,
           order := o, slot := false, block := none, result := none, told := [], stuck := false }])
      formVote o a s
    | _ => s

/-- A lane's access has joined a vote, or its cores need no result of it any more. -/
def voteHere (v : WinVote) (l : Lane) : Bool := v.told.contains l || v.got.any (fun a => decide (a.lane = l))

/-- The coupling window of a vote has passed with something to settle (R260, R261, R265): no match, or a lane that is late. -/
def voteDue (s : State) (v : WinVote) : Bool :=
  decide (v.stream = none) && !v.stuck && decide (v.openMt + couplingWindow s ≤ s.time.mt)
    && (if v.chosen.isNone then !(voters s v).isEmpty else !((lanesAwaited s v).all (voteHere v)))

/-- WINDOW_VOTE_CLOSE: the coupling window of the oldest vote whose window has passed closes (R260, R261, R265). -/
def winVoteClose (s : State) : State :=
  match s.isth.votes.find? (voteDue s) with
  | none => s
  | some v =>
    let absent := (lanesAwaited s v).filter (fun l => !(voteHere v l))
    match v.chosen, voters s v with
    | some c, _ =>
      let (late, seen) := absent.partition (laneVotes s)
      let s := mapVote s v.order (fun v => { v with told := v.told ++ absent })
      let s := raiseLanes 0 Ev.laneLate (late.map (fun l => (l, c.addr.toNat, 3))) s
      dropTold (seen.foldl (fun s l => rejoinFailed (raiseF 4 0) l 4 s) s)
    | none, a :: _ => winNoMajority v.order a s
    | none, [] => s

/-- WINDOW_VOTE_CLOSE. -/
def execWindowVoteClose (s : State) : Host.Outcome State Fault Refusal := .next (retryWaiting (winVoteClose s))

/-- The vote's bound has passed (R262): a read or non-posted store that formed 100 µs ago and is not complete. -/
def boundPassed (s : State) (v : WinVote) : Bool :=
  v.result.isNone && (match v.formed, v.chosen with
    | some t, some c => decide (t + usRaw 100 ≤ rawNow s) && (decide (c.kind = .load)
        || (decide (c.kind = .store) && !(winCfg s (winOf c.addr).1).getLsbD 3))
    | _, _ => false)

/-- WINDOW_ACCESS_TIMEOUT: a read or non-posted store not complete 100 µs after its vote formed (R262, R263). -/
def winTimeout (s : State) : State :=
  match s.isth.votes.find? (boundPassed s) with
  | some v =>
    if standsBy s then s
    else
      let s := { s with isth := { s.isth with retry := s.isth.retry.filter (fun (o, _) => decide (o.owner ≠ .lane v.order)) } }
      retryWaiting (complete v.order .timeout 0 s)
  | none => s

/-- WINDOW_ACCESS_TIMEOUT. -/
def execWindowAccessTimeout (s : State) : Host.Outcome State Fault Refusal := .next (winTimeout s)

/-- Posted writes of a stream issued before an order that have neither completed nor failed. -/
def postedBefore (s : State) (stream : Option Lane) (order : Nat) : List PostedWrite :=
  s.isth.posted.filter (fun p => decide (p.stream = stream) && decide (p.order < order) && !p.failed)

/-- A fence read may complete (R270): its stream's earlier posted writes are done, or its 100 µs have passed. -/
def fenceReady (s : State) (v : WinVote) : Bool :=
  v.result.isNone && (match v.formed, v.chosen with
    | some t, some c => decide (c.kind = .fence)
        && ((postedBefore s v.stream v.order).isEmpty || decide (t + usRaw 100 ≤ rawNow s))
    | _, _ => false)

/-- FENCE_COMPLETE: the oldest fence read whose earlier posted writes are done, or whose 100 µs have passed (R270). -/
def fenceComplete (s : State) : State :=
  match s.isth.votes.find? (fenceReady s) with
  | some v =>
    if standsBy s then s
    else
      let left := (postedBefore s v.stream v.order).length
      let k := streamKey v.stream
      let f := tget fence0 s.isth.fences k
      let word := min f.failed 0xFFFF + left % 256 * 2 ^ 16 + f.window * 2 ^ 24 + (if 0 < left then 2 ^ 31 else 0)
        + f.addr * 2 ^ 32
      let s := { s with isth := { s.isth with fences := tset fence0 s.isth.fences k fence0 } }
      complete v.order .none (BitVec.ofNat 64 word) s
  | none => s

/-- FENCE_COMPLETE. -/
def execFenceComplete (s : State) : Host.Outcome State Fault Refusal := .next (fenceComplete s)

/-! ### Transfers -/

/-- Transfer state before any read. -/
def xfer0 : XferSt := ⟨1, .none, false, none, [], 0, [], [], false⟩

/-- A transfer's state. -/
def xferSt (s : State) (i : Nat) : XferSt := tget xfer0 s.isth.xfers i

/-- The state with a transfer's state replaced. -/
def setXfer (s : State) (i : Nat) (x : XferSt) : State := { s with isth := { s.isth with xfers := tset xfer0 s.isth.xfers i x } }

/-- ISTH_XFER_CTL. -/
def xferCtl (s : State) (i : Nat) : Word := getReg s (Reg.isthXferCtl i)
/-- Window of a transfer. -/
def xferWin (s : State) (i : Nat) : Nat := wordFld (xferCtl s i) 7 4
/-- Words of a transfer. -/
def xferWords (s : State) (i : Nat) : Nat := wordFld (xferCtl s i) 11 8 + 1
/-- Far offset of a transfer. -/
def xferFar (s : State) (i : Nat) : Nat := fld s (Reg.isthXferFar i) 23 0
/-- Crate address of a transfer's first word. -/
def xferAddr (s : State) (i : Nat) : Nat := winBase s (xferWin s i) + xferFar s i
/-- The transfer writes. -/
def xferWrites (s : State) (i : Nat) : Bool := (xferCtl s i).getLsbD 1

/-- RETRY_GAP in raw units. -/
def retryGap (s : State) : Nat := 16000 * max 1 (fld s Reg.isthCfg 23 16)

/-- Bus time of a transfer (R273) in raw units. -/
def xferTime (s : State) (i : Nat) : Nat :=
  let c := xferCtl s i
  let w := wordFld c 15 12
  (3 + w + wordFld c 11 8 * (1 + wordFld c 17 16) + 1) * 6400 + wordFld c 19 18 * ((4 + w) * 6400 + retryGap s)

/-- A transfer fails (R272 to R274): status and cause; a failed write raises XFER_ERROR. -/
def xferFail (i : Nat) (cause : WinCause) (s : State) : State :=
  let st := match cause with | .lost => 3 | .none => 1 | _ => 2
  let x := xferSt s i
  let s := setXfer s i { x with status := st, cause := cause }
  if xferWrites s i then
    let s := setReg s (Reg.isthXferStatus i) (BitVec.ofNat 32 (st + causeCode cause * 16))
    if cause = .none then s
    else
      raise Ev.xferError i (winDetail (xferWin s i) (xferAddr s i)) (causeCode cause)
        (noteCause (xferWin s i) cause (stick s Reg.isthError 2))
  else if cause = .none then s else noteCause (xferWin s i) cause s

/-- Half of a transfer's double slot at 128 × i of BRIDGE (R274), as a Sound offset; the halves are 64 bytes apart (DESIGN CHOICE,
assumption log 97). -/
def bridgeSlot (s : State) (i : Nat) (half : Bool) : Nat := (region s 6).1 + 128 * i + (if half then 64 else 0)

/-- BRIDGE holds the double slot of a transfer. -/
def bridgeHolds (s : State) (i : Nat) : Bool := decide (128 * (i + 1) ≤ (region s 6).2)

/-- A transfer completes: a read's words enter the half of its double slot that did not take the last ones, a write is done
(R274). -/
def xferDone (i : Nat) (ws : List (BitVec 16)) (s : State) : State :=
  if xferWrites s i then setReg s (Reg.isthXferStatus i) 0
  else
    let (bs, s) := applyRule (byteRule s (xferWin s i)) (xferFar s i) (bytesOf ws) s
    let half := !(xferSt s i).half
    let s := if bridgeHolds s i then { s with sound := writeBytes s.sound (bridgeSlot s i half) bs } else s
    setXfer s i { xferSt s i with status := 0, cause := .none, fresh := true, words := ws, time := corrected s, held := bs,
                                  half := half }

/-- What a CRATE_XFER needs: the bridge's clock and the crate bus for its declared time (R45, R273). -/
def xferNeeds (s : State) (e : Entry) : Needs :=
  let i := dfld e.w1 7 0
  if sendsOutputs s ∧ (xferCtl s i).getLsbD 0 then ⟨some .isth, [(.crateBus, xferTime s i)]⟩ else noNeeds

/-- Effect of a CRATE_XFER (R273, R74): the transfer is due on the bus. -/
def xferBody (e : Entry) (s : State) : State :=
  let i := dfld e.w1 7 0
  if ¬sendsOutputs s then s
  else if ¬(xferCtl s i).getLsbD 0 then
    raise Ev.xferInvalid i (winDetail (xferWin s i) (xferAddr s i)) i (stick s Reg.isthError 2)
  else if voteMode s = .split ∧ winSafe s (xferWin s i) then xferFail i .none s
  else if xferWrites s i ∧ withheld s (64 * fld s (Reg.isthXferData i) 19 0) (2 * xferWords s i) then xferFail i .none s
  else { s with isth := { s.isth with due := s.isth.due ++ [i] } }

/-- A write transfer whose entry fails at its issue shows that it was not made (R48, R278). -/
def xferNotMade (i : BitVec 16) (s t : State) : State :=
  match entryAt s i.toNat with
  | some e =>
    let x := dfld e.w1 7 0
    let p := passEntry s i.toNat
    if entryDue s i.toNat e && !e.poison && decide (e.kind = 10) && (entryFailure p e (xferNeeds p e)).isSome && xferWrites s x then
      setReg t (Reg.isthXferStatus x) 1
    else t
  | none => t

/-- CRATE_XFER. -/
def execCrateXfer (i : BitVec 16) (s : State) : Host.Outcome State Fault Refusal :=
  .next (xferNotMade i s (issueEntry 10 i xferNeeds xferBody s))

/-! ### Ring transfers (R275) -/

/-- Window of a ring transfer. -/
def ringWin (d : Desc) : Nat := (d.spec.extractLsb' 0 4).toNat
/-- Far offset of a ring transfer. -/
def ringFar (d : Desc) : Nat := (d.spec.extractLsb' 8 24).toNat

/-- The blocks of a far range as (offset from its start, bytes): 16 words, or to the page end. -/
def cutBlocks : Nat → Nat → Nat → Nat → List (Nat × Nat)
  | 0, _, _, _ => []
  | fuel + 1, far, off, len =>
    if len = 0 then []
    else
      let n := min len (min 32 (0x100 - far % 0x100))
      (off, n) :: cutBlocks fuel (far + n) (off + n) (len - n)

/-- The blocks of a ring transfer; the page is that of the crate address. -/
def blocksOf (s : State) (d : Desc) : List (Nat × Nat) :=
  cutBlocks (d.len.toNat + 1) (winBase s (ringWin d) + ringFar d) 0 d.len.toNat

/-- REFUSED reason of a ring transfer, in the order of the codes; 0 when it is taken. -/
def ringReason (s : State) (d : Desc) : Nat :=
  let w := ringWin d
  let len := d.len.toNat
  if len < 2 ∨ 65536 < len ∨ len % 2 = 1 then 1
  else if ringFar d % 2 = 1 ∨ winSize s w < ringFar d + len then 2
  else if ¬winEnabled s w then 3
  else if winLost s w then 4
  else if winSafe s w ∧ voteMode s = .split then 5
  else 0

/-- DETAIL_A of DONE and FAILED: cause, crate address of the failing block, blocks acknowledged. -/
def ringDetail (s : State) (d : Desc) (cause : WinCause) (blocks : Nat) : Nat :=
  let at_ := match cause with
    | .none => 0
    | _ => winBase s (ringWin d) + ringFar d + ((nth (0, 0) (blocksOf s d) blocks).1)
  causeCode cause + at_ % 2 ^ 24 * 256 + blocks * 2 ^ 32

/-- The state with ring transfers replaced. -/
def setRings (s : State) (l : List RingXfer) : State := { s with isth := { s.isth with rings := l } }

/-- A ring transfer ends: DONE, or FAILED with its cause. -/
def endRing (x : RingXfer) (cause : WinCause) (s : State) : State :=
  match findRec s x.ring x.seq with
  | some r =>
    let s := domRelease (setRings s (s.isth.rings.filter (fun y => !(decide (y.ring = x.ring) && decide (y.seq = x.seq))))) .isth
    let s := if r.desc.opcode = 2 ∧ cause = .none then
        let (bs, s) := applyRule (byteRule s (ringWin r.desc)) (ringFar r.desc) x.data s
        toLanes s r.desc.buf.toNat bs
      else s
    let s := if cause = .none then s else noteCause (ringWin r.desc) cause s
    finishDesc s x.ring x.seq (if cause = .none then .done else .failed) (ringDetail s r.desc cause x.blocks)
  | none => s

/-- A WRITE (1) or READ (2) descriptor starts (R275): REFUSED by its checks, else STARTED; a resumed one goes on from the first
block not acknowledged. -/
def ringStart (op k : Nat) (s : State) : State :=
  if s.isth.rings.any (fun x => decide (x.ring = k)) then s
  else match startRec s k 5 op with
    | (none, s) => s
    | (some r, s) =>
      let why := ringReason s r.desc
      if why ≠ 0 then finishDesc s k r.desc.seq .refused why
      else
        let done := r.detailA.toNat / 2 ^ 32 % 65536
        let x : RingXfer := ⟨k, r.desc.seq, done, ((blocksOf s r.desc).take done).foldl (fun n b => n + b.2) 0, []⟩
        let x := if op = 2 then { x with blocks := 0, done := 0 } else x
        let s := domAcquire (markRec s k r.desc.seq .started) .isth
        setRings s (s.isth.rings ++ [x])

/-- ISTH_WRITE. -/
def execIsthWrite (k : Fin 64) (s : State) : Host.Outcome State Fault Refusal := .next (ringStart 1 k.val s)

/-- ISTH_READ. -/
def execIsthRead (k : Fin 64) (s : State) : Host.Outcome State Fault Refusal := .next (ringStart 2 k.val s)

/-- A block of a ring transfer has been acknowledged (R275): the count stands in its journal record. -/
def blockDone (x : RingXfer) (got : List (BitVec 16)) (s : State) : State :=
  match findRec s x.ring x.seq with
  | some r =>
    let n := (nth (0, 0) (blocksOf s r.desc) x.blocks).2
    let y := { x with blocks := x.blocks + 1, done := x.done + n, data := x.data ++ bytesOf got }
    let s := setRings s (s.isth.rings.map (fun z => if z.ring = x.ring ∧ z.seq = x.seq then y else z))
    let s := mapRec s x.ring x.seq (fun r => { r with detailA := BitVec.ofNat 64 (y.blocks * 2 ^ 32) })
    if r.desc.len.toNat ≤ y.done then endRing y .none s else s
  | none => s

/-! ### Crate cycles (R254 to R256, R267, R271) -/

/-- A cycle of bytes in crate order. -/
def writeOp (s : State) (owner : BusOwner) (w addr : Nat) (bs : List Byte) : BusOp :=
  { owner := owner, window := w, write := true, addr := addr, single := decide (bs.length = 1), count := (bs.length + 1) / 2,
    out := if addr % 2 = 1 then wordsOf (0 :: bs) else wordsOf bs, got := [], retries := 0, at_ := rawNow s }

/-- A read cycle of `n` bytes. -/
def readOp (s : State) (owner : BusOwner) (w addr n : Nat) : BusOp :=
  { owner := owner, window := w, write := false, addr := addr, single := decide (n = 1), count := (n + 1) / 2, out := [],
    got := [], retries := 0, at_ := rawNow s }

/-- A cycle starts (T1). -/
def startOp (o : BusOp) (s : State) : State :=
  emitOut { s with isth := { s.isth with bus := some { o with at_ := rawNow s } } } (.crate o.write o.addr o.single o.count o.out)

/-- A CRATE_XFER, or a lane's cycle, is held back within 10 µs before a CRATE_XFER (R44, R267). -/
def crateHeld (s : State) : Bool := sendsOutputs s && entryWithin s (fun e => decide (e.kind = 10)) 10000

/-- The cycle of a voted access that waits for the bus. -/
def laneOp (s : State) (v : WinVote) (c : WinAcc) : BusOp :=
  let (w, off) := winOf c.addr
  let n := accBytes c.size
  let k := byteRule s w
  if c.kind = .store then writeOp s (.lane v.order) w (winBase s w + crateStart k off n) (storeBytes k off n c.data)
  else if (winCfg s w).getLsbD 5 then readOp s (.lane v.order) w (winBase s w + off / 32 * 32) 32
  else readOp s (.lane v.order) w (winBase s w + crateStart k off n) n

/-- The oldest operation of the lane access stream, posted writes first (R267); a far read waits for the posted writes of its
stream. -/
def nextLaneOp (s : State) : Option BusOp :=
  if s.isth.retry.any (fun (o, _) => match o.owner with | .lane _ | .posted _ => true | _ => false) then none
  else match s.isth.posted.find? (fun p => !p.failed) with
    | some p => some (writeOp s (.posted p.order) p.window p.addr p.bytes)
    | none =>
      match s.isth.votes.find? (fun v => v.formed.isSome && v.result.isNone && (match v.chosen with
          | some c => (decide (c.kind = .load) && v.slot)
              || (decide (c.kind = .store) && !(winCfg s (winOf c.addr).1).getLsbD 3)
          | none => false)) with
      | some v => v.chosen.map (laneOp s v)
      | none => none

/-- The next block of a ring transfer. -/
def nextRingOp (s : State) : Option BusOp :=
  if s.isth.retry.any (fun (o, _) => match o.owner with | .ring _ _ => true | _ => false) then none
  else match s.isth.rings with
    | x :: _ =>
      match findRec s x.ring x.seq with
      | some r =>
        let (off, n) := nth (0, 0) (blocksOf s r.desc) x.blocks
        let w := ringWin r.desc
        let at_ := winBase s w + ringFar r.desc + off
        if r.desc.opcode = 1 then
          let bs := (List.range n).map (fun i => ruleByte (byteRule s w) (ringFar r.desc) r.payload (Config.freeValue s.freeCount) (off + i))
          some (writeOp s (.ring x.ring x.seq) w at_ bs)
        else some (readOp s (.ring x.ring x.seq) w at_ n)
      | none => none
    | [] => none

/-- An operation ends without a cycle or after its last one (R262, R269, R271, R274, R275). -/
def settle (o : BusOp) (cause : WinCause) (s : State) : State :=
  match o.owner with
  | .lane order =>
    match voteAt s order with
    | some v =>
      if v.result.isSome then s
      else match v.chosen with
        | some c =>
          let (w, off) := winOf c.addr
          let n := accBytes c.size
          if cause ≠ .none ∨ c.kind = .store then complete order cause 0 s
          else if (winCfg s w).getLsbD 5 then
            let p : Prefetch := ⟨order, false, w, winBase s w + off / 32 * 32, bytesOf o.got, [], rawNow s⟩
            let s := { s with isth := { s.isth with fetched := s.isth.fetched ++ [p] } }
            serveBlock order p s
          else
            let bs := if o.single ∧ o.addr % 2 = 1 then (bytesOf o.got).drop 1 else bytesOf o.got
            complete order .none (loadValue (byteRule s w) off n bs) s
        | none => s
    | none => s
  | .posted order =>
    match s.isth.posted.find? (fun p => decide (p.order = order)) with
    | some p =>
      let s := domRelease s .isth
      if cause = .none then
        showIsth { s with isth := { s.isth with posted := s.isth.posted.erase p } }
      else
        let s := { s with isth := { s.isth with posted := s.isth.posted.map (fun (q : PostedWrite) => if q.order = order then { q with failed := true } else q) } }
        let k := streamKey p.stream
        let f := tget fence0 s.isth.fences k
        let f' : FenceSum := if f.failed = 0 then ⟨1, p.window, p.addr⟩ else { f with failed := f.failed + 1 }
        let s := { s with isth := { s.isth with fences := tset fence0 s.isth.fences k f' } }
        let s := if bit s Reg.isthError 1 then s
          else
            let s := setReg s Reg.isthPostErrAddr (BitVec.ofNat 32 (winDetail p.window p.addr + causeCode cause * 2 ^ 28 + 2 ^ 31))
            stick (setReg s Reg.isthPostErrTag p.tag) Reg.isthError 1
        raise Ev.postedWriteFailed p.window (winDetail p.window p.addr) p.tag.toNat (noteCause p.window cause s)
    | none => s
  | .xfer i => if cause = .none then xferDone i o.got s else xferFail i cause s
  | .ring k seq =>
    match s.isth.rings.find? (fun x => decide (x.ring = k) && decide (x.seq = seq)) with
    | some x => if cause = .none then blockDone x o.got s else endRing x cause s
    | none => s

/-- What follows a settled operation: waiting accesses may take the entry or slot that came free. -/
def settled (o : BusOp) (cause : WinCause) (s : State) : State := retryWaiting (settle o cause s)

/-- The operation of a transfer that is due: without a cycle where the window is LOST, in reset, or its data is poisoned. -/
def startXfer (i : Nat) (s : State) : State :=
  let w := xferWin s i
  let n := 2 * xferWords s i
  if winLost s w then xferFail i .lost s
  else if s.isth.resetTo.isSome then xferFail i .timeout s
  else if xferWrites s i then
    let src := (region s 3).1 + 64 * fld s (Reg.isthXferData i) 19 0
    if isPoisoned s.sound src n then xferFail i .poison (meetSound src n s)
    else
      let (bs, s) := applyRule (byteRule s w) (xferFar s i) (readBytes s.sound src n) s
      startOp (writeOp s (.xfer i) w (xferAddr s i) bs) (discardOverlap (xferAddr s i) n s)
  else startOp (readOp s (.xfer i) w (xferAddr s i) n) s

/-- A lane's or ring's operation starts; in reset it ends with cause TIMEOUT, on a LOST window with cause LOST, without a
cycle. -/
def startOther (o : BusOp) (s : State) : State :=
  if s.isth.resetTo.isSome then settled o .timeout s
  else if winLost s o.window then settled o .lost s
  else
    let s := match o.owner with
      | .ring _ _ => if o.write then discardOverlap o.addr (2 * o.count) s else s
      | _ => s
    startOp o s

/-- BUS_CYCLE_START: the order of precedence of R267. -/
def busStart (s : State) : State :=
  let s := retryWaiting s
  if s.isth.bus.isSome ∨ ¬drivesCrate s ∨ s.tap.acting.isSome then s
  else match s.isth.due with
    | i :: rest => startXfer i { s with isth := { s.isth with due := rest } }
    | [] =>
      if crateHeld s ∨ ¬domReady s .isth then s
      else
        let lane := nextLaneOp s
        let ring := nextRingOp s
        match lane, ring with
        | some o, none => startOther o s
        | none, some o => startOther o s
        | some a, some b =>
          let turn := s.isth.ringTurn
          let s := { s with isth := { s.isth with ringTurn := !turn } }
          startOther (if turn then b else a) s
        | none, none => s

/-- BUS_CYCLE_START. -/
def execBusCycleStart (s : State) : Host.Outcome State Fault Refusal := .next (busStart s)

/-- The count of consecutive timeouts of a window (R271); LOST at the limit. -/
def countTimeout (w : Nat) (s : State) : State :=
  let n := min 15 (fld s (Reg.isthWinStatus w) 7 4 + 1)
  let s := setFld s (Reg.isthWinStatus w) 7 4 n
  if max 1 (fld s Reg.isthCfg 11 8) ≤ n ∧ ¬winLost s w then
    raise Ev.cardLost w (winDetail w (winBase s w)) n (stick (setBit s (Reg.isthWinStatus w) 0 true) Reg.isthError 3)
  else s

/-- Repeats that an operation may make after RETRY (R256). -/
def retryLimit (s : State) (o : BusOp) : Nat :=
  match o.owner with
  | .xfer i => wordFld (xferCtl s i) 19 18
  | _ => fld s Reg.isthCfg 15 12

/-- The rest of an operation after `n` acknowledged words. -/
def restOp (o : BusOp) (ws : List (BitVec 16)) : BusOp :=
  let n := min ws.length o.count
  { o with addr := o.addr + 2 * n, count := o.count - n, out := o.out.drop n, got := if o.write then o.got else o.got ++ ws.take n }

/-- BUS_CYCLE_END: the words acknowledged and the code that ends the cycle (R254, R256, R271). -/
def busEnd (ws : List (BitVec 16)) (ended : BusAck) (s : State) : State :=
  match s.isth.bus with
  | none => s
  | some o =>
    let short := decide (ws.length < o.count)
    if (ended = .ack ∧ short ∧ ¬o.write) ∨ (ended ≠ .ack ∧ ¬short) then s
    else
      let s := { s with isth := { s.isth with bus := none } }
      let s := setFld s (Reg.isthWinStatus o.window) 7 4 0
      match ended with
      | .ack => settled { o with got := o.got ++ ws.take o.count } .none s
      | .berr => settled o .berr (satAdd s Reg.isthCounts 7 0 1)
      | .retry =>
        let s := satAdd s Reg.isthCounts 23 16 1
        if o.retries < retryLimit s o then
          let again := { restOp o ws with retries := o.retries + 1 }
          { s with isth := { s.isth with retry := s.isth.retry ++ [(again, rawNow s + retryGap s)] } }
        else settled o .retry s

/-- BUS_CYCLE_END. -/
def execBusCycleEnd (ws : List (BitVec 16)) (ended : BusAck) (s : State) : Host.Outcome State Fault Refusal :=
  if ws.length ≤ 16 then .next (busEnd ws ended s) else .fault .illFormed

/-- BUS_TIMEOUT in raw units: 100 ns each, 1 to 95. -/
def busLimit (s : State) : Nat := 6400 * min 95 (max 1 (fld s Reg.isthCfg 6 0))

/-- BUS_TIMEOUT: the cycle ends with cause TIMEOUT at the first word not acknowledged (R255, R271). -/
def busTimedOut (s : State) : State :=
  match s.isth.bus with
  | none => s
  | some o =>
    if rawNow s < o.at_ + busLimit s then s
    else
      let s := satAdd { s with isth := { s.isth with bus := none } } Reg.isthCounts 15 8 1
      settled o .timeout (countTimeout o.window s)

/-- BUS_TIMEOUT. -/
def execBusTimeout (ws : List (BitVec 16)) (s : State) : Host.Outcome State Fault Refusal :=
  if ws.length ≤ 16 then .next (busTimedOut s) else .fault .illFormed

/-- CRATE_RETRY: the first operation whose gap has passed is repeated from the retried word (R256). -/
def crateRetry (s : State) : State :=
  if s.isth.bus.isSome ∨ ¬drivesCrate s ∨ s.tap.acting.isSome then s
  else match s.isth.retry.find? (fun (o, t) => decide (t ≤ rawNow s) && (match o.owner with
      | .xfer _ => true
      | _ => s.isth.due.isEmpty && !crateHeld s)) with
    | some (o, t) =>
      let s := { s with isth := { s.isth with retry := s.isth.retry.erase (o, t) } }
      match o.owner with
      | .xfer _ =>
        if winLost s o.window then settled o .lost s
        else if s.isth.resetTo.isSome then settled o .timeout s
        else startOp o s
      | _ => startOther o s
    | none => s

/-- CRATE_RETRY. -/
def execCrateRetry (s : State) : Host.Outcome State Fault Refusal := .next (crateRetry s)

/-- PREFETCH_HOLD_EXPIRY: PREFETCH_HOLD has passed since a block's fill or last hit (R266). -/
def holdExpiry (s : State) : State :=
  match s.isth.fetched.find? (fun p => !p.dead && decide (p.at_ + usRaw (16 * max 1 (fld s Reg.isthCfg 29 24)) ≤ rawNow s)) with
  | some p => retryWaiting (discardBlock p s)
  | none => s

/-- PREFETCH_HOLD_EXPIRY. -/
def execPrefetchHoldExpiry (s : State) : Host.Outcome State Fault Refusal := .next (holdExpiry s)

/-- The failure record of a posted write has been journaled: its entry is freed (R268), and a waiting store may take it. -/
def freeFailed (r : Record) (s : State) : State := if r.code = Ev.postedWriteFailed.code then retryWaiting (freeEntry r s) else s

/-! ### Interrupts (R277) -/

/-- CRATE_INT: an enabled, armed line sensed low; it is disarmed and its record waits for the writes in progress. -/
def crateInt (line : Nat) (s : State) : State :=
  let s := setBit s Reg.isthIntStatus line true
  if bit s Reg.isthIntCfg line ∧ bit s Reg.isthIntStatus (8 + line) then
    let w : IntWait := ⟨line, s.isth.posted.map (·.order), match s.isth.bus with
      | some ⟨.ring k seq, _, _, _, _, _, _, _, _, _⟩ => s.isth.rings.filter (fun x => decide (x.ring = k) && decide (x.seq = seq))
      | _ => []⟩
    setBit { s with isth := { s.isth with ints := s.isth.ints ++ [w] } } Reg.isthIntStatus (8 + line) false
  else s

/-- CRATE_INT. -/
def execCrateInt (line : Fin 8) (s : State) : Host.Outcome State Fault Refusal := .next (crateInt line.val s)

/-- CRATE_INT_RECORD: the first waiting interrupt whose earlier writes have completed and been recorded (R277). -/
def crateIntRecord (s : State) : State :=
  match s.isth.ints.find? (fun w => w.posted.all (fun o => !(s.isth.posted.any (fun p => decide (p.order = o))))
      && w.rings.all (fun x => !(s.isth.rings.contains x))) with
  | some w =>
    raise Ev.crateInt (w.line + 1) 0 (fld s Reg.isthIntStatus 7 0) { s with isth := { s.isth with ints := s.isth.ints.erase w } }
  | none => s

/-- CRATE_INT_RECORD. -/
def execCrateIntRecord (s : State) : Host.Outcome State Fault Refusal := .next (crateIntRecord s)

/-- ISTH_CMD ARM: enabled lines among those named are armed; the levels are sensed anew. -/
def isthArm (lines : Byte) (s : State) : State :=
  let en := fld s Reg.isthIntCfg 7 0
  let named := lines.toNat &&& en
  let s := setFld s Reg.isthIntStatus 15 8 (fld s Reg.isthIntStatus 15 8 ||| named)
  setFld s Reg.isthIntStatus 7 0 (fld s Reg.isthIntStatus 7 0 &&& (255 - lines.toNat))

/-- ISTH_CMD ARM. -/
def execIsthArm (lines : Byte) (s : State) : Host.Outcome State Fault Refusal := .next (isthArm lines s)

/-- A committed write of ISTH_INT_CFG: enabling arms a line. -/
def writeIntCfg (v : Word) (s : State) : State :=
  let old := fld s Reg.isthIntCfg 7 0
  let new := wordFld v 7 0
  let armed := (fld s Reg.isthIntStatus 15 8 &&& new) ||| (new &&& (255 - old))
  setFld (setReg s Reg.isthIntCfg v) Reg.isthIntStatus 15 8 armed

/-- ISTH_INT_CFG_WRITE. -/
def execIsthIntCfgWrite (v : Word) (s : State) : Host.Outcome State Fault Refusal :=
  .next (writeIntCfg (committed s Reg.isthIntCfg v) s)

/-! ### Commands and set-up -/

/-- Window or transfer that an ISTH register belongs to, and its crate address with the window in bits 27:24: SOURCE_INDEX and
DETAIL_A of its refusal (R279); 0x00FF and 0 for a register of neither (assumption log 14). -/
def isthOrigin (s : State) (key : Nat) : Nat × Nat :=
  if Reg.isthXferCtl 0 ≤ key ∧ key < Reg.isthXferCtl 256 then
    let i := (key - Reg.isthXferCtl 0) / 16
    (i, winDetail (xferWin s i) (xferAddr s i))
  else if Reg.isthWinCfg 0 ≤ key ∧ key < Reg.isthWinCfg 16 then
    let w := (key - Reg.isthWinCfg 0) / 16
    (w, winDetail w (winBase s w))
  else (0xFF, 0)

/-- A refusal of the ISTH block. -/
def refuseIsth (reason key : Nat) (s : State) : State :=
  let (src, dA) := isthOrigin s key
  refuseCfg s Reg.isthCfgResult Ev.isthCfgRefused reason key src dA

/-- ISTH_CMD REVIVE (R271). -/
def revive (w : Nat) (s : State) : State :=
  let s := setFld (setBit s (Reg.isthWinStatus w) 0 false) (Reg.isthWinStatus w) 7 4 0
  raise Ev.cardRevived w (winDetail w (winBase s w)) 0 s

/-- ISTH_CMD REVIVE. -/
def execIsthRevive (w : Fin 16) (s : State) : Host.Outcome State Fault Refusal := .next (revive w.val s)

/-- ISTH_CMD CRATE_RESET (R276): in ACTIVE and MAINTENANCE only. -/
def crateReset (s : State) : State :=
  if modState s = .active ∨ modState s = .maintenance then
    emitOut { s with isth := { s.isth with resetTo := some (rawNow s + msRaw 1) } } (.crateReset true)
  else refuseIsth 8 Reg.isthCmd s

/-- ISTH_CMD CRATE_RESET. -/
def execIsthCrateReset (s : State) : Host.Outcome State Fault Refusal := .next (crateReset s)

/-- CRATE_RESET_END: after 1 ms RESET_N is released (R276). -/
def crateResetEnd (s : State) : State :=
  match s.isth.resetTo with
  | some t => if t ≤ rawNow s then emitOut { s with isth := { s.isth with resetTo := none } } (.crateReset false) else s
  | none => s

/-- CRATE_RESET_END. -/
def execCrateResetEnd (s : State) : Host.Outcome State Fault Refusal := .next (crateResetEnd s)

/-- ISTH_CMD CLEAR_COUNTS. -/
def isthClear (s : State) : State := setReg s Reg.isthCounts 0

/-- ISTH_CMD CLEAR_COUNTS. -/
def execIsthClearCounts (s : State) : Host.Outcome State Fault Refusal := .next (isthClear s)

/-- A committed write of ISTH_WIN_CFG: setting ENABLE checks the window (R258, R278). -/
def writeWinCfg (w : Nat) (v : Word) (s : State) : State :=
  let k := Reg.isthWinCfg w
  let log := wordFld v 12 8
  let size := 2 ^ log
  let base := winBase s w
  if wordFld v 0 0 = 1 then
    if log < 8 ∨ 23 < log then refuseIsth 1 k s
    else if base % size ≠ 0 then refuseIsth 2 k s
    else if 0x1000000 < base + size then refuseIsth 3 k s
    else if v.getLsbD 3 ∧ v.getLsbD 4 then refuseIsth 4 k s
    else setReg s k v
  else setReg s k v

/-- ISTH_WIN_ENABLE. -/
def execIsthWinEnable (w : Fin 16) (v : Word) (s : State) : Host.Outcome State Fault Refusal :=
  .next (writeWinCfg w.val (committed s (Reg.isthWinCfg w.val) (v ||| 1)) s)

/-- A transfer entry is named by a CRATE_XFER of the active bank. -/
def xferNamed (s : State) (i : Nat) : Bool :=
  match activeBank s with
  | some b => b.entries.any (fun e => decide (e.kind = 10) && decide (dfld e.w1 7 0 = i))
  | none => false

/-- A committed write of ISTH_XFER_CTL: setting VALID checks the entry (R273, R278). -/
def writeXferCtl (i : Nat) (v : Word) (s : State) : State :=
  let k := Reg.isthXferCtl i
  let w := wordFld v 7 4
  let n := 2 * (wordFld v 11 8 + 1)
  let far := xferFar s i
  let data := getReg s (Reg.isthXferData i)
  if running s ∧ xferNamed s i then refuseIsth 5 k s
  else if wordFld v 0 0 = 0 then setReg s k v
  else if ¬winEnabled s w ∨ far % 2 = 1 ∨ winSize s w < far + n ∨ 256 < far % 256 + n then refuseIsth 6 k s
  else if v.getLsbD 1 then
    if inRegion s 3 (64 * wordFld data 19 0) n then setReg s k v else refuseIsth 7 k s
  else if inImage s (wordFld data 23 20) (16 * wordFld data 19 0) (16 + (n + 15) / 16 * 16) then
    setReg (setXfer s i xfer0) k v
  else refuseIsth 7 k s

/-- ISTH_XFER_VALIDATE. -/
def execIsthXferValidate (i : Fin 256) (v : Word) (s : State) : Host.Outcome State Fault Refusal :=
  .next (writeXferCtl i.val (committed s (Reg.isthXferCtl i.val) (v ||| 1)) s)

/-! ### The CRATE part of a SAMPLE (R274) -/

/-- VALID transfer entries by number, rising. -/
def validXfers (s : State) : List Nat :=
  s.regs.filterMap (fun (k, v) =>
    if Reg.isthXferCtl 0 ≤ k ∧ k < Reg.isthXferCtl 256 ∧ (k - Reg.isthXferCtl 0) % 16 = 0 ∧ wordFld v 0 0 = 1
    then some ((k - Reg.isthXferCtl 0) / 16) else none)

/-- One read transfer's record at a SAMPLE. -/
def sampleXfer (i : Nat) (s : State) : State :=
  let x := xferSt s i
  let (bad, s) := if (x.last.isSome ∨ x.fresh) ∧ bridgeHolds s i then sharedSlot (bridgeSlot s i x.half) (2 * xferWords s i) i s
    else (false, s)
  let x := if bad then { x with fresh := false, status := 1, cause := .none } else x
  let shown := if x.fresh then x.held else x.shown
  let st := if x.fresh then 0 else x.status
  let cause := if x.fresh then WinCause.none else x.cause
  let now := s.chrono.cycles - 1
  let age := if x.fresh then 0 else now - x.last.getD 0
  let d := getReg s (Reg.isthXferData i)
  let n := 2 * xferWords s i
  let (off, _) := imageRegion s (wordFld d 23 20)
  let at_ := off + 16 * wordFld d 19 0
  let recd := leBytes 1 st ++ leBytes 1 (causeCode cause) ++ leBytes 2 (min age 0xFFFF) ++ leBytes 4 (xferAddr s i)
    ++ leBytes 8 x.time.toNat
  let body := padTo 16 (fit n 0 shown)
  let s := { s with sound := writeBytes s.sound at_ (recd ++ body) }
  let s := setReg s (Reg.isthXferStatus i) (BitVec.ofNat 32 (st + causeCode cause * 16))
  let last := if x.fresh then some now else x.last
  setXfer s i { x with status := 1, cause := .none, fresh := false, shown := shown, last := last }

/-- The CRATE source of a SAMPLE of an image. -/
def sampleCrate (img : Nat) (s : State) : State :=
  ((validXfers s).filter (fun i => !xferWrites s i && decide (fld s (Reg.isthXferData i) 23 20 = img))).foldl
    (fun s i => sampleXfer i s) s

/-! ### The bus monitor of a standby (R113, R264) -/

/-- A ring WRITE of the mirrored journal whose next block is the monitored cycle (R113): the block is acknowledged. -/
def monitorRing (addr : Nat) (bs : List Byte) (s : State) : State :=
  match s.journal.find? (fun r => decide (ringTarget s r.ring = 5) && decide (r.desc.opcode.toNat = 1) && decide (r.state ≠ .done)
      && (let done := r.detailA.toNat / 2 ^ 32 % 65536
          let (off, n) := nth (0, 0) (blocksOf s r.desc) done
          let w := ringWin r.desc
          decide (0 < n) && decide (addr = winBase s w + ringFar r.desc + off)
            && decide (bs = (List.range n).map (fun i =>
                ruleByte (byteRule s w) (ringFar r.desc) r.payload (Config.freeValue s.freeCount) (off + i))))) with
  | some r =>
    let done := r.detailA.toNat / 2 ^ 32 % 65536 + 1
    let last := decide ((blocksOf s r.desc).length ≤ done)
    mapRec s r.ring r.desc.seq (fun r =>
      { r with detailA := BitVec.ofNat 64 (done * 2 ^ 32), outcome := if last then .done else r.outcome,
               state := if last then .done else r.state })
  | none => s

/-- Read transfers that a monitored read serves: the standby's own source (R264). -/
def monitorReads (addr : Nat) (ws : List (BitVec 16)) (s : State) : State :=
  ((validXfers s).filter (fun i => !xferWrites s i && decide (xferAddr s i = addr) && decide (xferWords s i = ws.length))).foldl
    (fun s i => xferDone i ws s) s

/-- BUS_MONITOR_CYCLE: in STANDBY a cycle of the active module is seen; read words are captured, writes noted. -/
def monitorCycle (write : Bool) (addr : BitVec 24) (ws : List (BitVec 16)) (ended : BusAck) (s : State) : State :=
  if ¬standsBy s then s
  else if write then
    let s := { s with isth := { s.isth with monitor := s.isth.monitor ++ [(addr, ws)] } }
    if ended = .ack then monitorRing addr.toNat (bytesOf ws) s else s
  else if ended = .ack then monitorReads addr.toNat ws s else s

/-- BUS_MONITOR_CYCLE. -/
def execBusMonitorCycle (write : Bool) (addr : BitVec 24) (ws : List (BitVec 16)) (ended : BusAck) (s : State) :
    Host.Outcome State Fault Refusal :=
  if ws.length ≤ 16 then .next (monitorCycle write addr ws ended s) else .fault .illFormed

/-- A store that the bus monitor has seen made (R334): its words at its address. -/
def seenMade (s : State) (c : WinAcc) : Bool :=
  let (w, off) := winOf c.addr
  let n := accBytes c.size
  let k := byteRule s w
  let o := writeOp s (.lane 0) w (winBase s w + crateStart k off n) (storeBytes k off n c.data)
  s.isth.monitor.any (fun (a, ws) => decide (a.toNat = o.addr / 2 * 2 ∨ a.toNat = o.addr) && decide (ws = o.out))

/-- At a takeover the standby's waiting accesses become the new active module's (R334): stores seen made are complete, the
others start with their bound counted from now. -/
def takeoverIsth (s : State) : State :=
  let s := s.isth.votes.foldl (fun s v =>
    match v.result, v.chosen with
    | none, some c =>
      if c.kind = .store ∧ seenMade s c then complete v.order .none 0 (domAcquire s .isth)
      else
        let s := mapVote s v.order (fun v => { v with formed := some (rawNow s) })
        if c.kind = .fence then s else domAcquire s .isth
    | _, _ => s) s
  showIsth (retryWaiting { s with isth := { s.isth with monitor := [] } })

end Sys2Proof.Machine
end

