-- ==== Sys2Proof/Machine/Holm.lean ====
section
/-!
DEFINITION. Holm field I/O (R280 to R299): inputs and their filters, field groups and their silence, outputs with read-back
faults, off-pulses and demagnetisation, the DRIVE entry, the Holm record of a SAMPLE, commands and set-up.
-/

namespace Sys2Proof.Machine

/-! ### Parts -/

/-- An input at its power-up state. -/
def holmIn0 : HolmIn := ⟨false, 0, 0, 0, 0, 0⟩

/-- An output at its power-up state. -/
def holmOut0 : HolmOut :=
  { command := false, changedAt := 0, pulse := none, lastPulse := none, openLoad := false, gated := false }

/-- A group at its power-up state. -/
def holmGroup0 : HolmGroup := { lastBit := none, refreshAt := 0, badAt := none, sendBit := false, link := [] }

/-- Input DI_n. -/
def din (s : State) (n : Nat) : HolmIn := tget holmIn0 s.holm.ins n
/-- Output DO_n. -/
def dout (s : State) (n : Nat) : HolmOut := tget holmOut0 s.holm.outs n
/-- Field group c. -/
def group (s : State) (c : Nat) : HolmGroup := tget holmGroup0 s.holm.groups c

/-- The state with an input replaced. -/
def setDin (s : State) (n : Nat) (x : HolmIn) : State :=
  { s with holm := { s.holm with ins := tset holmIn0 s.holm.ins n x } }
/-- The state with an output replaced. -/
def setDout (s : State) (n : Nat) (x : HolmOut) : State :=
  { s with holm := { s.holm with outs := tset holmOut0 s.holm.outs n x } }
/-- The state with a group replaced. -/
def setGroup (s : State) (c : Nat) (x : HolmGroup) : State :=
  { s with holm := { s.holm with groups := tset holmGroup0 s.holm.groups c x } }

/-- Group of an output (R280). -/
def groupOfDo (n : Nat) : Nat := (n - 1) / 6 + 1
/-- Group of an input (R280). -/
def groupOfDi (n : Nat) : Nat := (n - 1) / 12 + 1
/-- Outputs of a group. -/
def groupOuts (c : Nat) : List Nat := (List.range 6).map (fun i => 6 * c - 5 + i)

/-- Holm is powered and its supervisor healthy (R291). -/
def islandOk (s : State) : Bool := s.holm.power && bit s Reg.holmStatus 0

/-- State of a group: 0 IDLE, 1 DRIVEN, 2 SILENT (R290). -/
def groupState (s : State) (c : Nat) : Nat := fld s (Reg.holmConnStatus c) 13 12

/-- SUPPLY_OK of a group (R282). -/
def supplyOk (s : State) (c : Nat) : Bool := bit s (Reg.holmConnStatus c) 14

/-- The state with SUPPLY_OK of a group replaced. -/
def setSupplyOk (c : Nat) (b : Bool) (s : State) : State :=
  setBit (setBit s (Reg.holmConnStatus c) 14 b) Reg.holmStatus (c + 3) b

/-- Highest OFF and lowest ON voltage of a class, and its supply range, in 0.1 V (R281). -/
def classVolts (s : State) (c : Nat) : Nat × Nat × Nat × Nat :=
  match fld s (Reg.holmConnCfg c) 1 0 with
  | 0 => (72, 144, 144, 348)
  | 1 => (144, 288, 288, 696)
  | 2 => (216, 432, 432, 1044)
  | _ => (330, 660, 660, 1595)

/-- SILENCE of a group in ms (R298). -/
def silenceMs (v : Word) : Nat := min 1000 (max 1 (wordFld v 13 4))

/-- GRACE of an output's group, as raw time (R298). -/
def graceRaw (s : State) (n : Nat) : Nat := msRaw (max 1 (fld s (Reg.holmConnCfg (groupOfDo n)) 19 16))

/-- SAFE of an output. -/
def doSafe (s : State) (n : Nat) : Bool := bit s (Reg.holmDoCfg n) 0
/-- SAFE_STATE of an output. -/
def doSafeState (s : State) (n : Nat) : Bool := bit s (Reg.holmDoCfg n) 1
/-- A fault of an output is latched (R295). -/
def doFaulted (s : State) (n : Nat) : Bool := bit s (Reg.holmDoStatus n) 3
/-- The switch of an output conducts. -/
def doOn (s : State) (n : Nat) : Bool := bit s (Reg.holmDoStatus n) 4

/-! ### The switches -/

/-- First cell of an output in the boundary register (R440): its control cell, with the data cell behind it.  Bit i of
`TapSt.cells` is cell i, counted from TDI. -/
def doCell (n : Nat) : Nat := 5 + 24 * ((n - 1) / 6) + 12 + 2 * ((n - 1) % 6)

/-- What an acting boundary-scan instruction drives an output to (R440, R441): HIGHZ switches it OFF; else its data cell, where
its control cell enables it and the group's supply is good. -/
def scanDrive (s : State) (code : Byte) (n : Nat) : Bool :=
  decide (code ≠ 4) && supplyOk s (groupOfDo n) && (s.tap.cells.getLsbD (doCell n) == Config.scanEnable)
    && s.tap.cells.getLsbD (doCell n + 1)

/-- The commanded value of an output after gating (R290, R309): the last accepted refresh in DRIVEN, else SAFE_STATE; an acting
boundary-scan instruction takes their place (R441). -/
def commandedValue (s : State) (n : Nat) : Bool :=
  match s.tap.acting with
  | some code => scanDrive s code n
  | none => !(dout s n).gated && (if groupState s (groupOfDo n) = 1 then (dout s n).command else doSafeState s n)

/-- What the switch of an output does: OFF with a failed supervisor, a latched fault or an off-pulse (R291, R295, R296). -/
def switchValue (s : State) (n : Nat) : Bool :=
  islandOk s && !(doFaulted s n) && (dout s n).pulse.isNone && commandedValue s n

/-- An output's switch takes its value; its read-back reads it. -/
def putSwitch (n : Nat) (s : State) : State :=
  let on := switchValue s n
  if on = doOn s n then s else setBit (setBit s (Reg.holmDoStatus n) 4 on) Reg.holmDoReadback (n - 1) on

/-- The same for any cause but the end of an off-pulse: a change from OFF to ON is counted (R420). -/
def showSwitch (n : Nat) (s : State) : State :=
  putSwitch n (if switchValue s n ∧ ¬doOn s n then recCount (20 + n) s else s)

/-- After something that bears on outputs, given their commanded values before: a change of command starts its GRACE and
ends an open-load episode (R295), and the switch follows. -/
def settleOut (n : Nat) (before : Bool) (s : State) : State :=
  let s := if commandedValue s n = before then s
    else setDout s n { dout s n with changedAt := rawNow s, openLoad := false }
  showSwitch n s

/-- A change that bears on the outputs listed. -/
def settleOuts (ns : List Nat) (f : State → State) (s : State) : State :=
  let before := ns.map (fun n => (n, commandedValue s n))
  before.foldl (fun s (n, b) => settleOut n b s) (f s)

/-- A refresh or a gate that commands OFF during an off-pulse ends the pulse without evaluation (R297, R309). -/
def endPulseIfOff (n : Nat) (s : State) : State :=
  if (dout s n).pulse.isSome ∧ ¬commandedValue s n then setDout s n { dout s n with pulse := none } else s

/-! ### Inputs -/

/-- DETAIL_A of the motion unit's events (R316). -/
def motionDetail (s : State) : Nat := (getReg s Reg.motionSafeSpeed).toNat + fld s Reg.motionStatus 19 16 * 2 ^ 32

/-- Filtered level of an input. -/
def diLevel (s : State) (n : Nat) : Bool :=
  if n ≤ 32 then bit s Reg.holmDiLo (n - 1) else bit s Reg.holmDiHi (n - 33)

/-- The state with the filtered level of an input replaced. -/
def setDiLevel (n : Nat) (b : Bool) (s : State) : State :=
  if n ≤ 32 then setBit s Reg.holmDiLo (n - 1) b else setBit s Reg.holmDiHi (n - 33) b

/-- RESET_REFUSED (R311). -/
def resetRefused (reason : Nat) (s : State) : State :=
  raise Ev.resetRefused (fld s Reg.motionResetCfg 5 0) (motionDetail s) reason (stick s Reg.motionError 4)

/-- An accepted change of the reset input (R311, R312): a press begins, or ends and is judged; a high of more than 5 s is a
jammed button and gives no reset. -/
def resetInput (level : Bool) (time : Dword) (s : State) : State :=
  if level then { s with motion := { s.motion with press := some (rawNow s, time, true) } }
  else match s.motion.press with
    | none => s
    | some (rise, t, accepted) =>
      let s := { s with motion := { s.motion with press := none } }
      let h := (time - t).toNat
      let long := if accepted then decide (5000000000 < h) else decide (msRaw 5000 < rawNow s - rise)
      if bit s Reg.motionStatus 7 ∨ long then setBit s Reg.motionStatus 7 false
      else if ¬accepted then resetRefused 3 s
      else if h < 100000000 then resetRefused 1 s
      else { s with motion := { s.motion with judge := some (h / 1000000, time.toNat) } }

/-- The filter of an input accepts the raw level (R284, R285, R286). -/
def acceptDi (n : Nat) (s : State) : State :=
  let x := din s n
  let cfg := getReg s (Reg.holmDiCfg n)
  let counts := match wordFld cfg 9 8 with
    | 1 => !x.raw
    | 2 => true
    | _ => x.raw
  let x := if counts then { x with count := x.count + 1 } else x
  let s := setDiLevel n x.raw (setDin s n x)
  let s := if bit s Reg.motionCfg 0 ∧ fld s Reg.motionResetCfg 5 0 = n then resetInput x.raw x.time s else s
  if cfg.getLsbD (if x.raw then 10 else 11) then
    raiseAt x.time Ev.diChange n (if x.raw then 1 else 0) x.count.toNat s
  else s

/-- FILTER of an input as raw time (R298). -/
def filterRaw (s : State) (n : Nat) : Nat := usRaw (100 * min 250 (fld s (Reg.holmDiCfg n) 7 0))

/-- Current that an input sinks, in 0.1 mA (R283): 2.5 mA for 1 ms after a raw change, 0.8 mA above 2 V; the spec gives none for
2 V and below. -/
def sinkCurrent (s : State) (n : Nat) : Option Nat :=
  if rawNow s < (din s n).cleanTo then some 25 else if 20 < (din s n).volts then some 8 else none

/-- The terminal of an input reaches a voltage (R281, R283, R284): a raw change begins a run, and 1 ms of the cleaning current; with
FILTER = 0 it is accepted. -/
def diRaw (n : Nat) (dv : BitVec 12) (s : State) : State :=
  let s := setDin s n { din s n with volts := dv.toNat }
  if ¬islandOk s then s
  else
    let (off, on, _, _) := classVolts s (groupOfDi n)
    let (level, s) :=
      if dv.toNat ≤ off then (false, s)
      else if on ≤ dv.toNat then (true, s)
      else let (v, s) := takeFree s; (v.getLsbD 0, s)
    let x := din s n
    if level = x.raw then s
    else
      let us := BitVec.ofNat 64 ((corrected s).toNat / 1000 * 1000)
      let s := setDin s n { x with raw := level, since := rawNow s, time := us, cleanTo := rawNow s + msRaw 1 }
      if filterRaw s n = 0 ∧ level ≠ diLevel s n then acceptDi n s else s

/-- DI_RAW_CHANGE (R281, R284). -/
def execDiRawChange (c : Fin 48) (dv : BitVec 12) (s : State) : Host.Outcome State Fault Refusal :=
  .next (diRaw (c.val + 1) dv s)

/-- The raw level of an input has held for FILTER (R284). -/
def diFilter (n : Nat) (s : State) : State :=
  let x := din s n
  if islandOk s ∧ x.raw ≠ diLevel s n ∧ filterRaw s n ≤ rawNow s - x.since then acceptDi n s else s

/-- DI_FILTER_ACCEPT (R284). -/
def execDiFilterAccept (c : Fin 48) (s : State) : Host.Outcome State Fault Refusal := .next (diFilter (c.val + 1) s)

/-! ### Refreshes and silence -/

/-- A refresh is discarded (R289, R290): counted, BAD_REFRESH at most once a second. -/
def badRefresh (c : Nat) (s : State) : State :=
  let s := stick (satAdd s (Reg.holmConnStatus c) 23 16 1) Reg.holmError 4
  let g := group s c
  let due := match g.badAt with | some t => decide (t + msRaw 1000 ≤ rawNow s) | none => true
  if due then
    raise Ev.badRefresh c 0 (fld s (Reg.holmConnStatus c) 23 16) (setGroup s c { g with badAt := some (rawNow s) })
  else s

/-- An accepted refresh drives the group (R289, R290, R297). -/
def acceptRefresh (c values : Nat) (sq : Bool) (s : State) : State :=
  let s := settleOuts (groupOuts c) (fun s =>
    let s := setGroup s c { group s c with lastBit := some sq, refreshAt := rawNow s }
    let s := setFld s (Reg.holmConnStatus c) 13 12 1
    (groupOuts c).foldl (fun s n =>
      endPulseIfOff n (setDout s n { dout s n with command := decide (values / 2 ^ (n - (6 * c - 5)) % 2 = 1) })) s) s
  s

/-- Holm receives the oldest refresh message on a connector's link (R289): it accepts one with a correct CRC and a new
sequence bit, unless the group is SILENT. -/
def refreshRx (c : Nat) (crcOk : Bool) (s : State) : State :=
  let g := group s c
  match g.link with
  | [] => s
  | (values, sq) :: rest =>
    let s := setGroup s c { g with link := rest }
    if ¬islandOk s then s
    else if crcOk ∧ g.lastBit ≠ some sq ∧ groupState s c ≠ 2 then acceptRefresh c values sq s
    else badRefresh c s

/-- HOLM_REFRESH_RX (R289). -/
def execHolmRefreshRx (c : Fin 4) (crcOk : Bool) (s : State) : Host.Outcome State Fault Refusal :=
  .next (refreshRx (c.val + 1) crcOk s)

/-- SILENCE has passed since the last accepted refresh of a DRIVEN group (R290, R291). -/
def silence (c : Nat) (s : State) : State :=
  let quiet := rawNow s - (group s c).refreshAt
  if islandOk s ∧ groupState s c = 1 ∧ msRaw (silenceMs (getReg s (Reg.holmConnCfg c))) ≤ quiet then
    let s := settleOuts (groupOuts c) (fun s => setFld s (Reg.holmConnStatus c) 13 12 2) s
    raise Ev.logicSilence c 0 (quiet / msRaw 1) (stick s Reg.holmError 0)
  else s

/-- LOGIC_SILENCE (R290). -/
def execLogicSilence (c : Fin 4) (s : State) : Host.Outcome State Fault Refusal := .next (silence (c.val + 1) s)

/-- A SILENT group goes to IDLE (R290). -/
def groupToIdle (c : Nat) (s : State) : State :=
  if groupState s c = 2 then settleOuts (groupOuts c) (fun s => setFld s (Reg.holmConnStatus c) 13 12 0) s else s

/-- A start of the Chronograph re-arms every SILENT group (R290). -/
def holmChronoStart (s : State) : State := [1, 2, 3, 4].foldl (fun s c => groupToIdle c s) s

/-! ### Supplies and the supervisor -/

/-- A group's field supply has left its range for 1 ms (R282). -/
def fieldLoss (c : Nat) (dv : BitVec 12) (s : State) : State :=
  let (_, _, lo, hi) := classVolts s c
  if islandOk s ∧ supplyOk s c ∧ ¬(lo ≤ dv.toNat ∧ dv.toNat ≤ hi) then
    let s := setFld (setSupplyOk c false s) (Reg.holmConnStatus c) 11 0 dv.toNat
    raise Ev.fieldSupply c 0 dv.toNat (stick s Reg.holmError 3)
  else s

/-- FIELD_SUPPLY_LOSS (R282). -/
def execFieldSupplyLoss (c : Fin 4) (dv : BitVec 12) (s : State) : Host.Outcome State Fault Refusal :=
  .next (fieldLoss (c.val + 1) dv s)

/-- A group's field supply has been within its range for 10 ms (R282). -/
def fieldReturn (c : Nat) (dv : BitVec 12) (s : State) : State :=
  let (_, _, lo, hi) := classVolts s c
  if islandOk s ∧ ¬supplyOk s c ∧ lo ≤ dv.toNat ∧ dv.toNat ≤ hi then
    setFld (setSupplyOk c true s) (Reg.holmConnStatus c) 11 0 dv.toNat
  else s

/-- FIELD_SUPPLY_RETURN (R282). -/
def execFieldSupplyReturn (c : Fin 4) (dv : BitVec 12) (s : State) : Host.Outcome State Fault Refusal :=
  .next (fieldReturn (c.val + 1) dv s)

/-- All outputs by number. -/
def allOuts : List Nat := (List.range 24).map (· + 1)

/-- Holm's supervisor fails (R291): every output is switched OFF and the module yields. -/
def islandFault (cause : Nat) (s : State) : State :=
  if islandOk s then
    let s := setBit s Reg.holmStatus 0 false
    let s := allOuts.foldl (fun s n => showSwitch n (setDout s n { dout s n with pulse := none })) s
    raise Ev.islandFault 0xFF 0 cause (stick s Reg.holmError 5)
  else s

/-- ISLAND_FAULT (R291). -/
def execIslandFault (cause : Fin 3) (s : State) : Host.Outcome State Fault Refusal := .next (islandFault (cause.val + 1) s)

/-! ### Demagnetisation and faults -/

/-- A demagnetisation pulse ends (R294). -/
def demagPulse (n : Nat) (mj : Nat) (s : State) : State :=
  if ¬islandOk s then s
  else
    let c := groupOfDo n
    let s := setFld s (Reg.holmDoStatus n) 25 16 (min 1023 mj)
    let kept := s.holm.demag.filter (fun (t, _, _) => decide (rawNow s < t + msRaw 1000))
    let s := { s with holm := { s.holm with demag := kept ++ [(rawNow s, c, mj)] } }
    let total := ((s.holm.demag.filter (fun (_, d, _) => decide (d = c))).map (fun (_, _, e) => e)).sum
    let s := if 400 < mj then raise Ev.demagLimit n 0 mj (stick s Reg.holmError 2) else s
    if 2000 < total then raise Ev.demagLimit c 0 total (stick s Reg.holmError 2) else s

/-- DEMAG_PULSE (R294). -/
def execDemagPulse (c : Fin 24) (mj : BitVec 16) (s : State) : Host.Outcome State Fault Refusal :=
  .next (demagPulse (c.val + 1) mj.toNat s)

/-- Number of a latched cause (R295). -/
def doCauseCode : DoCause → Nat
  | .overload => 1 | .stuckOn => 2 | .stuckOff => 3 | .pulse => 4 | .overtemp => 5

/-- A fault of an output latches (R295, R297): it takes effect at once. -/
def latchFault (n : Nat) (cause : DoCause) (s : State) : State :=
  let s := setFld s (Reg.holmDoStatus n) 3 0 (doCauseCode cause + 8)
  let s := setBit s Reg.holmDoFault (n - 1) true
  let s := showSwitch n (setDout s n { dout s n with pulse := none })
  let s := match cause with
    | .stuckOn | .pulse => setBit s Reg.holmDoReadback (n - 1) true
    | .stuckOff => setBit s Reg.holmDoReadback (n - 1) false
    | _ => s
  let e := if doSafe s n then { Ev.doFault with sev := .safety } else { Ev.doFault with sev := .fault }
  raise e n 0 (doCauseCode cause) (stick s Reg.holmError 1)

/-- Holm evaluates the read-back and current of an output outside GRACE (R295). -/
def outOfGrace (s : State) (n : Nat) : Bool := decide (graceRaw s n ≤ rawNow s - (dout s n).changedAt)

/-- The condition of a cause can be met in the output's present state (R282, R295). -/
def faultPossible (s : State) (n : Nat) (cause : DoCause) : Bool :=
  let readback := supplyOk s (groupOfDo n) && outOfGrace s n && (dout s n).pulse.isNone
  match cause with
  | .overload => doOn s n && outOfGrace s n
  | .stuckOn => readback && !commandedValue s n
  | .stuckOff => readback && commandedValue s n
  | .pulse => supplyOk s (groupOfDo n) && (match (dout s n).pulse with
      | some t => decide (t ≤ rawNow s)
      | none => false)
  | .overtemp => true

/-- A fault condition of an output is met (R295). -/
def faultDetect (n : Nat) (cause : DoCause) (s : State) : State :=
  if islandOk s && !(doFaulted s n) && faultPossible s n cause then latchFault n cause s else s

/-- DO_FAULT_DETECT (R295). -/
def execDoFaultDetect (c : Fin 24) (cause : DoCause) (s : State) : Host.Outcome State Fault Refusal :=
  .next (faultDetect (c.val + 1) cause s)

/-- An ON output draws below 5 mA for longer than GRACE (R295): DO_OPEN_LOAD once per episode. -/
def openLoad (n microamps : Nat) (s : State) : State :=
  if islandOk s ∧ doOn s n ∧ microamps < 5000 ∧ graceRaw s n < rawNow s - (dout s n).changedAt ∧ ¬(dout s n).openLoad then
    raise Ev.doOpenLoad n 0 (microamps / 1000) (setDout s n { dout s n with openLoad := true })
  else s

/-- DO_OPEN_LOAD (R295). -/
def execDoOpenLoad (c : Fin 24) (ua : Word) (s : State) : Host.Outcome State Fault Refusal :=
  .next (openLoad (c.val + 1) ua.toNat s)

/-- PULSE_WIDTH of an output as raw time (R298). -/
def offWidth (s : State) (n : Nat) : Nat := usRaw (10 * min 40 (max 5 (fld s (Reg.holmDoCfg n) 15 8)))

/-- PULSE_PERIOD of an output as raw time (R298). -/
def offPeriod (s : State) (n : Nat) : Nat := msRaw (10 * min 1000 (max 1 (fld s (Reg.holmDoCfg n) 29 16)))

/-- An off-pulse may start (R282, R296): it is due, no pulse of the group runs or began within 1 ms, and the channel's
command has not changed within GRACE. -/
def offAllowed (s : State) (n : Nat) : Bool :=
  let c := groupOfDo n
  islandOk s && supplyOk s c && bit s (Reg.holmDoCfg n) 2 && doOn s n && outOfGrace s n
    && (match (dout s n).lastPulse with | some t => decide (t + offPeriod s n ≤ rawNow s) | none => true)
    && (groupOuts c).all (fun m => (dout s m).pulse.isNone
        && (match (dout s m).lastPulse with | some t => decide (t + msRaw 1 ≤ rawNow s) | none => true))

/-- An off-pulse starts (R296). -/
def offStart (n : Nat) (s : State) : State :=
  if offAllowed s n then
    showSwitch n (setDout s n
      { dout s n with pulse := some (rawNow s + offWidth s n), lastPulse := some (rawNow s) })
  else s

/-- OFF_PULSE_START (R296). -/
def execOffPulseStart (c : Fin 24) (s : State) : Host.Outcome State Fault Refusal := .next (offStart (c.val + 1) s)

/-- An off-pulse ends (R296, R297): a read-back of ON latches the PULSE fault; else the channel goes on. -/
def offEnd (n : Nat) (readback : Bool) (s : State) : State :=
  match (dout s n).pulse with
  | some t =>
    if islandOk s ∧ t ≤ rawNow s then
      if readback ∧ supplyOk s (groupOfDo n) then latchFault n .pulse s
      else putSwitch n (setDout s n { dout s n with pulse := none })
    else s
  | none => s

/-- OFF_PULSE_END (R296). -/
def execOffPulseEnd (c : Fin 24) (readback : Bool) (s : State) : Host.Outcome State Fault Refusal :=
  .next (offEnd (c.val + 1) readback s)

/-! ### Commands and set-up (R292, R298) -/

/-- A refusal of the HOLM block. -/
def refuseHolm (reason key : Nat) (s : State) : State := refuseCfg s Reg.holmCfgResult Ev.holmCfgRefused reason key 0xFF 0

/-- HOLM_CMD REARM: refused unless ARG names a SILENT group. -/
def holmRearm (c : Nat) (s : State) : State :=
  if 1 ≤ c ∧ c ≤ 4 ∧ groupState s c = 2 then groupToIdle c s else refuseHolm 5 Reg.holmCmd s

/-- HOLM_REARM (R290). -/
def execHolmRearm (c : Fin 4) (s : State) : Host.Outcome State Fault Refusal := .next (holmRearm (c.val + 1) s)

/-- HOLM_CMD CLEAR_FAULT (R295): refused unless ARG names a channel with a latched fault.  In DRIVEN the channel stays OFF
until the next accepted refresh. -/
def holmClearFault (n : Nat) (s : State) : State :=
  if 1 ≤ n ∧ n ≤ 24 ∧ doFaulted s n then
    settleOuts [n] (fun s =>
      let s := setBit (setFld s (Reg.holmDoStatus n) 3 0 0) Reg.holmDoFault (n - 1) false
      if groupState s (groupOfDo n) = 1 then setDout s n { dout s n with command := false } else s) s
  else refuseHolm 5 Reg.holmCmd s

/-- HOLM_CLEAR_FAULT (R295). -/
def execHolmClearFault (c : Fin 24) (s : State) : Host.Outcome State Fault Refusal := .next (holmClearFault (c.val + 1) s)

/-- A committed write of HOLM_CONN_CFG (R292). -/
def writeConnCfgHolm (c : Nat) (v : Word) (s : State) : State :=
  let k := Reg.holmConnCfg c
  if groupState s c = 1 ∧ wordFld v 13 4 ≠ fld s k 13 4 then refuseHolm 1 k s
  else if pairBank s ∧ silenceMs v * 1000 ≤ 3 * (header s).bcLen then refuseHolm 2 k s
  else setReg s k v

/-- A committed write of HOLM_DO_CFG (R292). -/
def writeDoCfg (n : Nat) (v : Word) (s : State) : State :=
  let k := Reg.holmDoCfg n
  if groupState s (groupOfDo n) = 1 ∧ wordFld v 1 0 ≠ fld s k 1 0 then refuseHolm 1 k s
  else settleOuts [n] (fun s => setReg s k v) s

/-- A committed write of HOLM_DRIVE_SRC: the word lies in OUTPUT. -/
def writeDriveSrc (v : Word) (s : State) : State :=
  if inRegion s 3 (64 * wordFld v 17 0) 4 then setReg s Reg.holmDriveSrc v else refuseHolm 4 Reg.holmDriveSrc s

/-- A committed write of HOLM_IMG_MAP: the record lies in its image, whatever EN (R444). -/
def writeHolmMap (i : Nat) (v : Word) (s : State) : State :=
  let k := Reg.holmImgMap i
  if ¬inImage s i (16 * wordFld v 19 0) 256 then refuseHolm 3 k s else setReg s k v

/-! ### The DRIVE entry (R289, R307) -/

/-- Force entries in effect of a kind, as (index, mask, value) (R158). -/
def forcesOf (s : State) (kind : Nat) : List (Nat × Nat × Word × Word) :=
  (List.range 64).filterMap (fun n =>
    let t := getReg s (Reg.modForceEntryT n)
    if t.getLsbD 31 ∧ wordFld t 3 0 = kind then
      some (wordFld t 7 4, wordFld t 29 8, getReg s (Reg.modForceEntryM n), getReg s (Reg.modForceEntryV n))
    else none)

/-- A word with the forced bits replaced (R158). -/
def forceWord (w mask value : Word) : Word := (w &&& ~~~mask) ||| (value &&& mask)

/-- A one-bit channel value under the force entries of its kind. -/
def forceBit (fs : List (Nat × Nat × Word × Word)) (chan : Nat) (b : Bool) : Bool :=
  fs.foldl (fun b (_, i, m, v) => if i = chan ∧ m.getLsbD 0 then v.getLsbD 0 else b) b

/-- One connector's refresh message goes onto the Holm link (R289). -/
def sendRefresh (c : Nat) (word : Word) (s : State) : State :=
  let fs := forcesOf s 2
  let split := decide (voteMode s = .split)
  let values := ((groupOuts c).map (fun n =>
    let b := forceBit fs n (word.getLsbD (n - 1))
    let b := if split ∧ doSafe s n then doSafeState s n else b
    if b then 2 ^ (n - (6 * c - 5)) else 0)).sum
  let g := group s c
  setGroup s c { g with sendBit := !g.sendBit, link := g.link ++ [(values, !g.sendBit)] }

/-- The selection message of a DRIVE (R307). -/
def sendSelection (s : State) : State :=
  if bit s Reg.motionCfg 0 ∧ isVoting s then
    let at_ := (region s 3).1 + 64 * fld s Reg.motionSelSrc 17 0
    if isPoisoned s.sound at_ 4 then meetSound at_ 4 s
    else
      let k := readLE s.sound at_ 4 % 16
      { s with motion := { s.motion with sendBit := !s.motion.sendBit, link := s.motion.link ++ [(k, !s.motion.sendBit)] } }
  else s

/-- Effect of a DRIVE (R289, R307). -/
def driveBody (e : Entry) (s : State) : State :=
  if ¬sendsOutputs s then s
  else
    let block := fld s Reg.holmDriveSrc 17 0
    let at_ := (region s 3).1 + 64 * block
    let selects := decide (bit s Reg.motionCfg 0) && isVoting s
    if withheld s (64 * block) 4 ∨ (selects ∧ withheld s (64 * fld s Reg.motionSelSrc 17 0) 4) then s else
    let s := if isPoisoned s.sound at_ 4 then
        raise Ev.drivePoison 0xFF 0 block (stick (meetSound at_ 4 s) Reg.holmError 4)
      else
        let word := BitVec.ofNat 32 (readLE s.sound at_ 4)
        ([1, 2, 3, 4].filter (fun c => dfld e.w1 (c - 1) (c - 1) = 1)).foldl (fun s c => sendRefresh c word s) s
    if sendsOutputs s then sendSelection s else s

/-- DRIVE (R289). -/
def execDrive (i : BitVec 16) (s : State) : Host.Outcome State Fault Refusal :=
  .next (issueEntry 11 i (fun s _ => if sendsOutputs s then ⟨none, [(.holmLink, occDrive)]⟩ else noNeeds) driveBody s)

/-! ### The DI part of a SAMPLE (R287) -/

/-- The Holm record at the freeze instant, without forces. -/
def holmRecord (s : State) : List Byte :=
  if ¬islandOk s then List.replicate 256 0
  else
    let flags := 1 + ([1, 2, 3, 4].map (fun c => if groupState s c = 2 then 2 ^ c else 0)).sum
    leBytes 4 (getReg s Reg.holmDiLo).toNat ++ leBytes 2 (fld s Reg.holmDiHi 15 0) ++ [0, 0]
      ++ leBytes 3 (fld s Reg.holmDoReadback 23 0) ++ leBytes 1 (fld s Reg.holmStatus 7 4)
      ++ leBytes 3 (fld s Reg.holmDoFault 23 0) ++ leBytes 1 flags
      ++ (List.range 48).flatMap (fun i => leBytes 4 (din s (i + 1)).count.toNat) ++ List.replicate 48 0

/-- The Holm record with DI forces applied (R158). -/
def forceRecord (s : State) (bs : List Byte) : List Byte :=
  (forcesOf s 1).foldl (fun bs (_, n, m, v) =>
    if 1 ≤ n ∧ n ≤ 48 ∧ m.getLsbD 0 then
      let i := (n - 1) / 8
      let b := nth 0 bs i
      let one : Byte := BitVec.ofNat 8 (2 ^ ((n - 1) % 8))
      setNth bs i (if v.getLsbD 0 then b ||| one else b &&& ~~~one)
    else bs) bs

/-- A record written into an image where its map register enables it. -/
def putMapped (map img : Nat) (bs : List Byte) (s : State) : State :=
  let m := getReg s map
  if m.getLsbD 31 then
    { s with sound := writeBytes s.sound ((imageRegion s img).1 + 16 * wordFld m 19 0) bs }
  else s

/-- The DI source of a SAMPLE of an image. -/
def sampleDi (img : Nat) (s : State) : State := putMapped (Reg.holmImgMap img) img (forceRecord s (holmRecord s)) s

end Sys2Proof.Machine
end

