-- ==== Sys2Proof/Machine/Motion.lean ====
section
/-!
DEFINITION. Safe motion supervision (R300 to R316): position steps and edge counters, the evaluation at each tick, latches
and gates, the limit selection, the reset input, set-up, and the power-up of the Holm island.
-/

namespace Sys2Proof.Machine

/-- A sensor at Holm power-up. -/
def sensor0 : Sensor := { a := false, b := false, cntA := 0, cntB := 0, pos := 0, steps := [], quads := [], run := none }

/-- Speed sensor by number from 1. -/
def sensor (s : State) (i : Nat) : Sensor := tget sensor0 s.motion.sensors i

/-- The state with a sensor replaced. -/
def setSensor (s : State) (i : Nat) (x : Sensor) : State :=
  { s with motion := { s.motion with sensors := tset sensor0 s.motion.sensors i x } }

/-- MOTION_CFG.ENABLE with a healthy island (R313). -/
def motionOn (s : State) : Bool := islandOk s && bit s Reg.motionCfg 0

/-- OK of a sensor (R302). -/
def sensorOk (s : State) (i : Nat) : Bool := bit s (Reg.motionSensorStatus i) 0

/-- The sensor is selected in MOTION_CFG.SENSORS. -/
def sensorSelected (s : State) (i : Nat) : Bool := bit s Reg.motionCfg (i + 3)

/-- The sensors of the module. -/
def allSensors : List Nat := [1, 2, 3, 4]

/-- The used sensors (R304). -/
def usedSensors (s : State) : List Nat := allSensors.filter (fun i => sensorSelected s i && sensorOk s i)

/-! ### Steps and edges (R300 to R302) -/

/-- A sensor fault latches (R302): 1 QUAD, 2 CHANNEL_LOST. -/
def sensorFault (i why : Nat) (s : State) : State :=
  if motionOn s ∧ sensorOk s i then
    let s := setFld (setBit s (Reg.motionSensorStatus i) 0 false) (Reg.motionSensorStatus i) 3 2 why
    let s := setBit s Reg.motionStatus (i + 7) false
    raise Ev.sensorFault i (motionDetail s) why (stick s Reg.motionError 2)
  else s

/-- A leads B (R301): 00 to 10 to 11 to 01 to 00. -/
def leads (a b a' b' : Bool) : Bool := (decide (a ≠ a') && decide (a' ≠ b)) || (decide (b ≠ b') && decide (b' = a))

/-- How far back steps are kept: the longest STILL_TIME and WINDOW, in ns. -/
def stepHorizon : Nat := 2600000000

/-- Steps older than the horizon are dropped, but for the newest of them, which gives the position at the horizon. -/
def pruneSteps (now : Nat) (l : List (Nat × Dword × Int)) : List (Nat × Dword × Int) :=
  let old := l.filter (fun (_, t, _) => decide (t.toNat + stepHorizon < now))
  (old.getLast?).toList ++ l.filter (fun (_, t, _) => !decide (t.toNat + stepHorizon < now))

/-- A sensor's pair moves to an adjacent Gray state (R301): POSITION, the edge counters (R300), and CHANNEL_LOST after 16
consecutive edges on one channel (R302). -/
def positionStep (i : Nat) (a b : Bool) (s : State) : State :=
  let x := sensor s i
  if ¬islandOk s ∨ (decide (a ≠ x.a) = decide (b ≠ x.b)) then s
  else
    let up := leads x.a x.b a b
    let d : Int := if up = bit s (Reg.motionSensorCfg i) 10 then -1 else 1
    let onB := decide (b ≠ x.b)
    let run := match x.run with
      | some (ch, n) => if ch = onB then n + 1 else 1
      | none => 1
    let pos := x.pos + d
    let s := setSensor s i
      { x with a := a, b := b, pos := pos, run := some (onB, run),
               cntA := if a ∧ ¬x.a then x.cntA + 1 else x.cntA,
               cntB := if b ∧ ¬x.b then x.cntB + 1 else x.cntB,
               steps := pruneSteps (corrected s).toNat (x.steps ++ [(rawNow s, corrected s, pos)]) }
    let s := setReg s (Reg.motionSensorPos i) (BitVec.ofInt 32 pos)
    if 16 ≤ run then sensorFault i 2 s else s

/-- POSITION_STEP (R301). -/
def execPositionStep (i : Fin 4) (a b : Bool) (s : State) : Host.Outcome State Fault Refusal :=
  .next (positionStep (i.val + 1) a b s)

/-- Both channels of a sensor change in one sample (R301, R302): POSITION stands, the fourth error within 1 s latches QUAD. -/
def quadError (i : Nat) (s : State) : State :=
  if ¬islandOk s then s
  else
    let x := sensor s i
    let quads := x.quads.filter (fun t => decide (rawNow s < t + msRaw 1000)) ++ [rawNow s]
    let s := setSensor s i
      { x with a := !x.a, b := !x.b, run := none, quads := quads,
               cntA := if x.a then x.cntA else x.cntA + 1, cntB := if x.b then x.cntB else x.cntB + 1 }
    let s := satAdd s (Reg.motionSensorStatus i) 15 8 1
    if 4 ≤ quads.length then sensorFault i 1 s else s

/-- QUADRATURE_ERROR (R301). -/
def execQuadratureError (i : Fin 4) (s : State) : Host.Outcome State Fault Refusal := .next (quadError (i.val + 1) s)

/-! ### Evaluation (R303 to R308) -/

/-- π × 10^40, truncated, for the distance per step (R303). -/
def piScaled : Int := 31415926535897932384626433832795028841971

/-- WINDOW in ns (R303, R315). -/
def windowNs (s : State) : Nat := 1000000 * max 5 (fld s Reg.motionCfg 15 8)

/-- v_s at a tick of `t` ns, in mm/s truncated toward zero (R303); two steps at one instant give a free value. -/
def sensorSpeed (s : State) (i t : Nat) : Int :=
  let cfg := getReg s (Reg.motionSensorCfg i)
  let ppr := wordFld cfg 21 12
  let inWin := (sensor s i).steps.filter (fun (_, u, _) => decide (u.toNat ≤ t) && decide (t < u.toNat + windowNs s))
  match inWin, inWin.getLast? with
  | (_, t1, p1) :: _ :: _, some (_, tk, pk) =>
    if tk.toNat ≤ t1.toNat ∨ ppr = 0 then (Config.freeValue (s.freeCount + i)).toInt % 2 ^ 31
    else
      let num := (pk - p1) * (wordFld cfg 9 0 : Nat) * piScaled * 1000000000
      let den : Int := ((4 * ppr * (tk.toNat - t1.toNat) : Nat) : Int) * 10 ^ 40
      num.tdiv den
  | _, _ => 0

/-- STILL_TIME in ms (R305, R315). -/
def stillMs (s : State) : Nat := 10 * max 1 (fld s Reg.motionStill 7 0)

/-- Sensor s is still at a tick of `t` ns (R305). -/
def sensorStill (s : State) (i t : Nat) : Bool :=
  let start := t - 1000000 * stillMs s
  let l := (sensor s i).steps
  let at0 : Int := match (l.filter (fun (_, u, _) => decide (u.toNat ≤ start))).getLast? with
    | some (_, _, p) => p
    | none => 0
  let ps := at0 :: (l.filter (fun (_, u, _) => decide (start < u.toNat) && decide (u.toNat ≤ t))).map (fun (_, _, p) => p)
  let hi := ps.foldl max at0
  let lo := ps.foldl min at0
  decide (msRaw (stillMs s) ≤ rawNow s - s.motion.powerAt) && decide (hi - lo ≤ (fld s Reg.motionStill 11 8 : Nat))

/-- v_s as the latest tick left it. -/
def speedOf (s : State) (i : Nat) : Int := (getReg s (Reg.motionSensorSpeed i)).toInt

/-- TOL_ABS in mm/s. -/
def tolAbs (s : State) : Nat := fld s Reg.motionPlaus 15 0

/-- The first condition of R304 on a pair. -/
def differs (s : State) (i j : Nat) : Bool :=
  let a := speedOf s i
  let b := speedOf s j
  decide (max (100 * tolAbs s) (min 100 (fld s Reg.motionPlaus 23 16) * max a.natAbs b.natAbs) < 100 * (a - b).natAbs)

/-- The second condition of R304 on a pair: both exceed TOL_ABS and their signs differ. -/
def signsDiffer (s : State) (i j : Nat) : Bool :=
  let a := speedOf s i
  let b := speedOf s j
  decide (tolAbs s < a.natAbs) && decide (tolAbs s < b.natAbs) && decide (a < 0) != decide (b < 0)

/-- The pairs of used sensors. -/
def usedPairs (s : State) : List (Nat × Nat) :=
  (usedSensors s).flatMap (fun i => ((usedSensors s).filter (fun j => decide (i < j))).map (fun j => (i, j)))

/-- The ticks since which the conditions of R304 hold. -/
def trackPairs (s : State) : Tab Nat :=
  (usedPairs s).foldl (fun m (i, j) =>
    let keep := fun (m : Tab Nat) (k : Nat) (c : Bool) =>
      if c then tput m k (((s.motion.implaus.find? (fun x => x.1 = k)).map (·.2)).getD (rawNow s)) else m
    keep (keep m (8 * i + j) (differs s i j)) (64 + 8 * i + j) (signsDiffer s i j)) []

/-- DIRECTION (R304): 0 NONE, 1 FORWARD, 2 BACKWARD, 3 MISMATCH. -/
def direction (s : State) : Nat :=
  let vs := ((usedSensors s).map (speedOf s)).filter (fun v => decide (tolAbs s < v.natAbs))
  if vs.isEmpty then 0
  else if vs.all (fun v => decide (0 < v)) then 1
  else if vs.all (fun v => decide (v < 0)) then 2
  else 3

/-- Limit of an entry in mm/s (R315). -/
def limitOf (s : State) (k : Nat) : Nat := 10 * fld s (Reg.motionLimit k) 15 0

/-- The gates act on the outputs (R309). -/
def applyGates (s : State) : State :=
  let still := bit s Reg.motionStatus 1
  let slow := bit s Reg.motionStatus 2 && !bit s Reg.motionStatus 3
  settleOuts allOuts (fun s =>
    allOuts.foldl (fun s n =>
      let g := (bit s Reg.motionGateStill (n - 1) && !still) || (bit s Reg.motionGateSls (n - 1) && !slow)
      if (dout s n).gated = g then s else endPulseIfOff n (setDout s n { dout s n with gated := g })) s) s

/-- VALID, SAFE_SPEED, DIRECTION, STANDSTILL and WITHIN_LIMIT follow from the sensors, the latches and the limit in force
(R304, R306, R308); a change of STANDSTILL is reported, and the gates follow. -/
def deriveResults (s : State) : State :=
  let used := usedSensors s
  let valid := bit s Reg.motionCfg 0 && decide (2 ≤ used.length) && !bit s Reg.motionStatus 4
  let speed := if valid then (used.map (fun i => (speedOf s i).natAbs)).foldl max 0 else 0
  let still := valid && used.all (fun i => bit s (Reg.motionSensorStatus i) 1)
  let was := bit s Reg.motionStatus 1
  let limit := limitOf s (fld s Reg.motionStatus 19 16)
  let s := setReg s Reg.motionLimitNow (BitVec.ofNat 32 limit)
  let s := setReg s Reg.motionSafeSpeed (BitVec.ofNat 32 speed)
  let s := setBit (setBit s Reg.motionStatus 0 valid) Reg.motionStatus 1 still
  let s := setBit s Reg.motionStatus 2 (valid && decide (speed ≤ limit))
  let s := setFld s Reg.motionStatus 6 5 (if bit s Reg.motionCfg 0 then direction s else 0)
  let overAt := if limit < speed then some (s.motion.overAt.getD (rawNow s)) else none
  let s := { s with motion := { s.motion with overAt := overAt } }
  let s := if still = was then s else raise Ev.standstillChanged 0xFF (motionDetail s) (if still then 1 else 0) s
  applyGates s

/-- The entry in force with its limit (R307): the accepted selection, else entry 0 by default. -/
def takeSelection (s : State) : State :=
  let k := s.motion.selected.getD 0
  let s := setBit (setFld s Reg.motionStatus 19 16 k) Reg.motionStatus 20 s.motion.selected.isNone
  setReg s Reg.motionLimitNow (BitVec.ofNat 32 (limitOf s k))

/-- The tick at a whole millisecond (R303 to R309); with ENABLE = 0 the results are those of VALID = 0. -/
def motionTick (s : State) : State :=
  let ms := (corrected s).toNat / 1000000
  if ¬islandOk s ∨ ms = s.motion.tickMs then s
  else
    let s := { s with motion := { s.motion with tickMs := ms } }
    if bit s Reg.motionCfg 0 then
      let t := 1000000 * ms
      let s := takeSelection s
      let s := allSensors.foldl (fun s i =>
        let s := setReg s (Reg.motionSensorSpeed i) (BitVec.ofInt 32 (sensorSpeed s i t))
        setBit s (Reg.motionSensorStatus i) 1 (sensorStill s i t)) s
      let s := { s with freeCount := s.freeCount + 5 }
      let s := { s with motion := { s.motion with implaus := trackPairs s } }
      deriveResults s
    else deriveResults s

/-- MOTION_TICK (R303). -/
def execMotionTick (s : State) : Host.Outcome State Fault Refusal := .next (motionTick s)

/-- DISC_TIME as raw time (R304, R315). -/
def discRaw (s : State) : Nat := msRaw (10 * max 1 (fld s Reg.motionPlaus 31 24))

/-- A condition of R304 has held without break for DISC_TIME. -/
def heldLong (s : State) (k : Nat) : Bool :=
  match s.motion.implaus.find? (fun x => x.1 = k) with
  | some (_, t) => decide (discRaw s ≤ rawNow s - t)
  | none => false

/-- A pair of used sensors has been implausible for DISC_TIME (R304): PLAUS_FAULT latches. -/
def plausFault (a b : Nat) (s : State) : State :=
  let i := min a b
  let j := max a b
  let sign := heldLong s (64 + 8 * i + j)
  if motionOn s ∧ i ≠ j ∧ ¬bit s Reg.motionStatus 4 ∧ (heldLong s (8 * i + j) ∨ sign) then
    let diff := (speedOf s i - speedOf s j).natAbs % 2 ^ 31 + (if sign then 2 ^ 31 else 0)
    let s := stick (setBit s Reg.motionStatus 4 true) Reg.motionError 1
    deriveResults (raise Ev.plausFault (i + 16 * j) (motionDetail s) diff s)
  else s

/-- PLAUS_FAULT (R304). -/
def execPlausFault (i j : Fin 4) (s : State) : Host.Outcome State Fault Refusal :=
  .next (plausFault (i.val + 1) (j.val + 1) s)

/-- SAFE_SPEED has been above LIMIT for LIMIT_TIME (R308): SLS_LATCHED. -/
def slsViolation (s : State) : State :=
  match s.motion.overAt with
  | some t =>
    if motionOn s ∧ ¬bit s Reg.motionStatus 3 ∧ msRaw (max 1 (fld s Reg.motionCfg 23 16)) ≤ rawNow s - t then
      let s := stick (setBit s Reg.motionStatus 3 true) Reg.motionError 0
      applyGates (raise Ev.slsViolation 0xFF (motionDetail s) (getReg s Reg.motionLimitNow).toNat s)
    else s
  | none => s

/-- SLS_VIOLATION (R308). -/
def execSlsViolation (s : State) : Host.Outcome State Fault Refusal := .next (slsViolation s)

/-- Holm receives the oldest selection message (R307), accepted as R289 accepts a refresh; it applies from the next tick. -/
def selectionRx (crcOk : Bool) (s : State) : State :=
  match s.motion.link with
  | [] => s
  | (k, sq) :: rest =>
    let s := { s with motion := { s.motion with link := rest } }
    if motionOn s ∧ crcOk ∧ s.motion.lastBit ≠ some sq then
      { s with motion := { s.motion with selected := some k, selAt := rawNow s, lastBit := some sq } }
    else s

/-- MOTION_SELECTION_RX (R307). -/
def execMotionSelectionRx (crcOk : Bool) (s : State) : Host.Outcome State Fault Refusal := .next (selectionRx crcOk s)

/-- No selection has been accepted for SEL_SILENCE (R307): entry 0 applies, and SEL_DEFAULT is raised. -/
def selDefault (s : State) : State :=
  let quiet := rawNow s - s.motion.selAt
  let limit := msRaw (min 1000 (max 1 (fld s Reg.motionSelSrc 27 18)))
  if motionOn s ∧ s.motion.selected.isSome ∧ limit ≤ quiet then
    let s := takeSelection { s with motion := { s.motion with selected := none } }
    raise Ev.selDefault 0xFF (motionDetail s) (quiet / msRaw 1) (stick s Reg.motionError 5)
  else s

/-- SEL_DEFAULT (R307). -/
def execSelDefault (s : State) : Host.Outcome State Fault Refusal := .next (selDefault s)

/-! ### Reset (R311, R312) -/

/-- Some latch of the unit is set. -/
def anyLatch (s : State) : Bool :=
  bit s Reg.motionStatus 3 || bit s Reg.motionStatus 4 || allSensors.any (fun i => !sensorOk s i)

/-- The conditions of a reset hold at a tick of `t` ns, over every selected sensor (R311). -/
def resetClear (s : State) (t : Nat) : Bool :=
  let sel := allSensors.filter (sensorSelected s)
  let speed := (sel.map (fun i => (sensorSpeed s i t).natAbs)).foldl max 0
  decide (speed ≤ limitOf s (fld s Reg.motionStatus 19 16)) && sel.all (fun i => sensorStill s i t)

/-- All latches are cleared together (R311). -/
def clearLatches (s : State) : State :=
  allSensors.foldl (fun s i =>
    let s := setFld (setBit s (Reg.motionSensorStatus i) 0 true) (Reg.motionSensorStatus i) 3 2 0
    setSensor (setBit s Reg.motionStatus (i + 7) true) i { sensor s i with quads := [], run := none })
    (setBit (setBit s Reg.motionStatus 3 false) Reg.motionStatus 4 false)

/-- The request of a valid press is judged at the next tick (R311). -/
def resetJudge (s : State) : State :=
  let t := (corrected s).toNat / 1000000 * 1000000
  match s.motion.judge with
  | some (h, fell) =>
    if motionOn s ∧ fell ≤ t then
      let s := { s with motion := { s.motion with judge := none } }
      if anyLatch s ∧ ¬resetClear s t then resetRefused 2 s
      else
        let s := if anyLatch s then clearLatches s else s
        let s := { s with motion := { s.motion with resets := (s.motion.resets + 1) % 65536 } }
        deriveResults (raise Ev.resetAccepted (fld s Reg.motionResetCfg 5 0) (motionDetail s) h s)
    else s
  | none => s

/-- RESET_JUDGE (R311). -/
def execResetJudge (s : State) : Host.Outcome State Fault Refusal := .next (resetJudge s)

/-- The tick after the reset input has been high for more than 5 s (R312). -/
def resetJammed (s : State) : State :=
  match s.motion.press with
  | some (rise, t, accepted) =>
    let tick := (corrected s).toNat / 1000000 * 1000000
    let long := decide (t.toNat < tick) && (if accepted then decide (t.toNat + 5000000000 < tick) else decide (msRaw 5000 < rawNow s - rise))
    if motionOn s ∧ long ∧ ¬bit s Reg.motionStatus 7 then
      let m := fld s Reg.motionResetCfg 5 0
      let s := stick (setBit s Reg.motionStatus 7 true) Reg.motionError 3
      raise Ev.resetJammed m (motionDetail s) m s
    else s
  | none => s

/-- RESET_JAMMED (R312). -/
def execResetJammed (s : State) : Host.Outcome State Fault Refusal := .next (resetJammed s)

/-! ### Set-up (R315) -/

/-- A refusal of the MOTION block (R315, R316). -/
def refuseMotion (reason key : Nat) (s : State) : State :=
  refuseCfg s Reg.motionCfgResult Ev.motionCfgRefused reason key 0xFF (motionDetail s)

/-- Refusal reason and register of setting ENABLE with a MOTION_CFG value (R315), in the order of the codes. -/
def motionReason (s : State) (v : Word) : Option (Nat × Nat) :=
  let sel := allSensors.filter (fun i => v.getLsbD (i + 3))
  let badMap := fun (map : Nat → Nat) (size : Nat) => (List.range 16).find? (fun i =>
    bit s (map i) 31 && !inImage s i (16 * fld s (map i) 19 0) size)
  if sel.length < 2 then some (2, Reg.motionCfg)
  else match sel.find? (fun i => decide (fld s (Reg.motionSensorCfg i) 9 0 < 770)
      || decide (920 < fld s (Reg.motionSensorCfg i) 9 0)) with
  | some i => some (3, Reg.motionSensorCfg i)
  | none => match sel.find? (fun i => decide (fld s (Reg.motionSensorCfg i) 21 12 = 0)) with
  | some i => some (4, Reg.motionSensorCfg i)
  | none => match badMap Reg.motionImgMap 32 with
  | some i => some (5, Reg.motionImgMap i)
  | none => match badMap Reg.motionSpdMap 64 with
  | some i => some (5, Reg.motionSpdMap i)
  | none =>
    if 48 < fld s Reg.motionResetCfg 5 0 then some (6, Reg.motionResetCfg)
    else if ¬inRegion s 3 (64 * fld s Reg.motionSelSrc 17 0) 4 then some (7, Reg.motionSelSrc)
    else none

/-- The unit starts: entry 0 applies, and a high reset input begins a press without a rising change (R307, R311). -/
def motionStart (s : State) : State :=
  let m := fld s Reg.motionResetCfg 5 0
  let press := if m ≠ 0 ∧ diLevel s m then some (rawNow s, corrected s, false) else none
  takeSelection { s with motion :=
    { s.motion with selected := none, selAt := rawNow s, press := press, judge := none, implaus := [], overAt := none } }

/-- A committed write of MOTION_CFG (R315). -/
def writeMotionCfg (v : Word) (s : State) : State :=
  let k := Reg.motionCfg
  let old := getReg s k
  if old.getLsbD 0 then
    if v.getLsbD 0 then (if v = old then s else refuseMotion 1 k s)
    else if v ||| 1 = old then setReg s k v
    else refuseMotion 1 k s
  else if v.getLsbD 0 then
    match motionReason s v with
    | some (why, reg) => refuseMotion why reg s
    | none => motionStart (setReg s k v)
  else setReg s k v

/-- A committed write of another MOTION register (R315): only while ENABLE = 0. -/
def writeMotion (k : Nat) (v : Word) (s : State) : State :=
  if bit s Reg.motionCfg 0 then (if v = getReg s k then s else refuseMotion 1 k s) else setReg s k v

/-- MOTION_ENABLE (R315). -/
def execMotionEnable (v : Word) (s : State) : Host.Outcome State Fault Refusal :=
  .next (writeMotionCfg (committed s Reg.motionCfg (v ||| 1)) s)

/-! ### The SPD and MOTION parts of a SAMPLE (R310) -/

/-- The SPD record. -/
def spdRecord (s : State) : List Byte :=
  if ¬islandOk s then List.replicate 64 0
  else
    let okBits := (allSensors.map (fun i => if sensorOk s i then 2 ^ (i - 1) else 0)).sum
    let still := (allSensors.map (fun i => if bit s (Reg.motionSensorStatus i) 1 then 2 ^ (i - 1) else 0)).sum
    allSensors.flatMap (fun i => leBytes 4 (sensor s i).cntA.toNat ++ leBytes 4 (sensor s i).cntB.toNat)
      ++ allSensors.flatMap (fun i => leBytes 4 (getReg s (Reg.motionSensorPos i)).toNat)
      ++ leBytes 1 okBits ++ leBytes 1 still ++ List.replicate 14 0

/-- The motion record. -/
def motionRecord (s : State) : List Byte :=
  if ¬islandOk s then List.replicate 32 0
  else
    leBytes 4 (getReg s Reg.motionSafeSpeed).toNat
      ++ allSensors.flatMap (fun i => leBytes 4 (getReg s (Reg.motionSensorSpeed i)).toNat)
      ++ leBytes 1 (fld s Reg.motionStatus 7 0)
      ++ leBytes 1 (fld s Reg.motionStatus 19 16 + 128 * fld s Reg.motionStatus 20 20)
      ++ leBytes 2 s.motion.resets ++ leBytes 4 (getReg s Reg.motionLimitNow).toNat ++ List.replicate 4 0

/-- The SPD source of a SAMPLE of an image. -/
def sampleSpd (img : Nat) (s : State) : State := putMapped (Reg.motionSpdMap img) img (spdRecord s) s

/-- The MOTION source of a SAMPLE of an image; standstill is confirmed by the record written (R306), and safe force entries
leave when it no longer is (R162). -/
def sampleMotion (img : Nat) (s : State) : State :=
  if bit s (Reg.motionImgMap img) 31 then
    let now := islandOk s && bit s Reg.motionStatus 1
    let s := if s.force.standstill ∧ ¬now then { s with force := { s.force with dropSafe := true } } else s
    putMapped (Reg.motionImgMap img) img (motionRecord s) { s with force := { s.force with standstill := now } }
  else s

/-! ### Power of the island (R284, R285, R290, R314) -/

/-- Inputs as Holm finds them at its power-up: only the voltages of the terminals are there already. -/
def terminals (s : State) : Tab HolmIn := s.holm.ins.map (fun x => (x.1, { holmIn0 with volts := x.2.volts }))

/-- Holm powers up: filters start at the present levels, counters, positions and latches are clear, groups IDLE, outputs at
SAFE_STATE. -/
def holmPowerUp (di : BitVec 48) (spd : BitVec 8) (s : State) : State :=
  let s := { s with holm := { holm0 with ins := terminals s, power := true } }
  let s := (List.range 48).foldl (fun s i =>
    if di.getLsbD i then setDin s (i + 1) { din s (i + 1) with raw := true, since := rawNow s } else s) s
  let s := setReg s Reg.holmStatus 1
  let s := setReg (setReg s Reg.holmDiLo (di.extractLsb' 0 32)) Reg.holmDiHi ((di.extractLsb' 32 16).setWidth 32)
  let s := setReg (setReg s Reg.holmDoReadback 0) Reg.holmDoFault 0
  let s := [1, 2, 3, 4].foldl (fun s c => setReg s (Reg.holmConnStatus c) 0) s
  let s := allOuts.foldl (fun s n => setReg s (Reg.holmDoStatus n) 0) s
  let s := { s with motion := { motion0 with powerAt := rawNow s, selAt := rawNow s } }
  let s := allSensors.foldl (fun s i =>
    let s := setSensor s i { sensor0 with a := spd.getLsbD (2 * i - 2), b := spd.getLsbD (2 * i - 1) }
    let s := setReg (setReg s (Reg.motionSensorPos i) 0) (Reg.motionSensorSpeed i) 0
    setReg s (Reg.motionSensorStatus i) 1) s
  let s := setReg s Reg.motionStatus 0x00100F00
  let s := setReg (setReg s Reg.motionSafeSpeed 0) Reg.motionLimitNow (BitVec.ofNat 32 (limitOf s 0))
  let s := allOuts.foldl (fun s n => showSwitch n s) s
  if bit s Reg.motionCfg 0 then motionStart s else s

/-- Holm loses its power (R367, R394): every output is OFF. -/
def holmPowerDown (s : State) : State :=
  let s := { s with holm := { holm0 with ins := terminals s }, motion := motion0 }
  let s := setReg (setReg s Reg.holmStatus 0) Reg.holmDoReadback 0
  let s := allOuts.foldl (fun s n => setReg s (Reg.holmDoStatus n) 0) s
  [1, 2, 3, 4].foldl (fun s c => setReg s (Reg.holmConnStatus c) 0) s

end Sys2Proof.Machine
end

