-- ==== Sys2Proof/Machine/Transit.lean ====
section
/-!
DEFINITION. The Transit clock (07_transit_clock.md): re-base, synchronisation and servo, the PTP clock (R174 to R176; the
message exchanges and the best-master comparison are those of IEC 61588, assumption log 20), the transmit time-stamp queue,
X_TIME.
-/

namespace Sys2Proof.Machine

/-! ### Ports -/

/-- Plane of a port (R175). -/
def planeOfPort (p : Nat) : Nat := if p < 4 ∨ p = 8 then 0 else 1

/-- Link of an external port. -/
def linkUp (s : State) (p : Nat) : Bool := bit s (Reg.netPortStatus p) 0

/-- Count in TX_DISCARDS. -/
def txDiscard (p : Nat) (s : State) : State := satAdd s (Reg.netPortStatus p) 31 16 1

/-- Egress queue of a port and priority. -/
def egressQ (s : State) (p pcp : Nat) : List EthFrame := tget [] s.net.egress (p * 8 + pcp)

/-- An egress queue takes a frame: the link is up and the queue is not full (R187). -/
def egressRoom (s : State) (p pcp : Nat) : Bool := linkUp s p && decide ((egressQ s p pcp).length < Config.egressDepth)

/-- A frame enters an egress queue, or is discarded and counted where the link is down or the queue is full (R187). -/
def toEgress (p pcp : Nat) (f : EthFrame) (s : State) : State :=
  if egressRoom s p pcp then { s with net := { s.net with egress := tset [] s.net.egress (p * 8 + pcp) (egressQ s p pcp ++ [f]) } }
  else txDiscard p s

/-- The frame of a PTP message.  Its addresses and tag are not modelled: it is switched by PTP_EVENT_FORWARD. -/
def ptpFrame (m : PtpMsg) : EthFrame := { dst := 0, src := 0, tag := none, checks := true, body := .ptp m, bytes := [] }

/-- A PTP message leaves at a port: through the port's egress queue (R187) at the priority of untagged frames, or at an internal
port into the engine. -/
def sendPtp (p pcp : Nat) (m : PtpMsg) (s : State) : State :=
  if p < 8 then toEgress p pcp (ptpFrame m) s else emitOut s (.ptp p m)

/-! ### Re-base, synchronisation, servo -/

/-- A re-base (R168): BASE_RAW takes the raw value, BASE_TIME the corrected time of it plus the step, RATE its new value. -/
def rebase (newRate step : Int) (s : State) : State :=
  let t := corrected s + BitVec.ofInt 64 step
  let raw := s.time.raw
  let s := set64 s Reg.transitBaseTimeLo t
  let s := set64 s Reg.transitBaseRawLo (raw.extractLsb' 8 64)
  let s := setReg s Reg.transitBaseRawFrac ((raw.extractLsb' 0 8).zeroExtend 32)
  setReg s Reg.transitRate (BitVec.ofInt 32 newRate)

/-- TRANSIT_STATUS.STATE: 0 FREE, 1 ACQUIRING, 2 SYNCED, 3 HOLDOVER. -/
def syncState (s : State) : Nat := fld s Reg.transitStatus 1 0

/-- STATE changes; the runs of measurements that decide the next change start anew. -/
def setSync (n : Nat) (s : State) : State :=
  setFld { s with time := { s.time with lockRun := 0, lossRun := 0 } } Reg.transitStatus 1 0 n

/-- The internal port that is the reference, 0xFF for the pulse input or none (R184). -/
def refPort (s : State) : Nat :=
  match fld s Reg.transitStatus 5 4 with
  | 1 => 8 | 2 => 9 | _ => 0xFF

/-- Offset in ns as DETAIL_A shows it (R184). -/
def offsetDetail (o : Int) : Nat := toTwos 64 o

/-- TRANSIT_CFG.SOURCE; 0b11 is treated as FREE (R183). -/
def syncSource (s : State) : Nat := fld s Reg.transitCfg 1 0 % 3

/-- LOCK_THRESHOLD in ns. -/
def lockThreshold (s : State) : Int := 10 * (max 1 (fld s Reg.transitCfg 23 16) : Nat)

/-- A value limited to -l .. l. -/
def clampTo (l x : Int) : Int := max (-l) (min l x)

/-- The servo (R172): accumulator and RATE from an offset, OFFSET_HIGH above 1 ms, RATE_LIMITED on entry into the limit. -/
def servo (port : Nat) (o : Int) (s : State) : State :=
  let l : Int := (max 1 (fld s Reg.transitServo 30 16) : Nat) * 65536
  let kp := fld s Reg.transitServo 4 0
  let ki := fld s Reg.transitServo 12 8
  let acc := clampTo l (s.time.acc - o * 65536 / 2 ^ ki)
  let r := clampTo l (acc - o * 65536 / 2 ^ kp)
  let s := rebase r 0 { s with time := { s.time with acc := acc } }
  let lim := decide (r = l) || decide (r = -l)
  let entered := lim && !s.time.atLimit
  let s := { s with time := { s.time with atLimit := lim } }
  let s := if entered then raise Ev.rateLimited port (offsetDetail o) (toTwos 32 r) s else s
  let lately := match s.time.offHighAt with
    | some t => decide (rawNow s < t + msRaw 1000)
    | none => false
  if 1000000 < o.natAbs then
    let s := stick s Reg.transitError 2
    if lately then s
    else raise Ev.offsetHigh port (offsetDetail o) (toTwos 32 (rate s))
      { s with time := { s.time with offHighAt := some (rawNow s) } }
  else s

/-- Corrected time is valid (R171): TRANSIT_STATUS and SKERRY_STATUS show it. -/
def markValid (s : State) : State := setBit (setBit s Reg.transitStatus 3 true) Reg.skerryStatus 3 true

/-- The step of R171: BASE_TIME less the offset, STEPPED, TRANSIT_STEP, TIME_VALID, and the microtick phase kept (R179). -/
def stepTime (port : Nat) (o : Int) (s : State) : State :=
  let s := rebase (rate s) (-o) s
  let s := { s with time := { s.time with phase := s.time.phase - o } }
  let s := markValid (setBit s Reg.transitStatus 2 true)
  let s := set64 s Reg.transitStepLo (BitVec.ofInt 64 (-o))
  raise Ev.timeStepped port (offsetDetail o) 1 s

/-- The synchronisation state after a measurement (R170). -/
def syncTransition (port : Nat) (o : Int) (s : State) : State :=
  let small := decide ((o.natAbs : Int) ≤ lockThreshold s)
  match syncState s with
  | 0 | 3 => setSync 1 s
  | 1 =>
    let run := if small then s.time.lockRun + 1 else 0
    let s := { s with time := { s.time with lockRun := run } }
    if 8 ≤ run then
      let s := setSync 2 s
      let s := if bit s Reg.transitCfg 2 then s else markValid s
      raise Ev.syncAchieved port (offsetDetail o) (toTwos 32 (rate s)) s
    else s
  | _ =>
    let run := if small then 0 else s.time.lossRun + 1
    let s := { s with time := { s.time with lossRun := run } }
    if 4 ≤ run then
      raise Ev.syncDegraded port (offsetDetail o) (fld s Reg.transitCfg 23 16) (setSync 1 s)
    else s

/-- A valid offset measurement from the selected reference (R170 to R172).  Before the first start of the Chronograph since power came
up it is shown and nothing follows from it; from a restart on to the next start the run's synchronisation goes on (assumption log
20). -/
def measure (port : Nat) (o : Int) (s : State) : State :=
  let first := !s.time.measured
  let s := setReg s Reg.transitOffset (BitVec.ofInt 32 (max (-2147483648) (min 2147483647 o)))
  if ¬s.time.started ∧ first then s
  else
    let s := { s with time := { s.time with measured := true, lastMeas := rawNow s, lastRef := port } }
    let s := syncTransition port o s
    if first ∧ bit s Reg.transitCfg 2 then stepTime port o s else servo port o s

/-- SYNC_TIMEOUT has passed without a valid measurement (R170): HOLDOVER, with the port that was the reference (R184). -/
def syncLost (s : State) : State :=
  let limit := msRaw (10 * max 1 (fld s Reg.transitCfg 15 8))
  if (syncState s = 1 ∨ syncState s = 2) ∧ limit ≤ rawNow s - s.time.lastMeas then
    let s := stick (setSync 3 s) Reg.transitError 1
    raise Ev.syncLost s.time.lastRef (offsetDetail (getReg s Reg.transitOffset).toInt) (toTwos 32 (rate s)) s
  else s

/-- SYNC_LOST (R170). -/
def execSyncLost (s : State) : Host.Outcome State Fault Refusal := .next (syncLost s)

/-- The Transit clock at a start of the Chronograph (R170 to R172): FREE, no step taken, accumulator at RATE, phase at whole
microseconds. -/
def startTransit (s : State) : State :=
  let s := setBit (setSync 0 s) Reg.transitStatus 2 false
  { s with time := { s.time with started := true, measured := false, acc := rate s, phase := 0, atLimit := false } }

/-! ### PTP ports -/

/-- A PTP port before any message. -/
def port0 : PtpPort :=
  { delay := none, request := none, pdResp := none, ms := none, sync := none, nextSync := 0, nextDelay := 0, nextAnn := 0,
    sentAt := [], due := [], best := none, lastAnn := 0 }

/-- A PTP port. -/
def ptpPort (s : State) (p : Nat) : PtpPort := tget port0 s.ptp.ports p

/-- The state with a PTP port replaced. -/
def setPtpPort (s : State) (p : Nat) (x : PtpPort) : State :=
  { s with ptp := { s.ptp with ports := tset port0 s.ptp.ports p x } }

/-- The clock port of an external port's plane (R175). -/
def clockPort (p : Nat) : Nat := if p < 4 then 8 else if p < 8 then 9 else p

/-- The module's clockIdentity: its MAC address as an EUI-64 (assumption log 20). -/
def ownClock (s : State) : Dword :=
  let hi := (getReg s Reg.netMacHi).toNat % 65536
  let lo := (getReg s Reg.netMacLo).toNat
  BitVec.ofNat 64 (hi * 2 ^ 48 + lo / 2 ^ 24 * 2 ^ 40 + 0xFFFE * 2 ^ 24 + lo % 2 ^ 24)

/-- Identity of a port of the module. -/
def ownPort (s : State) (p : Nat) : PortId := ⟨ownClock s, BitVec.ofNat 16 (p + 1)⟩

/-- The clock takes part on a clock port (R183 ROLE), whatever its own reference is. -/
def clockEnabled (s : State) (cp : Nat) : Bool :=
  match fld s Reg.transitPtpCfg 11 10 with
  | 1 => decide (cp = 8)
  | 2 => decide (cp = 9)
  | 3 => decide (cp = 8 ∨ cp = 9)
  | _ => false

/-- The domain number; 128 to 255 are treated as 0 (R183). -/
def ptpDomain (s : State) : Nat := if fld s Reg.transitPtpCfg 7 0 < 128 then fld s Reg.transitPtpCfg 7 0 else 0

/-- The transport mapping of the clock (R174, R183): a message of the other mapping is no message of the clock. -/
def ptpUdp (s : State) : Bool := bit s Reg.transitPtpCfg 9

/-- Peer delay is the mechanism (R183). -/
def peerDelay (s : State) : Bool := bit s Reg.transitPtpCfg 8

/-- Raw time of a logarithmic interval. -/
def intervalRaw (log : Int) : Nat :=
  if 0 ≤ log then 64000000000 * 2 ^ log.toNat else 64000000000 / 2 ^ (-log).toNat

/-- logSyncInterval in its range of R174. -/
def logSync (s : State) : Int := max (-7) (min 2 (signedOf 8 (fld s Reg.transitPtpIntervals 7 0)))
/-- logMinDelayReqInterval or logMinPdelayReqInterval. -/
def logDelay (s : State) : Int := max (-7) (min 5 (signedOf 8 (fld s Reg.transitPtpIntervals 15 8)))
/-- logAnnounceInterval. -/
def logAnnounce (s : State) : Int := max (-3) (min 4 (signedOf 8 (fld s Reg.transitPtpIntervals 23 16)))
/-- announceReceiptTimeout. -/
def announceTimeout (s : State) : Nat := max 2 (fld s Reg.transitPtpIntervals 27 24)

/-- TRANSIT_PORT_STATE of a clock port. -/
def portState (s : State) (cp : Nat) : Nat := if cp = 8 then fld s Reg.transitPortState 3 0 else fld s Reg.transitPortState 7 4

/-- The state of a clock port replaced. -/
def setPortState (s : State) (cp n : Nat) : State :=
  if cp = 8 then setFld s Reg.transitPortState 3 0 n else setFld s Reg.transitPortState 7 4 n

/-- The clock runs on a clock port: the port is not DISABLED. -/
def clockOn (s : State) (cp : Nat) : Bool := clockEnabled s cp && decide (portState s cp ≠ 0)

/-! ### Best master -/

/-- announceReceiptTimeout intervals have passed on a clock port without an Announce (R174). -/
def announceOver (s : State) (cp : Nat) : Bool :=
  decide (announceTimeout s * intervalRaw (logAnnounce s) ≤ rawNow s - (ptpPort s cp).lastAnn)

/-- Data sets of different grandmasters in the order of IEC 61588: the better one first. -/
def dataRank (d : DataSet) : Nat :=
  ((((d.priority1.toNat * 256 + d.class_.toNat) * 256 + d.accuracy.toNat) * 65536 + d.variance.toNat) * 256
    + d.priority2.toNat) * 2 ^ 64 + d.gm.toNat

/-- One candidate is better than another: by grandmaster, then by steps, then by sender. -/
def betterData (a b : PortId × DataSet) : Bool :=
  if a.2.gm = b.2.gm then
    if a.2.steps = b.2.steps then
      decide (a.1.clock.toNat * 65536 + a.1.port.toNat < b.1.clock.toNat * 65536 + b.1.port.toNat)
    else decide (a.2.steps.toNat < b.2.steps.toNat)
  else decide (dataRank a.2 < dataRank b.2)

/-- The module's own data set: class 248, or 255 when it is slave-only (assumption log 20). -/
def ownData (s : State) : PortId × DataSet :=
  (⟨ownClock s, 0⟩,
   { priority1 := BitVec.ofNat 8 (fld s Reg.transitPtpCfg 23 16), class_ := if bit s Reg.transitPtpCfg 12 then 248 else 255,
     accuracy := 0xFE, variance := 0xFFFF, priority2 := BitVec.ofNat 8 (fld s Reg.transitPtpCfg 31 24), gm := ownClock s,
     steps := 0 })

/-- The better of two optional candidates. -/
def bestOf (a b : Option (PortId × DataSet)) : Option (PortId × DataSet) :=
  match a, b with
  | some x, some y => if betterData y x then some y else some x
  | some x, none => some x
  | none, y => y

/-- The state decision for one clock port (IEC 61588): the port with the best candidate becomes the reference; a LISTENING port of a
clock that may be grandmaster waits for its Announce timeout. -/
def decidePort (best : Option (PortId × DataSet)) (cp : Nat) (s : State) : State :=
  if !(clockOn s cp) then setPortState s cp 0
  else
    let gmCapable := bit s Reg.transitPtpCfg 12
    let mine := (ptpPort s cp).best
    match best with
    | none => setPortState s cp (if gmCapable ∧ (portState s cp ≠ 1 ∨ announceOver s cp) then 4 else 1)
    | some e =>
      if gmCapable ∧ betterData (ownData s) e then setPortState s cp 4
      else if mine = some e then setPortState s cp (if portState s cp = 3 then 3 else 2)
      else match mine with
        | some m => setPortState s cp (if m.2.gm = e.2.gm then 5 else 4)
        | none => setPortState s cp 4

/-- A clock port is UNCALIBRATED or SLAVE. -/
def isSlave (s : State) (cp : Nat) : Bool := decide (portState s cp = 2 ∨ portState s cp = 3)

/-- REFERENCE and ROLE as SOURCE and the port states give them (R175, R183). -/
def showReference (s : State) : State :=
  let ref := match syncSource s with
    | 1 => if isSlave s 8 then 1 else if isSlave s 9 then 2 else 0
    | 2 => 3
    | _ => 0
  let role := if isSlave s 8 || isSlave s 9 then 1 else if portState s 8 = 4 ∨ portState s 9 = 4 then 2 else 0
  setFld (setFld s Reg.transitStatus 5 4 ref) Reg.transitStatus 7 6 role

/-- The state decision of both ports, REFERENCE, ROLE, and MASTER_CHANGED for a new grandmaster (R175, R184). -/
def bestMaster (s : State) : State :=
  let cand := fun cp => if clockOn s cp then (ptpPort s cp).best else none
  let best := bestOf (cand 8) (cand 9)
  let s := showReference (decidePort best 9 (decidePort best 8 s))
  let slave := isSlave s
  let gm := if slave 8 ∨ slave 9 then best.map (·.2.gm) else none
  if gm = s.ptp.gm then s
  else
    let s := { s with ptp := { s.ptp with gm := gm } }
    match gm with
    | some g =>
      let cp := if slave 8 then 8 else 9
      raise Ev.masterChanged cp g.toNat (portState s cp) s
    | none => s

/-- The valid peer delays of the external ports (R170, R183): measured, with peer delay as the mechanism, no longer than 4 delay
intervals ago. -/
def pdelayBits (s : State) : Nat :=
  ((List.range 8).map (fun p =>
    match (ptpPort s p).delay with
    | some (_, t) => if peerDelay s ∧ rawNow s - t ≤ 4 * intervalRaw (logDelay s) then 2 ^ p else 0
    | none => 0)).sum

/-- PDELAY_VALID follows the ports' peer delays (R183). -/
def showPdelays (s : State) : State :=
  if fld s Reg.transitPortState 15 8 = 0 then s else setFld s Reg.transitPortState 15 8 (pdelayBits s)

/-- The peer delay of a port is dropped: its link has gone. -/
def dropPdelay (p : Nat) (s : State) : State :=
  showPdelays (setPtpPort s p { ptpPort s p with delay := none, request := none, pdResp := none })

/-- The PTP clock follows its set-up (R174, R175, R183): an enabled port that was DISABLED begins LISTENING, one no longer enabled is
DISABLED, and the state decision runs. -/
def followPtp (s : State) : State :=
  let s := [8, 9].foldl (fun s cp =>
    if !(clockEnabled s cp) then setPtpPort (setPortState s cp 0) cp port0
    else if portState s cp = 0 then setPortState (setPtpPort s cp { port0 with lastAnn := rawNow s }) cp 1
    else s) s
  bestMaster (showPdelays s)

/-! ### Messages -/

/-- correctionField in whole ns, floored. -/
def corrNs (m : PtpMsg) : Int := m.correction.toInt / 65536

/-- Time stamp at the ingress of an external port (R176, R183): INGRESS is taken off, as a latency. -/
def ingressTime (s : State) (p : Nat) : Dword :=
  if p < 8 then corrected s - BitVec.ofInt 64 (signedOf 16 (fld s (Reg.transitLatency p) 15 0)) else corrected s

/-- Time stamp at the egress of a port: EGRESS is added. -/
def egressTime (s : State) (p : Nat) : Dword :=
  if p < 8 then corrected s + BitVec.ofInt 64 (signedOf 16 (fld s (Reg.transitLatency p) 31 16)) else corrected s

/-- Difference of two times in ns. -/
def timeDiff (a b : Dword) : Int := (a - b).toInt

/-- The time-stamp queue replaced, with FILLED (R183). -/
def setTsq (s : State) (q : List TsqEntry) : State :=
  setFld { s with time := { s.time with tsq := q } } Reg.transitTsqStatus 5 0 q.length

/-- messageType of an event message. -/
def eventType : PtpKind → Nat
  | .sync => 0 | .delayReq => 1 | .pdelayReq => 2 | .pdelayResp => 3 | .followUp => 8 | .delayResp => 9
  | .pdelayRespFollowUp => 10 | .announce => 11 | .signaling => 12 | .management => 13

/-- The time stamp of an event message sent in a domain, taken out of the queue (R177). -/
def takeStamp (s : State) (port dom mtype seq : Nat) : Option Dword × State :=
  match s.time.tsq.find? (fun e => decide (e.port = port) && decide (e.mtype = mtype) && decide (e.seq = seq)
      && decide (e.domain = dom)) with
  | some e => (some e.time, setTsq s (s.time.tsq.erase e))
  | none => (none, s)

/-- The delay that a Sync on an external port has: the path delay of its clock port, or the port's peer delay, when it is
no older than 4 delay intervals (R170). -/
def delayFor (s : State) (ext cp : Nat) : Option Int :=
  let p := ptpPort s (if peerDelay s then ext else cp)
  match p.delay with
  | some (d, t) => if rawNow s - t ≤ 4 * intervalRaw (logDelay s) then some d else none
  | none => none

/-- TRANSIT_MEAN_DELAY, saturating (R183). -/
def showDelay (d : Int) (s : State) : State :=
  setReg s Reg.transitMeanDelay (BitVec.ofInt 32 (max (-2147483648) (min 2147483647 d)))

/-- A port's measured delay, with its register: the reference port's in MEAN_DELAY, PDELAY_VALID of an external port (R183). -/
def setDelay (s : State) (p : Nat) (d : Int) : State :=
  let s := setPtpPort s p { ptpPort s p with delay := some (d, rawNow s) }
  let s := if p = refPort s then showDelay d s else s
  if p < 8 then setBit s Reg.transitPortState (8 + p) true else s

/-- A Follow_Up (R170): with its Sync it gives the master-to-slave difference; with a path delay, and PTP the selected source, it is a
measurement. -/
def followUpRx (ext cp : Nat) (m : PtpMsg) (s : State) : State :=
  let p := ptpPort s cp
  match p.sync with
  | some (src, seq, tin, corr) =>
    if src = m.source ∧ seq = m.seq ∧ (p.best.map (·.1) = some src) ∧ (portState s cp = 2 ∨ portState s cp = 3) then
      let ms := timeDiff tin m.time - corr - corrNs m
      let s := setPtpPort s cp { p with sync := none, ms := some ms }
      match delayFor s ext cp with
      | some d =>
        let s := setPortState (showDelay d s) cp 3
        if syncSource s = 1 then measure cp (ms - d) s else s
      | none => s
    else s
  | none => s

/-- A Delay_Resp (IEC 61588): the path delay is half the sum of the two differences. -/
def delayRespRx (cp : Nat) (m : PtpMsg) (s : State) : State :=
  let p := ptpPort s cp
  match p.request, p.ms with
  | some (seq, _), some ms =>
    if m.requesting = ownPort s cp ∧ seq = m.seq then
      let (t3, s) := takeStamp s cp (ptpDomain s) 1 seq.toNat
      let s := setPtpPort s cp { ptpPort s cp with request := none }
      match t3 with
      | some t3 => setDelay s cp ((ms + (timeDiff m.time t3 - corrNs m)) / 2)
      | none => s
    else s
  | _, _ => s

/-- A Pdelay_Resp_Follow_Up (IEC 61588): the peer delay is half the round trip less the turn-round. -/
def pdelayRx (ext : Nat) (m : PtpMsg) (s : State) : State :=
  let p := ptpPort s ext
  match p.request, p.pdResp with
  | some (seq, _), some (t2, t4, corr) =>
    if m.requesting = ownPort s ext ∧ seq = m.seq then
      let (t1, s) := takeStamp s ext (ptpDomain s) 2 seq.toNat
      let s := setPtpPort s ext { ptpPort s ext with request := none, pdResp := none }
      match t1 with
      | some t1 => setDelay s ext ((timeDiff t4 t1 - timeDiff m.time t2 - corr - corrNs m) / 2)
      | none => s
    else s
  | _, _ => s

/-- A PTP message reaches the clock through an external port (R174, R175). -/
def ptpRx (ext : Nat) (m : PtpMsg) (s : State) : State :=
  let cp := clockPort ext
  if m.domain.toNat ≠ ptpDomain s ∨ m.udp ≠ ptpUdp s then s
  else
    let tin := ingressTime s ext
    let clock := clockOn s cp
    match m.kind with
    | .sync =>
      if clock && m.twoStep && decide ((ptpPort s cp).best.map (·.1) = some m.source) then
        setPtpPort s cp { ptpPort s cp with sync := some (m.source, m.seq, tin, corrNs m) }
      else s
    | .followUp => if clock then followUpRx ext cp m s else s
    | .announce =>
      if clock && decide (m.source.clock ≠ ownClock s) then
        let p := ptpPort s cp
        let c := (m.source, m.data)
        let better := match p.best with
          | some b => decide (b.1 = m.source) || betterData c b
          | none => true
        bestMaster (setPtpPort s cp (if better then { p with best := some c, lastAnn := rawNow s } else p))
      else s
    | .delayReq =>
      if clock && !(peerDelay s) && decide (portState s cp = 4) then
        setPtpPort s cp { ptpPort s cp with due := (ptpPort s cp).due ++ [(.delayResp, m.source, m.seq, tin)] }
      else s
    | .delayResp => if clock && !(peerDelay s) then delayRespRx cp m s else s
    | .pdelayReq =>
      if peerDelay s then
        setPtpPort s ext { ptpPort s ext with due := (ptpPort s ext).due ++ [(.pdelayResp, m.source, m.seq, tin)] }
      else s
    | .pdelayResp =>
      if peerDelay s && decide (m.requesting = ownPort s ext) && decide (((ptpPort s ext).request).map (·.1) = some m.seq) then
        setPtpPort s ext { ptpPort s ext with pdResp := some (m.time, tin, corrNs m) }
      else s
    | .pdelayRespFollowUp => if peerDelay s then pdelayRx ext m s else s
    | .management | .signaling => s

/-- PTP_MESSAGE_RX (R174 to R176, R170). -/
def execPtpMessageRx (port : Fin 8) (m : PtpMsg) (s : State) : Host.Outcome State Fault Refusal :=
  .next (ptpRx port.val m s)

/-- announceReceiptTimeout intervals have passed without an Announce (R174), since the last one or since the port began LISTENING: the
state decision runs again. -/
def announceLost (cp : Nat) (s : State) : State :=
  if clockOn s cp ∧ announceOver s cp then
    bestMaster (setPtpPort s cp { ptpPort s cp with best := none, sync := none, ms := none })
  else s

/-- ANNOUNCE_RECEIPT_TIMEOUT (R174). -/
def execAnnounceReceiptTimeout (plane : Fin 2) (s : State) : Host.Outcome State Fault Refusal :=
  .next (announceLost (8 + plane.val) s)

/-- A message of the module's own. -/
def ownMsg (s : State) (p : Nat) (k : PtpKind) (seq : BitVec 16) (time : Dword) (req : PortId) : PtpMsg :=
  { kind := k, udp := ptpUdp s, domain := BitVec.ofNat 8 (ptpDomain s), seq := seq, twoStep := true, correction := 0, source := ownPort s p,
    time := time, requesting := req, data := (ownData s).2 }

/-- The message interval of a kind has passed on a port. -/
def intervalDue (s : State) (p : Nat) (k : PtpKind) (log : Int) : Bool :=
  match (ptpPort s p).sentAt.find? (fun e => e.1 = eventType k) with
  | some (_, t) => decide (intervalRaw log ≤ rawNow s - t)
  | none => true

/-- The send time of a kind noted on a port. -/
def noteSent (s : State) (p : Nat) (k : PtpKind) : State :=
  let x := ptpPort s p
  setPtpPort s p { x with sentAt := tput x.sentAt (eventType k) (rawNow s) }

/-- Grandmaster data that an Announce of the module carries: its own, or its parent's one step further. -/
def announceData (s : State) : DataSet :=
  let best := bestOf (ptpPort s 8).best (ptpPort s 9).best
  match s.ptp.gm, best with
  | some _, some e => { e.2 with steps := e.2.steps + 1 }
  | _, _ => (ownData s).2

/-- A response that is due on a port goes out; a Follow_Up of a Pdelay_Resp carries its egress time (R177). -/
def sendDue (p : Nat) (k : PtpKind) (s : State) : State :=
  let x := ptpPort s p
  match x.due.find? (fun d => d.1 = k) with
  | some (_, who, seq, t) =>
    let rest := x.due.erase (k, who, seq, t)
    match k with
    | .delayResp => sendPtp p 0 (ownMsg s p .delayResp seq t who) (setPtpPort s p { x with due := rest })
    | .pdelayResp =>
      let s := setPtpPort s p { x with due := rest ++ [(.pdelayRespFollowUp, who, seq, t)] }
      sendPtp p 0 (ownMsg s p .pdelayResp seq t who) s
    | .pdelayRespFollowUp =>
      let (ts, s) := takeStamp s p (ptpDomain s) 3 seq.toNat
      match ts with
      | some ts =>
        sendPtp p 0 (ownMsg s p .pdelayRespFollowUp seq ts who) (setPtpPort s p { ptpPort s p with due := rest })
      | none => s
    | _ => s
  | none => s

/-- The clock sends a message when its interval has passed or a response is due (R174, R175, R177). -/
def ptpTx (p : Nat) (k : PtpKind) (s : State) : State :=
  let x := ptpPort s p
  let master := decide (8 ≤ p) && clockOn s p && decide (portState s p = 4)
  let slave := decide (8 ≤ p) && clockOn s p && isSlave s p
  match k with
  | .announce =>
    if master && intervalDue s p k (logAnnounce s) then
      let s := noteSent (setPtpPort s p { x with nextAnn := x.nextAnn + 1 }) p k
      sendPtp p 0 { ownMsg s p k x.nextAnn (corrected s) (ownPort s p) with data := announceData s } s
    else s
  | .sync =>
    if master && intervalDue s p k (logSync s) then
      let s := noteSent (setPtpPort s p { x with nextSync := x.nextSync + 1,
                                                  due := x.due ++ [(.followUp, ownPort s p, x.nextSync, 0)] }) p k
      sendPtp p 0 (ownMsg s p k x.nextSync (corrected s) (ownPort s p)) s
    else s
  | .followUp =>
    match x.due.find? (fun d => d.1 = .followUp) with
    | some d =>
      let (ts, s) := takeStamp s p (ptpDomain s) 0 d.2.2.1.toNat
      match ts with
      | some ts =>
        sendPtp p 0 (ownMsg s p k d.2.2.1 ts (ownPort s p)) (setPtpPort s p { ptpPort s p with due := x.due.erase d })
      | none => s
    | none => s
  | .delayReq =>
    if slave && !(peerDelay s) && intervalDue s p k (logDelay s) then
      let s := noteSent (setPtpPort s p { x with nextDelay := x.nextDelay + 1, request := some (x.nextDelay, none) }) p k
      sendPtp p 0 (ownMsg s p k x.nextDelay (corrected s) (ownPort s p)) s
    else s
  | .pdelayReq =>
    if peerDelay s && decide (p < 8) && intervalDue s p k (logDelay s) then
      let s := noteSent (setPtpPort s p { x with nextDelay := x.nextDelay + 1, request := some (x.nextDelay, none),
                                                  pdResp := none }) p k
      sendPtp p 0 (ownMsg s p k x.nextDelay (corrected s) (ownPort s p)) s
    else s
  | .delayResp | .pdelayResp | .pdelayRespFollowUp => sendDue p k s
  | .management | .signaling => s

/-- PTP_MESSAGE_TX (R174 to R177). -/
def execPtpMessageTx (port : Fin 10) (k : PtpKind) (s : State) : Host.Outcome State Fault Refusal :=
  .next (ptpTx port.val k s)

/-! ### Transparent clocks -/

/-- Residence of an event message: its egress stamp less its ingress time, once the stamp is in the queue (R175, R177). -/
def residenceOf (src : PortId) (m : PtpMsg) (inp outp mtype : Nat) (s : State) : Option (Int × State) :=
  let hit := fun (e : Residence) => decide (e.inp = inp) && decide (e.outp = outp) && decide (e.source = src) && decide (e.seq = m.seq)
    && decide (e.domain = m.domain.toNat) && decide (e.mtype = mtype)
  match s.ptp.residence.find? hit with
  | some e =>
    let (ts, s) := takeStamp s outp m.domain.toNat mtype m.seq.toNat
    match ts with
    | some t => some (timeDiff t e.time, { s with ptp := { s.ptp with residence := s.ptp.residence.erase e } })
    | none => none
  | none => none

/-- The correctionField advanced by ns. -/
def addCorr (m : PtpMsg) (ns : Int) : PtpMsg := { m with correction := m.correction + BitVec.ofInt 64 (ns * 65536) }

/-- Priority of a PTP message at the egress of a switch: DEF_PCP of its ingress port, 0 from the engine (R187). -/
def ptpPcp (s : State) (inp : Nat) : Nat := if inp < 8 then fld s (Reg.netPortCfg inp) 18 16 else 0

/-- A forwarded event message leaves, and its residence waits for the associated message; one that is discarded leaves none. -/
def noteForward (inp outp : Nat) (m : PtpMsg) (s : State) : State :=
  let e : Residence := { inp := inp, outp := outp, source := m.source, seq := m.seq, domain := m.domain.toNat,
                         mtype := eventType m.kind, time := ingressTime s inp }
  let goes := decide (8 ≤ outp) || egressRoom s outp (ptpPcp s inp)
  sendPtp outp (ptpPcp s inp) m (if goes then { s with ptp := { s.ptp with residence := s.ptp.residence ++ [e] } } else s)

/-- A switch forwards a PTP message between two ports of its plane as a two-step transparent clock (R174, R175, R178): the
event message goes on unchanged and its residence is noted; the associated message carries the residence, and in peer-delay
mode the ingress port's delay; without its time stamp it is discarded.  A one-step Sync, and a message of the transport that is not
the module's, go on without a correction.  Every message waits in its egress queue (R187). -/
def forwardPtp (inp outp : Nat) (m : PtpMsg) (s : State) : State :=
  let on := sendPtp outp (ptpPcp s inp)
  if inp = outp ∨ planeOfPort inp ≠ planeOfPort outp then s
  else if m.udp ≠ ptpUdp s then on m s
  else
    match m.kind with
    | .sync => if m.twoStep then noteForward inp outp m s else on m s
    | .delayReq => noteForward inp outp m s
    | .followUp =>
      match residenceOf m.source m inp outp 0 s with
      | some (r, s) =>
        let peer := if peerDelay s then ((ptpPort s inp).delay.map (·.1)).getD 0 else 0
        on (addCorr m (r + peer)) s
      | none => s
    | .delayResp =>
      match residenceOf m.requesting m outp inp 1 s with
      | some (r, s) => on (addCorr m r) s
      | none => s
    | .pdelayReq | .pdelayResp | .pdelayRespFollowUp => if peerDelay s then s else on m s
    | .announce | .management | .signaling => on m s

/-- PTP_EVENT_FORWARD (R175, R178). -/
def execPtpEventForward (inp outp : Fin 10) (m : PtpMsg) (s : State) : Host.Outcome State Fault Refusal :=
  .next (forwardPtp inp.val outp.val m s)

/-! ### Transmit time-stamp queue -/

/-- The message whose time stamp is dropped (R178): an own Delay_Req or Pdelay_Req is abandoned, an own Sync or Pdelay_Resp gets no
Follow_Up; of a forwarded one, the latest that left there, the associated message will be discarded. -/
def stampDropped (p dom mtype seq : Nat) (s : State) : State :=
  let x := ptpPort s p
  let mine := decide (dom = ptpDomain s)
  let asked := mine && decide (mtype = 1 ∨ mtype = 2) && decide (x.request.map (·.1) = some (BitVec.ofNat 16 seq))
  let owed := fun (d : PtpKind × PortId × BitVec 16 × Dword) => mine && decide (d.2.2.1.toNat = seq)
    && ((decide (mtype = 0) && decide (d.1 = .followUp)) || (decide (mtype = 3) && decide (d.1 = .pdelayRespFollowUp)))
  if asked then setPtpPort s p { x with request := none }
  else if x.due.any owed then setPtpPort s p { x with due := x.due.filter (fun d => !owed d) }
  else
    let hit := fun (e : Residence) => decide (e.outp = p) && decide (e.domain = dom) && decide (e.mtype = mtype)
      && decide (e.seq.toNat = seq)
    match s.ptp.residence.reverse.find? hit with
    | some e => { s with ptp := { s.ptp with residence := s.ptp.residence.erase e } }
    | none => s

/-- An egress time stamp enters the queue, or is dropped (R177, R178). -/
def enqueueStamp (p dom mtype seq : Nat) (s : State) : State :=
  if s.time.tsq.length < 32 then
    setTsq s (s.time.tsq ++ [⟨p, dom, mtype, seq, egressTime s p, rawNow s⟩])
  else
    let s := stick (satAdd s Reg.transitTsqStatus 31 16 1) Reg.transitError 0
    let s := stampDropped p dom mtype seq s
    let lately := match s.time.tsqOvfAt with
      | some t => decide (rawNow s < t + msRaw 1000)
      | none => false
    if lately then s
    else
      let s := { s with time := { s.time with tsqOvfAt := some (rawNow s) } }
      raise Ev.tsqOverflow p (offsetDetail (getReg s Reg.transitOffset).toInt) (fld s Reg.transitTsqStatus 31 16) s

/-- TIMESTAMP_ENQUEUE (R177, R178). -/
def execTimestampEnqueue (p : Fin 10) (dom : Byte) (mtype : BitVec 4) (seq : BitVec 16) (s : State) :
    Host.Outcome State Fault Refusal := .next (enqueueStamp p.val dom.toNat mtype.toNat seq.toNat s)

/-- The oldest entry that has stayed 10 ms is freed and counted (R177). -/
def expireStamp (s : State) : State :=
  match s.time.tsq.find? (fun e => decide (msRaw 10 ≤ rawNow s - e.at_)) with
  | some e => satAdd (setTsq s (s.time.tsq.erase e)) Reg.transitTsqStatus 15 8 1
  | none => s

/-- TSQ_ENTRY_EXPIRY (R177). -/
def execTsqEntryExpiry (s : State) : Host.Outcome State Fault Refusal := .next (expireStamp s)

/-! ### Commands -/

/-- TRANSIT_CMD CAPTURE (R169): raw counter and corrected time of one edge. -/
def capture (s : State) : State :=
  let t := corrected s
  let raw := s.time.raw
  let s := set64 s Reg.transitCapTimeLo t
  let s := set64 s Reg.transitCapRawLo (raw.extractLsb' 8 64)
  setReg s Reg.transitCapRawFrac ((raw.extractLsb' 0 8).zeroExtend 32)

/-- TRANSIT_CAPTURE (R169). -/
def execTransitCapture (s : State) : Host.Outcome State Fault Refusal := .next (capture s)

/-- TRANSIT_CMD CLEAR_COUNTS (R183): EXPIRED and DROPS set to 0. -/
def clearTsqCounts (s : State) : State := setFld (setFld s Reg.transitTsqStatus 15 8 0) Reg.transitTsqStatus 31 16 0

/-- TRANSIT_CLEAR_COUNTS (R183). -/
def execTransitClearCounts (s : State) : Host.Outcome State Fault Refusal := .next (clearTsqCounts s)

/-! ### X_TIME -/

/-- Period in ns of an encoded pulse period (R183). -/
def pulsePeriod : Nat → Nat
  | 1 => 100000000
  | 2 => 10000000
  | 3 => 1000000
  | _ => 1000000000

/-- OUT_PERIOD in ns. -/
def outPeriod (s : State) : Nat := pulsePeriod (fld s Reg.transitPulseCfg 3 0)
/-- IN_PERIOD in ns. -/
def inPeriod (s : State) : Nat := pulsePeriod (fld s Reg.transitPulseCfg 7 4)
/-- OUT_WIDTH in ns, limited to half the period (R180). -/
def outWidth (s : State) : Nat := min (10000 * max 1 (fld s Reg.transitPulseCfg 15 8)) (outPeriod s / 2)
/-- The output is driven (R180): enabled, and SYNCED or OUT_FREE. -/
def pulseDriven (s : State) : Bool :=
  bit s Reg.transitPulseCfg 16 && (decide (syncState s = 2) || bit s Reg.transitPulseCfg 17)

/-- Corrected time has reached a multiple of OUT_PERIOD, at most 8 ns ago (R180): the output rises. -/
def pulseOut (s : State) : State :=
  let slot := (corrected s).toNat / outPeriod s
  if pulseDriven s ∧ slot ≠ s.time.pulseSlot ∧ (corrected s).toNat % outPeriod s ≤ 8 then
    emitOut { s with time := { s.time with pulseHigh := true, pulseRise := (corrected s).toNat, pulseSlot := slot } }
      (.pulse true)
  else s

/-- PULSE_OUT (R180). -/
def execPulseOut (s : State) : Host.Outcome State Fault Refusal := .next (pulseOut s)

/-- The output falls after OUT_WIDTH, or when it is no longer driven (R180). -/
def pulseFall (s : State) : State :=
  if s.time.pulseHigh ∧ (!(pulseDriven s) ∨ s.time.pulseRise + outWidth s ≤ (corrected s).toNat) then
    emitOut { s with time := { s.time with pulseHigh := false } } (.pulse false)
  else s

/-- Offset of a time from the nearest multiple of a period (R181). -/
def pulseOffset (t p : Nat) : Int := if 2 * (t % p) ≤ p then (t % p : Nat) else (t % p : Nat) - (p : Nat)

/-- An edge of the time-pulse input (R181): the selected edge, at least 100 ns wide and not within half of IN_PERIOD after
the last accepted one, is time-stamped and with SOURCE = PULSE is a measurement. -/
def pulseIn (rising : Bool) (width : Nat) (s : State) : State :=
  let active := rising = !(bit s Reg.transitPulseCfg 18)
  let close := match s.time.lastPulse with
    | some t => decide ((rawNow s - t) * 2 < 64 * inPeriod s)
    | none => false
  if active ∧ 100 ≤ width ∧ !close then
    let t := (corrected s).toNat / 4 * 4
    let s := set64 s Reg.transitPulseInLo (BitVec.ofNat 64 t)
    let s := { s with time := { s.time with lastPulse := some (rawNow s), missing := false } }
    if syncSource s = 2 then measure 0xFF (pulseOffset t (inPeriod s)) s else s
  else s

/-- PULSE_IN_EDGE (R181). -/
def execPulseInEdge (rising : Bool) (width : Word) (s : State) : Host.Outcome State Fault Refusal :=
  .next (pulseIn rising width.toNat s)

/-- The input has been silent for 1.5 × IN_PERIOD (R181). -/
def pulseMissing (s : State) : State :=
  let last := s.time.lastPulse.getD s.restart.bootRaw
  if !s.time.missing ∧ 64 * inPeriod s * 3 ≤ 2 * (rawNow s - last) then
    let s := stick { s with time := { s.time with missing := true } } Reg.transitError 3
    raise Ev.pulseInMissing 0xFF (offsetDetail (getReg s Reg.transitOffset).toInt) (fld s Reg.transitPulseCfg 7 4) s
  else s

/-- PULSE_IN_MISSING (R181). -/
def execPulseInMissing (s : State) : Host.Outcome State Fault Refusal := .next (pulseMissing s)

/-! ### Loss of power -/

/-- TRANSIT registers that show a unit which power has left (R183): STATUS, OFFSET, MEAN_DELAY, captures, STEP, port states, the
time-stamp queue and the last input pulse.  RATE, BASE_TIME and BASE_RAW stand in Skerry. -/
def transitShown : List Nat :=
  [Reg.transitOffset, Reg.transitMeanDelay, Reg.transitCapTimeLo, Reg.transitCapTimeHi, Reg.transitCapRawLo, Reg.transitCapRawHi,
    Reg.transitCapRawFrac, Reg.transitStepLo, Reg.transitStepHi, Reg.transitPortState, Reg.transitTsqStatus, Reg.transitPulseInLo,
    Reg.transitPulseInHi]

/-- The Transit clock loses power apart from what Skerry carries (R166, R173): no PTP port, no time stamp, no run in progress;
TIME_VALID stands. -/
def transitOff (s : State) : State :=
  let s := transitShown.foldl (fun s k => setReg s k 0) s
  let s := setFld s Reg.transitStatus 7 4 0
  let s := setFld s Reg.transitStatus 2 0 0
  { s with ptp := ⟨[], none, []⟩,
           time := { s.time with started := false, measured := false, tsq := [], pulseHigh := false, lastPulse := none,
                                 missing := false } }

end Sys2Proof.Machine
end

