-- ==== Sys2Proof/Machine/Net.lean ====
section
/-!
DEFINITION. The train network (R185 to R207): the two switches, ARP, classification, process data, message data, tunnels, and
the set-up of flow contexts.  Frames that the engine builds are structured records; their bytes are listed only where the
spec gives their layout to lane software (raw frames, TRDP MD headers as received).
-/

namespace Sys2Proof.Machine

/-! ### Ports, addresses, lengths -/

/-- Plane of an external or internal port. -/
def planeOf (p : Nat) : Nat := planeOfPort p

/-- Port at 1000BASE-T. -/
def portGiga (s : State) (p : Nat) : Bool := bit s (Reg.netPortStatus p) 1

/-- MAC address of a plane (R206). -/
def planeMac (s : State) (plane : Nat) : BitVec 48 :=
  ((getReg s Reg.netMacHi).setWidth 16 ++ getReg s Reg.netMacLo) + BitVec.ofNat 48 plane

/-- IPv4 address of a plane; 0 disables IP on it. -/
def planeIp (s : State) (plane : Nat) : Word := getReg s (if plane = 0 then Reg.netIpA else Reg.netIpB)

/-- Prefix length of a plane; reserved values are treated as 24 (R206). -/
def planePrefix (s : State) (plane : Nat) : Nat :=
  let p := if plane = 0 then fld s Reg.netPrefix 5 0 else fld s Reg.netPrefix 13 8
  if 8 ≤ p ∧ p ≤ 30 then p else 24

/-- Multicast address, 224.0.0.0/4. -/
def ipMulticast (ip : Word) : Bool := decide (wordFld ip 31 28 = 14)

/-- Mask of the host part of a plane. -/
def hostMask (s : State) (plane : Nat) : Word := BitVec.ofNat 32 (2 ^ (32 - planePrefix s plane) - 1)

/-- Address that a plane's PD, MD and tunnel traffic carries (R340): with PAIR_SHARED_HOST the ACTIVE module's host part is
the shared one. -/
def trafficIp (s : State) (plane : Nat) : Word :=
  let shared := getReg s Reg.pairSharedHost
  if shared ≠ 0 ∧ modState s = .active ∧ planeIp s plane ≠ 0 then
    (planeIp s plane &&& ~~~hostMask s plane) ||| (shared &&& hostMask s plane)
  else planeIp s plane

/-- Address of a destination value on a plane (R188). -/
def planeDest (s : State) (plane : Nat) (ip : Word) : Word :=
  if ipMulticast ip then ip else (planeIp s plane &&& ~~~hostMask s plane) ||| (ip &&& hostMask s plane)

/-- MAC address of a multicast IPv4 address (RFC 1112). -/
def multicastMac (ip : Word) : BitVec 48 := 0x01005E000000#48 ||| (ip &&& 0x7FFFFF#32).setWidth 48

/-- Group address: multicast or broadcast. -/
def groupMac (m : BitVec 48) : Bool := m.getLsbD 40

/-- Bytes of a PTP message (IEC 61588), with IPv4 and UDP headers where it is mapped on UDP; of a message that the module only
forwards as it is, the shortest. -/
def ptpLen (m : PtpMsg) : Nat :=
  (match m.kind with
    | .sync | .delayReq | .followUp => 44
    | .delayResp | .pdelayReq | .pdelayResp | .pdelayRespFollowUp => 54
    | .announce => 64
    | .management | .signaling => 48) + (if m.udp then 28 else 0)

/-- Bytes of a frame from the destination address to the last data byte, without FCS, padded to 60. -/
def wireLen (f : EthFrame) : Nat :=
  if f.bytes.isEmpty then
    let tag := if f.tag.isSome then 4 else 0
    let body := match f.body with
      | .trdp _ _ _ _ t => 28 + (match t.typ with | .pd | .pr | .pp => 40 | _ => 116) + t.payload.length
      | .tunnel _ _ _ m => 28 + 16 + ((m.records.map (fun (r, _) => 16 + (r.data.length + 3) / 4 * 4)).sum)
      | .arp _ _ _ _ => 28
      | .ptp m => ptpLen m
      | _ => 46
    max 60 (14 + tag + body)
  else max 60 f.bytes.length

/-- Raw time of a frame on a port, with FCS, preamble and inter-frame gap: 8 or 80 ns a byte. -/
def frameRaw (s : State) (p : Nat) (f : EthFrame) : Nat := (wireLen f + 24) * (if portGiga s p then 512 else 5120)

/-! ### The switches (R187) -/

/-- The VLAN entry of an identifier. -/
def vlanEntry (s : State) (vid : Nat) : Option Word :=
  if vid = 0 ∨ vid = 0xFFF then none
  else ((List.range 16).map (fun k => getReg s (Reg.netVlan k))).find? (fun w => decide (wordFld w 11 0 = vid))

/-- VLAN and priority of a frame at a port: its tag, or PVID and DEF_PCP; frames of the engine without a tag belong to VLAN 1. -/
def frameVlan (s : State) (p : Nat) (f : EthFrame) : Nat × Nat :=
  let cfg := getReg s (Reg.netPortCfg p)
  let pvid := if p < 8 then (let v := wordFld cfg 15 4; if v = 0 ∨ v = 0xFFF then 1 else v) else 1
  let pcp := if p < 8 then wordFld cfg 18 16 else 0
  match f.tag with
  | some (vid, q) => (if vid = 0 then pvid else vid.toNat, q.toNat)
  | none => (pvid, pcp)

/-- The frame with another tag; bytes follow. -/
def retag (f : EthFrame) (tag : Option (BitVec 12 × BitVec 3)) : EthFrame :=
  let bare := if f.tag.isSome then f.bytes.take 12 ++ f.bytes.drop 16 else f.bytes
  let bytes := match tag with
    | some (vid, pcp) =>
      if f.bytes.isEmpty then [] else bare.take 12 ++ [0x81, 0x00] ++ beBytes 2 (vid.toNat + pcp.toNat * 2 ^ 13) ++ bare.drop 12
    | none => bare
  { f with tag := tag, bytes := bytes }

/-- The port that an address was learned on. -/
def learnedPort (s : State) (plane : Nat) (m : BitVec 48) : Option Nat :=
  (s.net.mac.find? (fun (pl, a, _) => decide (pl = plane) && decide (a = m))).map (fun (_, _, p, _) => p)

/-- A source address is learned (R187); where the plane's 1,024 entries are in use it is not. -/
def learn (p : Nat) (m : BitVec 48) (s : State) : State :=
  let plane := planeOf p
  let rest := s.net.mac.filter (fun (pl, a, _) => !(decide (pl = plane) && decide (a = m)))
  if groupMac m then s
  else if 1024 ≤ (rest.filter (fun (pl, _) => decide (pl = plane))).length then s
  else { s with net := { s.net with mac := rest ++ [(plane, m, p, rawNow s)] } }

/-- A switch forwards a frame that arrived at a port (R187), to egress queues and to the internal port of the plane.  `at_` is
its ingress time stamp. -/
def forward (p : Nat) (f : EthFrame) (at_ : Dword) (s : State) : State :=
  let plane := planeOf p
  let (vid, pcp) := frameVlan s p f
  match vlanEntry s vid with
  | none => s
  | some w =>
    let member := fun q => decide (q ≠ p) && (decide (8 ≤ q) || w.getLsbD (16 + q))
    let flood := ([0, 1, 2, 3].map (· + 4 * plane) ++ [8 + plane]).filter member
    let out :=
      if groupMac f.dst then flood
      else if f.dst = planeMac s plane then [8 + plane].filter member
      else match learnedPort s plane f.dst with
        | some q => [q].filter member
        | none => flood
    out.foldl (fun s q =>
      if q < 8 then
        toEgress q pcp (retag f (if w.getLsbD (24 + q) then some (BitVec.ofNat 12 vid, BitVec.ofNat 3 pcp) else none)) s
      else { s with net := { s.net with engine := s.net.engine ++ [(plane, f, at_)] } }) s

/-- SWITCH_FRAME_RX: a frame received at an external port (R186, R187).  PAUSE frames are discarded; PTP frames are the matter
of PTP_EVENT_FORWARD and PTP_MESSAGE_RX (R175). -/
def switchRx (p : Nat) (f : EthFrame) (s : State) : State :=
  if ¬linkUp s p ∨ ¬bit s (Reg.netPortCfg p) 0 then s
  else match f.body with
    | .pause => s
    | .ptp _ => learn p f.src s
    | _ =>
      let ns := (wireLen f + 4) * (if portGiga s p then 8 else 80)
      forward p f (ingressTime s p - BitVec.ofNat 64 ns) (learn p f.src s)

/-- SWITCH_FRAME_RX. -/
def execSwitchFrameRx (p : Fin 8) (f : EthFrame) (s : State) : Host.Outcome State Fault Refusal :=
  if f.wellFormed then .next (switchRx p.val f s) else .fault .illFormed

/-- The entry is an EMIT whose flow leaves at a port. -/
def emitsAt (s : State) (p : Nat) (e : Entry) : Bool :=
  let cfg := getReg s (Reg.netFlowCfg (dfld e.w1 9 0))
  decide (e.kind = 8) && decide (dfld e.w1 (16 + planeOf p) (16 + planeOf p) = 1)
    && decide (wordFld cfg (4 + planeOf p) (4 + planeOf p) = 1) && cfg.getLsbD (6 + p % 4)

/-- Unscheduled frames are held back at a port (R44): an EMIT within one maximum frame time. -/
def heldBack (s : State) (p : Nat) : Bool := entryWithin s (emitsAt s p) (if portGiga s p then 12400 else 123400)

/-- The highest priority with a frame waiting at a port. -/
def topQueue (s : State) (p : Nat) : Option Nat :=
  [7, 6, 5, 4, 3, 2, 1, 0].find? (fun pcp => !(egressQ s p pcp).isEmpty)

/-- EGRESS_FRAME_START (R187). -/
def egressStart (p : Nat) (s : State) : State :=
  if linkUp s p ∧ ¬busyRes s (.ethPort p) ∧ ¬heldBack s p then
    match topQueue s p with
    | some pcp =>
      match egressQ s p pcp with
      | f :: rest =>
        let sending := s.net.sending.filter (fun (_, t, _) => decide (rawNow s < t))
        emitOut { s with net := { s.net with egress := tset [] s.net.egress (p * 8 + pcp) rest,
                                             sending := (p, rawNow s + frameRaw s p f, f) :: sending } }
          (match f.body with | .ptp m => .ptp p m | _ => .frame p f)
      | [] => s
    | none => s
  else s

/-- EGRESS_FRAME_START. -/
def execEgressFrameStart (p : Fin 8) (s : State) : Host.Outcome State Fault Refusal := .next (egressStart p.val s)

/-- MAC_AGEING: an address learned 300 s ago or earlier is dropped (R187). -/
def macAge (plane : Nat) (m : BitVec 48) (s : State) : State :=
  { s with net := { s.net with mac := s.net.mac.filter (fun (pl, a, _, t) =>
      !(decide (pl = plane) && decide (a = m) && decide (t + msRaw 300000 ≤ rawNow s))) } }

/-- MAC_AGEING. -/
def execMacAgeing (plane : Fin 2) (m : BitVec 48) (s : State) : Host.Outcome State Fault Refusal := .next (macAge plane.val m s)

/-! ### ARP (R188) -/

/-- A frame of the engine on a plane, switched as received on its internal port (R187, R200). -/
def engineSend (plane : Nat) (f : EthFrame) (s : State) : State :=
  forward (8 + plane) f (corrected s) (learn (8 + plane) f.src s)

/-- An ARP frame of a plane with a sender address. -/
def arpFrom (s : State) (plane : Nat) (sender : Word) (request : Bool) (dst : BitVec 48) (target : Word) : EthFrame :=
  { dst := dst, src := planeMac s plane, tag := none, checks := true,
    body := .arp request (planeMac s plane) sender target, bytes := [] }

/-- An ARP frame of a plane. -/
def arpFrame (s : State) (plane : Nat) (request : Bool) (dst : BitVec 48) (target : Word) : EthFrame :=
  arpFrom s plane (planeIp s plane) request dst target

/-- Broadcast address. -/
def broadcast : BitVec 48 := BitVec.allOnes 48

/-- The cache entry of an address. -/
def arpEntry (s : State) (plane : Nat) (ip : Word) : Option ArpEntry :=
  s.net.arp.find? (fun e => decide (e.plane = plane) && decide (e.ip = ip))

/-- The state with a cache entry put in; a full cache (64 a plane) loses the entry that was confirmed least recently. -/
def putArp (e : ArpEntry) (s : State) : State :=
  let rest := s.net.arp.filter (fun x => !(decide (x.plane = e.plane) && decide (x.ip = e.ip)))
  let mine := rest.filter (fun x => decide (x.plane = e.plane))
  let rest :=
    if 64 ≤ mine.length then
      match mine.foldl (fun b x => match b with | some y => if x.at_ < y.at_ then some x else b | none => some x) none with
      | some old => rest.erase old
      | none => rest
    else rest
  { s with net := { s.net with arp := rest ++ [e] } }

/-- The MAC address of a destination on a plane (R188); an unresolved one is asked for, at most once a second. -/
def resolve (plane : Nat) (ip : Word) (s : State) : Option (BitVec 48) × State :=
  if ipMulticast ip then (some (multicastMac ip), s)
  else match arpEntry s plane ip with
    | some ⟨_, _, some m, _, _, _⟩ => (some m, s)
    | some e =>
      if e.at_ + msRaw 1000 ≤ rawNow s then
        (none, engineSend plane (arpFrame s plane true broadcast ip) (putArp { e with at_ := rawNow s } s))
      else (none, s)
    | none =>
      (none, engineSend plane (arpFrame s plane true broadcast ip) (putArp ⟨plane, ip, none, rawNow s, 0, rawNow s⟩ s))

/-- ARP_REFRESH: 60 s after the last answer or refresh an entry is asked for again, and dropped after three unanswered
refreshes. -/
def arpRefresh (plane : Nat) (ip : Word) (s : State) : State :=
  match arpEntry s plane ip with
  | some e =>
    if rawNow s < e.at_ + msRaw 60000 then s
    else if 3 ≤ e.tries then { s with net := { s.net with arp := s.net.arp.erase e } }
    else
      engineSend plane (arpFrame s plane true (e.mac.getD broadcast) ip)
        (putArp { e with at_ := rawNow s, tries := e.tries + 1 } s)
  | none => s

/-- ARP_REFRESH. -/
def execArpRefresh (plane : Fin 2) (ip : Word) (s : State) : Host.Outcome State Fault Refusal := .next (arpRefresh plane.val ip s)

/-- LINK_CHANGED (R186, R188, R206): link and speed, the count, the event; on link-up one gratuitous ARP on the plane.  A disabled
port, or one that does not advertise the speed, gets no link. -/
def linkChange (p : Nat) (l : LinkLevel) (s : State) : State :=
  let up := decide (l ≠ .down)
  let giga := decide (l = .up1000)
  let able := bit s (Reg.netPortCfg p) 0 && bit s (Reg.netPortCfg p) (if giga then 1 else 2)
  if (up = linkUp s p ∧ giga = portGiga s p) ∨ (up ∧ ¬able) then s
  else
    let s := setBit (setBit s (Reg.netPortStatus p) 0 up) (Reg.netPortStatus p) 1 giga
    let s := setBit (setBit s Reg.netStatus p up) Reg.netStatus (8 + p) giga
    let s := satAdd s (Reg.netPortStatus p) 15 8 1
    let s := if up then s else dropPdelay p (stick s Reg.netError 0)
    let s := raise Ev.linkChanged p 0 (match l with | .down => 0 | .up1000 => 1 | .up100 => 2) s
    let plane := planeOf p
    if up ∧ planeIp s plane ≠ 0 then engineSend plane (arpFrame s plane true broadcast (planeIp s plane)) s else s

/-- LINK_CHANGED. -/
def execLinkChanged (p : Fin 8) (l : LinkLevel) (s : State) : Host.Outcome State Fault Refusal := .next (linkChange p.val l s)

/-! ### Flow contexts -/

/-- A flow context with nothing received or sent. -/
def flow0 : FlowSt := { copies := [], rx := rx0, replies := 0, reply := none, unresolved := [] }

/-- A flow context's state. -/
def flow (s : State) (f : Nat) : FlowSt := tget flow0 s.net.flows f

/-- The state with a flow context's state replaced. -/
def setFlow (s : State) (f : Nat) (x : FlowSt) : State := { s with net := { s.net with flows := tset flow0 s.net.flows f x } }

/-- VALID contexts by number, rising. -/
def validFlows (s : State) : List Nat :=
  s.regs.filterMap (fun (k, v) =>
    if Reg.netFlowCfg 0 ≤ k ∧ k < Reg.netFlowCfg 1024 ∧ (k - Reg.netFlowCfg 0) % 32 = 0 ∧ wordFld v 0 0 = 1
    then some ((k - Reg.netFlowCfg 0) / 32) else none)

/-- NET_FLOW_CFG. -/
def flowCfg (s : State) (f : Nat) : Word := getReg s (Reg.netFlowCfg f)
/-- DIR is RX. -/
def flowRx (s : State) (f : Nat) : Bool := (flowCfg s f).getLsbD 1
/-- KIND: 0 PD, 1 PULL_REQ, 2 PULL_SRC. -/
def flowKind (s : State) (f : Nat) : Nat := wordFld (flowCfg s f) 3 2
/-- A plane is in PLANES. -/
def flowPlane (s : State) (f plane : Nat) : Bool := (flowCfg s f).getLsbD (4 + plane)
/-- DUPLEX. -/
def flowDuplex (s : State) (f : Nat) : Bool := decide (wordFld (flowCfg s f) 5 4 = 3)
/-- SAFE. -/
def flowSafe (s : State) (f : Nat) : Bool := (flowCfg s f).getLsbD 13
/-- COMID. -/
def flowComId (s : State) (f : Nat) : Word := getReg s (Reg.netFlowComid f)
/-- LEN. -/
def flowLen (s : State) (f : Nat) : Nat := fld s (Reg.netFlowData f) 28 18
/-- Place of a flow's data in its region. -/
def flowOffset (s : State) (f : Nat) : Nat := 64 * fld s (Reg.netFlowData f) 17 0
/-- Bytes of a receive slot (R194): 64 + LEN, rounded up to 64. -/
def slotBytes (s : State) (f : Nat) : Nat := (64 + flowLen s f + 63) / 64 * 64
/-- Place of a receive slot's payload in Sound memory. -/
def slotAt (s : State) (f plane slot : Nat) : Nat :=
  (region s 4).1 + flowOffset s f + (2 * (if flowDuplex s f then plane else 0) + slot) * slotBytes s f + 64

/-! ### Sending process data (R192, R193) -/

/-- Tag of a flow's frames: untagged for VID 0. -/
def flowTag (s : State) (f : Nat) : Option (BitVec 12 × BitVec 3) :=
  let vid := fld s (Reg.netFlowVlan f) 11 0
  if vid = 0 then none else some (BitVec.ofNat 12 vid, BitVec.ofNat 3 (wordFld (flowCfg s f) 12 10))

/-- A process-data telegram. -/
def pdTelegram (s : State) (typ : TrdpType) (seq comId replyComId replyIp : Word) (payload : List Byte) : Telegram :=
  { typ := typ, headerOk := true, seq := seq, comId := comId, etbTopo := getReg s Reg.netTopoEtb,
    optrnTopo := getReg s Reg.netTopoOptrn, dataLength := BitVec.ofNat 32 payload.length, replyComId := replyComId,
    replyIp := replyIp, session := 0, status := 0, timeout := 0, header := [], payload := payload }

/-- A TRDP frame of a plane. -/
def trdpFrame (s : State) (plane : Nat) (mac : BitVec 48) (ip : Word) (port : BitVec 16)
    (tag : Option (BitVec 12 × BitVec 3)) (t : Telegram) : EthFrame :=
  { dst := mac, src := planeMac s plane, tag := tag, checks := true,
    body := .trdp (trafficIp s plane) ip port port t, bytes := [] }

/-- PD port. -/
def pdPort (s : State) : BitVec 16 := (getReg s Reg.netUdpPorts).extractLsb' 0 16
/-- MD port. -/
def mdPort (s : State) : BitVec 16 := (getReg s Reg.netUdpPorts).extractLsb' 16 16
/-- Tunnel port. -/
def tunPort (s : State) : BitVec 16 := (getReg s Reg.netTunPort).extractLsb' 0 16

/-- FLOW_UNRESOLVED, once per context until it resolves (R192): until no plane's destination is open. -/
def flowUnresolved (f plane : Nat) (s : State) : State :=
  let x := flow s f
  let was := x.unresolved
  let s := setFlow s f { x with unresolved := if was.contains plane then was else was ++ [plane] }
  if was.isEmpty then raise Ev.flowUnresolved f (flowComId s f).toNat (plane + 1) (stick s Reg.netError 4) else s

/-- The planes on which a flow can go, with the MAC address of its destination; the others are reported. -/
def resolveFlow (f : Nat) (planes : List Nat) (s : State) : List (Nat × BitVec 48) × State :=
  planes.foldl (fun (l, s) plane =>
    if planeIp s plane = 0 then (l, s)
    else
      let (m, s) := resolve plane (planeDest s plane (getReg s (Reg.netFlowIp f))) s
      match m with
      | some mac =>
        let x := flow s f
        (l ++ [(plane, mac)], setFlow s f { x with unresolved := x.unresolved.filter (· ≠ plane) })
      | none => (l, flowUnresolved f plane s)) ([], s)

/-- First poisoned 64-byte block of OUTPUT data, in blocks of OUTPUT (R192). -/
def poisonedBlock (s : State) (off len : Nat) : Option Nat :=
  ((List.range ((len + 63) / 64)).find? (fun i =>
    isPoisoned s.sound ((region s 3).1 + off + 64 * i) (min 64 (len - 64 * i)))).map (· + off / 64)

/-- EMIT_POISON. -/
def emitPoison (f block : Nat) (s : State) : State :=
  let s := meetSound ((region s 3).1 + 64 * block) 64 s
  raise Ev.emitPoison f (flowComId s f).toNat block (stick s Reg.netError 5)

/-- External ports of a plane that a flow names. -/
def flowPorts (s : State) (f plane : Nat) : List Nat :=
  ((List.range 4).filter (fun i => (flowCfg s f).getLsbD (6 + i))).map (· + 4 * plane)

/-- Planes that an EMIT and its context both name. -/
def emitPlanes (s : State) (e : Entry) : List Nat :=
  [0, 1].filter (fun pl => decide (dfld e.w1 (16 + pl) (16 + pl) = 1) && flowPlane s (dfld e.w1 9 0) pl)

/-- The EMIT names a context that it can send. -/
def emitUsable (s : State) (f : Nat) : Bool :=
  (flowCfg s f).getLsbD 0 && !flowRx s f && decide (flowKind s f ≤ 1)

/-- A telegram goes out at every named port whose link is up (R192). -/
def sendPorts (f plane : Nat) (fr : EthFrame) (s : State) : State :=
  (flowPorts s f plane).foldl (fun s p => if linkUp s p then emitOut s (.frame p fr) else txDiscard p s) s

/-- Effect of an EMIT (R192, R193, R209, R212). -/
def emitBody (e : Entry) (s : State) : State :=
  let f := dfld e.w1 9 0
  if ¬sendsOutputs s then s
  else if ¬emitUsable s f then raise Ev.emitInvalid f (flowComId s f).toNat 0 (stick s Reg.netError 7)
  else if flowSafe s f ∧ voteMode s = .split then s
  else
    let pull := decide (flowKind s f = 1)
    let len := if pull then 0 else flowLen s f
    if withheld s (flowOffset s f) len then s else
    match poisonedBlock s (flowOffset s f) len with
    | some b => emitPoison f b s
    | none =>
      let seq := BitVec.ofNat 32 (absCycle s / e.period)
      let raw := readBytes s.sound ((region s 3).1 + flowOffset s f) len
      let bound := if flowSafe s f then (connOf? s f).filter (fun c => decide (connState s c = 5)) else none
      if flowSafe s f ∧ bound = none then raise Ev.safeUnbound 0xFF f f (stick s Reg.safeError 6)
      else
        let (dests, s) := resolveFlow f (emitPlanes s e) s
        if dests.isEmpty then s
        else
          let (payload, s) := match bound with
            | some c =>
              let body := raw.take (len - 20)
              let (t, s) := sendContainer c body s
              (body ++ t, s)
            | none => (raw, s)
          let s := setReg s (Reg.netFlowSeq f) seq
          dests.foldl (fun s (plane, mac) =>
            let t := if pull then pdTelegram s .pr seq (flowComId s f) (flowComId s f) (trafficIp s plane) []
              else pdTelegram s .pd seq (flowComId s f) 0 0 payload
            sendPorts f plane (trdpFrame s plane mac (planeDest s plane (getReg s (Reg.netFlowIp f))) (pdPort s)
              (flowTag s f) t) s) s

/-- What an EMIT needs: the Rammaon engine for a SAFE flow (R45), and the transmit side of its ports for the frame time. -/
def emitNeeds (s : State) (e : Entry) : Needs :=
  let f := dfld e.w1 9 0
  if ¬sendsOutputs s ∨ ¬emitUsable s f then noNeeds
  else
    let len := if flowKind s f = 1 then 0 else flowLen s f
    let bytes := max 60 (14 + (if (flowTag s f).isSome then 4 else 0) + 68 + len) + 24
    ⟨if flowSafe s f then some .safe else none,
      ((emitPlanes s e).flatMap (flowPorts s f)).map (fun p => (.ethPort p, bytes * (if portGiga s p then 512 else 5120)))⟩

/-- EMIT. -/
def execEmit (i : BitVec 16) (s : State) : Host.Outcome State Fault Refusal := .next (issueEntry 8 i emitNeeds emitBody s)

/-- A Pr that a PULL_SRC context answers: the reply waits; one that waits already is answered once (R193, R209). -/
def pullRx (plane : Nat) (src : Word) (t : Telegram) (s : State) : State :=
  match (validFlows s).find? (fun f => !flowRx s f && decide (flowKind s f = 2) && decide (flowComId s f = t.comId)) with
  | some f =>
    if flowSafe s f ∨ (flow s f).reply.isSome then s
    else setFlow s f { flow s f with reply := some (plane, if t.replyIp = 0 then src else t.replyIp, t.replyComId) }
  | none => satAdd s Reg.netRxCounts 31 24 1

/-- PULL_REPLY_TX: the waiting Pp leaves from OUTPUT through the switch (R188, R193), where the module sends outputs (R74). -/
def pullReply (f : Nat) (s : State) : State :=
  match (flow s f).reply with
  | none => s
  | some (plane, ip, comId) =>
    let s := setFlow s f { flow s f with reply := none }
    if ¬sendsOutputs s ∨ ¬(flowCfg s f).getLsbD 0 then s
    else match poisonedBlock s (flowOffset s f) (flowLen s f) with
      | some b => emitPoison f b s
      | none =>
        let ip := planeDest s plane ip
        let (m, s) := resolve plane ip s
        match m with
        | none => flowUnresolved f plane s
        | some mac =>
          let x := flow s f
          let n := x.replies + 1
          let s := setFlow s f { x with replies := n, unresolved := x.unresolved.filter (· ≠ plane) }
          let s := setReg s (Reg.netFlowSeq f) n
          let payload := readBytes s.sound ((region s 3).1 + flowOffset s f) (flowLen s f)
          let tag := some (BitVec.ofNat 12 (max 1 (fld s (Reg.netFlowVlan f) 11 0)), BitVec.ofNat 3 (wordFld (flowCfg s f) 12 10))
          engineSend plane (trdpFrame s plane mac ip (pdPort s) tag (pdTelegram s .pp n comId 0 0 payload)) s

/-- PULL_REPLY_TX. -/
def execPullReplyTx (f : Fin 1024) (s : State) : Host.Outcome State Fault Refusal := .next (pullReply f.val s)

/-! ### Receiving process data (R194) -/

/-- Topology counters of a telegram fail (R191). -/
def badTopo (s : State) (t : Telegram) : Bool :=
  let bad := fun (x r : Word) => decide (x ≠ 0) && decide (r ≠ 0) && decide (x ≠ r)
  bad t.etbTopo (getReg s Reg.netTopoEtb) || bad t.optrnTopo (getReg s Reg.netTopoOptrn)

/-- An RX context takes telegrams of a comId from a source on a plane (R194). -/
def flowTakes (s : State) (plane : Nat) (src : Word) (t : Telegram) (f : Nat) : Bool :=
  let ip := getReg s (Reg.netFlowIp f)
  flowRx s f && decide (flowKind s f = 0) && decide (flowComId s f = t.comId) && flowPlane s f plane
    && (decide (ip = 0) || decide (src &&& hostMask s plane = ip &&& hostMask s plane))

/-- A context is the REPLY_FLOW of a VALID pull request of a comId (R193). -/
def isReplyFlow (s : State) (comId : Word) (f : Nat) : Bool :=
  (validFlows s).any (fun g => !flowRx s g && decide (flowKind s g = 1) && decide (flowComId s g = comId)
    && decide (fld s (Reg.netFlowVlan g) 25 16 = f))

/-- Copies of a plane, newest first. -/
def planeCopies (x : FlowSt) (plane : Nat) : List FlowCopy := x.copies.filter (fun c => decide (c.plane = plane))

/-- A telegram is stored in the older slot of its plane, unless it repeats the newer one (R194). -/
def storeCopy (f plane : Nat) (t : Telegram) (at_ : Dword) (s : State) : State :=
  let x := flow s f
  match planeCopies x plane with
  | c :: _ =>
    if c.seq = t.seq then s
    else putSlot (1 - c.slot) s
  | [] => putSlot 0 s
where
  putSlot (slot : Nat) (s : State) : State :=
    let x := flow s f
    let rest := x.copies.filter (fun c => !(decide (c.plane = plane) && decide (c.slot = slot)))
    let s := { s with sound := writeBytes s.sound (slotAt s f plane slot) (fit (flowLen s f) 0 t.payload) }
    setFlow s f { x with copies := ⟨plane, slot, t.seq, at_, true, s.time.mt⟩ :: rest }

/-- Process data received on the PD port (R191, R193, R194). -/
def pdRx (plane : Nat) (src : Word) (t : Telegram) (at_ : Dword) (s : State) : State :=
  if badTopo s t then satAdd s Reg.netRxCountsB 7 0 1
  else if t.typ = .pr then pullRx plane src t s
  else
    let takers := (validFlows s).filter (fun f => flowTakes s plane src t f
      && (decide (t.typ = .pd) || isReplyFlow s t.comId f))
    match takers.find? (fun f => decide (flowLen s f = t.dataLength.toNat)) with
    | some f => storeCopy f plane t at_ s
    | none =>
      if takers.isEmpty then satAdd s Reg.netRxCounts 31 24 1 else satAdd s Reg.netRxCounts 23 16 1

/-! ### Message data (R200 to R202) -/

/-- TRDP type of a message-data opcode (R200). -/
def mdType : Nat → TrdpType
  | 1 => .mn | 2 => .mr | 3 => .mp | 4 => .mq | _ => .mc

/-- Planes that a descriptor selects (R200); 0b11 is treated as A. -/
def mdPlanes (d : Desc) : List Nat :=
  match (d.spec.extractLsb' 0 2).toNat with
  | 1 => [1]
  | 2 => [0, 1]
  | _ => [0]

/-- A plane has link at some port. -/
def planeLink (s : State) (plane : Nat) : Bool := (List.range 4).any (fun i => linkUp s (4 * plane + i))

/-- Field of a send header. -/
def sendField (bs : List Byte) (i n : Nat) : Nat := leVal ((bs.drop i).take n)

/-- The message-data telegram of a descriptor (R200, R201). -/
def mdTelegram (s : State) (op : Nat) (seq : Word) (bs : List Byte) : Telegram :=
  let x := BitVec.ofNat 32 (sendField bs 24 4)
  let timed := op = 2 ∨ op = 4
  { typ := mdType op, headerOk := true, seq := seq, comId := BitVec.ofNat 32 (sendField bs 4 4),
    etbTopo := getReg s Reg.netTopoEtb, optrnTopo := getReg s Reg.netTopoOptrn,
    dataLength := BitVec.ofNat 32 (bs.length - 32), replyComId := 0, replyIp := 0,
    session := BitVec.ofNat 128 (beVal ((bs.drop 8).take 16)), status := if timed then 0 else x,
    timeout := if timed then x else 0, header := [], payload := bs.drop 32 }

/-- The frame of a raw descriptor: padded to 60 bytes. -/
def rawFrameOf (bs : List Byte) : EthFrame :=
  let w := fun i n => beVal ((bs.drop i).take n)
  let tagged := decide (w 12 2 = 0x8100)
  let bs' := bs ++ List.replicate (60 - bs.length) 0
  { dst := BitVec.ofNat 48 (w 0 6), src := BitVec.ofNat 48 (w 6 6),
    tag := if tagged then some (BitVec.ofNat 12 (w 14 2 % 4096), BitVec.ofNat 3 (w 14 2 / 2 ^ 13)) else none,
    checks := true, body := .raw, bytes := bs' }

/-- Try the planes of a send whose destination was open: the frame goes to the switch where the address resolves. -/
def trySend (op : Nat) (r : JRecord) (x : MdSend) (s : State) : MdSend × State :=
  let bs := r.payload
  let dport := BitVec.ofNat 16 (sendField bs 28 2)
  let port := if dport = 0 then mdPort s else dport
  x.open_.foldl (fun (x, s) plane =>
    if op = 16 then
      let f := rawFrameOf bs
      ({ x with sent := x.sent ++ [plane], open_ := x.open_.erase plane, frames := x.frames ++ [f] }, engineSend plane f s)
    else
      let ip := planeDest s plane (BitVec.ofNat 32 (sendField bs 0 4))
      let (m, s) := resolve plane ip s
      match m with
      | none => (x, s)
      | some mac =>
        let f := trdpFrame s plane mac ip port none (mdTelegram s op r.desc.seq bs)
        ({ x with sent := x.sent ++ [plane], open_ := x.open_.erase plane, frames := x.frames ++ [f] }, engineSend plane f s))
    (x, s)

/-- Bits of planes, A in bit 0. -/
def planeBits (l : List Nat) : Nat := (if l.contains 0 then 1 else 0) + (if l.contains 1 then 2 else 0)

/-- The state with the sends replaced. -/
def setSends (s : State) (l : List MdSend) : State := { s with net := { s.net with sends := l } }

/-- A message-data or raw descriptor of an opcode starts (R200, R201): REFUSED by length or by plane, else STARTED, a
supervision entry taken where it asks for one, and its frame handed to the switches whose address resolves. -/
def mdSend (op k : Nat) (s : State) : State :=
  match startRec s k 1 op with
  | (none, s) => s
  | (some r, s) =>
    let len := r.desc.len.toNat
    let badLen := if op = 16 then len < 14 ∨ 1518 < len else len < 32 ∨ 1388 < len
    let planes := (mdPlanes r.desc).filter (fun p => planeLink s p && (decide (op = 16) || decide (planeIp s p ≠ 0)))
    let timeout := sendField r.payload 24 4
    let watched := (op = 2 ∨ op = 4) ∧ timeout ≠ 0
    if badLen then finishDesc s k r.desc.seq .refused 1
    else if planes.isEmpty then finishDesc s k r.desc.seq .refused 2
    else if watched ∧ 32 ≤ s.net.superv.length then s
    else
      let s := markRec s k r.desc.seq .started
      let s := if watched then
          { s with net := { s.net with superv := s.net.superv ++
              [⟨k, r.desc.seq, BitVec.ofNat 128 (beVal ((r.payload.drop 8).take 16)), rawNow s + usRaw timeout⟩] } }
        else s
      let (x, s) := trySend op r ⟨k, r.desc.seq, [], rawNow s, planes, []⟩ s
      setSends s (s.net.sends ++ [x])

/-- MD_NOTIFY. -/
def execMdNotify (k : Fin 64) (s : State) : Host.Outcome State Fault Refusal := .next (mdSend 1 k.val s)
/-- MD_REQUEST. -/
def execMdRequest (k : Fin 64) (s : State) : Host.Outcome State Fault Refusal := .next (mdSend 2 k.val s)
/-- MD_REPLY. -/
def execMdReply (k : Fin 64) (s : State) : Host.Outcome State Fault Refusal := .next (mdSend 3 k.val s)
/-- MD_REPLY_QUERY. -/
def execMdReplyQuery (k : Fin 64) (s : State) : Host.Outcome State Fault Refusal := .next (mdSend 4 k.val s)
/-- MD_CONFIRM. -/
def execMdConfirm (k : Fin 64) (s : State) : Host.Outcome State Fault Refusal := .next (mdSend 5 k.val s)
/-- RAW_FRAME. -/
def execRawFrame (k : Fin 64) (s : State) : Host.Outcome State Fault Refusal := .next (mdSend 16 k.val s)

/-- A frame still waits in an egress queue or is being sent. -/
def frameWaits (s : State) (f : EthFrame) : Bool :=
  let same := fun (g : EthFrame) => decide (g.dst = f.dst) && decide (g.src = f.src) && decide (g.body = f.body)
  s.net.egress.any (fun (_, q) => q.any same)
    || s.net.sending.any (fun (_, t, g) => decide (rawNow s < t) && same g)

/-- MD_SEND_COMMIT: the oldest send of a ring whose frames have left on every plane completes with DONE (R111, R201). -/
def mdCommit (k : Nat) (s : State) : State :=
  match s.net.sends.find? (fun x => decide (x.ring = k) && x.open_.isEmpty && !(x.frames.any (frameWaits s))) with
  | some x => finishDesc (setSends s (s.net.sends.erase x)) k x.seq .done (planeBits x.sent * 256)
  | none => s

/-- MD_SEND_COMMIT. -/
def execMdSendCommit (k : Fin 64) (s : State) : Host.Outcome State Fault Refusal := .next (mdCommit k.val s)

/-- MD_UNRESOLVED_TIMEOUT: a destination unresolved 100 ms after the first attempt (R201). -/
def mdUnresolved (k : Nat) (s : State) : State :=
  match s.net.sends.find? (fun x => decide (x.ring = k) && !x.open_.isEmpty && decide (x.first + msRaw 100 ≤ rawNow s)) with
  | some x => finishDesc (setSends s (s.net.sends.erase x)) k x.seq .refused (3 + planeBits x.sent * 256)
  | none => s

/-- MD_UNRESOLVED_TIMEOUT. -/
def execMdUnresolvedTimeout (k : Fin 64) (s : State) : Host.Outcome State Fault Refusal := .next (mdUnresolved k.val s)

/-- MD_REPLY_TIMEOUT: a supervision entry expires (R201). -/
def mdReplyTimeout (session : BitVec 128) (s : State) : State :=
  match s.net.superv.find? (fun x => decide (x.session = session) && decide (x.expires ≤ rawNow s)) with
  | some x =>
    raise Ev.mdReplyTimeout 0xFF 0 x.seq.toNat { s with net := { s.net with superv := s.net.superv.erase x } }
  | none => s

/-- MD_REPLY_TIMEOUT. -/
def execMdReplyTimeout (session : BitVec 128) (s : State) : Host.Outcome State Fault Refusal :=
  .next (mdReplyTimeout session s)

/-- NET_RX_BUFFER: an accepted buffer supplies room; one of less than 1,536 bytes is REFUSED with reason 4 (R202). -/
def netRxBuffer (k : Nat) (s : State) : State :=
  match startRec s k 2 1 with
  | (some r, s) => if r.desc.len.toNat < 1536 then finishDesc s k r.desc.seq .refused 4 else s
  | (none, s) => s

/-- NET_RX_BUFFER. -/
def execNetRxBuffer (k : Fin 64) (s : State) : Host.Outcome State Fault Refusal := .next (netRxBuffer k.val s)

/-- An item that no buffer takes (R202): counted, RX_DROP. -/
def rxDropped (unknown : Bool) (s : State) : State :=
  let s := if unknown then satAdd s Reg.netRxCounts 31 24 1 else satAdd s Reg.netRxCountsB 23 16 1
  raise Ev.rxDrop 0xFF 0 (if unknown then 2 else 1) s

/-- Bytes for a receive ring fill the oldest accepted buffer, which completes (R202); `true` when one took them. -/
def deliverRx (ring : Nat) (enabled : Bool) (bs : List Byte) (low : Nat) (at_ : Dword) (s : State) : Bool × State :=
  if standsBy s then (false, s)
  else if ¬enabled then (false, rxDropped true s)
  else match (if ringTarget s ring = 2 ∧ ringsAct s then oldestBuffer s ring 1536 else none) with
    | some r =>
      let (bad, s) := readJournal ring [r.desc.seq] s
      if bad then (false, rxDropped false s)
      else
      let s := toLanes s r.desc.buf.toNat bs
      (true, finishDesc s ring r.desc.seq .done (bs.length + low + at_.toNat % 2 ^ 32 * 2 ^ 32))
    | none => (false, rxDropped false s)

/-- A raw frame to its route; `reply` where it freed a supervision entry (R202). -/
def rawRx (plane : Nat) (f : EthFrame) (reply : Bool) (at_ : Dword) (s : State) : State :=
  let low := (plane + 1) * 2 ^ 16 + 2 ^ 18 + (if reply then 2 ^ 19 else 0)
  (deliverRx (fld s Reg.netRxRoute 13 8) (bit s Reg.netRxRoute 15) f.bytes low at_ s).2

/-- Message data received (R191, R201, R202). -/
def mdRx (plane : Nat) (src : Word) (sport : BitVec 16) (t : Telegram) (f : EthFrame) (at_ : Dword) (s : State) : State :=
  if badTopo s t then satAdd s Reg.netRxCountsB 7 0 1
  else if s.net.repeats.contains (src, t.session, t.seq) then satAdd s Reg.netRxCountsB 15 8 1
  else
    let answers := t.typ = .mp ∨ t.typ = .mq ∨ t.typ = .mc ∨ t.typ = .me
    let hit := if answers then s.net.superv.find? (fun x => decide (x.session = t.session)) else none
    let s := match hit with
      | some x => { s with net := { s.net with superv := s.net.superv.erase x } }
      | none => s
    if t.typ = .me ∨ t.typ = .other then rawRx plane f hit.isSome at_ s
    else
      let bs := leBytes 4 src.toNat ++ leBytes 2 sport.toNat ++ [0, 0] ++ fit 116 0 t.header ++ t.payload
      let low := (plane + 1) * 2 ^ 16 + (if hit.isSome then 2 ^ 19 else 0)
      let (taken, s) := deliverRx (fld s Reg.netRxRoute 5 0) (bit s Reg.netRxRoute 7) bs low at_ s
      if taken then { s with net := { s.net with repeats := ((src, t.session, t.seq) :: s.net.repeats).take 64 } } else s

/-! ### Tunnels (R203, R204) -/

/-- A tunnel's frames dropped are counted, with TUN_DROP at most once a second. -/
def tunDrop (k n : Nat) (s : State) : State :=
  let t := tget tunnel0 s.net.tunnels k
  let due := match t.dropAt with | some x => decide (x + msRaw 1000 ≤ rawNow s) | none => true
  let total := t.drops + n
  let t := if due then { t with drops := 0, dropAt := some (rawNow s) } else { t with drops := total }
  let s := stick { s with net := { s.net with tunnels := tset tunnel0 s.net.tunnels k t } } Reg.netError 6
  if due then raise Ev.tunDrop k 0 total s else s

/-- A tunnel datagram received (R204, R205). -/
def tunnelRx (m : TunnelMsg) (s : State) : State :=
  let k := m.tunnel.toNat
  let cfg := getReg s (Reg.netTunCfg k)
  let n := wordFld cfg 8 4
  if k < 8 ∧ wordFld cfg 0 0 = 1 ∧ wordFld cfg 2 2 = 1 ∧ m.channel.toNat = n then
    if standsBy s then s
    else m.records.foldl (fun s (f, _) =>
      if chEnabled s n ∧ 0 < canFree s n then setQueue s n ((chan s n).queue ++ [⟨f, .tunnel, 0, none⟩])
      else tunDrop k 1 s) s
  else satAdd s Reg.netRxCounts 31 24 1

/-- TUNNEL_DATAGRAM_SEND: BATCH frames are held, or HOLD has passed since the first (R203). -/
def tunnelSend (k : Nat) (s : State) : State :=
  let cfg := getReg s (Reg.netTunCfg k)
  let t := tget tunnel0 s.net.tunnels k
  let batch := wordFld cfg 19 16 + 1
  if t.held.isEmpty ∨ (t.held.length < batch ∧ rawNow s < nth 0 t.since 0 + usRaw (10 * wordFld cfg 27 20)) then s
  else
    let out := t.held.take batch
    let left := t.held.drop batch
    let act := wordFld cfg 0 0 = 1 ∧ wordFld cfg 1 1 = 1 ∧ ¬standsBy s
    let n := if act then t.counter + 1 else t.counter
    let tuns := tset tunnel0 s.net.tunnels k { t with held := left, since := t.since.drop batch, counter := n }
    let s := { s with net := { s.net with tunnels := tuns } }
    if act then
      let msg : TunnelMsg := ⟨BitVec.ofNat 8 k, BitVec.ofNat 8 (wordFld cfg 8 4), n, out⟩
      ([0, 1].filter (fun pl => cfg.getLsbD (9 + pl) && decide (planeIp s pl ≠ 0))).foldl (fun s plane =>
        let ip := planeDest s plane (getReg s (Reg.netTunDst k))
        let (m, s) := resolve plane ip s
        match m with
        | some mac =>
          engineSend plane { dst := mac, src := planeMac s plane, tag := some (1, 5), checks := true,
                             body := .tunnel (trafficIp s plane) ip (tunPort s) msg, bytes := [] } s
        | none => s) s
    else s

/-- TUNNEL_DATAGRAM_SEND. -/
def execTunnelDatagramSend (k : Fin 8) (s : State) : Host.Outcome State Fault Refusal := .next (tunnelSend k.val s)

/-! ### Classification (R190) -/

/-- Sends with an open plane are tried again once an address has resolved. -/
def retrySends (s : State) : State :=
  s.net.sends.foldl (fun s x =>
    if x.open_.isEmpty then s
    else match findRec s x.ring x.seq with
      | some r =>
        let (y, s) := trySend r.desc.opcode.toNat r x s
        setSends s (s.net.sends.map (fun z => if z.ring = x.ring ∧ z.seq = x.seq then y else z))
      | none => s) s

/-- An ARP frame: a request for the plane's address, or in the ACTIVE module the shared one (R340), is answered; the
sender's address resolves its cache entry (R188). -/
def arpRx (plane : Nat) (request : Bool) (mac : BitVec 48) (sender target : Word) (s : State) : State :=
  let s := match arpEntry s plane sender with
    | some e => retrySends (putArp { e with mac := some mac, at_ := rawNow s, tries := 0 } s)
    | none => s
  if request ∧ (target = planeIp s plane ∨ target = trafficIp s plane) ∧ target ≠ 0 then
    engineSend plane (arpFrom s plane target false mac sender) s
  else s

/-- A frame body is IPv4 as R189 handles it. -/
def isIp : FrameBody → Bool
  | .fragment | .trdp _ _ _ _ _ | .tunnel _ _ _ _ => true
  | _ => false

/-- FRAME_RECEIVE: the next frame at the plane's internal port is handled by the first row of R190 that matches it; only the last
row asks for the plane's own or a group address.  On a plane whose IP is disabled (R206) IPv4 is any other frame. -/
def classify (plane : Nat) (f : EthFrame) (at_ : Dword) (s : State) : State :=
  let ours := groupMac f.dst || decide (f.dst = planeMac s plane)
  let raw := fun s => if ours then rawRx plane f false at_ s else s
  match f.body with
  | .ptp _ | .pause => s
  | body =>
    if ¬f.checks then satAdd s Reg.netRxCounts 7 0 1
    else if planeIp s plane = 0 ∧ isIp body then raw s
    else match body with
      | .arp request mac sender target => arpRx plane request mac sender target s
      | .fragment => satAdd s Reg.netRxCountsB 31 24 1
      | .trdp src _ sport dport t =>
        let header := satAdd s Reg.netRxCounts 15 8 1
        if dport = pdPort s then
          if ¬t.headerOk then header
          else match t.typ with
            | .pd | .pr | .pp => pdRx plane src t at_ s
            | .me | .other => if badTopo s t then satAdd s Reg.netRxCountsB 7 0 1 else rawRx plane f false at_ s
            | _ => header
        else if dport = mdPort s then
          if ¬t.headerOk then header
          else match t.typ with
            | .pd | .pr | .pp => header
            | _ => mdRx plane src sport t f at_ s
        else if dport = tunPort s then satAdd s Reg.netRxCounts 31 24 1
        else raw s
      | .tunnel _ _ dport m =>
        if dport = pdPort s ∨ dport = mdPort s then satAdd s Reg.netRxCounts 15 8 1
        else if dport = tunPort s then tunnelRx m s
        else raw s
      | _ => raw s

/-- FRAME_RECEIVE on the head of the plane's internal port. -/
def frameReceive (plane : Nat) (s : State) : State :=
  match s.net.engine.find? (fun (p, _, _) => decide (p = plane)) with
  | some (p, f, t) => classify plane f t { s with net := { s.net with engine := s.net.engine.erase (p, f, t) } }
  | none => s

/-- FRAME_RECEIVE. -/
def execFrameReceive (plane : Fin 2) (s : State) : Host.Outcome State Fault Refusal := .next (frameReceive plane.val s)

/-! ### The FLOWS part of a SAMPLE (R195 to R199, R217) -/

/-- What R198 finds: the copy that would be fresh (payload, sequence, time, from one plane only), and DIFFER. -/
structure Compared where
  copy   : Option (List Byte × Word × Dword × Bool)
  differ : Option Word
deriving DecidableEq, Repr

/-- The copies to consider: stored since the previous SAMPLE and before this microtick, their word not poisoned (R194, R198). -/
def considered (s : State) (f : Nat) (plane : Nat) : List FlowCopy :=
  (planeCopies (flow s f) plane).filter (fun c => c.fresh && decide (c.mt < s.time.mt)
    && !isPoisoned s.sound (slotAt s f plane c.slot) (flowLen s f))

/-- Some copy that would be considered is poisoned. -/
def poisonedCopy (s : State) (f plane : Nat) : Bool :=
  (planeCopies (flow s f) plane).any (fun c => c.fresh && decide (c.mt < s.time.mt)
    && isPoisoned s.sound (slotAt s f plane c.slot) (flowLen s f))

/-- Payload of a stored copy. -/
def copyBytes (s : State) (f : Nat) (c : FlowCopy) : List Byte := readBytes s.sound (slotAt s f c.plane c.slot) (flowLen s f)

/-- The comparison of R198. -/
def compareCopies (s : State) (f : Nat) : Compared :=
  let a := considered s f 0
  let b := considered s f 1
  let one := fun (single : Bool) (c : FlowCopy) => (⟨some (copyBytes s f c, c.seq, c.time, single), none⟩ : Compared)
  if flowDuplex s f then
    match a.findSome? (fun x => (b.find? (fun y => decide (y.seq = x.seq))).map (fun y => (x, y))) with
    | some (x, y) =>
      if copyBytes s f x = copyBytes s f y then
        ⟨some (copyBytes s f x, x.seq, if x.time.toNat ≤ y.time.toNat then x.time else y.time, false), none⟩
      else ⟨none, some x.seq⟩
    | none =>
      if (flowCfg s f).getLsbD 14 then
        match a, b with
        | x :: _, y :: _ => one true (if y.time.toNat ≤ x.time.toNat then x else y)
        | x :: _, [] => one true x
        | [], y :: _ => one true y
        | [], [] => ⟨none, none⟩
      else ⟨none, none⟩
  else match a ++ b with
    | x :: _ => one false x
    | [] => ⟨none, none⟩

/-- PLANE_LOST bookkeeping of one plane (R199): count and condition, and whether the event is due. -/
def planeLost (ok otherOk : Bool) (elapsed timeout missed : Nat) (lost : Bool) : Nat × Bool × Bool :=
  if ok then (0, false, false)
  else if otherOk then
    let m := missed + elapsed
    if timeout ≤ m ∧ ¬lost then (m, true, true) else (m, lost, false)
  else (missed, lost, false)

/-- One RX context's record at a SAMPLE (R195 to R199).  A copy with the SEQ held is not fresh, except that a SAFE context's copy is
judged by R214 alone (assumption log 98). -/
def sampleFlow (f : Nat) (s : State) : State :=
  let cfg := flowCfg s f
  let dA := (flowComId s f).toNat
  let s := [0, 1].foldl (fun s pl => if poisonedCopy s f pl then
    let s := (planeCopies (flow s f) pl).foldl (fun s c =>
      if c.fresh ∧ c.mt < s.time.mt then meetSound (slotAt s f pl c.slot) (flowLen s f) s else s) s
    raise Ev.rxPoison f dA (pl + 1) (stick s Reg.netError 5) else s) s
  let aOk := !(considered s f 0).isEmpty
  let bOk := !(considered s f 1).isEmpty
  let cmp := compareCopies s f
  let x := flow s f
  let rx := x.rx
  let cand := if flowSafe s f then cmp.copy
    else cmp.copy.filter (fun (_, seq, _, _) => !(rx.held && decide (seq = rx.seq)))
  let s := setFlow s f { x with copies := x.copies.map (fun c => if c.mt < s.time.mt then { c with fresh := false } else c) }
  let (safe, s) := if flowSafe s f then sampleSafe f (cand.map (fun (bs, _, t, _) => (bs, t))) s
    else (⟨cand.isSome, 0, false⟩, s)
  let fresh := if safe.released then cand else none
  let elapsed := match rx.last with | some c => s.chrono.cycles - c | none => 0
  let timeout := wordFld cfg 23 16
  let was := rx.fresh
  let (rx, timedOut) : RxState × Bool := match fresh with
    | some (bs, seq, t, _) => ({ rx with fresh := 1, held := true, seq := seq, time := t, age := 0, payload := bs }, false)
    | none =>
      let age := rx.age + elapsed
      let (code, out) := ageOn rx.fresh age timeout
      let payload := if safe.zero ∨ (code = 3 ∧ wordFld cfg 15 15 = 1) then [] else rx.payload
      ({ rx with fresh := code, age := age, payload := payload }, out)
  let watch := flowDuplex s f ∧ timeout ≠ 0
  let (ma, la, ea) := if watch then planeLost aOk bOk elapsed timeout rx.missA rx.lostA else (0, false, false)
  let (mb, lb, eb) := if watch then planeLost bOk aOk elapsed timeout rx.missB rx.lostB else (0, false, false)
  let rx := { rx with last := some s.chrono.cycles, missA := ma, missB := mb, lostA := la, lostB := lb }
  let single := match fresh with | some (_, _, _, one) => one | none => false
  let status := rx.fresh + (if aOk then 4 else 0) + (if bOk then 8 else 0) + (if cmp.differ.isSome then 16 else 0)
    + (if single then 32 else 0) + safe.status * 64
  let age := min rx.age 0xFFFF
  let recd := leBytes 2 status ++ leBytes 2 age ++ leBytes 4 rx.seq.toNat ++ leBytes 8 rx.time.toNat
  let body := padTo 16 (fit (flowLen s f) 0 rx.payload)
  let (off, _) := imageRegion s (wordFld cfg 27 24)
  let s := { s with sound := writeBytes s.sound (off + 16 * fld s (Reg.netFlowImg f) 19 0) (recd ++ body) }
  let s := setFlow s f { flow s f with rx := rx }
  let s := setReg s (Reg.netFlowStat f) (BitVec.ofNat 32 (status % 256 + age * 65536))
  let s := if fresh.isSome then setReg s (Reg.netFlowSeq f) rx.seq else s
  let s := match cmp.differ with
    | some seq => raise Ev.planeDiffer f dA seq.toNat (stick s Reg.netError 2)
    | none => s
  let s := if timedOut then raise Ev.flowTimeout f dA age (stick s Reg.netError 1) else s
  let s := if was = 3 ∧ fresh.isSome then raise Ev.flowRecovered f dA rx.seq.toNat s else s
  let s := if ea then raise Ev.planeLost f dA 1 (stick s Reg.netError 3) else s
  if eb then raise Ev.planeLost f dA 2 (stick s Reg.netError 3) else s

/-- RX contexts of an image. -/
def imageFlows (s : State) (img : Nat) : List Nat :=
  (validFlows s).filter (fun f => flowRx s f && decide (wordFld (flowCfg s f) 27 24 = img))

/-- The FLOWS source of a SAMPLE of an image. -/
def sampleFlows (img : Nat) (s : State) : State := (imageFlows s img).foldl (fun s f => sampleFlow f s) s

/-! ### Commands and set-up (R206) -/

/-- The ports lose power: no link, no counts (R206). -/
def netOff (s : State) : State :=
  setReg ((List.range 8).foldl (fun s p => setReg s (Reg.netPortStatus p) 0) s) Reg.netStatus 0

/-- NET_CMD CLEAR_COUNTS. -/
def netClear (s : State) : State :=
  let s := setReg (setReg s Reg.netRxCounts 0) Reg.netRxCountsB 0
  (List.range 8).foldl (fun s p => setFld s (Reg.netPortStatus p) 31 8 0) s

/-- NET_CMD CLEAR_COUNTS. -/
def execNetClearCounts (s : State) : Host.Outcome State Fault Refusal := .next (netClear s)

/-- NET_CMD ARP_FLUSH. -/
def arpFlush (s : State) : State := { s with net := { s.net with arp := [] } }

/-- NET_CMD ARP_FLUSH. -/
def execNetArpFlush (s : State) : Host.Outcome State Fault Refusal := .next (arpFlush s)

/-- A refusal of the NET block (R206, R207): the event names the flow context with its comId, the tunnel, or 0x00FF. -/
def refuseNet (reason key : Nat) (s : State) : State :=
  if Reg.netFlowCfg 0 ≤ key then
    let f := (key - Reg.netFlowCfg 0) / 32
    refuseCfg s Reg.netCfgResult Ev.netCfgRefused reason key f (flowComId s f).toNat
  else if Reg.netTunCfg 0 ≤ key then refuseCfg s Reg.netCfgResult Ev.netCfgRefused reason key ((key - Reg.netTunCfg 0) / 8) 0
  else refuseCfg s Reg.netCfgResult Ev.netCfgRefused reason key 0xFF 0

/-- Refusal reason of setting VALID with a NET_FLOW_CFG value, in the order of the codes; 0 when it is taken. -/
def flowReason (s : State) (f : Nat) (v : Word) : Nat :=
  let rx := v.getLsbD 1
  let kind := wordFld v 3 2
  let planes := wordFld v 5 4
  let len := flowLen s f
  let buffer := 2 * (if planes = 3 then 2 else 1) * slotBytes s f
  let same := fun g => decide (g ≠ f) && flowRx s g && decide (flowComId s g = flowComId s f)
    && decide (wordFld (flowCfg s g) 5 4 &&& planes ≠ 0) && decide (getReg s (Reg.netFlowIp g) = getReg s (Reg.netFlowIp f))
  if kind = 3 ∨ (rx ∧ kind ≠ 0) then 1
  else if planes = 0 then 2
  else if ¬rx ∧ kind ≤ 1 ∧ wordFld v 9 6 = 0 then 3
  else if len = 0 ∨ 1432 < len then 4
  else if fld s (Reg.netFlowVlan f) 11 0 = 0xFFF then 5
  else if ¬rx ∧ ¬inRegion s 3 (flowOffset s f) len then 5
  else if rx ∧ ¬(inRegion s 4 (flowOffset s f) buffer
      ∧ inImage s (wordFld v 27 24) (16 * fld s (Reg.netFlowImg f) 19 0) (16 + (len + 15) / 16 * 16)) then 5
  else if rx ∧ (validFlows s).any same then 7
  else 0

/-- A context is named by an EMIT of the active bank. -/
def emitNamed (s : State) (f : Nat) : Bool :=
  match activeBank s with
  | some b => b.entries.any (fun e => decide (e.kind = 8) && decide (dfld e.w1 9 0 = f))
  | none => false

/-- A committed write of NET_FLOW_CFG (R206). -/
def writeFlowCfg (f : Nat) (v : Word) (s : State) : State :=
  let k := Reg.netFlowCfg f
  let was := (getReg s k).getLsbD 0
  let want := v.getLsbD 0
  if was ∧ want then refuseNet 6 k s
  else if was then
    if running s ∧ emitNamed s f then refuseNet 6 k s else setReg s k v
  else if want then
    let why := flowReason s f v
    if why ≠ 0 then refuseNet why k s
    else setReg (setReg (setFlow s f flow0) (Reg.netFlowStat f) 0) k v
  else setReg s k v

/-- NET_FLOW_CFG_WRITE. -/
def execNetFlowCfgWrite (f : Fin 1024) (v : Word) (s : State) : Host.Outcome State Fault Refusal :=
  .next (writeFlowCfg f.val (committed s (Reg.netFlowCfg f.val) v) s)

/-- A committed write of NET_TUN_CFG: enabling checks CHANNEL and PLANE (R206). -/
def writeTunCfg (k : Nat) (v : Word) (s : State) : State :=
  let key := Reg.netTunCfg k
  if v.getLsbD 0 ∧ (wordFld v 8 4 = 0 ∨ 20 < wordFld v 8 4 ∨ wordFld v 10 9 = 0) then refuseNet 9 key s
  else
    let s := setReg s key v
    if v.getLsbD 0 then s
    else { s with net := { s.net with tunnels := tset tunnel0 s.net.tunnels k tunnel0 } }

/-- A committed write of NET_RX_ROUTE: an enabled route needs a ring with TARGET NET_MD_RX (R206). -/
def writeRxRoute (v : Word) (s : State) : State :=
  if (v.getLsbD 7 ∧ ringTarget s (wordFld v 5 0) ≠ 2) ∨ (v.getLsbD 15 ∧ ringTarget s (wordFld v 13 8) ≠ 2) then
    refuseNet 8 Reg.netRxRoute s
  else setReg s Reg.netRxRoute v

end Sys2Proof.Machine
end

