-- ==== Sys2Proof/Machine/PairOps.lean ====
section
/-!
DEFINITION. What the tasks and the Chronograph need of the pair (14_pair.md): losing eligibility and joining anew (R336,
R339), common-cause stops (R141), acceptance without a partner (R330), confirmation of OUTPUT blocks (R323), the digests of
COLLECTs and the check (R331), the cross-check of inputs (R335).
-/

namespace Sys2Proof.Machine

/-- DETAIL_A of a pair event (R343). -/
def pairDetail (s : State) : Nat := detailCycle s 0

/-- MST_IN as recognised (R317): 0 LOW, 1 ALIVE, 2 MASTERY. -/
def mstIn (s : State) : Nat := fld s Reg.pairStatus 7 6

/-- The partner holds mastery. -/
def partnerMaster (s : State) : Bool := decide (mstIn s = 2)

/-- ELIG_CYCLES (R342). -/
def eligCycles (s : State) : Nat := max 1 (fld s Reg.pairCfg 23 16)

/-- HELLO of this module (R338). -/
def ownHello (s : State) : HelloInfo :=
  { pairClass := (getReg s Reg.pairClass).extractLsb' 0 16, activeId := get64 s Reg.chronoActiveIdLo,
    shadowId := get64 s Reg.chronoShadowIdLo, appBuildId := (header s).appBuildId,
    extents := (List.range 16).map (fun n => (getReg s (Reg.laneSaBase n), getReg s (Reg.laneSaPages n))) }

/-! ### Joining -/

/-- PAIR_JOIN.PHASE. -/
def joinPhase (s : State) : Nat := fld s Reg.pairJoin 2 0

/-- A join attempt begins with HELLO (R338 step 1). -/
def startAttempt (s : State) : State :=
  let n := fld s Reg.pairJoin 7 4
  let s := setReg s Reg.pairJoin (BitVec.ofNat 32 (1 + 16 * min 15 (n + 1)))
  let s := { s with pair := { s.pair with joinRaw := rawNow s, retryRaw := none, reason := 0, eligCount := 0, digests := [],
                                          images := [], slots := [], results := [], unconfirmed := [], cycleBad := false } }
  emitOut s (.straitHello (ownHello s))

/-- The lanes of a module that joins leave VOTING and REJOINING for TESTING (R339). -/
def lanesToTesting (s : State) : State :=
  let s := setVotes s []
  allLanes.foldl (fun s l =>
    if laneState s l = .voting ∨ laneState s l = .rejoining then startTesting l (isolate l s) else s) s

/-- A STANDBY module joins anew (R339). -/
def enterJoining (s : State) : State :=
  let s := rejoinIdle (stopChrono s)
  let s := setModTo .joining s
  startAttempt (setReg (lanesToTesting s) Reg.pairJoin 0)

/-- The module enters MAINTENANCE for a MAINT_REASON (R381). -/
def enterMaintenance (reason : Nat) (s : State) : State :=
  let s := setModTo .maintenance (setFld (stopChrono s) Reg.modState 11 8 reason)
  raise Ev.maintenanceEntered 0xFF 0 reason s

/-- A join attempt fails (R337, R338): a new one after 1 s, or MAINTENANCE after the third. -/
def joinFailed (reason : Nat) (s : State) : State :=
  let s := raise Ev.joinFailed 0xFF (pairDetail s) reason (stick s Reg.pairError 7)
  let s := setFld (stopChrono s) Reg.pairJoin 2 0 0
  if fld s Reg.pairJoin 7 4 < 3 then { s with pair := { s.pair with retryRaw := some (rawNow s) } }
  else enterMaintenance 6 s

/-- Something that R336 names goes wrong in STANDBY or JOINING.  A standby loses eligibility and for reasons 1 to 6 joins
anew; in OBSERVE a mismatch fails the join and anything missing starts its count again (R337, R338). -/
def standbyFault (reason : Nat) (s : State) : State :=
  match modState s with
  | .standby =>
    let s := loseEligible (raiseF 4 0) reason s
    if 1 ≤ reason ∧ reason ≤ 6 then enterJoining s else s
  | .joining =>
    if joinPhase s = 6 then
      if reason = 1 ∨ reason = 3 ∨ reason = 4 then joinFailed 4 s
      else { s with pair := { s.pair with eligCount := 0, cycleBad := true } }
    else s
  | _ => s

/-- MIRROR_MISSING (R329, R331, R334): raised while the partner holds mastery; the standby loses eligibility. -/
def mirrorMissing (content : Nat) (s : State) : State :=
  if standsBy s ∧ partnerMaster s then
    standbyFault 2 (raise Ev.mirrorMissing 0xFF (pairDetail s) content (stick s Reg.pairError 1))
  else s

/-! ### Overruns in a pair (R141) -/

/-- Matching overruns (R141): COMMON_CAUSE_STOP sends the module to SAFE_HALT, and no automatic restart follows. -/
def commonCause (t : Nat) (h : Word) (s : State) : State :=
  let s := setReg s Reg.taskLastOverrun (BitVec.ofNat 32 (t + 3 * 64 + cycleNow s * 256 + 2 ^ 31))
  raiseTask t Ev.commonCauseStop 0xFF (detailCycle s t) h.toNat { s with pair := { s.pair with common := true } }

/-- An overrun handled under R135 or R138 is noted, sent to the partner and matched against its notices (R141). -/
def noteOverrun (t : Fin 48) (s : State) : State :=
  if pairBank s then
    let h := hpNow s
    let s := emitOut { s with pair := { s.pair with overruns := s.pair.overruns ++ [(t.val, h)] } }
      (.straitNotice (.overrun t h))
    if s.pair.notices.contains (t.val, h) then commonCause t.val h s else s
  else s

/-- A partner's overrun notice (R141). -/
def overrunNotice (t : Fin 48) (h : Word) (s : State) : State :=
  let s := setReg s Reg.taskPartnerNotice (BitVec.ofNat 32 (t.val + h.toNat % 2 ^ 20 * 256 + 2 ^ 31))
  let s := { s with pair := { s.pair with notices := s.pair.notices ++ [(t.val, h)] } }
  if s.pair.overruns.contains (t.val, h) then commonCause t.val h s
  else raiseTask t.val Ev.partnerOverrun 0xFF (detailCycle s t.val) h.toNat s

/-- The partner's notices of hyperperiods up to `h` are discarded at its end (R141).  The module's own overruns of `h` stand for one
hyperperiod more, for a notice that is still on its way (the frame takes up to 20 µs). -/
def dropNotices (h : Word) (s : State) : State :=
  let kept := s.pair.notices.filter (fun n => hpAfter n.2 h)
  let s := { s with pair := { s.pair with notices := kept,
                                          overruns := s.pair.overruns.filter (fun n => hpAfter (n.2 + 1) h) } }
  if kept.isEmpty then setBit s Reg.taskPartnerNotice 31 false else s

/-- A start of the Chronograph keeps no overruns and no notices of an earlier run (R141). -/
def forgetNotices (s : State) : State :=
  setBit { s with pair := { s.pair with notices := [], overruns := [] } } Reg.taskPartnerNotice 31 false

/-! ### Acceptance (R100, R330) -/

/-- A PENDING record becomes accepted: A is its SEQ.  Only RUNNING accepts (R95). -/
def acceptRec (n : Nat) (seq : Word) (s : State) : State :=
  if ringState s n = 1 then showRingTxq n (showRing (setReg (markRec s n seq .accepted) (Reg.ringAccepted n) seq) n) else s

/-- The event records of a queue that wait for their batch (R330), in index order. -/
def unshown (s : State) (m : Nat) : List (Nat × Word × Record) :=
  s.evq.part.filter (fun x => decide (x.1 = m) && decide (wsub x.2.1 (evqTail s m) < 2 ^ 31))

/-- Every PENDING record becomes accepted, and every event record enters the lanes: no partner acknowledges any more (R330). -/
def stopMirroring (s : State) : State :=
  let s := { s with pair := { s.pair with mirroring := false, delta := [], batchOpen := [], checkOpen := [] } }
  let s := (s.journal.filter (fun r => decide (r.state = .pending))).foldl (fun s r => acceptRec r.ring r.desc.seq s) s
  [0, 1, 2, 3].foldl (fun s m => (unshown s m).foldl (fun s (_, t, r) => showRecord s m t r) s) s

/-- An acknowledged batch takes effect (R100, R330, R341): its PENDING records are accepted, and its event records enter the lanes
and T passes them. -/
def batchAcked (items : List JItem) (s : State) : State :=
  items.foldl (fun s i =>
    match i with
    | .record r =>
      match findRec s r.ring r.desc.seq with
      | some r => if r.state = .pending then acceptRec r.ring r.desc.seq s else s
      | none => s
    | .event m t _ r => if (unshown s m).contains (m, t, r) then showRecord s m t r else s
    | _ => s) s

/-! ### Confirmation and checks (R323, R331) -/

/-- PAIR_STATUS.WITHHOLD. -/
def showWithhold (s : State) : State := setBit s Reg.pairStatus 13 (!s.pair.unconfirmed.isEmpty)

/-- OUTPUT blocks written by a COLLECT take their confirmation state. -/
def writeConfirm (confirmed : Bool) (blocks : List Nat) (s : State) : State :=
  let rest := s.pair.unconfirmed.filter (fun b => !blocks.contains b)
  showWithhold { s with pair := { s.pair with unconfirmed := if confirmed then rest else rest ++ blocks } }

/-- The digest of the blocks that a COLLECT wrote (R331): the fold of R61 from 0. -/
def digestOf (s : State) (blocks : List Nat) : Sig :=
  let base := (region s 3).1
  (blocks.flatMap (fun b => [0, 1, 2, 3].map (fun i => base + 64 * b + 16 * i))).foldl
    (fun acc a => foldWord acc (BitVec.ofNat 128 (readLE s.sound a 16))) 0

/-- A COLLECT has been made in a bank with PAIR: its digest joins those of the next check. -/
def noteDigest (index : Nat) (wrote : Bool) (blocks : List Nat) (s : State) : State :=
  if pairBank s then
    let item : CheckItem := ⟨BitVec.ofNat 16 index, !wrote, digestOf s blocks⟩
    { s with pair := { s.pair with digests := s.pair.digests ++ [(item, blocks, s.chrono.cycles)] } }
  else s

/-- OUTPUT_MISMATCH (R331). -/
def outputMismatch (index : Nat) (s : State) : State :=
  standbyFault 1 (raise Ev.outputMismatch 0xFF (pairDetail s) index (stick s Reg.pairError 0))

/-- At the end of a cycle, a check is missing that covers a COLLECT of an earlier one (R331). -/
def checkOverdue (s : State) : State :=
  if standsBy s ∧ partnerMaster s ∧ s.pair.digests.any (fun (_, _, c) => decide (c < s.chrono.cycles)) then
    mirrorMissing 2 { s with pair := { s.pair with digests := s.pair.digests.filter (fun (_, _, c) => decide (s.chrono.cycles ≤ c)) } }
  else s

/-! ### Cross-check of inputs (R335) -/

/-- INPUT_XCHK of a channel (R335). -/
def inputXchk (chan kind : Nat) (s : State) : State :=
  let s := satAdd (stick s Reg.pairError 2) Reg.pairCounts 31 24 1
  raise Ev.inputXchk chan (pairDetail s) kind s

/-- INPUT_XCHK at the standby (R335), which tells the active module (the frame is DEDUCED, assumption log 59); with XCHK_STRICT it
loses eligibility. -/
def standbyXchk (chan kind : Nat) (s : State) : State :=
  let s := emitOut (inputXchk chan kind s) (.straitNotice (.inputXchk (BitVec.ofNat 8 chan) (BitVec.ofNat 2 kind)))
  if bit s Reg.pairCfg 1 then standbyFault 8 s else s

/-- The channels that differ between this module's records of an image and the mirrored ones: DI channels 1 to 48 except
forced ones, 49 for standstill, 50 for speed. -/
def xchkDiffs (s : State) (img : Nat) (own theirs : List Byte) : List Nat :=
  let at_ := fun (l : List Byte) (o n : Nat) => leVal ((l.drop o).take n)
  let hm := getReg s (Reg.holmImgMap img)
  let mm := getReg s (Reg.motionImgMap img)
  let ho := 16 * wordFld hm 19 0
  let mo := 16 * wordFld mm 19 0
  let forced := (forcesOf s 1).map (fun f => f.2.1)
  let di := if hm.getLsbD 31 then
      (List.range 48).filterMap (fun i =>
        if (at_ own ho 6).testBit i ≠ (at_ theirs ho 6).testBit i ∧ ¬(forced.contains (i + 1)) then some (i + 1) else none)
    else []
  let x := getReg s Reg.pairXchk
  let a := at_ own mo 4
  let b := at_ theirs mo 4
  let motion := if mm.getLsbD 31 then
      (if (at_ own (mo + 20) 1).testBit 1 ≠ (at_ theirs (mo + 20) 1).testBit 1 then [49] else [])
        ++ (if max (100 * wordFld x 31 16) (min 100 (wordFld x 15 8) * max a b) < 100 * (max a b - min a b) then [50] else [])
    else []
  di ++ motion

/-- At a SAMPLE of a standby, its records of the previous SAMPLE of the image are compared with the mirrored ones (R335). -/
def crossCheck (img : Nat) (s : State) : State :=
  match s.pair.images.find? (fun x => decide (x.1 = img)) with
  | some (_, theirs, _, _) =>
    if standsBy s then
      let (o, n) := imageRegion s img
      let diffs := xchkDiffs s img (readBytes s.sound o n) theirs
      let limit := max 1 (fld s Reg.pairXchk 7 0)
      let kept := s.pair.xchkRun.filter (fun x => decide (x.1 / 64 ≠ img))
      let runs := diffs.foldl (fun t c => tset 0 t (64 * img + c) (tget 0 s.pair.xchkRun (64 * img + c) + 1)) kept
      let compared := bit s (Reg.holmImgMap img) 31 || bit s (Reg.motionImgMap img) 31
      let ok := if ¬diffs.isEmpty then 0 else if compared then s.pair.xchkOk + 1 else s.pair.xchkOk
      let s := { s with pair := { s.pair with xchkRun := runs, xchkOk := ok } }
      (diffs.filter (fun c => decide (tget 0 runs (64 * img + c) = limit))).foldl (fun s c =>
        standbyXchk (if c ≤ 48 then c else 0xFF) (if c ≤ 48 then 1 else if c = 49 then 2 else 3) s) s
    else s
  | none => s

end Sys2Proof.Machine
end

