-- ==== Sys2Proof/Machine/Tasks.lean ====
section
/-!
DEFINITION. The cycle watchdog (R133 to R141): the check of a job at its deadline, abandoned jobs, stops, and the TASK
commands (R142).
-/

namespace Sys2Proof.Machine

/-- DETAIL_A of a TASK event (R143). -/
def taskDetail (s : State) (t : Nat) : Nat := detailCycle s t

/-- An event of a task whose reaction is YIELD or stronger takes effect (R135, R141): a standby joins anew for reason 5, any
other module yields. -/
def yieldForTask (t : Nat) (e : EvDef) (detailB : Nat) (s : State) : State :=
  let e := { e with reaction := .yield }
  let r := reactionFor s e
  let s := raiseRecord e 0xFF (taskDetail s t) detailB s
  if r = .safeHalt then applySafeHalt (raiseF 4 t) s
  else if modState s = .standby then standbyFault 5 s
  else applyYield (raiseF 4 t) s

/-- The registers of an overrun (R142): its flag, TASK_LAST_OVERRUN with the action, the total count. -/
def showOverrun (t action : Nat) (s : State) : State :=
  let s := if t < 32 then stick s Reg.taskOverrunLo t else stick s Reg.taskOverrunHi (t - 32)
  let s := setReg s Reg.taskLastOverrun (BitVec.ofNat 32 (t + 64 * action + 256 * cycleNow s + 2 ^ 31))
  satAdd s (Reg.taskOverrunCount t) 15 0 1

/-- A job is abandoned in a lane (R136 steps 2 to 4): ABORT in its delivery header, the release signal at the task's core, its
accumulator zeroed, its presentations discarded. -/
def abandonIn (t : Nat) (l : Lane) (s : State) : State :=
  let a := (job s t).area + 44
  let s := { s with dram := s.dram.set l (writeBytes (s.dram.get l) a [1, 0, 0, 0]) }
  let s := signalCore t l (setAcc s l t 0)
  let keep := fun (p : Present) => decide (p.task ≠ t)
  { s with meridian := { s.meridian with
      present := s.meridian.present.set l ((s.meridian.present.get l).filter keep)
      sigStalled := s.meridian.sigStalled.set l ((s.meridian.sigStalled.get l).filter keep) } }

/-- A job is abandoned in every voting lane (R136), or in SPLIT in every SPLIT_RUN lane. -/
def abandonJob (t : Nat) (s : State) : State :=
  let ls := if voteMode s = .split then lanesIn s .splitRun else votingLanes s
  let s := setJob s t { job s t with abandoned := true }
  ls.foldl (fun s l => abandonIn t l s) s

/-- CONSECUTIVE of a task (R138). -/
def consecutive (s : State) (t : Nat) : Nat := fld s (Reg.taskOverrunCount t) 19 16

/-- An overrun of a task with STOP_ON_OVERRUN = 1 (R135). -/
def overrunStop (t : Fin 48) (s : State) : State :=
  let s := yieldForTask t.val Ev.taskOverrun 1 (showOverrun t.val 1 s)
  noteOverrun t s

/-- A job is abandoned in one lane alone (R140). -/
def abandonAlone (t : Nat) (l : Lane) (s : State) : State :=
  let s := abandonIn t l s
  setJobLane s t l { (job s t).lanes.get l with gone := true }

/-- TASK_OVERRUN of an abandoned job (R136): NOTIFY; where table or floor make it YIELD, a standby joins anew (R141). -/
def raiseAbandoned (t source : Nat) (s : State) : State :=
  let e := { Ev.taskOverrun with reaction := .notify }
  if modState s = .standby ∧ reactionFor s e = .yield then
    standbyFault 5 (raiseRecord e source (taskDetail s t) 0 s)
  else raiseTask t e source (taskDetail s t) 0 s

/-- An overrun of a task with STOP_ON_OVERRUN = 0 (R136, R138): the job is abandoned, in SPLIT in the designated lane alone (R140),
and at OVERRUN_LIMIT in a row the module yields. -/
def overrunAbandon (t : Fin 48) (s : State) : State :=
  let s := raiseAbandoned t.val 0xFF (showOverrun t.val 0 s)
  let s := if voteMode s = .split then abandonAlone t.val (designated s) s else abandonJob t.val s
  let s := satAdd s (Reg.taskOverrunCount t.val) 19 16 1
  let limit := max 1 (taskFld (taskRecord s t.val) 23 20)
  if limit ≤ consecutive s t.val then
    noteOverrun t (yieldForTask t.val Ev.taskOverrunLimit (consecutive s t.val) s)
  else s

/-- An overrun as STOP_ON_OVERRUN says. -/
def overrun (t : Fin 48) (s : State) : State :=
  if taskFld (taskRecord s t.val) 2 2 = 1 then overrunStop t s else overrunAbandon t s

/-- In SPLIT, an overrun in a lane that is not the designated one abandons the job in that lane (R140). -/
def overrunLane (t : Nat) (l : Lane) (s : State) : State :=
  abandonAlone t l (raiseAbandoned t l.idx (showOverrun t 0 s))

/-- The job of a task in a lane has ended: FINAL presented. -/
def jobClosed (s : State) (t : Nat) (l : Lane) : Bool := ((job s t).lanes.get l).closed

/-- DEADLINE_CHECK (R134, R138, R140): at the deadline, the job has ended if at least one voting lane has presented FINAL; while no
lane votes there is nothing to check. -/
def deadlineCheck (t : Fin 48) (s : State) : State :=
  let j := job s t.val
  if running s ∧ j.has ∧ ¬j.abandoned ∧ ¬j.checked ∧ j.deadlineMt ≤ s.time.mt then
    let s := setJob s t.val { j with checked := true }
    let ended := fun (s : State) => setFld s (Reg.taskOverrunCount t.val) 19 16 0
    if voteMode s = .split then
      let d := designated s
      let late := (lanesIn s .splitRun).filter (fun l => !(jobClosed s t.val l))
      let s := (late.filter (fun l => decide (l ≠ d))).foldl (fun s l => overrunLane t.val l s) s
      if late.contains d then overrun t s else ended s
    else if (votingLanes s).isEmpty then s
    else if (votingLanes s).any (jobClosed s t.val) then ended s
    else overrun t s
  else s

/-- DEADLINE_CHECK. -/
def execDeadlineCheck (t : Fin 48) (s : State) : Host.Outcome State Fault Refusal := .next (deadlineCheck t s)

/-- TASK_CMD CLEAR_RESP (R142). -/
def clearResp (t : Nat) (s : State) : State := setReg s (Reg.taskRespMax t) 0

/-- TASK_CMD_CLEAR_RESP. -/
def execTaskCmdClearResp (t : Fin 48) (s : State) : Host.Outcome State Fault Refusal := .next (clearResp t.val s)

/-- TASK_CMD CLEAR_COUNT (R142). -/
def clearCount (t : Nat) (s : State) : State := setReg s (Reg.taskOverrunCount t) 0

/-- TASK_CMD_CLEAR_COUNT. -/
def execTaskCmdClearCount (t : Fin 48) (s : State) : Host.Outcome State Fault Refusal := .next (clearCount t.val s)

/-- A committed write of TASK_DLV_BASE (R142): a value above 0x7FB_FFFF is refused. -/
def writeDlvBase (t : Nat) (v : Word) (s : State) : State :=
  let k := Reg.taskDlvBase t
  if 0x7FBFFFF < wordFld v 26 0 then raiseTask t Ev.taskCfgRefused 0xFF (taskDetail s t) v.toNat s
  else setReg s k (committed s k v)

end Sys2Proof.Machine
end

