-- ==== Sys2Proof/Machine/Restart.lean ====
section
/-!
DEFINITION. Forcing (R158 to R162), retained data (R147 to R152), the restart commands (R146) and the entry into BOOT
(R371, R372), closing service access (R438), the exchange reports (R154).
-/

namespace Sys2Proof.Machine

/-! ### Force table -/

/-- An entry of the force table in effect. -/
def forceValid (s : State) (n : Nat) : Bool := bit s (Reg.modForceEntryT n) 31

/-- A safe entry in effect. -/
def forceIsSafe (s : State) (n : Nat) : Bool := forceValid s n && bit s (Reg.modForceEntryT n) 30

/-- All entry numbers. -/
def allForces : List Nat := List.range 64

/-- MOD_FORCE_STATUS and MOD_STATE.FORCED as the table gives them (R161, R163). -/
def showForces (s : State) : State :=
  let active := (allForces.filter (forceValid s)).length
  let s := setFld s Reg.modForceStatus 6 0 active
  let s := setFld s Reg.modForceStatus 14 8 (allForces.filter (forceIsSafe s)).length
  let s := setBit s Reg.modForceStatus 15 (!s.force.changes.isEmpty)
  setBit s Reg.modState 3 (decide (0 < active))

/-- An event that makes an entry in the event recorder whatever its reaction (R161). -/
def raiseLogged (e : EvDef) (src dB : Nat) (s : State) : State :=
  let r := mkRecord s e src 0 dB
  let s := raise e src 0 dB s
  if r.reaction = .log then queueRec r s else s

/-- Entries leave the table, with an event when at least one does (R162); where several leave together, the one that
SOURCE_INDEX holds is free. -/
def removeForces (e : EvDef) (ns : List Nat) (s : State) : State :=
  let ns := ns.filter (forceValid s)
  match ns with
  | [] => s
  | n :: more =>
    let s := ns.foldl (fun s n =>
      setReg (setReg (setReg s (Reg.modForceEntryT n) 0) (Reg.modForceEntryM n) 0) (Reg.modForceEntryV n) 0) s
    let (src, s) := if more.isEmpty then (n, s) else
      let (v, s) := takeFree s
      (nth n ns (v.toNat % ns.length), s)
    raiseLogged e src ns.length (showForces s)

/-- OUTPUT word `i` lies in the range of MOD_SAFE_OUT_BASE and MOD_SAFE_OUT_SIZE (R158). -/
def inSafeOut (s : State) (i : Nat) : Bool :=
  let b := fld s Reg.modSafeOutBase 17 0
  decide (b ≤ i / 16) && decide (i / 16 < b + fld s Reg.modSafeOutSize 17 0)

/-- A target is safe (R158). -/
def targetSafe (s : State) (t : Word) : Bool :=
  (decide (wordFld t 3 0 = 2) && doSafe s (wordFld t 29 8)) || (decide (wordFld t 3 0 = 4) && inSafeOut s (wordFld t 29 8))

/-- A target exists (R158). -/
def targetValid (s : State) (t : Word) : Bool :=
  let i := wordFld t 29 8
  match wordFld t 3 0 with
  | 1 => decide (1 ≤ i) && decide (i ≤ 48)
  | 2 => decide (1 ≤ i) && decide (i ≤ 24)
  | 3 => inImage s (wordFld t 7 4) (4 * i) 4
  | 4 => inRegion s 3 (4 * i) 4
  | _ => false

/-- Service access is open (R433). -/
def svcIsOpen (s : State) : Bool := decide (fld s Reg.svcStatus 1 0 = 1)

/-- Why a SET is refused (R159); 0 where it is taken. -/
def setReason (s : State) : Nat :=
  let t := getReg s Reg.modForceTarget
  let m := getReg s Reg.modForceMask
  let safe := targetSafe s t
  if ¬svcIsOpen s then 1
  else if ¬targetValid s t then 2
  else if safe ∧ ¬s.force.standstill then 3
  else if safe ∧ ¬isVoting s then 4
  else if m = 0 ∨ (wordFld t 3 0 ≤ 2 ∧ m ≠ 1) then 5
  else 0

/-- The first of two base cycles, each given by its hyperperiod count and cycle index, is the second or follows it. -/
def cycleReached (now due : Word × Nat) : Bool :=
  if now.1 = due.1 then decide (due.2 ≤ now.2) else hpAfter now.1 due.1

/-- Hyperperiod count and cycle index of the base cycle `k` cycles on. -/
def cycleAhead (s : State) (k : Nat) : Word × Nat :=
  let c := cycleNow s + k
  (hpNow s + BitVec.ofNat 32 (c / (header s).hpLen), c % (header s).hpLen)

/-- A partner receives what this module sends. -/
def linked (s : State) : Bool := pairBank s && !s.pair.silent

/-- The base cycle whose beginning is the boundary of a force change committed now (R160): the next one.  In a pair with fewer than
20 microticks left in the cycle it is the one after, so that the change reaches the partner before it (DESIGN CHOICE, assumption
log 39); before the run begins, the first. -/
def forceDue (s : State) : Word × Nat :=
  if ¬running s then (hpNow s, 0)
  else cycleAhead s (if linked s ∧ (header s).bcLen < s.chrono.offset + 20 then 2 else 1)

/-- A change waits for a boundary (R160); one that waits already keeps the earlier of its boundaries, and comes last. -/
def addForce (c : ForceChange) (due : Word × Nat) (s : State) : State :=
  let waiting := s.force.changes
  let due := match waiting.find? (fun x => decide (x.1 = c)) with
    | some x => if cycleReached due x.2 then x.2 else due
    | none => due
  showForces { s with force := { s.force with changes := waiting.filter (fun x => decide (x.1 ≠ c)) ++ [(c, due)] } }

/-- A change committed in this module, also sent to its partner with its boundary (R160). -/
def commitForce (c : ForceChange) (s : State) : State :=
  let s := addForce c (forceDue s) s
  match s.force.changes.find? (fun x => decide (x.1 = c)) with
  | some (_, hp, cycle) => if linked s then emitOut s (.straitNotice (.force c hp cycle)) else s
  | none => s

/-- The partner's change (R160): one that the last boundary has already brought into effect was committed in both modules. -/
def forceNotice (c : ForceChange) (due : Word × Nat) (s : State) : State :=
  if s.force.changes.all (fun x => decide (x.1 ≠ c)) ∧ s.force.applied.contains c then s else addForce c due s

/-- MOD_FORCE_CMD SET (R159). -/
def forceSet (n : Nat) (s : State) : State :=
  let why := setReason s
  if why = 0 then
    commitForce (.set n (getReg s Reg.modForceTarget) (getReg s Reg.modForceMask) (getReg s Reg.modForceValue)) s
  else raise Ev.forceRefused n 0 why (setFld s Reg.modForceStatus 23 16 why)

/-- FORCE_SET. -/
def execForceSet (n : Fin 64) (s : State) : Host.Outcome State Fault Refusal := .next (forceSet n.val s)

/-- FORCE_REMOVE (R159, R160). -/
def execForceRemove (n : Fin 64) (s : State) : Host.Outcome State Fault Refusal := .next (commitForce (.remove n.val) s)

/-- FORCE_REMOVE_ALL (R159, R160). -/
def execForceRemoveAll (s : State) : Host.Outcome State Fault Refusal := .next (commitForce .removeAll s)

/-- A change takes effect. -/
def applyForce (s : State) : ForceChange → State
  | .set n t m v =>
    let safe := targetSafe s t
    let t := setWordFld (setWordFld t 31 31 1) 30 30 (if safe then 1 else 0)
    let s := setReg (setReg (setReg s (Reg.modForceEntryT n) t) (Reg.modForceEntryM n) m) (Reg.modForceEntryV n) v
    raiseLogged Ev.forceSet n v.toNat s
  | .remove n => removeForces Ev.forceRemoved [n] s
  | .removeAll => removeForces Ev.forceRemoved allForces s

/-- At the boundary at which a base cycle begins the changes due take effect together, and safe entries whose conditions failed are
dropped (R160, R162). -/
def forceBoundary (now : Word × Nat) (s : State) : State :=
  let (due, later) := s.force.changes.partition (fun x => cycleReached now x.2)
  let s := { s with force := { s.force with changes := later, applied := due.map (·.1) } }
  let s := showForces ((due.map (·.1)).foldl applyForce s)
  if s.force.dropSafe then
    let s := removeForces Ev.forceDropped (allForces.filter (forceIsSafe s)) s
    { s with force := { s.force with dropSafe := false } }
  else s

/-- A restart or a bank switch clears the table (R162). -/
def clearForces (s : State) : State :=
  showForces (removeForces Ev.forceCleared allForces { s with force := { s.force with changes := [], applied := [], dropSafe := false } })

/-! ### Image-store slots and service access -/

/-- An empty slot. -/
def slot0 : Slot := ⟨.empty, 0, 0, 0, noMem, false⟩

/-- A slot of the image store (R376). -/
def slotOf (s : State) (n : Nat) : Slot := tget slot0 s.store.slots n

/-- Space of a bank not allocated, in bytes: 4 GiB less the erase blocks of 128 KiB of its slots (R376). -/
def bankFree (s : State) (b : Nat) : Nat :=
  2 ^ 32 - ((s.store.slots.filter (fun x => decide (x.1 / 128 = b))).map
    (fun x => (x.2.alloc + 131071) / 131072 * 131072)).sum

/-- The open slot. -/
def openSlot (s : State) : Option Nat := (s.store.slots.find? (fun x => decide (x.2.state = .open_))).map (·.1)

/-- IMG_STATUS OPEN, OPEN_SLOT and the free space (R388). -/
def showStore (s : State) : State :=
  let s := setBit s Reg.imgStatus 2 (openSlot s).isSome
  let s := setFld s Reg.imgStatus 11 4 ((openSlot s).getD 0)
  let s := setFld s Reg.imgStatus 19 12 (min 255 (bankFree s 0 / 2 ^ 25))
  setFld s Reg.imgStatus 27 20 (min 255 (bankFree s 1 / 2 ^ 25))

/-- The state with a slot replaced. -/
def setSlot (n : Nat) (x : Slot) (s : State) : State :=
  showStore { s with store := { s.store with slots := tset slot0 s.store.slots n x } }

/-- What an acting instruction puts on the pins; the crate's output and control cells are forced to high impedance under HIGHZ and
while the partner holds mastery (R441). -/
def showScan (s : State) : State :=
  match s.tap.acting with
  | some code => emitOut s (.scan code s.tap.cells (decide (code = 4) || partnerMaster s))
  | none => s

/-- Pins return to their functions: every DO takes its SAFE_STATE (R441). -/
def scanRelease (s : State) : State :=
  let s := setBit s Reg.svcStatus 18 false
  settleOuts allOuts (fun s => [1, 2, 3, 4].foldl (fun s c =>
    if s.holm.power then setFld s (Reg.holmConnStatus c) 13 12 0 else s) { s with tap := { s.tap with acting := none } }) s

/-- Test-Logic-Reset (R441): IDCODE is selected, and an instruction in effect stops. -/
def tapReset (s : State) : State :=
  let s := { s with tap := { s.tap with ir := 2 } }
  if s.tap.acting.isSome then scanRelease s else s

/-- What the end of open service access does (R438, R441): the open slot of X_SVC is erased, safe force entries will drop, an
acting boundary scan ends in Test-Logic-Reset. -/
def svcEnd (s : State) : State :=
  let s := setFld s Reg.svcStatus 3 0 0
  let s := { s with svc := { s.svc with holder := none }, force := { s.force with dropSafe := true } }
  let s := if s.store.viaSvc then
      match openSlot s with
      | some n => setSlot n slot0 s
      | none => s
    else s
  let s := { s with store := { s.store with viaSvc := false } }
  if s.tap.acting.isSome then tapReset s else s

/-- Service access closes (R438), with SVC_CLOSED. -/
def svcShut (why : Nat) (s : State) : State :=
  if svcIsOpen s then raise Ev.svcClosed 0xFF 0 why (svcEnd s) else s

/-! ### Retained data -/

/-- OUTPUT blocks of the retain range (R149), as (first, count). -/
def retainRange (s : State) : Nat × Nat := (fld s Reg.modRetainOut 17 0, fld s Reg.modRetainSize 14 0)

/-- A COLD restart is commanded and waits for its boundary: what is committed until then stays invalid (R146). -/
def coldAhead (s : State) : Bool :=
  match s.chrono.req.restart with
  | some (cold, _) => cold
  | none => false

/-- Step 2 of R149: the commit word, with the next generation and the header's other fields. -/
def writeWord (log : RetainLog) (s : State) : State :=
  let r := s.retain
  { s with retain := { r with
      wordWritten := true, ever := true, generation := r.generation + 1, appBuild := log.appBuild, size := log.size,
      lastRelease := tset 0 r.lastRelease log.task log.time, invalid := coldAhead s, headPoison := false } }

/-- Words of the commit log that went bad after the commit wrote it (R147, R356, R359).  Whether such a word lies in the part that is
read, and which word of which block it holds, follows from a layout that the spec does not give: free.  It is reported, and the
data block takes it over poisoned. -/
def meetLog (blocks : List (Nat × List Byte)) (s : State) : State :=
  s.retain.logBad.foldl (fun s w =>
    let (v, s) := takeFree s
    if v.getLsbD 63 then
      let s := memUncorrectable 10 (0x501010000 + 16 * w) 1 s
      let b := (nth (0, []) blocks (v.toNat % 2 ^ 32 % max 1 blocks.length)).1
      { s with retain := { s.retain with data := markPoison s.retain.data (64 * b + 16 * (v.toNat / 2 ^ 32 % 4)) 1 } }
    else s) s

/-- Step 3 of R149: the log is copied into the data blocks and the commit is applied. -/
def applyCommit (log : RetainLog) (s : State) : State :=
  let s := if s.retain.wordWritten then s else writeWord log s
  let data := log.blocks.foldl (fun m (b, bs) => writeBytes m (64 * b) bs) s.retain.data
  let s := meetLog log.blocks { s with retain := { s.retain with data := data } }
  let s := { s with retain := { s.retain with log := none, wordWritten := false, logBad := [] } }
  setReg s Reg.modRetainGen s.retain.generation

/-- RETAIN_COMMIT_DONE (R149): the commit in progress is complete in MRAM. -/
def retainDone (s : State) : State :=
  match s.retain.log with
  | some log => if s.retain.wordWritten then s else applyCommit log s
  | none => s

/-- RETAIN_COMMIT_DONE. -/
def execRetainCommitDone (s : State) : Host.Outcome State Fault Refusal := .next (retainDone s)

/-- A power loss or a start leaves a commit half done (R149): whether its commit word was written is free; without it the log is
void. -/
def cutCommit (s : State) : State :=
  match s.retain.log with
  | some log =>
    if s.retain.wordWritten then s
    else
      let (v, s) := takeFree s
      if v.getLsbD 0 then writeWord log s else { s with retain := { s.retain with log := none } }
  | none => s

/-- A commit whose word was written is completed (R149): the start has rolled forward. -/
def rollForward (s : State) : State :=
  match s.retain.log with
  | some log =>
    if s.retain.wordWritten then applyCommit log { s with restart := { s.restart with rolled := true } } else s
  | none => s

/-- A COLLECT has written blocks of OUTPUT (R149, R152): those in the retain range are committed, or the commit is skipped. -/
def retainCollect (task : Nat) (blocks : List Nat) (s : State) : State :=
  let (o, n) := retainRange s
  let mine := blocks.filter (fun b => decide (o ≤ b) && decide (b < o + n))
  if mine.isEmpty then s
  else if s.retain.log.isSome then raise Ev.retainSkipped 0xFF 0 s.retain.generation.toNat s
  else
    let base := (region s 3).1
    let log := mine.map (fun b => (b - o, readBytes s.sound (base + 64 * b) 64))
    let log := { blocks := log, task := task, time := (job s task).relTime, appBuild := (header s).appBuildId, size := n }
    { s with retain := { s.retain with log := some log, wordWritten := false, logBad := [] } }

/-! ### Entry into BOOT -/

/-- Registers that keep their value at BOOT entry (assumption log 6): those that the spec bases on the journal, MRAM, Skerry or
the recorder, those that show a unit which runs on, and all of HOLM and MOTION while Holm stays powered. -/
def keptAtBoot (holmOn : Bool) (key : Nat) : Bool :=
  let k := archKey key
  match k / 0x10000 with
  | 0 => decide (k ∈ [Reg.modState, Reg.modHwIssue, Reg.modThermal, Reg.modRestartInfo, Reg.modRetainGen])
  | 1 => decide (k ∈ [Reg.laneState, Reg.laneHealth])
  | 3 => decide (k = Reg.ringJournalBuildLo) || decide (k = Reg.ringJournalBuildHi)
      || (decide (0x30100 ≤ k) && decide (0x18 ≤ (k - 0x30100) % 32))
  | 4 => decide (0x40100 ≤ k) && decide ((k - 0x40100) % 32 ∈ [0xC, 0x10])
  | 6 => match regRow? k with
      | some r => decide (r.access = .ro)
      | none => false
  | 7 => decide (k ∈ [Reg.netMacLo, Reg.netMacHi, Reg.netStatus]) || (decide (0x700A0 ≤ k) && decide (k < 0x700C0))
  | 9 => decide (k = Reg.canGroupStatus)
  | 0xB => holmOn
  | 0xC => holmOn
  | 0xD => decide (k ∈ [Reg.pairStatus, Reg.pairClass, Reg.pairLink])
  | 0xE => decide (k ∈ [Reg.faultStatus, Reg.faultLastCode])
  | 0xF => true
  | 0x10 => true
  | 0x11 => decide (k = Reg.svcStatus)
  | _ => false

/-- What of a counter was raised before this start (R116). -/
def carryCounter (c : CodeCounter) : CodeCounter := { c with carried := c.count }

/-- The blocks at BOOT entry: nothing in progress; what waits in the event path counts as carried over (R116), records that were
never accepted are gone (R330). -/
def bootParts (s : State) : State :=
  let e := s.evq
  let evq : EvqSt := { e with overflow := e.overflow.map (fun w => { w with carried := true }), codes := e.codes.map carryCounter,
                              catchAll := e.catchAll.map carryCounter }
  let pair : PairSt := { pair0 with partner := s.pair.partner, hello := s.pair.hello, silent := s.pair.silent,
                                    noMastery := s.pair.noMastery, lineOkRaw := s.pair.lineOkRaw, lineFault := s.pair.lineFault }
  { s with
    time := { s.time with started := false }, snaps := [], meridian := meridian0,
    lanes := ⟨lane0, lane0, lane0⟩, rejoin := rejoin0, chrono := chrono0, jobs := [], rings := [],
    journal := s.journal.filter (fun r => decide (r.state ≠ .pending)), journalBuildSet := false,
    evq := evq, force := ⟨[], [], false, false⟩, net := net0,
    sound := noMem, safe := [], can := unsupplied s, filters := [], isth := isth0, fm := { s.fm with corrected := [], exclNow := [] }, pair := pair,
    store := { s.store with running := none, fellBack := false, checksOk := false },
    svc := { s.svc with imgFrom := none } }

/-- BOOT entry of a start (R371, R372 steps 2 and 4): a commit whose word was written is completed first (R149), every operation
aborts (R111), service access closes, the force table is cleared, registers take their reset values, and every lane enters TESTING.
A COLD command leaves what is committed invalid (R146). -/
def bootEntry (cause : Nat) (cold holmOn : Bool) (s : State) : State :=
  let s := rollForward (cutCommit { s with restart := { s.restart with rolled := false } })
  let s := if cold then { s with retain := { s.retain with invalid := true } } else s
  let s := svcShut 4 (stopChrono s)
  let s := clearForces (abortAll s)
  let s := bootParts { s with regs := s.regs.filter (fun x => keptAtBoot holmOn x.1) }
  let s := { s with restart := { s.restart with cause := cause, cold := cold, bootRaw := rawNow s, warmStart := false } }
  let s := setFld (setFld (setFld s Reg.modState 3 3 0) Reg.modState 11 8 0) Reg.laneState 16 14 0
  let s := setBit (setBit (mstOut s .alive) Reg.pairStatus 2 false) Reg.pairStatus 13 false
  let s := setModTo .boot s
  let s := showStore (showOverflow (setFld s Reg.ringJournalUsed 30 16 ((s.journal.map recBlocks).sum)))
  let s := allLanes.foldl (fun s l => startTesting l s) s
  setFld { s with force := { s.force with dropSafe := false } } Reg.modState 11 8 0

/-- MOD_RESTART_CMD (R146): at the next hyperperiod boundary while the Chronograph runs, else at once; ignored in SAFE_HALT
entered by COMMON_CAUSE_STOP.  COLD marks the committed data invalid. -/
def restartCmd (cold : Bool) (cause : Nat) (s : State) : State :=
  if modState s = .safeHalt ∧ s.pair.common then s
  else
    let s := if cold then { s with retain := { s.retain with invalid := true } } else s
    if running s ∨ s.pair.gaveUp.isSome ∧ modState s = .active then
      let s := { s with restart := { s.restart with cause := cause } }
      { s with chrono := { s.chrono with req := { s.chrono.req with restart := some (cold, s.time.mt) } } }
    else match modState s with
      | .sleep | .waking => s
      | .boot => if setupPhase s then bootEntry cause cold true s else s
      | _ => bootEntry cause cold true s

/-- A restart requested while the Chronograph ran takes effect (R146): an ACTIVE module with an eligible standby first gives up
control. -/
def restartBoundary (cold : Bool) (s : State) : State :=
  if modState s = .active ∧ eligiblePartner s then giveUp (raiseF 4 0) .restart s
  else bootEntry s.restart.cause cold true s

/-- MOD_RESTART_WARM (R146). -/
def execModRestartWarm (s : State) : Host.Outcome State Fault Refusal := .next (restartCmd false 2 s)

/-- MOD_RESTART_COLD (R146). -/
def execModRestartCold (s : State) : Host.Outcome State Fault Refusal := .next (restartCmd true 2 s)

/-! ### Exchange reports (R154) -/

/-- XCHG_REPORT_WRITE: a removed KEY. -/
def execXchgReportWrite (key : Word) (s : State) : Host.Outcome State Fault Refusal :=
  .next (raise Ev.xchgRemoved 0xFF 0 key.toNat s)

/-- XCHG_SUMMARY_WRITE: the migration is done. -/
def execXchgSummaryWrite (v : Word) (s : State) : Host.Outcome State Fault Refusal :=
  .next (raise Ev.xchgDone 0xFF 0 v.toNat s)

/-! ### Registers -/

/-- MOD_CFG_REFUSED with the value written (R164). -/
def refuseMod (v : Word) (s : State) : State := raise Ev.modCfgRefused 0xFF 0 v.toNat s

/-- A committed write of MOD_RETAIN_OUT, MOD_RETAIN_SIZE or MOD_RETAIN_DRAM (R152, R163, R444). -/
def writeRetain (k : Nat) (v : Word) (s : State) : State :=
  let size := if k = Reg.modRetainSize then wordFld v 14 0 else fld s Reg.modRetainSize 14 0
  let out := if k = Reg.modRetainOut then wordFld v 17 0 else fld s Reg.modRetainOut 17 0
  if running s then refuseMod v s
  else if k = Reg.modRetainDram then setReg s k (committed s k v)
  else if 27648 < size ∨ ¬inRegion s 3 (64 * out) (64 * size) then refuseMod v s
  else setReg s k (committed s k v)

/-- A committed write of MOD_SAFE_OUT_BASE or MOD_SAFE_OUT_SIZE (R158, R444). -/
def writeSafeOut (k : Nat) (v : Word) (s : State) : State :=
  let base := if k = Reg.modSafeOutBase then wordFld v 17 0 else fld s Reg.modSafeOutBase 17 0
  let size := if k = Reg.modSafeOutSize then wordFld v 17 0 else fld s Reg.modSafeOutSize 17 0
  if inRegion s 3 (64 * base) (64 * size) then setReg s k (committed s k v) else refuseMod v s

end Sys2Proof.Machine
end

