-- ==== Sys2Proof/Machine/Votes.lean ====
section
/-!
DEFINITION. A vote over the copies that lanes hold (R67, R69, R96, R98): a poisoned copy differs from every other.
-/

namespace Sys2Proof.Machine

/-- Outcome of a vote: every copy agrees, two of three agree against a third lane, no majority, or no lane votes. -/
inductive Ballot (α : Type) where
  | all (v : α)
  | pair (v : α) (third : Lane)
  | none
  | empty
deriving DecidableEq, Repr

/-- The vote over the copies of up to three lanes; a copy that is `none` is poisoned.  One lane is that of SPLIT, of which R96's
table says nothing: its poisoned copy is no majority, since it differs from every copy and none is left (DESIGN CHOICE, assumption
log 93). -/
def ballot {α : Type} [DecidableEq α] : List (Lane × Option α) → Ballot α
  | [] => .empty
  | [(_, some a)] => .all a
  | [(_, some a), (_, some b)] => if a = b then .all a else .none
  | [(la, a), (lb, b), (lc, c)] =>
    match a, b, c with
    | some x, some y, some z =>
      if x = y ∧ y = z then .all x else if x = y then .pair x lc else if x = z then .pair x lb
      else if y = z then .pair y la else .none
    | some x, some y, none => if x = y then .pair x lc else .none
    | some x, none, some z => if x = z then .pair x lb else .none
    | none, some y, some z => if y = z then .pair y la else .none
    | _, _, _ => .none
  | _ => .none

/-- Lanes whose rings, doorbells and heads the module serves (R83, R96): the designated lane in SPLIT, else the VOTING lanes. -/
def ringLanes (s : State) : List Lane := if voteMode s = .split then [designated s] else votingLanes s

/-- A lane's copy of `n` bytes of its DRAM; none where it is poisoned. -/
def laneCopy (s : State) (a n : Nat) (l : Lane) : Lane × Option (List Byte) :=
  (l, if isPoisoned (s.dram.get l) a n then none else some (readBytes (s.dram.get l) a n))

/-- The bad words of lanes' copies are reported (R359). -/
def reportLanes (ls : List Lane) (a n : Nat) (s : State) : State :=
  ls.foldl (fun s l => meetBad (s.dram.get l) l.idx 0 a n s) s

end Sys2Proof.Machine
end

