-- ==== Sys2Proof/Machine/Rings.lean ====
section
/-!
DEFINITION. Rings and event queues (R88 to R117): POLL, the ring unit's fetch, checks and acceptance, ring and queue
commands, the delivery of event records.
-/

namespace Sys2Proof.Machine

/-! ### Rings -/

/-- A ring at rest. -/
def ring0 : RingSt := ⟨0, 0, none, false, []⟩

/-- The ring unit's state of a ring. -/
def ringSt (s : State) (n : Nat) : RingSt := tget ring0 s.rings n

/-- The state with a ring's record replaced. -/
def setRing (n : Nat) (x : RingSt) (s : State) : State := { s with rings := tset ring0 s.rings n x }

/-- Slots of a ring (R93). -/
def ringSize (s : State) (n : Nat) : Nat := 2 ^ fld s (Reg.ringCfg n) 3 0

/-- Records of a ring written but not yet accepted (R100). -/
def pendingRecs (s : State) (n : Nat) : Nat :=
  (s.journal.filter (fun r => decide (r.ring = n) && decide (r.state = .pending))).length

/-- SEQ of the next descriptor that the ring unit fetches: beyond A, the PENDING records and, in a standby, those voted. -/
def nextSeq (s : State) (n : Nat) : Word :=
  ringA s n + BitVec.ofNat 32 (pendingRecs s n + (ringSt s n).voted.length + 1)

/-- A ring leaves RUNNING: only RUNNING accepts (R95), so its PENDING records are not accepted any more, by either module; software
may submit them again (R100). -/
def dropPending (n : Nat) (s : State) : State :=
  let pending := fun (r : JRecord) => decide (r.ring = n) && decide (r.state = .pending)
  let dropped := fun (i : JItem) => match i with
    | .record r => pending r
    | _ => false
  if s.journal.any pending then
    addDelta { s with
      journal := s.journal.filter (fun r => !pending r)
      pair := { s.pair with
        delta := s.pair.delta.filter (fun i => !dropped i)
        batchOpen := s.pair.batchOpen.map (fun b => (b.1, b.2.filter (fun i => !dropped i))) } }
      (.books n (ringA s n) (ringC s n))
  else s

/-- A ring halts (R95): HALT_REASON, and STOPPED at once when nothing is in flight. -/
def haltRing (n reason : Nat) (s : State) : State :=
  let s := dropPending n (setRing n { ringSt s n with fetchLeft := 0, fetched := none } s)
  showRing (setFld (setFld s (Reg.ringStatus n) 15 8 reason) (Reg.ringStatus n) 1 0 3) n

/-- The fetch of a ring ends for this POLL. -/
def stopFetch (n : Nat) (s : State) : State := setRing n { ringSt s n with fetchLeft := 0, fetched := none } s

/-- A voted doorbell is valid (R97). -/
def validDoorbell (s : State) (n : Nat) (d : Word) : Bool :=
  decide (wsub d (ringC s n) ≤ ringSize s n) && decide (wsub (ringA s n) (ringC s n) ≤ wsub d (ringC s n))

/-- The vote over a ring's doorbell words (R96). -/
def voteDoorbell (n : Nat) (s : State) : Option Word × State :=
  let a := 64 * fld s (Reg.ringCtrl n) 26 0
  let ls := ringLanes s
  let copies := ls.map (laneCopy s a 4)
  let s := reportLanes ls a 4 s
  match ballot copies with
  | .all bs => (some (BitVec.ofNat 32 (leVal bs)), s)
  | .pair bs l => (some (BitVec.ofNat 32 (leVal bs)), raise Ev.ringMinority n 0 l.idx (stick s Reg.ringError 2))
  | .none => (none, raise Ev.ringNoMajority n 0 0 (stick s Reg.ringError 2))
  | .empty => (none, s)

/-- POLL of one ring (R96, R97): skipped while its last fetch runs; a valid doorbell lets at most 64 descriptors be fetched. -/
def pollRing (n : Nat) (s : State) : State :=
  if ringState s n ≠ 1 ∨ 0 < (ringSt s n).fetchLeft then s
  else match voteDoorbell n s with
    | (none, s) => s
    | (some d, s) =>
      if validDoorbell s n d then
        setRing n { ringSt s n with doorbell := d, fetched := none, voted := [],
                                    fetchLeft := min 64 (wsub d (ringA s n) - pendingRecs s n) } s
      else raise Ev.doorbellInvalid n 0 d.toNat (haltRing n 6 (stick s Reg.ringError 0))

/-- Credits have returned to a queue: what waits is written (R106, R107). -/
def drain (m : Nat) (s : State) : State :=
  showCredits (drainQueue s m (s.evq.overflow.length + s.evq.codes.length + s.evq.catchAll.length + 1)) m

/-- A voted head becomes H and frees the records before it (R106). -/
def takeHead (m : Nat) (h : Word) (s : State) : State :=
  let part := s.evq.part.filter (fun (q, i, _) => decide (q ≠ m) || decide (wsub i h < 2 ^ 31))
  let s := setReg { s with evq := { s.evq with part := part } } (Reg.evqHead m) h
  drain m (addDelta s (.head m h))

/-- POLL of one queue's head words (R106), whatever the queue's state; a standby votes and frees nothing (R332). -/
def pollHead (m : Nat) (s : State) : State :=
  let a := 64 * fld s (Reg.evqCtrl m) 26 0
  let ls := ringLanes s
  let copies := ls.map (laneCopy s a 4)
  let s := reportLanes ls a 4 s
  let take := fun (s : State) (bs : List Byte) =>
    let h := BitVec.ofNat 32 (leVal bs)
    if wsub h (evqHead s m) ≤ wsub (evqTail s m) (evqHead s m) then (if standsBy s then s else takeHead m h s)
    else raise Ev.evqHeadInvalid m h.toNat h.toNat (stick s Reg.evqError 0)
  match ballot copies with
  | .all bs => take s bs
  | .pair bs l => take (raise Ev.evqHeadMinority m 0 l.idx (stick s Reg.evqError 0)) bs
  | .none => raise Ev.evqHeadNoMajority m 0 0 (stick s Reg.evqError 0)
  | .empty => s

/-- Effect of a POLL entry (R40, R96, R106). -/
def pollBody (e : Entry) (s : State) : State :=
  let s := (List.range (dfld e.w1 14 8)).foldl (fun s i => pollRing (dfld e.w1 5 0 + i) s) s
  [0, 1, 2, 3].foldl (fun s m => if (dfld e.w1 19 16).testBit m then pollHead m s else s) s

/-- Needs of a POLL (R43). -/
def pollNeeds (_ : State) (e : Entry) : Needs := ⟨none, [(.doorbellUnit, occPoll (dfld e.w1 14 8))]⟩

/-- POLL (R96, R106). -/
def execPoll (i : BitVec 16) (s : State) : Host.Outcome State Fault Refusal := .next (issueEntry 13 i pollNeeds pollBody s)

/-! ### Fetch -/

/-- Opcodes that a target defines (R89, R200, R202, R236, R241, R275, R423). -/
def knownOpcode (target op : Nat) : Bool :=
  match target with
  | 1 => decide (op ≤ 5) || decide (op = 16)
  | 5 => decide (op ≤ 2)
  | _ => decide (op ≤ 1)

/-- The target sends the buffer of an opcode, so that the ring unit compares it and journals a copy (R98, R100). -/
def sendsBuffer (target op : Nat) : Bool :=
  match target with
  | 1 | 3 | 6 => true
  | 5 => decide (op ≠ 2)
  | _ => false

/-- FLAGS bits that a target defines (R89): DEADLINE and SINGLE_SHOT only for CAN_TX (R241). -/
def flagMask (target : Nat) : BitVec 16 := if target = 3 then 0x7 else 0x1

/-- First reason of R99 for which a voted descriptor is invalid; 0 when it is valid. -/
def descReason (s : State) (n : Nat) (seq : Word) (d : Desc) : Nat :=
  let target := ringTarget s n
  let len := d.len.toNat
  if d.seq ≠ seq then 1
  else if !(knownOpcode target d.opcode.toNat) then 2
  else if d.flags &&& ~~~flagMask target ≠ 0 then 3
  else if 65536 < len ∨ (0 < len ∧ 2 ^ 33 < d.buf.toNat + len) then 4
  else if 4096 * fld s (Reg.ringJquota n) 8 0 < 64 + (len + 63) / 64 * 64 then 5
  else 0

/-- DESC_MINORITY (R98), with its lane and bit 8 for a buffer block. -/
def descMinority (n : Nat) (seq : Word) (l : Lane) (block : Bool) (s : State) : State :=
  raise Ev.descMinority n seq.toNat (l.idx + if block then 256 else 0) (stick s Reg.ringError 2)

/-- DESC_NO_MAJORITY (R98): nothing from this SEQ onward is accepted at this POLL. -/
def descNoMajority (n : Nat) (seq : Word) (s : State) : State :=
  raise Ev.descNoMajority n seq.toNat 0 (stopFetch n (stick s Reg.ringError 2))

/-- The vote over a buffer, block by block (R98): its bytes, or none without a majority; a lane is reported once. -/
def voteBlocks (n : Nat) (seq : Word) : Nat → Nat → Nat → List Lane → List Byte → State → Option (List Byte) × State
  | 0, _, _, _, acc, s => (some acc, s)
  | fuel + 1, a, len, told, acc, s =>
    if len = 0 then (some acc, s)
    else
      let k := min 64 len
      let ls := ringLanes s
      let copies := ls.map (laneCopy s a k)
      let s := reportLanes ls a k s
      match ballot copies with
      | .all bs => voteBlocks n seq fuel (a + k) (len - k) told (acc ++ bs) s
      | .pair bs l =>
        let s := if told.contains l then s else descMinority n seq l true s
        voteBlocks n seq fuel (a + k) (len - k) (l :: told) (acc ++ bs) s
      | _ => (none, s)

/-- PAIR_DESC_MISMATCH (R332). -/
def descMismatch (n : Nat) (seq : Word) (s : State) : State :=
  standbyFault 3 (raise Ev.pairDescMismatch n (pairDetail s) seq.toNat s)

/-- A voted descriptor of a standby meets the mirrored record of the same ring and SEQ (R332). -/
def meetRecord (n : Nat) (d : Desc) (payload : List Byte) (s : State) : State :=
  match findRec s n d.seq with
  | some r => if r.desc = d ∧ r.payload = payload then s else descMismatch n d.seq s
  | none => s

/-- The voted descriptor waits for its journal record, or in a standby for the mirrored one. -/
def keepDesc (n : Nat) (d : Desc) (payload : List Byte) (s : State) : State :=
  let x := ringSt s n
  if standsBy s then
    meetRecord n d payload (setRing n { x with voted := x.voted ++ [(d, payload)], fetchLeft := x.fetchLeft - 1 } s)
  else setRing n { x with fetched := some (d, payload) } s

/-- A voted descriptor is checked (R99), and its buffer read where the target sends it (R98). -/
def takeDesc (n : Nat) (seq : Word) (d : Desc) (s : State) : State :=
  let why := descReason s n seq d
  if why ≠ 0 then raise Ev.descInvalid n seq.toNat why (haltRing n why (stick s Reg.ringError 1))
  else if sendsBuffer (ringTarget s n) d.opcode.toNat then
    match voteBlocks n seq 1025 d.buf.toNat d.len.toNat [] [] s with
    | (some bs, s) => keepDesc n d bs s
    | (none, s) => descNoMajority n seq s
  else keepDesc n d [] s

/-- DESCRIPTOR_FETCH (R98): the next pending descriptor is read from every voting lane and compared. -/
def fetchDesc (n : Nat) (s : State) : State :=
  let x := ringSt s n
  if ringState s n ≠ 1 ∨ x.fetchLeft = 0 ∨ x.fetched.isSome ∨ ¬running s then s
  else
    let seq := nextSeq s n
    let a := 4096 * fld s (Reg.ringBase n) 20 0 + 32 * (seq.toNat % ringSize s n)
    let ls := ringLanes s
    let copies := ls.map (laneCopy s a 32)
    let s := reportLanes ls a 32 s
    match ballot copies with
    | .all bs => takeDesc n seq (descOf bs) s
    | .pair bs l => takeDesc n seq (descOf bs) (descMinority n seq l false s)
    | .none => descNoMajority n seq s
    | .empty => stopFetch n s

/-- DESCRIPTOR_FETCH. -/
def execDescriptorFetch (n : Fin 64) (s : State) : Host.Outcome State Fault Refusal := .next (fetchDesc n.val s)

/-! ### Acceptance -/

/-- A message-data request that takes a supervision entry (R201): MD_REQUEST or MD_REPLY_QUERY with a timeout. -/
def supervises (d : Desc) (payload : List Byte) : Bool :=
  (decide (d.opcode = 2) || decide (d.opcode = 4)) && decide (sendField payload 24 4 ≠ 0)

/-- Accepted requests of NET_MD_TX rings that have yet to take their supervision entry. -/
def awaitingSuperv (s : State) : Nat :=
  (s.journal.filter (fun r => decide (ringTarget s r.ring = 1) && decide (r.state ≠ .done) && supervises r.desc r.payload
    && !(s.net.superv.any (fun v => decide (v.ring = r.ring) && decide (v.seq = r.desc.seq))))).length

/-- The target's internal queue has no free entry for a descriptor (R108, R201, R237, R275, R422). -/
def targetFull (s : State) (n : Nat) (d : Desc) (payload : List Byte) : Bool :=
  match ringTarget s n with
  | 1 => supervises d payload && decide (32 ≤ s.net.superv.length + awaitingSuperv s)
  | 3 => decide (d.opcode = 1) && decide (canFree s (ringUnit s n) = 0)
  | 6 => decide (d.opcode = 1) && decide (64 ≤ s.recQ.length
      + (s.journal.filter (fun r => decide (ringTarget s r.ring = 6) && decide (r.desc.opcode = 1)
          && (decide (r.state = .pending) || decide (r.state = .accepted)))).length)
  | _ => false

/-- 64-byte blocks of the ring's quota in use (R95, R101). -/
def quotaUsed (s : State) (n : Nat) : Nat :=
  ((s.journal.filter (fun r => decide (r.ring = n))).map recBlocks).sum

/-- Accepting stops for this POLL (R108): 1 target queue, 2 journal quota. -/
def backPressure (n why : Nat) (seq : Word) (s : State) : State :=
  let first := !(ringSt s n).bpRaised
  let s := setRing n { ringSt s n with fetchLeft := 0, fetched := none, bpRaised := true } s
  let s := setFld s (Reg.ringStatus n) 5 4 why
  if first then raise Ev.ringBackpressure n seq.toNat why s else s

/-- DESCRIPTOR_ACCEPTED (R100, R108): the journal record is written; a single module accepts it at once, a mirrored one with
the acknowledgement of its batch. -/
def writeDesc (n : Nat) (s : State) : State :=
  match (ringSt s n).fetched with
  | some (d, payload) =>
    if ¬ringsAct s ∨ ringState s n ≠ 1 then s
    else
      let wait := mirrors s
      let r : JRecord := { ring := n, state := if wait then .pending else .accepted, desc := d, payload := payload,
                           outcome := .done, detailA := 0 }
      if targetFull s n d payload then backPressure n 1 d.seq s
      else if 64 * fld s (Reg.ringJquota n) 8 0 < quotaUsed s n + recBlocks r then backPressure n 2 d.seq s
      else
        let x := ringSt s n
        let s := setRing n { x with fetched := none, fetchLeft := x.fetchLeft - 1, bpRaised := false } s
        let s := setFld s (Reg.ringStatus n) 5 4 0
        let s := addDelta { s with journal := s.journal ++ [r] } (.record r)
        showRingTxq n (showRing (if wait then s else setReg s (Reg.ringAccepted n) d.seq) n)
  | none => s

/-- DESCRIPTOR_ACCEPTED. -/
def execDescriptorAccepted (n : Fin 64) (s : State) : Host.Outcome State Fault Refusal := .next (writeDesc n.val s)

/-- DESCRIPTOR_NOP (R89): completes with DONE and has no other effect. -/
def nopDesc (n : Nat) (s : State) : State :=
  match nextRec s n with
  | some r =>
    if ringsAct s ∧ r.desc.opcode = 0 then
      let (bad, s) := readJournal n [r.desc.seq] s
      if bad then s else finishDesc s n r.desc.seq .done 0
    else s
  | none => s

/-- DESCRIPTOR_NOP. -/
def execDescriptorNop (n : Fin 64) (s : State) : Host.Outcome State Fault Refusal := .next (nopDesc n.val s)

/-! ### Ring commands -/

/-- The first ring or queue command after a start records the running APP_BUILD_ID (R101). -/
def noteBuild (s : State) : State :=
  if s.journalBuildSet then s
  else { set64 s Reg.ringJournalBuildLo (header s).appBuildId with journalBuildSet := true }

/-- RING_CMD_REFUSED with the value written (R117). -/
def ringRefuse (n : Nat) (v : Nat) (s : State) : State := raise Ev.ringCmdRefused n 0 v s

/-- The quotas of the rings not STOPPED, with a further ring's, exceed the journal's ring area (R95, R101). -/
def quotaExceeds (s : State) (n : Nat) : Bool :=
  decide (366 < ((List.range 64).map (fun m =>
    if m = n ∨ ringState s m ≠ 0 then fld s (Reg.ringJquota m) 8 0 else 0)).sum)

/-- A ring runs: HALT_REASON is cleared, nothing is being fetched. -/
def runRing (n : Nat) (s : State) : State :=
  let s := setRing n { ring0 with doorbell := ringA s n } s
  showRing (setReg s (Reg.ringStatus n) (setWordFld (getReg s (Reg.ringStatus n) &&& 0xFFFF0000) 1 0 1)) n

/-- The set-up with which a ring runs enters the journal header (R101); the moment is the model's choice (DESIGN CHOICE, assumption
log 91). -/
def noteSetup (n : Nat) (s : State) : State :=
  let x : RingSetup := ⟨getReg s (Reg.ringBase n), getReg s (Reg.ringCtrl n), getReg s (Reg.ringCfg n),
    getReg s (Reg.ringSeqStart n), getReg s (Reg.ringJquota n)⟩
  addDelta { s with journalSetup := tput s.journalSetup n x } (.setup n x)

/-- RING_CMD START (R95); `v` is the value written. -/
def ringStartCmd (n v : Nat) (s : State) : State :=
  let size := fld s (Reg.ringCfg n) 3 0
  let target := ringTarget s n
  if ringState s n ≠ 0 ∨ size < 4 ∨ 12 < size ∨ target = 0 ∨ 7 ≤ target ∨ s.journal.any (fun r => decide (r.ring = n))
      ∨ quotaExceeds s n then ringRefuse n v s
  else
    let s := noteSetup n (noteBuild s)
    let a := getReg s (Reg.ringSeqStart n) - 1
    let s := setReg (setReg s (Reg.ringAccepted n) a) (Reg.ringCompleted n) a
    runRing n (addDelta s (.books n a a))

/-- RING_CMD_START. -/
def execRingCmdStart (n : Fin 64) (s : State) : Host.Outcome State Fault Refusal := .next (ringStartCmd n.val (n.val + 0x100) s)

/-- RING_CMD RESUME (R95, R112): from STOPPED the STARTED records are ACCEPTED again, and a DONE one has its completion
written.  `v` is the value written. -/
def ringResume (n v : Nat) (s : State) : State :=
  if ringState s n = 0 then
    let s := noteSetup n (noteBuild s)
    let s := (readJournal n (ringSeqs s n) s).2
    let s := { s with journal := s.journal.map (fun r =>
      if r.ring = n ∧ r.state = .started then { r with state := .accepted } else r) }
    completeReady n (s.journal.length + 1) (runRing n s)
  else if ringState s n = 3 then runRing n (noteBuild s)
  else ringRefuse n v s

/-- RING_CMD_RESUME. -/
def execRingCmdResume (n : Fin 64) (s : State) : Host.Outcome State Fault Refusal := .next (ringResume n.val (n.val + 0x200) s)

/-- RING_CMD STOP (R95). -/
def ringStop (n v : Nat) (s : State) : State :=
  if ringState s n = 1 then showRing (setFld (dropPending n (stopFetch n s)) (Reg.ringStatus n) 1 0 2) n else ringRefuse n v s

/-- RING_CMD_STOP. -/
def execRingCmdStop (n : Fin 64) (s : State) : Host.Outcome State Fault Refusal := .next (ringStop n.val (n.val + 0x300) s)

/-- RING_CMD DISCARD (R95): the journaled work is dropped.  The spec does not say how A and C then stand: the model takes C up to A,
so that nothing is in flight, as the identity A = C + in flight of R114 needs, and a doorbell goes on from A (DESIGN CHOICE,
assumption log 92). -/
def ringDiscard (n v : Nat) (s : State) : State :=
  if ringState s n = 0 then
    let s := noteBuild s
    let count := (s.journal.filter (fun r => decide (r.ring = n))).length
    let s := { s with journal := s.journal.filter (fun r => decide (r.ring ≠ n)) }
    let s := showRing (setReg s (Reg.ringCompleted n) (ringA s n)) n
    let s := addDelta s (.books n (ringA s n) (ringA s n))
    let s := showRingTxq n s
    raise Ev.journalDiscard n 0 count (if 0 < count then stick s Reg.ringError 4 else s)
  else ringRefuse n v s

/-- RING_CMD_DISCARD. -/
def execRingCmdDiscard (n : Fin 64) (s : State) : Host.Outcome State Fault Refusal := .next (ringDiscard n.val (n.val + 0x400) s)

/-! ### Queue commands -/

/-- EVQ_CMD_REFUSED with the value written (R117). -/
def evqRefuse (m v : Nat) (s : State) : State := raise Ev.evqCmdRefused m 0 v s

/-- A START or RESUME is refused (R116). -/
def evqRefused (s : State) (m : Nat) : Bool :=
  evqRunning s m || decide (fld s (Reg.evqCfg m) 3 0 < 4) || decide (12 < fld s (Reg.evqCfg m) 3 0)

/-- Carried-over counts of a queue leave the counters (R116). -/
def uncarry (m : Nat) (l : List CodeCounter) : List CodeCounter :=
  (l.map (fun c => if c.queue = m then { c with count := c.count - c.carried, carried := 0 } else c)).filter
    (fun c => decide (c.queue ≠ m) || decide (c.count ≠ 0))

/-- Carried-over records of a queue, counted wherever they wait (R116). -/
def carriedOver (s : State) (m : Nat) : Nat :=
  let e := s.evq
  let mine := fun (c : CodeCounter) => if c.queue = m then c.carried.toNat else 0
  (e.part.filter (fun x => decide (x.1 = m))).length
    + (e.overflow.filter (fun w => decide (w.queue = m) && w.carried)).length
    + (e.codes.map mine).sum + (e.catchAll.map mine).sum

/-- The books of a queue after a START: T, H and the record count are 0, and what was carried over is dropped (R116). -/
def startBooks (m : Nat) (s : State) : State :=
  let e := s.evq
  let s := { s with evq := { e with
    counts := tset 0 e.counts m 0, part := e.part.filter (fun x => decide (x.1 ≠ m)),
    overflow := e.overflow.filter (fun w => !(decide (w.queue = m) && w.carried)),
    codes := uncarry m e.codes, catchAll := uncarry m e.catchAll } }
  setReg (setReg s (Reg.evqTail m) 0) (Reg.evqHead m) 0

/-- EVQ_CMD START (R116); `v` is the value written. -/
def evqStart (m v : Nat) (s : State) : State :=
  if evqRefused s m then evqRefuse m v s
  else
    let s := noteBuild s
    let dropped := carriedOver s m
    let s := addDelta (startBooks m s) (.started m)
    let s := if 0 < dropped then raise Ev.journalDiscard m 0 dropped s else s
    drain m (showOverflow (setBit s (Reg.evqStatus m) 0 true))

/-- EVQ_CMD_START. -/
def execEvqCmdStart (m : Fin 4) (s : State) : Host.Outcome State Fault Refusal := .next (evqStart m.val (m.val + 0x10) s)

/-- EVQ_CMD RESUME (R112): each unconsumed record is written into its slot again, in index order. -/
def evqResume (m v : Nat) (s : State) : State :=
  if evqRefused s m then evqRefuse m v s
  else
    let s := noteBuild s
    let s := (readJournal m ((s.evq.part.filter (fun x => decide (x.1 = m))).map (·.2.1)) s).2
    let s := setBit s (Reg.evqStatus m) 0 true
    let s := (s.evq.part.filter (fun x => decide (x.1 = m))).foldl (fun s (_, i, r) =>
      splitIrq (toLanes s (evqSlot s m i) (recordBytes r (phaseBit s m i))) m) s
    drain m s

/-- EVQ_CMD_RESUME. -/
def execEvqCmdResume (m : Fin 4) (s : State) : Host.Outcome State Fault Refusal := .next (evqResume m.val (m.val + 0x20) s)

/-! ### Event records -/

/-- The record that the pending store delivers next (R351): the highest severity, then detection order. -/
def nextPending (l : List Record) : Option Record := l.find? (fun r => decide (sevCode r.sev = pendingSev l))

/-- Codes of FORCE_SET, FORCE_REMOVED, FORCE_DROPPED and FORCE_CLEARED, which make their recorder entry as they are raised (R161). -/
def forceEvents : List Nat := [0x36, 0x37, 0x39, 0x3A]

/-- EVENT_RECORD_DELIVERY (R351, R333): the record goes to its queue's routing, in a standby to the event recorder. -/
def deliverEvent (s : State) : State :=
  match nextPending s.fm.pending with
  | some r =>
    if modState s = .sleep then s
    else
      let s := freeFailed r (setPending s (s.fm.pending.erase r))
      if standsBy s then (if r.reaction = .log ∧ ¬forceEvents.contains r.code then queueRec r s else s) else routeRecord s r
  | none => s

/-- EVENT_RECORD_DELIVERY. -/
def execEventRecordDelivery (s : State) : Host.Outcome State Fault Refusal := .next (deliverEvent s)

end Sys2Proof.Machine
end

