-- ==== Sys2Proof/Machine/Pair.lean ====
section
/-!
DEFINITION. The redundant pair (14_pair.md): mastery lines, claim, give-up and takeover, the frames of the Strait link,
eligibility and joining.  The cycle mark is in Cycle.lean.
-/

namespace Sys2Proof.Machine

/-! ### Window results (R264, R334) -/

/-- A result and the standby's own access differ, where one of them is a store (R334). -/
def resultDiffers (c : WinAcc) (r : WindowResult) : Bool :=
  let n := accBytes c.size
  (decide (c.kind = .store) || decide (r.kind = .store))
    && !(decide (c.kind = r.kind) && decide (c.addr = r.addr) && decide (n = r.size)
      && decide (c.data.toNat % 2 ^ (8 * n) = r.data.toNat % 2 ^ (8 * n)))

/-- A result completes the standby's access with its stream index. -/
def takeResult (r : WindowResult) (s : State) : State :=
  match s.isth.votes.find? (fun v => decide (v.stream = none) && v.formed.isSome && v.result.isNone
      && decide (v.sindex = r.stream)) with
  | some v =>
    let s := { s with pair := { s.pair with results := s.pair.results.erase r } }
    let s := complete v.order r.cause r.data s
    match v.chosen with
    | some c =>
      if resultDiffers c r then
        standbyFault 4 (raise Ev.pairWinMismatch (winOf c.addr).1 (pairDetail s) r.stream s)
      else s
    | none => s
  | none => s

/-- Every result that has arrived meets the access that waits for it. -/
def matchResults (s : State) : State :=
  if standsBy s then s.pair.results.foldl (fun s r => takeResult r s) s else s

/-- WINDOW_ACCESS (R257, R260, R261, R263, R264). -/
def execWindowAccess (l : Lane) (core : Fin 4) (kind : WinKind) (addr : BitVec 40) (size : BitVec 2) (data : Dword) (s : State) :
    Host.Outcome State Fault Refusal := .next (matchResults (windowAccess l core kind addr size data s))

/-- An access ends as a timeout in the cores of the standby. -/
def endStandbyAccess (order : Nat) (s : State) : State :=
  dropTold (tell order (mapVote s order (fun v => { v with result := some (.timeout, 0) })))

/-- STANDBY_RESULT_TIMEOUT (R334): a result is missing 200 µs after its vote formed. -/
def resultTimeout (s : State) : State :=
  if standsBy s ∧ partnerMaster s then
    match s.isth.votes.find? (fun v => decide (v.stream = none) && v.result.isNone
        && (match v.formed with | some t => decide (t + usRaw 200 ≤ rawNow s) | none => false)) with
    | some v => mirrorMissing 0xFF (endStandbyAccess v.order s)
    | none => s
  else s

/-- STANDBY_RESULT_TIMEOUT. -/
def execStandbyResultTimeout (s : State) : Host.Outcome State Fault Refusal := .next (resultTimeout s)

/-! ### Mastery (R317 to R321) -/

/-- The partner gives up or falls silent while this module stands by without being eligible: it restarts (R321, R337). -/
def partnerGone (s : State) : State :=
  let active := (s.pair.partner.map (fun i => decide (i.state = .active))).getD false
  if standsBy s ∧ ¬bit s Reg.pairStatus 2 ∧ (s.pair.give.isSome ∨ s.pair.silent ∨ (¬partnerMaster s ∧ ¬active)) then
    bootEntry 3 false true s
  else s

/-- A started module in BOOT that finds its partner holding mastery offers HELLO (R337). -/
def offerHello (s : State) : State :=
  if modState s = .boot ∧ s.chrono.startAt.isSome ∧ pairBank s ∧ partnerMaster s then emitOut s (.straitHello (ownHello s))
  else s

/-- The side-2 module of two that claim together stops its wave (R319). -/
def contention (s : State) : State :=
  if partnerMaster s ∧ s.pair.claimAt.isSome ∧ modState s ≠ .active ∧ bit s Reg.pairStatus 12 then
    let s := mstOut { s with pair := { s.pair with claimAt := none } } .alive
    raise Ev.masteryContention 0xFF (pairDetail s) 1 (stick s Reg.pairError 6)
  else s

/-- An ACTIVE module finds the link silent (R320 item 4): it gives up where MST_IN shows ALIVE and the partner was last
reported eligible, else it keeps control without a standby (R321). -/
def silentActive (s : State) : State :=
  if modState s = .active ∧ pairBank s ∧ s.pair.silent then
    let eligible := (s.pair.partner.map (·.eligible)).getD false
    if mstIn s = 1 ∧ eligible then giveUp (raiseF 4 0) .silence s
    else { s with pair := { s.pair with partner := none } }
  else s

/-- MST_IN_CHANGE (R317): recognition of ALIVE or LOW takes 20 µs without an edge, so mastery has then been absent that long. -/
def mstInChange (level : MstLevel) (s : State) : State :=
  let old := mstIn s
  let new := match level with | .low => 0 | .alive => 1 | .mastery => 2
  let s := showScan (setFld s Reg.pairStatus 7 6 new)
  let s := if old = 2 ∧ new ≠ 2 then { s with pair := { s.pair with noMastery := rawNow s - usRaw 20 } } else s
  partnerGone (silentActive (offerHello (contention s)))

/-- MST_IN_CHANGE. -/
def execMstInChange (level : MstLevel) (s : State) : Host.Outcome State Fault Refusal := .next (mstInChange level s)

/-- A module may claim (R319, R321, R337): MST_IN has shown no MASTERY for 20 µs, and an eligible standby has GIVE_UP, a silent
link or MST_IN LOW with no status ACTIVE; a module in BOOT claims when it is started, on side 2 after 1 s without MASTERY. -/
def mayClaim (s : State) : Bool :=
  let partnerActive := !s.pair.silent && (s.pair.partner.map (fun i => decide (i.state = .active))).getD false
  let free := s.pair.claimAt.isNone && pairBank s && !partnerMaster s && decide (s.pair.noMastery + usRaw 20 ≤ rawNow s)
  let standby := decide (modState s = .standby) && bit s Reg.pairStatus 2
    && (s.pair.give.isSome || s.pair.silent || (decide (mstIn s = 0) && !partnerActive))
  let boot := decide (modState s = .boot) && s.chrono.startAt.isSome
    && (!bit s Reg.pairStatus 12 || decide (s.pair.noMastery + msRaw 1000 ≤ rawNow s))
  free && (standby || boot)

/-- MASTERY_CLAIM (R319). -/
def claim (s : State) : State :=
  if mayClaim s then mstOut { s with pair := { s.pair with claimAt := some (rawNow s) } } .mastery else s

/-- MASTERY_CLAIM. -/
def execMasteryClaim (s : State) : Host.Outcome State Fault Refusal := .next (claim s)

/-- 60 µs have passed since the claim (R319). -/
def claimLead (s : State) : Bool :=
  match s.pair.claimAt with
  | some t => decide (t + usRaw 60 ≤ rawNow s)
  | none => false

/-- Cause of a takeover, as PAIR_LAST_TAKEOVER names it (R342). -/
def takeoverCause (s : State) : Nat :=
  match s.pair.give with
  | some c => giveUpCode c
  | none => if s.pair.silent then 5 else 7

/-- The channels stay listen-only until 11 recessive bits have passed (R250, R324). -/
def canTakeover (s : State) : State :=
  let s := (List.range 20).foldl (fun s i =>
    if chEnabled s (i + 1) then setChan s (i + 1) { chan s (i + 1) with waitIdle := true } else s) s
  showListenAll s

/-- One gratuitous ARP for the shared address on each plane (R340). -/
def announceShared (s : State) : State :=
  if getReg s Reg.pairSharedHost = 0 then s
  else [0, 1].foldl (fun s p => engineSend p (arpFrom s p (trafficIp s p) true broadcast (trafficIp s p)) s) s

/-- The journal is read at a takeover: every ring's records that it holds (R102, R341). -/
def readRings (s : State) : State :=
  (List.range 64).foldl (fun s n => if (ringSeqs s n).isEmpty then s else (readJournal n (ringSeqs s n) s).2) s

/-- The journal at a takeover (R341, R112): STARTED records are queued again, DONE ones complete in order. -/
def takeoverRings (s : State) : State :=
  let s := readRings s
  let s := { s with journal := s.journal.map (fun r => if r.state = .started then { r with state := .accepted } else r) }
  (List.range 64).foldl (fun s n =>
    let s := if ringSt s n = ring0 then s else setRing n { ringSt s n with fetchLeft := 0, fetched := none, voted := [] } s
    completeReady n (s.journal.length + 1) s) s

/-- TAKEOVER (R319, R323, R324, R341): the first base-cycle boundary at least 60 µs after the claim. -/
def takeover (s : State) : State :=
  if modState s = .standby ∧ claimLead s ∧ running s ∧ s.chrono.offset = 0 ∧ s.chrono.nextIndex = 0 ∧ ¬s.chrono.hpDue then
    let cause := takeoverCause s
    let s := setBit (setModTo .active s) Reg.pairStatus 2 false
    let s := setReg s Reg.pairLastTakeover (BitVec.ofNat 32 (cause + cycleNow s * 256 + 2 ^ 31))
    let s := recCount 48 (satAdd s Reg.pairCounts 7 0 1)
    let s := raise Ev.takeover 0xFF (pairDetail s) cause s
    let s := { s with pair := { s.pair with claimAt := none, ownImage := false, results := [], give := none, mirroring := false } }
    announceShared (takeoverRings (canTakeover (takeoverIsth (safeTakeover s))))
  else s

/-- TAKEOVER. -/
def execTakeover (s : State) : Host.Outcome State Fault Refusal := .next (takeover s)

/-- CRATE_DRIVERS_RELEASE (R320, R111): operations in progress are aborted and the module enters SAFE_HALT; a restart command
that led to the give-up then restarts it (R146). -/
def driversRelease (s : State) : State :=
  if modState s = .active ∧ s.pair.gaveUp.isSome then
    let restart := s.chrono.req.restart
    let s := enterSafeHalt (raiseF 4 0) s
    let s := { s with pair := { s.pair with gaveUp := none } }
    match restart with
    | some (cold, _) => bootEntry s.restart.cause cold true s
    | none => s
  else s

/-- CRATE_DRIVERS_RELEASE. -/
def execCrateDriversRelease (s : State) : Host.Outcome State Fault Refusal := .next (driversRelease s)

/-- SAFE_HALT_AUTO_RESTART (R320, R337): RESTART_DELAY has passed in SAFE_HALT; not after COMMON_CAUSE_STOP. -/
def autoRestart (s : State) : State :=
  if modState s = .safeHalt ∧ bit s Reg.pairCfg 0 ∧ ¬s.pair.common
      ∧ s.pair.haltRaw + msRaw (100 * fld s Reg.pairCfg 15 8) ≤ rawNow s then bootEntry 4 false true s
  else s

/-- SAFE_HALT_AUTO_RESTART. -/
def execSafeHaltAutoRestart (s : State) : Host.Outcome State Fault Refusal := .next (autoRestart s)

/-! ### Status and silence (R326, R327) -/

/-- A valid frame has arrived: the link is not silent. -/
def heard (s : State) : State := { s with pair := { s.pair with silent := false } }

/-- The lines do not read as they should (R321). -/
def lineWrong (s : State) (i : StatusInfo) : Bool :=
  (standsBy s && decide (i.state = .active) && !partnerMaster s && s.pair.give.isNone && s.pair.claimAt.isNone)
    || (decide (modState s = .active) && s.pair.gaveUp.isNone && (decide (i.state = .standby) || decide (i.state = .joining))
      && decide (i.mstIn ≠ .mastery))

/-- MASTERY_LINE_FAULT while the lines read wrongly, and the time since which they read correctly (R321, R336). -/
def checkLine (i : StatusInfo) (s : State) : State :=
  if lineWrong s i then
    if s.pair.lineFault then s
    else
      let s := stick { s with pair := { s.pair with lineFault := true } } Reg.pairError 3
      standbyFault 9 (raise Ev.masteryLineFault 0xFF (pairDetail s) (mstIn s) s)
  else if s.pair.lineFault then { s with pair := { s.pair with lineFault := false, lineOkRaw := rawNow s } }
  else s

/-- PAIR_STATUS.PARTNER of a state. -/
def partnerCode : ModState → Nat
  | .active => 1
  | .standby => 2
  | .joining => 3
  | _ => 0

/-- The copy to a joining partner ends (R338). -/
def endCopy (s : State) : State :=
  if s.rejoin.fromPair then setReg { s with rejoin := rejoin0 } Reg.pairJoin 0 else s

/-- STRAIT_STATUS: the partner's state, mode, eligibility and lines. -/
def statusRx (i : StatusInfo) (s : State) : State :=
  let s := heard { s with pair := { s.pair with partner := some i } }
  let s := setFld s Reg.pairStatus 5 4 (partnerCode i.state)
  let was := bit s Reg.pairStatus 3
  let s := setBit s Reg.pairStatus 3 i.eligible
  let s := if i.eligible ∧ ¬was then raise Ev.partnerEligible 0xFF (pairDetail s) 0 s else s
  let s := if modState s = .active then
      if i.state = .standby then endCopy s
      else if i.state = .joining then s
      else stopMirroring (endCopy { s with pair := { s.pair with hello := none } })
    else s
  partnerGone (checkLine i s)

/-- STRAIT_STATUS. -/
def execStraitStatus (i : StatusInfo) (s : State) : Host.Outcome State Fault Refusal := .next (statusRx i s)

/-- STRAIT_SILENT (R326): no valid frame on either lane for 20 µs. -/
def straitSilent (s : State) : State :=
  if s.pair.silent then s
  else
    let s := { s with pair := { s.pair with silent := true } }
    let s := raise Ev.straitSilent 0xFF (pairDetail s) (mstIn s) (stick s Reg.pairError 5)
    let s := setFld (setFld s Reg.pairStatus 5 3 0) Reg.pairStatus 11 10 0
    let s := if modState s = .active then stopMirroring (endCopy s) else s
    partnerGone (silentActive s)

/-- STRAIT_SILENT. -/
def execStraitSilent (s : State) : Host.Outcome State Fault Refusal := .next (straitSilent s)

/-- STRAIT_LANE_DOWN (R326): the other lane still delivers. -/
def laneDown (l : Nat) (s : State) : State :=
  if bit s Reg.pairStatus (10 + l) ∧ ¬s.pair.silent then
    let s := setBit (stick s Reg.pairError 4) Reg.pairStatus (10 + l) false
    raise Ev.straitLaneDown l (pairDetail s) l s
  else s

/-- STRAIT_LANE_DOWN. -/
def execStraitLaneDown (l : Fin 2) (s : State) : Host.Outcome State Fault Refusal := .next (laneDown l.val s)

/-- STRAIT_LANE_UP (R326). -/
def execStraitLaneUp (l : Fin 2) (s : State) : Host.Outcome State Fault Refusal :=
  .next (setBit (heard s) Reg.pairStatus (10 + l.val) true)

/-- MST_IN as a STATUS frame reports it. -/
def levelOf : Nat → MstLevel
  | 0 => .low
  | 1 => .alive
  | _ => .mastery

/-- STATUS_FRAME_TX (R326, R327). -/
def statusTx (s : State) : State :=
  match modState s with
  | .sleep | .waking => s
  | m => emitOut s (.straitStatus ⟨m, voteMode s, bit s Reg.pairStatus 2, levelOf (mstIn s),
      (getReg s Reg.pairClass).extractLsb' 0 16⟩)

/-- STATUS_FRAME_TX. -/
def execStatusFrameTx (s : State) : Host.Outcome State Fault Refusal := .next (statusTx s)

/-- LINK_ERRORS advances (R326, R327). -/
def linkError (s : State) : State := satAdd s Reg.pairCounts 23 16 1

/-- STRAIT_RESEND (R326): the frame is repeated on the other lane. -/
def execStraitResend (fseq : Word) (l : Fin 2) (s : State) : Host.Outcome State Fault Refusal :=
  .next (linkError (emitOut (heard s) (.straitRepeat fseq (1 - l.val))))

/-- STRAIT_FRAME_ERROR (R326, R327): a bad frame is requested again, by an FSEQ that a broken frame leaves open; a reserved
TYPE is counted. -/
def frameError (what : StraitErr) (s : State) : State :=
  match what with
  | .crc => let (v, s) := takeFree s; emitOut s (.straitResend (v.extractLsb' 0 32))
  | .gap fseq => emitOut s (.straitResend fseq)
  | .reservedType => linkError s

/-- STRAIT_FRAME_ERROR. -/
def execStraitFrameError (_ : Fin 2) (what : StraitErr) (s : State) : Host.Outcome State Fault Refusal :=
  .next (frameError what s)

/-! ### Shadow execution (R329 to R334) -/

/-- STRAIT_IMAGE (R329): the image and the slots wait for the standby's DELIVER. -/
def imageRx (c : ImageContent) (s : State) : State :=
  let s := heard s
  if standsBy s then
    let images := s.pair.images.filter (fun x => decide (x.1 ≠ c.image.val)) ++ [(c.image.val, c.bytes, c.cycleStart, c.sampleTime)]
    let slots := c.slots.foldl (fun l (t, x) => l.filter (fun y => decide (y.1 ≠ t)) ++ [(t, x)]) s.pair.slots
    { s with pair := { s.pair with images := images, slots := slots } }
  else s

/-- STRAIT_IMAGE. -/
def execStraitImage (c : ImageContent) (s : State) : Host.Outcome State Fault Refusal := .next (imageRx c s)

/-- A mirrored journal record meets the descriptor that the standby voted for the same ring and SEQ (R332). -/
def meetVoted (r : JRecord) (s : State) : State :=
  let x := ringSt s r.ring
  match x.voted.find? (fun v => decide (v.1.seq = r.desc.seq)) with
  | some v =>
    let s := setRing r.ring { x with voted := x.voted.erase v } s
    if v.1 = r.desc ∧ v.2 = r.payload then s else descMismatch r.ring r.desc.seq s
  | none => s

/-- A mark never takes a record back from DONE. -/
def mirrorMark (n : Nat) (seq : Word) (st : JState) (o : DescOutcome) (a : Dword) (s : State) : State :=
  mapRec s n seq (fun r =>
    if r.state = .done then r else if st = .done then { r with state := st, outcome := o, detailA := a } else { r with state := st })

/-- One item of a batch is written to the standby's journal, books and queues (R330). -/
def mirrorItem (s : State) : JItem → State
  | .record r =>
    let s := { s with journal := s.journal ++ [{ r with state := .accepted }] }
    meetVoted r (showRing (setReg s (Reg.ringAccepted r.ring) r.desc.seq) r.ring)
  | .mark n seq st o a => mirrorMark n seq st o a s
  | .freed n seq =>
    let s := { s with journal := s.journal.filter (fun r => !(decide (r.ring = n) && decide (r.desc.seq = seq))) }
    showRing (setReg s (Reg.ringCompleted n) seq) n
  | .event m i k r =>
    let e := s.evq
    let s := { s with evq := { e with
      part := e.part ++ [(m, i, r)], counts := tset 0 e.counts m k
      overflow := e.overflow.eraseP (fun w => decide (w.queue = m) && decide (w.record = r)) } }
    showRecord (showOverflow s) m i r
  | .waiting m k r =>
    let e := s.evq
    showOverflow { s with evq := { e with overflow := e.overflow ++ [⟨m, r, false⟩], counts := tset 0 e.counts m k } }
  | .started m => showCredits (showOverflow (startBooks m s)) m
  | .setup n x => { s with journalSetup := tput s.journalSetup n x }
  | .books n a c =>
    let s := { s with journal := s.journal.filter (fun r =>
      decide (r.ring ≠ n) || (decide (r.desc.seq ≠ c) && decide (wsub r.desc.seq c ≤ wsub a c))) }
    showRing (setReg (setReg s (Reg.ringAccepted n) a) (Reg.ringCompleted n) c) n
  | .head m h =>
    let part := s.evq.part.filter (fun (q, i, _) => decide (q ≠ m) || decide (wsub i h < 2 ^ 31))
    showCredits (setReg { s with evq := { s.evq with part := part } } (Reg.evqHead m) h) m

/-- STRAIT_JOURNAL (R330): the batch is written in order and acknowledged. -/
def journalRx (batch : Word) (items : List JItem) (s : State) : State :=
  let s := heard s
  if standsBy s then
    let s := items.foldl mirrorItem s
    setReg (emitOut s (.straitAck false batch true)) Reg.pairBatch batch
  else s

/-- STRAIT_JOURNAL. -/
def execStraitJournal (batch : Word) (items : List JItem) (s : State) : Host.Outcome State Fault Refusal :=
  .next (journalRx batch items s)

/-- First COLLECT in which a check and the standby's own digests differ (R331); none where each matches. -/
def checkDiffers : List CheckItem → List (CheckItem × List Nat × Nat) → Option Nat
  | [], _ => none
  | i :: _, [] => some i.index.toNat
  | i :: is, (d, _) :: ds => if i = d then checkDiffers is ds else some i.index.toNat

/-- Items of a check that a module which has just joined can compare: those from its own first COLLECT onward. -/
def checkItems (s : State) (items : List CheckItem) : List CheckItem :=
  if modState s = .joining ∧ s.pair.eligCount = 0 then
    match s.pair.digests with
    | [] => []
    | (d, _) :: _ => items.dropWhile (fun i => decide (i.index ≠ d.index))
  else items

/-- A matched check (R331, R323): the blocks that its COLLECTs wrote become confirmed, unless a later COLLECT rewrote them. -/
def confirmBlocks (done rest : List (CheckItem × List Nat × Nat)) (s : State) : State :=
  let newer := rest.flatMap (fun x => x.2.1)
  let ok := (done.flatMap (fun x => x.2.1)).filter (fun b => !newer.contains b)
  showWithhold { s with pair := { s.pair with unconfirmed := s.pair.unconfirmed.filter (fun b => !ok.contains b) } }

/-- STRAIT_CHECK (R331, R221): compared with the standby's own COLLECTs, counters stored, acknowledged with the result. -/
def checkRx (c : CheckContent) (s : State) : State :=
  let s := heard s
  if modState s = .standby ∨ (modState s = .joining ∧ joinPhase s = 6) then
    let items := checkItems s c.items
    let bad := checkDiffers items s.pair.digests
    let done := s.pair.digests.take items.length
    let rest := s.pair.digests.drop items.length
    let s := { s with pair := { s.pair with digests := rest } }
    let s := c.counters.foldl (fun s (k, n) => if k < 128 then setReg s (Reg.safeConnSeq k) n else s) s
    let s := emitOut s (.straitAck true c.seq bad.isNone)
    match bad with
    | some i => outputMismatch i s
    | none => confirmBlocks done rest s
  else s

/-- STRAIT_CHECK. -/
def execStraitCheck (c : CheckContent) (s : State) : Host.Outcome State Fault Refusal := .next (checkRx c s)

/-- STRAIT_ACK (R330, R331): a batch is accepted up to the one acknowledged; a failed check is an OUTPUT_MISMATCH here too,
whose COLLECT the frame does not name (assumption log 1). -/
def ackRx (isCheck : Bool) (seq : Word) (ok : Bool) (s : State) : State :=
  let s := heard s
  if modState s ≠ .active then s
  else if isCheck then
    if s.pair.checkOpen.contains seq then
      let s := { s with pair := { s.pair with checkOpen := s.pair.checkOpen.erase seq } }
      if ok then s else let (v, s) := takeFree s; outputMismatch (v.toNat % 65536) s
    else s
  else match s.pair.batchOpen.find? (fun b => decide (b.1 = seq)) with
    | some b =>
      let s := { s with pair := { s.pair with batchOpen := s.pair.batchOpen.erase b } }
      setReg (batchAcked b.2 s) Reg.pairBatch seq
    | none => s

/-- STRAIT_ACK. -/
def execStraitAck (isCheck : Bool) (seq : Word) (ok : Bool) (s : State) : Host.Outcome State Fault Refusal :=
  .next (ackRx isCheck seq ok s)

/-- STRAIT_WINDOW_RESULT (R334). -/
def windowResultRx (r : WindowResult) (s : State) : State :=
  let s := heard s
  if standsBy s then matchResults { s with pair := { s.pair with results := s.pair.results ++ [r] } } else s

/-- STRAIT_WINDOW_RESULT. -/
def execStraitWindowResult (r : WindowResult) (s : State) : Host.Outcome State Fault Refusal := .next (windowResultRx r s)

/-! ### Notices and give-up -/

/-- The later of two hyperperiod counts, modulo 2^32. -/
def laterHp (a b : Word) : Word := if wsub a b < 2 ^ 31 then a else b

/-- The partner's exchange boundary (R157): a standby takes the active module's; the active module takes the later of the two
and sends it again where it moves. -/
def exchangeNotice (h : Word) (s : State) : State :=
  if modState s = .active then
    let b := match s.pair.exchangeHp with | some own => laterHp own h | none => h
    let moved := s.chrono.req.bankSwitch.isSome && decide (s.pair.exchangeHp ≠ some b)
    let s := { s with pair := { s.pair with exchangeHp := some b } }
    if moved then emitOut s (.straitNotice (.exchange b)) else s
  else if standsBy s then { s with pair := { s.pair with exchangeHp := some h } }
  else s

/-- STRAIT_NOTICE (R141, R157, R160, R335, R338, R366). -/
def noticeRx (n : Notice) (s : State) : State :=
  let s := heard s
  match n with
  | .overrun t h => overrunNotice t h s
  | .force c hp cycle => forceNotice c (hp, cycle) s
  | .exchange h => exchangeNotice h s
  | .sleep h =>
    if standsBy s then { s with pair := { s.pair with sleepHp := some h }, skerry := { s.skerry with held := 0 } } else s
  | .inputXchk c k => if modState s = .active then inputXchk c.toNat k.toNat s else s
  | .copyFailed => if modState s = .joining ∧ 1 ≤ joinPhase s ∧ s.pair.retryRaw.isNone then joinFailed 3 s else s

/-- STRAIT_NOTICE. -/
def execStraitNotice (n : Notice) (s : State) : Host.Outcome State Fault Refusal := .next (noticeRx n s)

/-- STRAIT_GIVE_UP (R321). -/
def giveUpRx (c : GiveUpCause) (s : State) : State :=
  let s := heard s
  if standsBy s then partnerGone { s with pair := { s.pair with give := some c } } else s

/-- STRAIT_GIVE_UP. -/
def execStraitGiveUp (c : GiveUpCause) (s : State) : Host.Outcome State Fault Refusal := .next (giveUpRx c s)

/-! ### Joining (R337 to R339) -/

/-- The copied journal replaces the joining module's (R338 step 3). -/
def copyJournal (records : List JRecord) (books : List (Nat × Word × Word)) (setups : List (Nat × RingSetup))
    (events : List (Nat × Word × Record)) (heads : List (Nat × Word × Word × Word)) (overflow : List (Nat × Bool × Record))
    (s : State) : State :=
  let s := { s with journal := records.map (fun r => if r.state = .pending then { r with state := .accepted } else r),
                    journalSetup := setups.foldl (fun t (n, x) => tput t n x) [],
                    evq := { s.evq with part := events, overflow := overflow.map (fun (m, c, r) => ⟨m, r, c⟩) } }
  let s := showOverflow s
  let s := books.foldl (fun s (n, a, c) => showRing (setReg (setReg s (Reg.ringAccepted n) a) (Reg.ringCompleted n) c) n) s
  heads.foldl (fun s (m, t, h, k) =>
    let s := { s with evq := { s.evq with counts := tset 0 s.evq.counts m k } }
    showCredits (setReg (setReg s (Reg.evqTail m) t) (Reg.evqHead m) h) m) s

/-- STRAIT_COPY (R338 steps 3 and 4). -/
def copyRx (c : CopyContent) (s : State) : State :=
  let s := heard s
  if modState s = .joining then
    match c with
    | .journal records books setups events heads overflow => copyJournal records books setups events heads overflow s
    | .retained ever invalid gen app size last log data =>
      let mem := data.foldl (fun m (a, b) => writeByte m a b) noMem
      setReg { s with retain := { ever := ever, generation := gen, appBuild := app, size := size,
                                  lastRelease := last.foldl (fun t (k, v) => tset 0 t k v) [], invalid := invalid,
                                  headPoison := false, data := mem, log := log, wordWritten := log.isSome, logBad := [] } }
        Reg.modRetainGen gen
    | .page p bytes =>
      (lanesIn s .rejoining).foldl (fun s l =>
        { s with dram := s.dram.set l (writeBytes (s.dram.get l) (4096 * p.toNat) bytes) }) s
  else s

/-- STRAIT_COPY. -/
def execStraitCopy (c : CopyContent) (s : State) : Host.Outcome State Fault Refusal :=
  if c.wellFormed then .next (copyRx c s) else .fault .illFormed

/-- The two modules' pair classes, banks, application and state area are alike (R338 step 1, R339): the banks in order from BOOT, as a set in
a renewed join. -/
def helloAlike (s : State) (h : HelloInfo) : Bool :=
  let o := ownHello s
  let inOrder := decide (h.activeId = o.activeId) && decide (h.shadowId = o.shadowId)
  let crossed := decide (h.activeId = o.shadowId) && decide (h.shadowId = o.activeId)
  (inOrder || (decide (modState s = .joining) && crossed)) && decide (h.extents = o.extents) && decide (h.pairClass = o.pairClass)
    && (!inOrder || decide (h.appBuildId = o.appBuildId))

/-- The Chronograph takes the bank whose BUILD_ID equals the partner's active bank (R339). -/
def adoptBank (h : HelloInfo) (s : State) : State :=
  if h.activeId ≠ get64 s Reg.chronoActiveIdLo ∧ h.activeId = get64 s Reg.chronoShadowIdLo then
    showBanks (setFld s Reg.chronoStatus 1 1 (1 - activeNo s))
  else s

/-- A join attempt goes on after HELLO (R338 step 2); its 30 s count from here. -/
def joinStarts (h : HelloInfo) (s : State) : State :=
  let s := adoptBank h { s with pair := { s.pair with joinRaw := rawNow s } }
  setFld s Reg.pairJoin 2 0 2

/-- READY of the lanes, bit 2 = A (R386). -/
def readyMask (s : State) : Nat := ((readyLanes s).map (fun l => 2 ^ (2 - l.idx))).sum

/-- START_DEGRADED where the module starts with two ready lanes (R374). -/
def startDegraded (s : State) : State :=
  if (readyLanes s).length = 2 then raise Ev.startDegraded 0xFF 0 (readyMask s) s else s

/-- A started module in BOOT joins (R337): its ready lanes have passed TESTING. -/
def joinFromBoot (s : State) : State :=
  let s := setModTo .joining s
  let s := setReg { s with pair := { s.pair with joinRaw := rawNow s, retryRaw := none, reason := 0, eligCount := 0 } }
    Reg.pairJoin 0x11
  let s := (readyLanes s).foldl (fun s l =>
    setLaneTo l .rejoining (setLane s l { s.lanes.get l with ready := false, rejoinRaw := rawNow s }))
    (startDegraded s)
  showListenAll s

/-- STRAIT_HELLO (R337, R338, R339). -/
def helloRx (h : HelloInfo) (s : State) : State :=
  let s := heard { s with pair := { s.pair with hello := some h } }
  let s := setFld s Reg.pairClass 31 16 h.pairClass.toNat
  match modState s with
  | .active =>
    let standby := (s.pair.partner.map (fun i => decide (i.state = .standby))).getD false
    if pairBank s ∧ s.pair.gaveUp.isNone ∧ ¬standby then
      emitOut (stopMirroring (endCopy s)) (.straitHello (ownHello s))
    else s
  | .boot =>
    if s.chrono.startAt.isNone ∨ ¬pairBank s ∨ ¬partnerMaster s then s
    else if h.pairClass ≠ (ownHello s).pairClass then
      enterMaintenance 6 (raise Ev.pairClassMismatch 0xFF (pairDetail s) h.pairClass.toNat s)
    else if helloAlike s h then joinStarts h (joinFromBoot s)
    else enterMaintenance 6 (raise Ev.joinFailed 0xFF (pairDetail s) 2 (stick s Reg.pairError 7))
  | .joining =>
    if joinPhase s ≠ 1 then s
    else if helloAlike s h then joinStarts h s
    else joinFailed 2 s
  | _ => s

/-- STRAIT_HELLO. -/
def execStraitHello (h : HelloInfo) (s : State) : Host.Outcome State Fault Refusal := .next (helloRx h s)

/-- The whole journal, as COPY frames carry it (R338 step 3). -/
def journalCopy (s : State) : CopyContent :=
  .journal s.journal ((List.range 64).map (fun n => (n, ringA s n, ringC s n))) s.journalSetup s.evq.part
    ((List.range 4).map (fun m => (m, evqTail s m, evqHead s m, tget 0 s.evq.counts m)))
    (s.evq.overflow.map (fun w => (w.queue, w.carried, w.record)))

/-- The retain header, log and data, as COPY frames carry them. -/
def retainCopy (s : State) : CopyContent :=
  let r := s.retain
  .retained r.ever r.invalid r.generation r.appBuild r.size r.lastRelease r.log r.data.cells

/-- JOIN_JOURNAL_DONE (R338 step 3): the joining module goes on to BULK; the active module has sent journal and retained data,
mirrors batches from now on and starts the copy of the state area. -/
def journalDone (s : State) : State :=
  if joinStep s 2 then setFld s Reg.pairJoin 2 0 3
  else
    let joining := (s.pair.partner.map (fun i => decide (i.state = .joining))).getD false
    if modState s = .active ∧ pairBank s ∧ joining ∧ s.pair.hello.isSome ∧ ¬s.pair.mirroring ∧ ¬s.pair.silent
        ∧ copyPhase s = 0 then
      let s := emitOut (emitOut s (journalCopy s |> .straitCopy)) (.straitCopy (retainCopy s))
      let s := { s with pair := { s.pair with mirroring := true, delta := [], digests := [] },
                        rejoin := { rejoin0 with fromPair := true, toCopy := saPages s } }
      showDirty (setFld s Reg.pairJoin 2 0 3)
    else s

/-- JOIN_JOURNAL_DONE. -/
def execJoinJournalDone (s : State) : Host.Outcome State Fault Refusal := .next (journalDone s)

/-- JOIN_TIMEOUT (R338): not in STANDBY 30 s after HELLO. -/
def joinTimeout (s : State) : State :=
  if modState s = .joining ∧ s.pair.retryRaw.isNone ∧ s.pair.joinRaw + msRaw 30000 ≤ rawNow s then joinFailed 1 s else s

/-- JOIN_TIMEOUT. -/
def execJoinTimeout (s : State) : Host.Outcome State Fault Refusal := .next (joinTimeout s)

/-- JOIN_RETRY (R337): 1 s after a failed attempt. -/
def joinRetry (s : State) : State :=
  match s.pair.retryRaw with
  | some t =>
    if modState s = .joining ∧ t + msRaw 1000 ≤ rawNow s then startAttempt (lanesToTesting s) else s
  | none => s

/-- JOIN_RETRY. -/
def execJoinRetry (s : State) : Host.Outcome State Fault Refusal := .next (joinRetry s)

/-- JOIN_COMPLETE (R337): ELIG_CYCLES consecutive cycles matched after FINAL. -/
def joinComplete (s : State) : State :=
  if joinStep s 6 ∧ eligCycles s ≤ s.pair.eligCount then
    let s := setFld (setModTo .standby s) Reg.pairJoin 2 0 0
    let why := if ¬isVoting s then 7 else if s.pair.lineFault then 9 else 0
    setBit { s with pair := { s.pair with reason := why } } Reg.pairStatus 2 (decide (why = 0))
  else s

/-- JOIN_COMPLETE. -/
def execJoinComplete (s : State) : Host.Outcome State Fault Refusal := .next (joinComplete s)

/-- The lines have read correctly for 1 s since the last fault, if there was one. -/
def linesOk (s : State) : Bool :=
  !s.pair.lineFault && (decide (s.pair.lineOkRaw = 0) || decide (s.pair.lineOkRaw + msRaw 1000 ≤ rawNow s))

/-- ELIGIBILITY_REGAINED (R336): the wait of reason 7, 8 or 9 is over and no other cause applies. -/
def regain (s : State) : State :=
  let waited : Bool := match s.pair.reason with
    | 7 => decide (eligCycles s ≤ s.pair.eligCount)
    | 8 => decide (max 1 (fld s Reg.pairXchk 7 0) ≤ s.pair.xchkOk)
    | 9 => true
    | _ => false
  if modState s = .standby ∧ ¬bit s Reg.pairStatus 2 ∧ waited ∧ isVoting s ∧ linesOk s then
    setBit { s with pair := { s.pair with reason := 0 } } Reg.pairStatus 2 true
  else s

/-- ELIGIBILITY_REGAINED. -/
def execEligibilityRegained (s : State) : Host.Outcome State Fault Refusal := .next (regain s)

/-! ### Commands -/

/-- PAIR_CMD HANDOVER (R320, R342), with the value written. -/
def pairHandover (v : Nat) (s : State) : State :=
  if modState s = .active ∧ eligiblePartner s then
    { s with chrono := { s.chrono with req := { s.chrono.req with handover := some s.time.mt } } }
  else raise Ev.pairCmdRefused 0xFF (pairDetail s) v s

/-- PAIR_HANDOVER. -/
def execPairHandover (s : State) : Host.Outcome State Fault Refusal := .next (pairHandover 1 s)

/-- PAIR_CMD CLEAR_COUNTS (R342). -/
def execPairClearCounts (s : State) : Host.Outcome State Fault Refusal := .next (setReg s Reg.pairCounts 0)

end Sys2Proof.Machine
end

