-- ==== Sys2Proof/Machine/Crypto.lean ====
section
/-!
DEFINITION. The algorithms that the image store and service access name: SHA-256 and SHA-512 (FIPS 180-4), HMAC-SHA-256
(RFC 2104) and the verification of an Ed25519 signature (RFC 8032) (R377, R378, R435).
-/

namespace Sys2Proof.Machine

/-! ### SHA-2 -/

/-- The largest `r` of `bits` bits with `r ^ k` not above `n`. -/
def rootFloor (k bits n : Nat) : Nat :=
  (List.range bits).foldl (fun r i => let c := r + 2 ^ (bits - 1 - i); if c ^ k ≤ n then c else r) 0

/-- The first 80 primes. -/
def shaPrimes : List Nat := (List.range 410).filter (fun n => decide (2 ≤ n) && (List.range n).all (fun d => decide (d < 2) || decide (n % d ≠ 0)))

/-- Round constants: the first bits of the fractional parts of the primes' cube roots. -/
def shaRound (w n : Nat) : List (BitVec w) := (shaPrimes.take n).map (fun p => BitVec.ofNat w (rootFloor 3 (w + 4) (p * 2 ^ (3 * w))))

/-- Initial hash value: the first bits of the fractional parts of the first eight primes' square roots. -/
def shaStart (w : Nat) : List (BitVec w) := (shaPrimes.take 8).map (fun p => BitVec.ofNat w (rootFloor 2 (w + 4) (p * 2 ^ (2 * w))))

/-- The rotations and shifts of one SHA-2 function: Sigma 0, Sigma 1, sigma 0 and sigma 1, the last of the latter a shift. -/
structure ShaShifts where
  big0   : Nat × Nat × Nat
  big1   : Nat × Nat × Nat
  small0 : Nat × Nat × Nat
  small1 : Nat × Nat × Nat

/-- Sigma of three rotations. -/
def shaBig {w : Nat} (r : Nat × Nat × Nat) (x : BitVec w) : BitVec w :=
  x.rotateRight r.1 ^^^ x.rotateRight r.2.1 ^^^ x.rotateRight r.2.2

/-- sigma of two rotations and a shift. -/
def shaSmall {w : Nat} (r : Nat × Nat × Nat) (x : BitVec w) : BitVec w :=
  x.rotateRight r.1 ^^^ x.rotateRight r.2.1 ^^^ (x >>> r.2.2)

/-- Message schedule, newest word first. -/
def shaSchedule {w : Nat} (p : ShaShifts) : Nat → List (BitVec w) → List (BitVec w)
  | 0, l => l
  | n + 1, l => shaSchedule p n ((shaSmall p.small1 (nth 0 l 1) + nth 0 l 6 + shaSmall p.small0 (nth 0 l 14) + nth 0 l 15) :: l)

/-- One round on the eight working variables. -/
def shaStep {w : Nat} (p : ShaShifts) (v : List (BitVec w)) (kw : BitVec w × BitVec w) : List (BitVec w) :=
  let x := fun i => nth 0 v i
  let t1 := x 7 + shaBig p.big1 (x 4) + ((x 4 &&& x 5) ^^^ (~~~(x 4) &&& x 6)) + kw.1 + kw.2
  let t2 := shaBig p.big0 (x 0) + ((x 0 &&& x 1) ^^^ (x 0 &&& x 2) ^^^ (x 1 &&& x 2))
  [t1 + t2, x 0, x 1, x 2, x 3 + t1, x 4, x 5, x 6]

/-- One block of 16 words. -/
def shaBlock {w : Nat} (p : ShaShifts) (ks h block : List (BitVec w)) : List (BitVec w) :=
  let ws := (shaSchedule p (ks.length - 16) block.reverse).reverse
  ((ks.zip ws).foldl (shaStep p) h).zipWith (· + ·) h

/-- The blocks of a padded message. -/
def shaRun {w : Nat} (p : ShaShifts) (ks : List (BitVec w)) : Nat → List Byte → List (BitVec w) → List (BitVec w)
  | 0, _, h => h
  | n + 1, bs, h =>
    let k := w / 8
    let block := (List.range 16).map (fun i => BitVec.ofNat w (beVal ((bs.drop (k * i)).take k)))
    shaRun p ks n (bs.drop (16 * k)) (shaBlock p ks h block)

/-- A SHA-2 digest: padding, blocks, the hash as bytes. -/
def shaDigest (w : Nat) (p : ShaShifts) (rounds : Nat) (bs : List Byte) : List Byte :=
  let k := w / 8
  let n := (bs.length + 1 + 2 * k + 16 * k - 1) / (16 * k)
  let padded := bs ++ [0x80] ++ List.replicate (n * (16 * k) - bs.length - 1 - 2 * k) 0 ++ beBytes (2 * k) (8 * bs.length)
  (shaRun p (shaRound w rounds) n padded (shaStart w)).flatMap (fun x => beBytes k x.toNat)

/-- SHA-256. -/
def sha256 (bs : List Byte) : List Byte :=
  shaDigest 32 ⟨(2, 13, 22), (6, 11, 25), (7, 18, 3), (17, 19, 10)⟩ 64 bs

/-- SHA-512. -/
def sha512 (bs : List Byte) : List Byte :=
  shaDigest 64 ⟨(28, 34, 39), (14, 18, 41), (1, 8, 7), (19, 61, 6)⟩ 80 bs

/-- HMAC-SHA-256. -/
def hmacSha256 (key msg : List Byte) : List Byte :=
  let k := fit 64 0 (if 64 < key.length then sha256 key else key)
  sha256 (k.map (· ^^^ 0x5C) ++ sha256 (k.map (· ^^^ 0x36) ++ msg))

/-! ### Ed25519 -/

/-- The field's prime. -/
def edP : Nat := 2 ^ 255 - 19
/-- The group's order. -/
def edL : Nat := 2 ^ 252 + 27742317777372353535851937790883648493

/-- A power modulo `m`, over the 256 bits of the exponent. -/
def powMod (m b e : Nat) : Nat :=
  (List.range 256).foldl (fun r i => let r := r * r % m; if e.testBit (255 - i) then r * b % m else r) 1

/-- Inverse in the field. -/
def edInv (a : Nat) : Nat := powMod edP a (edP - 2)
/-- Difference in the field. -/
def edSub (a b : Nat) : Nat := (a + edP - b % edP) % edP
/-- The curve's constant d. -/
def edD : Nat := edSub 0 (121665 * edInv 121666 % edP)

/-- A point in extended coordinates X, Y, Z, T. -/
abbrev EdPoint := Nat × Nat × Nat × Nat

/-- Sum of two points. -/
def edAdd : EdPoint → EdPoint → EdPoint
  | (x1, y1, z1, t1), (x2, y2, z2, t2) =>
    let a := edSub y1 x1 * edSub y2 x2 % edP
    let b := (y1 + x1) * (y2 + x2) % edP
    let c := t1 * 2 % edP * edD % edP * t2 % edP
    let d := z1 * 2 * z2 % edP
    let e := edSub b a
    let f := edSub d c
    let g := (d + c) % edP
    let h := (b + a) % edP
    (e * f % edP, g * h % edP, f * g % edP, e * h % edP)

/-- A multiple of a point. -/
def edMul (k : Nat) (q : EdPoint) : EdPoint :=
  (List.range 256).foldl (fun r i => let r := edAdd r r; if k.testBit (255 - i) then edAdd r q else r) (0, 1, 1, 0)

/-- The point with a y and the sign of x. -/
def edPoint (y sign : Nat) : Option EdPoint :=
  if edP ≤ y then none
  else
    let u := edSub (y * y % edP) 1
    let v := (edD * (y * y % edP) + 1) % edP
    let v3 := v * v % edP * v % edP
    let x := u * v3 % edP * powMod edP (u * (v3 * v3 % edP) % edP * v % edP) ((edP - 5) / 8) % edP
    let vx := v * (x * x % edP) % edP
    let root : Option Nat :=
      if vx = u then some x
      else if vx = edSub 0 u then some (x * powMod edP 2 ((edP - 1) / 4) % edP)
      else none
    match root with
    | none => none
    | some x =>
      if x = 0 ∧ sign = 1 then none
      else
        let x := if x % 2 = sign then x else edP - x
        some (x, y, 1, x * y % edP)

/-- The point that 32 bytes encode. -/
def edDecode (bs : List Byte) : Option EdPoint := let n := leVal (bs.take 32); edPoint (n % 2 ^ 255) (n / 2 ^ 255 % 2)

/-- The base point. -/
def edBase : EdPoint := (edPoint (4 * edInv 5 % edP) 0).getD (0, 1, 1, 0)

/-- Two points are the same. -/
def edSame : EdPoint → EdPoint → Bool
  | (x1, y1, z1, _), (x2, y2, z2, _) => decide (x1 * z2 % edP = x2 * z1 % edP) && decide (y1 * z2 % edP = y2 * z1 % edP)

/-- An Ed25519 signature of a message verifies under a public key (RFC 8032, 5.1.7). -/
def edVerify (key msg sig : List Byte) : Bool :=
  let s := leVal (sig.drop 32)
  match edDecode key, edDecode sig with
  | some a, some r =>
    let k := leVal (sha512 (sig.take 32 ++ key ++ msg)) % edL
    decide (key.length = 32) && decide (sig.length = 64) && decide (s < edL)
      && edSame (edMul 8 (edMul s edBase)) (edAdd (edMul 8 r) (edMul 8 (edMul k a)))
  | _, _ => false

end Sys2Proof.Machine
end

