-- ==== Sys2Proof/Machine/Image.lean ====
section
/-!
DEFINITION. The image store (R376 to R385, R388): images and their checks, boot sets and tested combinations, the commands of
IMG_CMD.
-/

namespace Sys2Proof.Machine

/-! ### Images (R377, R378) -/

/-- Header field of a slot's image. -/
def imgFld (x : Slot) (off n : Nat) : Nat := readLE x.content off n

/-- PAYLOAD_LEN. -/
def payloadLen (x : Slot) : Nat := imgFld x 32 4

/-- COMPAT_CLASS. -/
def compatClass (x : Slot) : Nat := imgFld x 14 2

/-- BUILD_ID. -/
def imgBuild (x : Slot) : Nat := imgFld x 16 8

/-- LINK_ID. -/
def imgLink (x : Slot) : Nat := imgFld x 24 8

/-- Largest payload of a TYPE. -/
def largestPayload : Nat → Nat
  | 1 => 4 * 2 ^ 20 | 2 => 64 * 2 ^ 20 | 3 => 16 * 2 ^ 20 | 4 => 1049600 | 5 => 2 ^ 30 | 6 => 64 * 2 ^ 20 | _ => 2 ^ 20

/-- Types that an integrator key signs. -/
def integratorType (t : Nat) : Bool := decide (4 ≤ t) && decide (t ≤ 6)

/-- The header is well formed for a TYPE (R377). -/
def headerGood (x : Slot) (t : Nat) : Bool :=
  let m := x.content
  decide (imgFld x 0 4 = 0x4B50494D) && decide (imgFld x 4 2 = 1) && decide (imgFld x 6 1 = t) && decide (1 ≤ t) && decide (t ≤ 7)
    && decide (imgFld x 7 1 ≤ 4) && decide (payloadLen x ≤ largestPayload t) && decide (readLE m 68 124 = 0)
    && (match t with
        | 4 => decide (imgFld x 8 6 = readLE m 264 6) && decide (compatClass x = readLE m 270 2)
            && decide (imgBuild x = readLE m 296 8) && decide (imgLink x = readLE m 304 8)
        | 6 => true
        | _ => decide (imgLink x = 0))

/-- The public key that a KEY_ID names for a TYPE, where it is allowed and present (R378). -/
def imgKey (s : State) (t id : Nat) : Option (List Byte) :=
  if integratorType t then
    (if 1 ≤ id ∧ id ≤ 4 then (s.store.keys.find? (fun k => decide (k.1 = id))).map (·.2) else none)
  else if id = 0 then some Config.fitrioldKey else none

/-- First reason for which the header or signature of an image is not valid; 0 when both are (R378, IMG_RESULT). -/
def headReason (s : State) (x : Slot) (t : Nat) : Nat :=
  if isPoisoned x.content 0 256 then 11
  else if !(headerGood x t) then 5
  else match imgKey s t (imgFld x 7 1) with
    | none => 8
    | some key => if edVerify key (readBytes x.content 0 192) (readBytes x.content 192 64) then 0 else 7

/-- Reason for which the payload fails as it is loaded; 0 when it does not. -/
def payloadReason (x : Slot) : Nat :=
  if isPoisoned x.content 256 (payloadLen x) then 11
  else if sha256 (readBytes x.content 256 (payloadLen x)) = readBytes x.content 36 32 then 0
  else 6

/-- An image store page is uncorrectable or poisoned (R359): each decode is reported; where a slot lies in the NAND is not
stated, so the offset is free. -/
def reportSlot (n : Nat) (s : State) : State :=
  (badWords (slotOf s n).content 0 (2 ^ 32)).foldl (fun s (_, kind) =>
    let (v, s) := takeFree s
    memUncorrectable 11 (v.toNat % 2 ^ 33) kind s) s

/-- What a slot shows of poison, reported when the reason is POISON. -/
def reportIf (why n : Nat) (s : State) : State := if why = 11 then reportSlot n s else s

/-! ### Combinations (R379) -/

/-- Classes of the six images that a combination names, in type order. -/
def classesOf (xs : List Slot) : List Nat := xs.map compatClass

/-- Index of the first combination record of a table that matches six classes. -/
def findCombo (table : Slot) (classes : List Nat) : Option Nat :=
  let m := table.content
  let first := 256 + 16 + 4 * readLE m 256 2
  (List.range (readLE m 258 2)).find? (fun i =>
    classes.zipIdx.all (fun (c, j) =>
      let r := readLE m (first + 16 * i + 2 * j) 2
      decide (r = 0xFFFF) || decide (r = c)))

/-- Pair class of the issue record that names a hardware issue. -/
def findIssue (table : Slot) (letter : Nat) : Option Nat :=
  let m := table.content
  ((List.range (readLE m 256 2)).find? (fun i => decide (readLE m (272 + 4 * i) 1 = letter))).map
    (fun i => readLE m (274 + 4 * i) 2)

/-- ISSUE of MOD_HW_ISSUE. -/
def hwIssue (s : State) : Nat := fld s Reg.modHwIssue 7 0

/-- A combination is tested under a table (R379). -/
def comboTested (s : State) (table : Slot) (classes : List Nat) : Bool :=
  (findCombo table classes).isSome && (findIssue table (hwIssue s)).isSome

/-! ### Boot sets -/

/-- The boot set of a bank. -/
def bootSet (s : State) (b : Nat) : BootSet := if b = 0 then s.store.boot0 else s.store.boot1

/-- The bank of the booted set. -/
def bootedBank (s : State) : Nat := fld s Reg.imgStatus 1 1

/-- Slot number of the image of a TYPE in a bank's boot set. -/
def setSlotNo (s : State) (b t : Nat) : Nat := 128 * b + nth 0 (bootSet s b).slots (t - 1)

/-- Slot number of the booted image of a TYPE. -/
def bootedSlot (s : State) (t : Nat) : Nat := setSlotNo s (bootedBank s) t

/-- The slot belongs to the booted set. -/
def isBooted (s : State) (n : Nat) : Bool :=
  s.store.checksOk && (List.range 7).any (fun t => decide (bootedSlot s (t + 1) = n))

/-- The links of R380: EPHEMERIS and PARAMETERS name the APPLICATION's build. -/
def linksGood (s : State) (slots : List Nat) : Bool :=
  let x := fun t => slotOf s (nth 0 slots (t - 1))
  decide (imgLink (x 4) = imgBuild (x 5)) && decide (imgLink (x 6) = imgBuild (x 5))

/-- The first image of a bank's boot set that fails step 2 of R380, with its reason: every header and signature, the payloads
of BOOT and COMPAT_TABLE, the links. -/
def setFailure (s : State) (b : Nat) : Option (Nat × Nat) :=
  let bad := (List.range 7).findSome? (fun i =>
    let n := setSlotNo s b (i + 1)
    let x := slotOf s n
    let why := if x.state ≠ .valid then 2 else
      let h := headReason s x (i + 1)
      if h ≠ 0 then h else if i = 0 ∨ i = 6 then payloadReason x else 0
    if why = 0 then none else some (n, why))
  match bad with
  | some f => some f
  | none => if linksGood s ((List.range 7).map (fun i => setSlotNo s b (i + 1))) then none else some (setSlotNo s b 4, 9)

/-- The set of a bank has passed step 2: the combination decides (R380 step 3). -/
def judgeCombo (b : Nat) (s : State) : State :=
  let s := setFld (setFld s Reg.imgStatus 1 1 b) Reg.modBootInfo 0 0 b
  let x := fun t => slotOf s (setSlotNo s b t)
  match findIssue (x 7) (hwIssue s) with
  | none => enterMaintenance 3 s
  | some pairClass =>
    let s := setFld s Reg.pairClass 15 0 pairClass
    match findCombo (x 7) (classesOf ([1, 2, 3, 4, 5, 6].map x)) with
    | none => enterMaintenance 2 (raise Ev.compatUntested (setSlotNo s b 7) 0 0 s)
    | some i =>
      setReg { s with store := { s.store with checksOk := true } } Reg.modCompat (BitVec.ofNat 32 (i + 2 ^ 31))

/-- A load or check of the start fails (R380): one fall-back to the other bank's boot set, whose checks follow and whose images
every lane takes in step 5 again; else MAINTENANCE with NO_IMAGES. -/
def fallBack (slot why : Nat) (s : State) : State :=
  let s := reportIf why slot s
  let b := slot / 128
  let other := 1 - b
  if s.store.fellBack ∨ !(bootSet s other).valid then enterMaintenance 1 s
  else
    let s := raise Ev.imgFallback slot 0 b s
    let s := setBit { s with store := { s.store with fellBack := true, checksOk := false } } Reg.modBootInfo 1 true
    let s := { s with chrono := { s.chrono with bootLoaded := false } }
    let s := allLanes.foldl (fun s l =>
      let x := s.lanes.get l
      if x.step5Done then setLane s l { x with step5Done := false, ready := false, testStep := 5 } else s) s
    match setFailure s other with
    | some (n, why) => enterMaintenance 1 (reportIf why n s)
    | none => judgeCombo other s

/-- The bank whose boot set a start selects (R380 step 1). -/
def selectBank (s : State) : Option Nat :=
  match s.store.boot0.valid, s.store.boot1.valid with
  | true, true => if s.store.boot0.generation.toNat < s.store.boot1.generation.toNat then some 1 else some 0
  | true, false => some 0
  | false, true => some 1
  | false, false => none

/-- IMAGE_CHECKS_DONE (R380). -/
def imageChecks (s : State) : State :=
  if modState s = .boot ∧ ¬s.store.checksOk then
    match selectBank s with
    | none => enterMaintenance 1 s
    | some b =>
      match setFailure s b with
      | some (n, why) => fallBack n why s
      | none => judgeCombo b s
  else s

/-- IMAGE_CHECKS_DONE. -/
def execImageChecksDone (s : State) : Host.Outcome State Fault Refusal := .next (imageChecks s)

/-- BOOT_LOADS_DONE (R372 step 3, R380): the microcode, with which the network engine's clock begins (R174), and the Ephemeris into
bank 0, which becomes the active bank. -/
def bootLoads (s : State) : State :=
  if modState s = .boot ∧ s.store.checksOk ∧ ¬s.chrono.bootLoaded then
    let mc := bootedSlot s 3
    let eph := bootedSlot s 4
    let x := slotOf s eph
    let r := if payloadReason x = 6 then ⟨0x0B, 0, none⟩ else loadChecks x.content 256 (payloadLen x)
    if payloadReason (slotOf s mc) ≠ 0 then fallBack mc (payloadReason (slotOf s mc)) s
    else if payloadReason x ≠ 0 then fallBack eph (payloadReason x) (showLoad s r)
    else if r.reason ≠ 0 then fallBack eph 5 (showLoad s r)
    else
      let s := setBank (showLoad s r) 0 (some (parseBank x.content 256))
      let s := { s with chrono := { s.chrono with bootLoaded := true } }
      followPtp (showBanks (setFld s Reg.chronoStatus 1 1 0))
  else s

/-- BOOT_LOADS_DONE. -/
def execBootLoadsDone (s : State) : Host.Outcome State Fault Refusal := .next (bootLoads s)

/-- The combination of the running BOOT, RUNTIME and MICROCODE with an Ephemeris, the VALID application that it is linked to
and the VALID parameters of that application is tested (R385). -/
def loadTested (s : State) (n : Nat) : Bool :=
  let e := slotOf s n
  let valid := s.store.slots.filter (fun y => decide (y.2.state = .valid))
  let apps := valid.filter (fun y => decide (imgFld y.2 6 1 = 5) && decide (imgBuild y.2 = imgLink e))
  let x := fun t => slotOf s (bootedSlot s t)
  apps.any (fun a => valid.any (fun p => decide (imgFld p.2 6 1 = 6) && decide (imgLink p.2 = imgBuild a.2)
    && comboTested s (x 7) (classesOf [x 1, x 2, x 3, e, a.2, p.2])))

/-- The image store hands out a slot as an Ephemeris (R385). -/
def ephemerisGood (s : State) (n : Nat) : Bool :=
  let x := slotOf s n
  decide (x.state = .valid) && decide (imgFld x 6 1 = 4) && decide (payloadReason x ≠ 6) && loadTested s n

/-! ### Commands (R383, R384) -/

/-- The operands that the IMG registers hold. -/
def imgArgs (s : State) : ImgArgs :=
  { slot := fld s Reg.imgArg 7 0, typ := fld s Reg.imgArg 10 8, bank := fld s Reg.imgArg 11 11,
    len := (getReg s Reg.imgLen).toNat, src := (getReg s Reg.imgSrcLo).toNat + fld s Reg.imgSrcHi 7 0 * 2 ^ 32,
    bootSet := (List.range 7).map (fun t => fld s (Reg.imgBootset t) 6 0) }

/-- IMG_RESULT. -/
def imgResult (cmd reason : Nat) (s : State) : State := setReg s Reg.imgResult (BitVec.ofNat 32 (reason + 256 * cmd))

/-- A refused command (R383). -/
def imgRefuse (cmd slot reason : Nat) (s : State) : State := raise Ev.imgRefused slot 0 reason (imgResult cmd reason s)

/-- What a command comes to: the slot that its event names, the reason of a refusal or 0, and the state. -/
abbrev ImgEnd := Nat × Nat × State

/-- Lanes whose DRAM the image store reads and writes: those of a vote or of SPLIT, the ready lanes of the set-up phase, the
lowest ready lane in MAINTENANCE (R381). -/
def imgLanes (s : State) : List Lane :=
  if running s then ringLanes s
  else if modState s = .maintenance then (readyLanes s).take 1
  else readyLanes s

/-- The vote over bytes of lane DRAM, in blocks of 64 (R98): the bytes or none; a lane is reported once.  The events carry no
ring and no SEQ. -/
def voteDram : Nat → Nat → Nat → List Lane → List Byte → State → Option (List Byte) × State
  | 0, _, _, _, acc, s => (some acc, s)
  | fuel + 1, a, len, told, acc, s =>
    if len = 0 then (some acc, s)
    else
      let k := min 64 len
      let ls := imgLanes s
      let copies := ls.map (laneCopy s a k)
      let s := reportLanes ls a k s
      match ballot copies with
      | .all bs => voteDram fuel (a + k) (len - k) told (acc ++ bs) s
      | .pair bs l =>
        let s := if told.contains l then s else raise Ev.descMinority 0xFF 0 (l.idx + 256) s
        voteDram fuel (a + k) (len - k) (l :: told) (acc ++ bs) s
      | .none => (none, raise Ev.descNoMajority 0xFF 0 0 s)
      | .empty => (none, s)

/-- OPEN. -/
def imgOpen (a : ImgArgs) (svc : Bool) (s : State) : ImgEnd :=
  let space := (a.len + 131071) / 131072 * 131072
  if (slotOf s a.slot).state ≠ .empty ∨ a.typ = 0 ∨ (openSlot s).isSome then (a.slot, 2, s)
  else if bankFree s (a.slot / 128) < space then (a.slot, 3, s)
  else if a.len < 256 ∨ 256 + largestPayload a.typ < a.len then (a.slot, 4, s)
  else
    let s := setSlot a.slot { slot0 with state := .open_, typ := a.typ, alloc := a.len } s
    (a.slot, 0, { s with store := { s.store with viaSvc := svc } })

/-- Bytes appended to the open slot. -/
def appendSlot (n : Nat) (bs : List Byte) (s : State) : State :=
  let x := slotOf s n
  setSlot n { x with content := putBytes x.content x.written bs, written := x.written + bs.length } s

/-- WRITE from lane DRAM. -/
def imgWrite (a : ImgArgs) (s : State) : ImgEnd :=
  match openSlot s with
  | none => (a.slot, 2, s)
  | some n =>
    let x := slotOf s n
    if a.len = 0 ∨ 2 ^ 20 < a.len ∨ x.alloc < x.written + a.len ∨ 2 ^ 33 < a.src + a.len then (n, 4, s)
    else match voteDram 16385 a.src a.len [] [] s with
      | (some bs, s) => (n, 0, appendSlot n bs s)
      | (none, s) => let (v, s) := takeFree s; (n, 1 + v.toNat % 14, s)

/-- First reason for which CLOSE finds the open slot's image not valid (R378). -/
def closeReason (s : State) (x : Slot) : Nat :=
  if x.written ≠ 256 + payloadLen x then 4
  else
    let h := headReason s x x.typ
    if h ≠ 0 then h else payloadReason x

/-- CLOSE. -/
def imgClose (a : ImgArgs) (s : State) : ImgEnd :=
  match openSlot s with
  | none => (a.slot, 2, s)
  | some n =>
    let x := slotOf s n
    let why := closeReason s x
    let s := reportIf why n s
    let s := setSlot n (if why = 0 then { x with state := .valid } else slot0) s
    (n, why, { s with store := { s.store with viaSvc := false } })

/-- ERASE. -/
def imgErase (a : ImgArgs) (s : State) : ImgEnd :=
  if isBooted s a.slot ∨ s.chrono.loadSlot = some a.slot then (a.slot, 12, s) else (a.slot, 0, setSlot a.slot slot0 s)

/-- LOAD. -/
def imgLoad (a : ImgArgs) (s : State) : ImgEnd :=
  let x := slotOf s a.slot
  if x.state ≠ .valid then (a.slot, 2, s)
  else if 2 ^ 33 < a.src + payloadLen x then (a.slot, 4, s)
  else
    let why := payloadReason x
    let s := reportIf why a.slot s
    let ls := if running s then receivingLanes s else imgLanes s
    let bs := readBytes x.content 256 (payloadLen x)
    let s := if why = 0 then
        ls.foldl (fun s l => { s with dram := s.dram.set l (writeBytes (s.dram.get l) a.src bs) }) s
      else s
    (a.slot, why, s)

/-- Reason for which SET_BOOT is refused (R384); 0 when it is taken. -/
def bootSetReason (s : State) (a : ImgArgs) : Nat :=
  let slots := a.bootSet.map (fun i => 128 * a.bank + i)
  let xs := slots.map (slotOf s)
  if s.store.checksOk ∧ a.bank = bootedBank s then 13
  else if xs.zipIdx.any (fun (x, i) => decide (x.state ≠ .valid) || decide (imgFld x 6 1 ≠ i + 1)) then 2
  else if xs.any (·.damaged) then 14
  else if !(linksGood s slots) then 9
  else if !(comboTested s (nth slot0 xs 6) (classesOf (xs.take 6))) then 10
  else 0

/-- SET_BOOT. -/
def imgSetBoot (a : ImgArgs) (s : State) : ImgEnd :=
  let why := bootSetReason s a
  if why ≠ 0 then (a.slot, why, s)
  else
    let b : BootSet := ⟨a.bootSet, (bootSet s (1 - a.bank)).generation + 1, true⟩
    (a.slot, 0, { s with store := if a.bank = 0 then { s.store with boot0 := b } else { s.store with boot1 := b } })

/-- INFO. -/
def imgInfo (a : ImgArgs) (s : State) : ImgEnd :=
  let x := slotOf s a.slot
  if x.state = .empty then (a.slot, 2, s)
  else if isPoisoned x.content 0 32 then (a.slot, 11, reportSlot a.slot s)
  else (a.slot, 0, (List.range 8).foldl (fun s j => setReg s (Reg.imgInfo j) (BitVec.ofNat 32 (imgFld x (4 * j) 4))) s)

/-- A command is written while another runs. -/
def imgBusy (s : State) : Bool := s.store.running.isSome

/-- A command of IMG_CMD on operands is taken (R383): it runs, and holds its clock domain (R46), until IMG_CMD_COMPLETE, where its
operands are judged and its effect or its refusal stands (DESIGN CHOICE, assumption log 30); one written while another runs is
refused with BUSY. -/
def imgCommand (cmd : Nat) (a : ImgArgs) (svc : Bool) (s : State) : State :=
  if cmd = 0 ∨ 7 < cmd then s
  else if imgBusy s then imgRefuse cmd a.slot 1 s
  else domAcquire (setBit { s with store := { s.store with running := some (cmd, a, svc) } } Reg.imgStatus 0 true) .img

/-- What a command comes to (R383, R384). -/
def imgAct (cmd : Nat) (a : ImgArgs) (svc : Bool) (s : State) : ImgEnd :=
  match cmd with
  | 1 => imgOpen a svc s
  | 2 => imgWrite a s
  | 3 => imgClose a s
  | 4 => imgErase a s
  | 5 => imgLoad a s
  | 6 => imgSetBoot a s
  | _ => imgInfo a s

/-- IMG_OPEN (R383). -/
def execImgOpen (s : State) : Host.Outcome State Fault Refusal := .next (imgCommand 1 (imgArgs s) false s)
/-- IMG_WRITE (R383). -/
def execImgWrite (s : State) : Host.Outcome State Fault Refusal := .next (imgCommand 2 (imgArgs s) false s)
/-- IMG_CLOSE (R383). -/
def execImgClose (s : State) : Host.Outcome State Fault Refusal := .next (imgCommand 3 (imgArgs s) false s)
/-- IMG_ERASE (R383). -/
def execImgErase (s : State) : Host.Outcome State Fault Refusal := .next (imgCommand 4 (imgArgs s) false s)
/-- IMG_LOAD (R383). -/
def execImgLoad (s : State) : Host.Outcome State Fault Refusal := .next (imgCommand 5 (imgArgs s) false s)
/-- IMG_SET_BOOT (R384). -/
def execImgSetBoot (s : State) : Host.Outcome State Fault Refusal := .next (imgCommand 6 (imgArgs s) false s)
/-- IMG_INFO (R383). -/
def execImgInfo (s : State) : Host.Outcome State Fault Refusal := .next (imgCommand 7 (imgArgs s) false s)

end Sys2Proof.Machine
end

