-- ==== Sys2Proof/Machine/Skerry.lean ====
section
/-!
DEFINITION. Skerry, supply, sleep, wake and the start sequence (R144, R149, R150, R362 to R375, R391 to R395, R416), the
self-test steps of a lane (R75).
-/

namespace Sys2Proof.Machine

/-! ### Skerry's store (R362) -/

/-- TIME_VALID of SKERRY_STATUS and TRANSIT_STATUS (R173). -/
def timeValid (s : State) : Bool := bit s Reg.skerryStatus 3

/-- Both copies of the non-volatile store are readable. -/
def showNv (s : State) : State := setBit s Reg.skerryStatus 4 (s.skerry.nv0.2.2.2 && s.skerry.nv1.2.2.2)

/-- The store is written: corrected time, operating minutes and power cycles, the copies by turns. -/
def nvWrite (s : State) : State :=
  let copy := (corrected s, getReg s Reg.skerryHours, getReg s Reg.skerryCycles, true)
  let k := s.skerry
  showNv { s with skerry := if k.nextCopy = 0 then { k with nv0 := copy, nextCopy := 1 } else { k with nv1 := copy, nextCopy := 0 } }

/-- The newest readable copy. -/
def nvNewest (k : SkerrySt) : Dword × Word × Word × Bool :=
  let last := if k.nextCopy = 0 then k.nv1 else k.nv0
  let other := if k.nextCopy = 0 then k.nv0 else k.nv1
  if last.2.2.2 then last else other

/-- Skerry reads its store (R362): the counts, and NV_FAULT where a copy is unreadable. -/
def nvRead (s : State) : State :=
  let (_, minutes, cycles, _) := nvNewest s.skerry
  let s := setReg (setReg s Reg.skerryHours minutes) Reg.skerryCycles cycles
  let s := showNv s
  if !s.skerry.nv0.2.2.2 then raise Ev.nvFault 0xFF 0 0 s
  else if !s.skerry.nv1.2.2.2 then raise Ev.nvFault 0xFF 0 1 s
  else s

/-- SKERRY_MINUTE (R362, R363). -/
def skerryMinute (s : State) : State :=
  if s.skerry.powered ∧ modState s ≠ .sleep then
    let m := getReg s Reg.skerryHours
    nvWrite (setReg s Reg.skerryHours (if m = BitVec.allOnes 32 then m else m + 1))
  else s

/-- SKERRY_MINUTE. -/
def execSkerryMinute (s : State) : Host.Outcome State Fault Refusal := .next (skerryMinute s)

/-- SKERRY_SLEEP_HOUR (R362). -/
def sleepHour (s : State) : State := if modState s = .sleep ∧ s.skerry.powered then nvWrite s else s

/-- SKERRY_SLEEP_HOUR. -/
def execSkerrySleepHour (s : State) : Host.Outcome State Fault Refusal := .next (sleepHour s)

/-- XTAL_FAULT (R364). -/
def xtalFault (s : State) : State :=
  if s.skerry.powered then raise Ev.xtalFault 0xFF 0 0 (setBit s Reg.skerryStatus 0 false) else s

/-- XTAL_FAULT. -/
def execXtalFault (s : State) : Host.Outcome State Fault Refusal := .next (xtalFault s)

/-- At a crystal edge the raw counter changes back to the TCXO (R166). -/
def leaveCrystal (s : State) : State := { s with time := { s.time with raw := 1953125 + s.time.raw, onCrystal := false } }

/-- A RATE kept at SLEEP entry is restored, and the servo's accumulator takes it (R166, R172). -/
def restoreRate (s : State) : State :=
  match s.time.keptRate with
  | some r => rebase r.toInt 0 { s with time := { s.time with keptRate := none, acc := r.toInt } }
  | none => s

/-- TCXO_SETTLED (R166, R172, R364): the raw counter changes source and RATE is restored. -/
def tcxoSettles (s : State) : State :=
  if bit s Reg.skerryStatus 1 ∧ ¬bit s Reg.skerryStatus 2 then
    let s := setBit s Reg.skerryStatus 2 true
    if s.time.onCrystal then restoreRate (leaveCrystal s) else s
  else s

/-- TCXO_SETTLED. -/
def execTcxoSettled (s : State) : Host.Outcome State Fault Refusal := .next (tcxoSettles s)

/-! ### Supply (R391 to R395, R416) -/

/-- SKERRY_SUPPLY.NOW, and in SLEEP the lowest value. -/
def noteSupply (dv : BitVec 12) (s : State) : State :=
  let s := setFld s Reg.skerrySupply 11 0 dv.toNat
  if modState s = .sleep ∧ dv.toNat < fld s Reg.skerrySupply 27 16 then setFld s Reg.skerrySupply 27 16 dv.toNat else s

/-- DETAIL_A of supply and thermal events (R416). -/
def supplyDetail (s : State) : Nat := fld s Reg.skerrySupply 11 0 + (getReg s Reg.modThermal).toNat * 2 ^ 32

/-- At a power-on after Skerry has lost its supply (R173): counter, BASE_RAW and RATE 0, BASE_TIME from the store. -/
def timeLost (s : State) : State :=
  let s := { s with time := { time0 with onCrystal := true, mt := s.time.mt } }
  let s := set64 s Reg.transitBaseRawLo 0
  let s := setReg (setReg s Reg.transitBaseRawFrac 0) Reg.transitRate 0
  set64 s Reg.transitBaseTimeLo (nvNewest s.skerry).1

/-- TIME_VALID as a start carries it (R173). -/
def carryTime (s : State) : State :=
  let valid := !s.skerry.lostSupply && s.skerry.timeValid
  let s := if s.skerry.lostSupply then timeLost s else s
  let s := setBit (setBit s Reg.skerryStatus 3 valid) Reg.transitStatus 3 valid
  if s.skerry.lostSupply then raise Ev.timeInvalid 0xFF 0 0 { s with skerry := { s.skerry with lostSupply := false } } else s

/-- The raw count since a mark in µs, as a 32-bit DETAIL_B saturates. -/
def usSince (s : State) (t : Nat) : Nat := min ((rawNow s - t) / 64000) (2 ^ 32 - 1)

/-- A POWER_ON start begins (R372 step 1): Skerry reads its store, counts the power cycle and starts the TCXO. -/
def powerOn (s : State) : State :=
  let s := { s with skerry := { s.skerry with powered := true, charged := false, warned := false, back := none, interruptRaw := none,
                                              held := 0, entering := false } }
  let s := setFld (setReg s Reg.modState 0) Reg.modState 2 0 (modCode .waking)
  let s := mstOut s .alive
  let s := nvRead s
  let n := getReg s Reg.skerryCycles
  let s := setReg s Reg.skerryCycles (if n = BitVec.allOnes 32 then n else n + 1)
  let s := setReg s Reg.skerryWakeCause (BitVec.ofNat 32 (2 ^ 13))
  let s := setFld s Reg.skerryStatus 2 0 1
  carryTime { s with restart := { s.restart with cause := 0, cold := false } }

/-- X_PWR is valid again while a module that had its power-fail warning shuts down (R394). -/
def supplyBack (dv : BitVec 12) (s : State) : State :=
  if s.skerry.warned then { s with skerry := { s.skerry with back := some dv } } else s

/-- POWER_VALID (R391): X_PWR has stayed at or above 6 V for 10 ms; an unpowered module begins a POWER_ON start. -/
def powerValid (dv : BitVec 12) (s : State) : State :=
  if dv.toNat < 60 then s
  else if s.skerry.powered then supplyBack dv (noteSupply dv s)
  else noteSupply dv (powerOn s)

/-- POWER_VALID. -/
def execPowerValid (dv : BitVec 12) (s : State) : Host.Outcome State Fault Refusal := .next (powerValid dv s)

/-- HOLD_UP_STORE_CHARGED (R372 step 1): the main converter is enabled. -/
def storeCharged (s : State) : State :=
  if s.skerry.powered then { s with skerry := { s.skerry with charged := true } } else s

/-- HOLD_UP_STORE_CHARGED. -/
def execHoldUpStoreCharged (s : State) : Host.Outcome State Fault Refusal := .next (storeCharged s)

/-- SUPPLY_INTERRUPTION_BEGIN (R391). -/
def interruptBegin (dv : BitVec 12) (s : State) : State :=
  if s.skerry.powered ∧ dv.toNat < 55 then
    let s := noteSupply dv { s with skerry := { s.skerry with back := none } }
    if s.skerry.interruptRaw.isSome then s else { s with skerry := { s.skerry with interruptRaw := some (rawNow s) } }
  else s

/-- SUPPLY_INTERRUPTION_BEGIN. -/
def execSupplyInterruptionBegin (dv : BitVec 12) (s : State) : Host.Outcome State Fault Refusal := .next (interruptBegin dv s)

/-- SUPPLY_INTERRUPTION_END (R391, R394): before a warning, the event with the length in µs and nothing else. -/
def interruptEnd (dv : BitVec 12) (s : State) : State :=
  match s.skerry.interruptRaw with
  | some t =>
    if s.skerry.powered ∧ 60 ≤ dv.toNat then
      let s := { noteSupply dv s with skerry := { s.skerry with interruptRaw := none } }
      if s.skerry.warned then supplyBack dv s else raise Ev.supplyInterruption 0xFF (supplyDetail s) (usSince s t) s
    else s
  | none => s

/-- SUPPLY_INTERRUPTION_END. -/
def execSupplyInterruptionEnd (dv : BitVec 12) (s : State) : Host.Outcome State Fault Refusal := .next (interruptEnd dv s)

/-- SUPPLY_HIGH (R391, R416). -/
def supplyHigh (dv : BitVec 12) (s : State) : State :=
  if s.skerry.powered ∧ 1600 < dv.toNat then
    let s := noteSupply dv s
    raise Ev.supplyHigh 0xFF (supplyDetail s) dv.toNat s
  else s

/-- SUPPLY_HIGH. -/
def execSupplyHigh (dv : BitVec 12) (s : State) : Host.Outcome State Fault Refusal := .next (supplyHigh dv s)

/-- POWER_FAIL_WARNING (R392, R318, R320): no further entry issues, a pair's active module gives up, Skerry's store is written;
operations in progress still commit or abort (R111). -/
def powerFail (s : State) : State :=
  if s.skerry.powered ∧ ¬s.skerry.warned ∧ modState s ≠ .sleep then
    let s := { s with skerry := { s.skerry with warned := true, back := none } }
    let s := if modState s = .active ∧ pairBank s then giveUp (raiseF 4 0) .powerFail s else mstOut (stopChrono s) .alive
    nvWrite s
  else s

/-- POWER_FAIL_WARNING. -/
def execPowerFailWarning (s : State) : Host.Outcome State Fault Refusal := .next (powerFail s)

/-- Lanes, fabric and engines lose their supply: memories and everything that is not in MRAM, NAND or Skerry is gone; what the
journal holds of the event path stays (R107, R110). -/
def enginesOff (s : State) : State :=
  let s := netOff (transitOff (holmPowerDown (abortIsth (abortNet (abortCan s)))))
  let s := cutCommit { s with tap := { ir := 2, acting := none, cells := 0 } }
  let s := bootParts s
  let s := allLanes.foldl (fun s l => putLaneState s l .off) s
  let s := setFld s Reg.laneState 13 12 (voteCode .none)
  let s := setReg s Reg.laneHealth 0
  { s with dram := ⟨noMem, noMem, noMem⟩, sound := noMem }

/-- POWER_DOWN (R394, R365): after a warning the module becomes Unpowered; Skerry carries time on the crystal.  Where X_PWR is valid
by then, the POWER_ON start follows at once. -/
def powerDown (s : State) : State :=
  if s.skerry.powered ∧ s.skerry.warned then
    let back := s.skerry.back
    let s := { s with skerry := { s.skerry with timeValid := timeValid s } }
    let s := mstOut (svcShut 4 (enginesOff s)) .low
    let s := { s with regs := s.regs.filter (fun x => keptAtBoot false x.1), fm := { s.fm with pending := [] },
                      recQ := [], pair := pair0, time := { s.time with onCrystal := true } }
    let s := setPending s []
    let s := setReg (setReg s Reg.pairStatus 0) Reg.modState 2
    let s := setFld s Reg.skerryStatus 2 1 0
    let s := { s with skerry := { s.skerry with powered := false, charged := false, warned := false, back := none, interruptRaw := none } }
    match back with
    | some dv => noteSupply dv (powerOn s)
    | none => s
  else s

/-- POWER_DOWN. -/
def execPowerDown (s : State) : Host.Outcome State Fault Refusal := .next (powerDown s)

/-- SKERRY_SUPPLY_LOSS (R395, R173, R371): Skerry's own supply is gone, and a sleeping module is Unpowered. -/
def skerryLoss (s : State) : State :=
  if ¬s.skerry.powered ∨ (modState s = .sleep ∧ s.skerry.interruptRaw.isSome) then
    let s := setReg (setReg s Reg.pairStatus 0) Reg.modState 2
    let s := { s with time := { time0 with mt := s.time.mt, onCrystal := true },
                      skerry := { s.skerry with powered := false, charged := false, timeValid := false, lostSupply := true,
                                                interruptRaw := none, held := 0 } }
    setReg s Reg.skerryStatus 0
  else s

/-- SKERRY_SUPPLY_LOSS. -/
def execSkerrySupplyLoss (s : State) : Host.Outcome State Fault Refusal := .next (skerryLoss s)

/-! ### Temperature (R415, R416) -/

/-- A signed temperature of 8 bits. -/
def celsius (b : Byte) : Int := b.toInt

/-- MOD_THERMAL as the sensors read (R415). -/
def noteThermal (base hot : Byte) (s : State) : State :=
  let s := setFld (setFld s Reg.modThermal 7 0 base.toNat) Reg.modThermal 15 8 hot.toNat
  let s := setBit s Reg.modThermal 16 (decide (70 < celsius base))
  if celsius base ≤ 88 ∧ celsius hot ≤ 125 then setBit s Reg.modThermal 17 false else s

/-- TEMP_HIGH (R416): at the entry into an episode above +70 °C, and when it reaches 10 min. -/
def tempHigh (ten : Bool) (base hot : Byte) (s : State) : State :=
  if s.skerry.powered ∧ 70 < celsius base then
    let s := noteThermal base hot s
    raise Ev.tempHigh 0xFF (supplyDetail s) (if ten then 2 else 1) s
  else s

/-- TEMP_HIGH. -/
def execTempHigh (ten : Bool) (base hot : Byte) (s : State) : Host.Outcome State Fault Refusal := .next (tempHigh ten base hot s)

/-- TEMP_CRITICAL (R416). -/
def tempCritical (hotSpot : Bool) (base hot : Byte) (s : State) : State :=
  if s.skerry.powered ∧ (if hotSpot then 125 < celsius hot else 88 < celsius base) then
    let s := setBit (noteThermal base hot s) Reg.modThermal 17 true
    raise Ev.tempCritical 0xFF (supplyDetail s) (if hotSpot then 2 else 1) s
  else s

/-- TEMP_CRITICAL. -/
def execTempCritical (hotSpot : Bool) (base hot : Byte) (s : State) : Host.Outcome State Fault Refusal :=
  .next (tempCritical hotSpot base hot s)

/-! ### Sleep and wake (R366 to R370) -/

/-- Why SLEEP is refused (R366); 0 where it is not. -/
def sleepReason (s : State) : Nat :=
  if modState s ≠ .active ∧ modState s ≠ .maintenance then 1
  else if fld s Reg.skerryWakeEn 7 0 = 0 then 2
  else if ¬bit s Reg.skerryStatus 0 then 3
  else if allForces.any (forceValid s) then 4
  else 0

/-- SLEEP entry begins (R367 steps 1 and 2); service access closes (R438). -/
def sleepBegin (s : State) : State := svcShut 4 <| stopChrono { s with skerry := { s.skerry with entering := true } }

/-- The first hyperperiod boundary at least one microtick from now, as the count of the hyperperiod that it begins. -/
def nextBoundary (s : State) : Word :=
  let last := decide ((header s).hpLen ≤ cycleNow s + 1) && decide ((header s).bcLen ≤ s.chrono.offset + 1)
  hpNow s + if last then 2 else 1

/-- MOD_SLEEP_CMD SLEEP (R366). -/
def modSleep (s : State) : State :=
  let why := sleepReason s
  let s := if why = 0 then { s with skerry := { s.skerry with held := 0 } } else s
  if why ≠ 0 then raise Ev.sleepRefused 0xFF 0 why s
  else if modState s = .maintenance then sleepBegin s
  else
    let s := { s with chrono := { s.chrono with req := { s.chrono.req with sleep := some s.time.mt } } }
    if pairBank s then emitOut s (.straitNotice (.sleep (nextBoundary s))) else s

/-- MOD_SLEEP. -/
def execModSleep (s : State) : Host.Outcome State Fault Refusal := .next (modSleep s)

/-- First channel, with WAKE configured, of those whose wake-up pattern was seen; 0 for none. -/
def wakeChannel (s : State) (channels : BitVec 20) : Nat :=
  (((List.range 20).find? (fun i => channels.getLsbD i && bit s (Reg.canChCfg (i + 1)) 8)).map (· + 1)).getD 0

/-- The enabled wake sources whose condition holds (R369). -/
def wakeSources (s : State) (sources : Byte) (channels : BitVec 20) : Nat :=
  let en := fld s Reg.skerryWakeEn 7 0
  ((List.range 8).map (fun i =>
    let holds := sources.getLsbD i && en.testBit i
      && (if i = 1 then decide (0 < wakeChannel s channels)
          else if i = 3 then decide ((get64 s Reg.skerryAlarmLo).toNat ≤ (corrected s).toNat) else true)
    if holds then 2 ^ i else 0)).sum

/-- The wake proceeds (R370, R372): WAKING with cause WAKE, the TCXO starts. -/
def wakeUp (sources channel : Nat) (s : State) : State :=
  let s := setReg s Reg.skerryWakeCause (BitVec.ofNat 32 (sources + channel * 256))
  let s := setModTo .waking (mstOut { s with restart := { s.restart with cause := 1, cold := false } } .alive)
  setBit (setBit s Reg.skerryStatus 3 s.skerry.timeValid) Reg.transitStatus 3 s.skerry.timeValid

/-- SLEEP is committed, or its entry runs (R368). -/
def sleepAhead (s : State) : Bool := s.skerry.entering || s.chrono.req.sleep.isSome || s.pair.sleepHp.isSome

/-- WAKE (R368, R370): a source that asserts between the commit and the end of SLEEP entry is held until then. -/
def wake (sources : Byte) (channels : BitVec 20) (s : State) : State :=
  let now := wakeSources s sources channels
  if now = 0 ∨ ¬s.skerry.powered then s
  else if sleepAhead s then { s with skerry := { s.skerry with held := s.skerry.held ||| (now + 256 * wakeChannel s channels) } }
  else if modState s = .sleep then
    wakeUp now (if now.testBit 1 then wakeChannel s channels else 0) s
  else s

/-- WAKE. -/
def execWake (sources : Byte) (channels : BitVec 20) (s : State) : Host.Outcome State Fault Refusal :=
  .next (wake sources channels s)

/-- SLEEP_ENTRY_COMPLETE (R166, R367): operations are aborted, MST_OUT is LOW, Skerry's store is written, the counter changes to
the crystal with RATE 0, and lanes, engines and Holm are switched off. -/
def sleepComplete (s : State) : State :=
  if s.skerry.entering then
    let held := s.skerry.held
    let s := setModTo .sleep { s with skerry := { s.skerry with entering := false, held := 0, timeValid := timeValid s } }
    let s := nvWrite (mstOut (enginesOff s) .low)
    let s := setFld s Reg.skerrySupply 27 16 (fld s Reg.skerrySupply 11 0)
    let kept := getReg s Reg.transitRate
    let s := rebase 0 0 { s with time := { s.time with onCrystal := true, keptRate := some kept } }
    let s := setFld s Reg.skerryStatus 2 1 0
    if held % 256 = 0 then s else wakeUp (held % 256) (if held.testBit 1 then held / 256 % 32 else 0) s
  else s

/-- SLEEP_ENTRY_COMPLETE. -/
def execSleepEntryComplete (s : State) : Host.Outcome State Fault Refusal := .next (sleepComplete s)

/-- WAKING_DONE (R365, R372): the TCXO runs, rails and PLLs are up, Holm is powered; BOOT begins. -/
def wakingDone (di : BitVec 48) (spd : BitVec 8) (s : State) : State :=
  if modState s = .waking ∧ s.skerry.powered ∧ s.skerry.charged then
    let s := setBit s Reg.skerryStatus 1 true
    let cause := s.restart.cause
    let s := bootEntry cause false false s
    let s := holmPowerUp di spd (setReg s Reg.laneHealth 0x777)
    if cause = 1 then raise Ev.wakeRecorded 0xFF 0 (getReg s Reg.skerryWakeCause).toNat s else s
  else s

/-- WAKING_DONE. -/
def execWakingDone (di : BitVec 48) (spd : BitVec 8) (s : State) : Host.Outcome State Fault Refusal := .next (wakingDone di spd s)

/-! ### Self-test (R75) and the start gate (R373) -/

/-- The slot of the VALID application of a BUILD_ID: the booted one where it is that, else the first (assumption log 28). -/
def appSlot (s : State) (build : Dword) : Option Nat :=
  let is := fun (x : Slot) => decide (x.state = .valid) && decide (imgFld x 6 1 = 5) && decide (imgBuild x = build.toNat)
  if is (slotOf s (bootedSlot s 5)) then some (bootedSlot s 5) else (s.store.slots.find? (fun x => is x.2)).map (·.1)

/-- The slot of the VALID parameters linked to an application: the booted one where it is, else the first. -/
def parSlot (s : State) (build : Dword) : Option Nat :=
  let is := fun (x : Slot) => decide (x.state = .valid) && decide (imgFld x 6 1 = 6) && decide (imgLink x = build.toNat)
  if is (slotOf s (bootedSlot s 6)) then some (bootedSlot s 6) else (s.store.slots.find? (fun x => is x.2)).map (·.1)

/-- The slots that step 5 loads (R75, R153, R380): in a start the booted RUNTIME, APPLICATION and PARAMETERS; in a running module the
booted RUNTIME, the application of the active APP_BUILD_ID with its parameters, and while the shadow bank is VALID the shadow
application. -/
def step5Slots (s : State) : List (Option Nat) :=
  if inControl s then
    let shadow := if fld s Reg.chronoStatus 3 2 = 2 then (shadowBank s).map (·.header.appBuildId) else none
    [some (bootedSlot s 2), appSlot s (header s).appBuildId, parSlot s (header s).appBuildId] ++ (shadow.map (appSlot s)).toList
  else [2, 5, 6].map (fun t => some (bootedSlot s t))

/-- First image of step 5 that fails as it is loaded, by its header, signature or payload (R75, R380), or is not in the store. -/
def step5Failure (s : State) : Option (Nat × Nat) :=
  (step5Slots s).findSome? (fun o =>
    match o with
    | none => some (256, 2)
    | some n =>
      let x := slotOf s n
      let why := if headReason s x (imgFld x 6 1) ≠ 0 then headReason s x (imgFld x 6 1) else payloadReason x
      if why = 0 then none else some (n, why))

/-- The payload of a slot goes into a lane's DRAM, whole, at the place that the image has for it (R75). -/
def loadCode (l : Lane) (s : State) (n : Nat) : State :=
  let x := slotOf s n
  let bs := readBytes x.content 256 (payloadLen x)
  let place := Config.codePlace (imgFld x 6 1) (imgBuild x) % (2 ^ 33 - bs.length)
  { s with dram := s.dram.set l (writeBytes (s.dram.get l) place bs) }

/-- Step 5 has passed: ready in a start, else on to REJOINING (R73); a lane that repeated it in REJOINING goes on (R153). -/
def testsPassed (l : Lane) (s : State) : State :=
  let ns := (step5Slots s).filterMap id
  let x := { s.lanes.get l with code := ns }
  let s := setLane (ns.foldl (loadCode l) s) l x
  if laneState s l = .rejoining then setLane s l { x with testStep := 0 }
  else if inControl s then testingPassed l (setLane s l { x with testStep := 0 })
  else setLane s l { x with testStep := 0, ready := true, step5Done := true }

/-- SELFTEST_STEP_DONE (R75, R380): step 4 leaves DRAM zero; step 5 waits for the image checks, and an image that fails there in
a start falls back.  A REJOINING lane repeats step 5 after a bank switch (R153); where that fails it goes OFF as R75 says of any
failure (DESIGN CHOICE, assumption log 96). -/
def selftestStep (l : Lane) (pass : Bool) (s : State) : State :=
  let x := s.lanes.get l
  if (laneState s l ≠ .testing ∧ laneState s l ≠ .rejoining) ∨ x.testStep = 0 then s
  else if x.testStep = 5 then
    if ¬s.store.checksOk then s
    else match step5Failure s with
      | some (n, why) => if modState s = .boot then fallBack n why s else selftestFail l (reportIf why n s)
      | none => if pass then testsPassed l s else selftestFail l s
  else if !pass then selftestFail l s
  else
    let s := if x.testStep = 4 then { s with dram := s.dram.set l noMem } else s
    let x := if x.testStep = 4 then { x with code := [] } else x
    let s := if x.testStep = 1 then setFld s Reg.laneHealth (4 * l.idx + 2) (4 * l.idx) 7 else s
    setLane s l { x with testStep := x.testStep + 1 }

/-- SELFTEST_STEP_DONE. -/
def execSelftestStepDone (l : Lane) (pass : Bool) (s : State) : Host.Outcome State Fault Refusal := .next (selftestStep l pass s)

/-- START_GATE (R373). -/
def startGate (s : State) : State :=
  let settled := allLanes.all (fun l => (s.lanes.get l).ready || decide (laneState s l = .off))
  if modState s = .boot ∧ ¬s.chrono.gateOpen ∧ settled then
    if (readyLanes s).length < 2 then enterMaintenance 4 s
    else if s.store.checksOk ∧ s.chrono.bootLoaded then
      let s := setFld s Reg.modBootInfo 4 2 (readyMask s)
      let m := s.meridian
      { s with chrono := { s.chrono with gateOpen := true },
               meridian := { m with queue := ⟨[], [], []⟩, stalled := ⟨[], [], []⟩, owed := ⟨[], [], []⟩ } }
    else s
  else s

/-- START_GATE. -/
def execStartGate (s : State) : Host.Outcome State Fault Refusal := .next (startGate s)

/-! ### MOD_START (R144, R149, R150, R374) -/

/-- A start that R144 allows to be WARM apart from the checks of R149. -/
def mayBeWarm (s : State) : Bool :=
  !s.restart.cold && !(decide (s.restart.cause = 0) && bit s Reg.modRestartCfg 0) && decide (0 < fld s Reg.modRetainSize 14 0)

/-- First reason for which the retained data is lost (R149); 0 for none.  A poisoned data block is 4. -/
def lostReason (s : State) : Nat :=
  let r := s.retain
  if r.headPoison then 4
  else if r.invalid then 5
  else if !r.ever then 1
  else if r.appBuild ≠ (header s).appBuildId then 2
  else if r.size ≠ fld s Reg.modRetainSize 14 0 then 3
  else if isPoisoned r.data 0 (64 * r.size) then 4
  else 0

/-- The words for which the retained data counts as POISON are reported (R359), at their lane addresses; which word of the retain
header was found is free. -/
def meetRetain (s : State) : State :=
  if s.retain.headPoison then
    let (v, s) := takeFree s
    memUncorrectable 10 (0x501000000 + 16 * (v.toNat % 4096)) 1 s
  else meetBad s.retain.data 10 0x501050000 0 (64 * s.retain.size) s

/-- The restart record (R150). -/
def restartRecord (s : State) (warm : Bool) (rolled : Bool) (lost : Nat) : List Byte :=
  let r := s.retain
  let tv := timeValid s
  [if warm then 1 else 0, BitVec.ofNat 8 s.restart.cause, (if tv then 1 else 0) ||| (if rolled then 2 else 0), BitVec.ofNat 8 lost]
    ++ leBytes 4 (if warm then r.generation.toNat else 0)
    ++ leBytes 8 (if tv then s.restart.stopTime.toNat else 0) ++ leBytes 8 (corrected s).toNat ++ leBytes 8 r.appBuild.toNat
    ++ (List.range 48).flatMap (fun t => leBytes 8 (tget 0 r.lastRelease t).toNat)
    ++ List.replicate 3680 0

/-- MOD_RESTART_INFO of a start (R163). -/
def restartInfo (s : State) (warm rolled : Bool) (lost : Nat) : Word :=
  BitVec.ofNat 32 ((if warm then 1 else 0) + 2 * s.restart.cause + (if timeValid s then 16 else 0) + (if rolled then 32 else 0)
    + 256 * lost)

/-- The restart record, and in a WARM start the retained data, are written into every ready lane (R150, R374): 1.6 GB/s. -/
def writeRestart (warm rolled : Bool) (lost : Nat) (s : State) : State :=
  let data := if warm then readBytes s.retain.data 0 (64 * s.retain.size) else []
  let bs := restartRecord s warm rolled lost ++ data
  let a := 4096 * fld s Reg.modRetainDram 20 0
  let s := (readyLanes s).foldl (fun s l => { s with dram := s.dram.set l (writeBytes (s.dram.get l) a bs) }) s
  { s with chrono := { s.chrono with startAt := some (rawNow s + 40 * bs.length) }, restart := { s.restart with warmStart := warm } }

/-- MOD_START_CMD START (R374). -/
def modStart (s : State) : State :=
  if setupPhase s ∧ s.chrono.startAt.isNone then
    let rolled := s.restart.rolled
    let lost := if mayBeWarm s then lostReason s else 0
    let warm := mayBeWarm s && decide (lost = 0)
    let s := if lost = 4 then meetRetain s else s
    let s := if lost ≠ 0 then raise Ev.retainLost 0xFF 0 lost s else s
    let s := setReg s Reg.modRestartInfo (restartInfo s warm rolled lost)
    let s := raise Ev.restart 0xFF 0 (getReg s Reg.modRestartInfo).toNat s
    offerHello (writeRestart warm rolled lost s)
  else refuseMod 1 s

/-- MOD_START. -/
def execModStart (s : State) : Host.Outcome State Fault Refusal := .next (modStart s)

/-- MOD_START_CMD MAINTENANCE (R374). -/
def modMaintenance (s : State) : State :=
  if setupPhase s ∧ s.chrono.startAt.isNone then enterMaintenance 5 s else refuseMod 2 s

/-- MOD_START_MAINTENANCE. -/
def execModStartMaintenance (s : State) : Host.Outcome State Fault Refusal := .next (modMaintenance s)

end Sys2Proof.Machine
end

