-- ==== Sys2Proof/Machine/Entries.lean ====
section
/-!
DEFINITION. The entries that the Chronograph executes on its own parts (R39 to R50): clock domains, SAMPLE, SNAPSHOT,
DELIVER, RELEASE, CHECKPOINT, COLLECT and MIRROR.  The entries of other blocks are with their blocks.
-/

namespace Sys2Proof.Machine

/-! ### NOP and clock domains (R40, R45, R46) -/

/-- NOP (R40): none. -/
def execNop (i : BitVec 16) (s : State) : Host.Outcome State Fault Refusal :=
  .next (issueEntry 0 i (fun _ _ => noNeeds) (fun _ s => s) s)

/-- Effect of a CLOCK_UP: the domain's clock starts; a deferred CLOCK_DOWN is overtaken. -/
def clockUp (d : Domain) (s : State) : State :=
  let s := startDomain s d
  setDom s d { domSt s d with lastUp := true, deferred := none }

/-- CLOCK_UP (R40). -/
def execClockUp (i : BitVec 16) (s : State) : Host.Outcome State Fault Refusal :=
  .next (issueEntry 1 i (fun _ _ => noNeeds)
    (fun e s => match domOfBlock? (dfld e.w1 7 0) with | some d => clockUp d s | none => s) s)

/-- Effect of a CLOCK_DOWN (R46): at once while the block is idle, else deferred with the entry's DETAIL_A (R56). -/
def clockDown (d : Domain) (detail : Nat) (s : State) : State :=
  let s := setDom s d { domSt s d with lastUp := false }
  if !(domSt s d).running then s
  else if domBusy s d then setDom s d { domSt s d with deferred := some detail }
  else stopDomain s d

/-- CLOCK_DOWN (R46). -/
def execClockDown (i : BitVec 16) (s : State) : Host.Outcome State Fault Refusal :=
  .next (issueEntry 2 i (fun _ _ => noNeeds)
    (fun e s => match domOfBlock? (dfld e.w1 7 0) with | some d => clockDown d (entryDetail s i.toNat 2) s | none => s) s)

/-- DOMAIN_READY (R46): the lead time has passed. -/
def domainReady (d : Domain) (s : State) : State :=
  if domReady s d then setBit s Reg.chronoDomainState (domBit d) true else s

/-- DOMAIN_READY. -/
def execDomainReady (d : Domain) (s : State) : Host.Outcome State Fault Refusal := .next (domainReady d s)

/-- DOMAIN_IDLE_STOP (R46): started on demand and idle for 50 µs. -/
def domainIdleStop (d : Domain) (s : State) : State :=
  let x := domSt s d
  if domReady s d ∧ ¬x.lastUp ∧ ¬domBusy s d ∧ x.lastUse + usRaw 50 ≤ rawNow s then stopDomain s d else s

/-- DOMAIN_IDLE_STOP. -/
def execDomainIdleStop (d : Domain) (s : State) : Host.Outcome State Fault Refusal := .next (domainIdleStop d s)

/-- CLOCK_DOWN_DEFERRED (R46). -/
def clockDownDeferred (d : Domain) (s : State) : State :=
  match (domSt s d).deferred with
  | some detail => if domBusy s d then s else raise Ev.clockDownDeferred (activeNo s) detail (domBlock d) (stopDomain s d)
  | none => s

/-- CLOCK_DOWN_DEFERRED. -/
def execClockDownDeferred (d : Domain) (s : State) : Host.Outcome State Fault Refusal := .next (clockDownDeferred d s)

/-! ### SAMPLE (R40, R43, R158, R335) -/

/-- IMAGE_WORD forces of an image (R158), over its bytes in Sound memory. -/
def forceImage (img : Nat) (s : State) : State :=
  let (o, n) := imageRegion s img
  ((forcesOf s 3).filter (fun f => decide (f.1 = img) && decide (4 * f.2.1 + 4 ≤ n))).foldl (fun s (_, i, m, v) =>
    let w := forceWord (BitVec.ofNat 32 (readLE s.sound (o + 4 * i) 4)) m v
    { s with sound := writeBytes s.sound (o + 4 * i) (leBytes 4 w.toNat) }) s

/-- A new image of the module replaces the mirrored one: of an ACTIVE module its own images are delivered from now on (R323). -/
def imageTaken (img : Nat) (s : State) : State :=
  let own := s.pair.ownImage || decide (modState s = .active)
  { s with pair := { s.pair with ownImage := own, images := s.pair.images.filter (fun x => decide (x.1 ≠ img)) } }

/-- Effect of a SAMPLE. -/
def sampleBody (e : Entry) (s : State) : State :=
  let img := dfld e.w1 3 0
  let on := fun i (f : Nat → State → State) (s : State) => if e.w1.getLsbD i then f img s else s
  let s := imageTaken img (crossCheck img s)
  let s := on 13 sampleMotion (on 12 sampleCrate (on 11 sampleCan (on 10 sampleFlows (on 9 sampleSpd (on 8 sampleDi s)))))
  let s := forceImage img s
  { s with chrono := { s.chrono with sampleTimes := tput s.chrono.sampleTimes img (corrected s) } }

/-- Needs of a SAMPLE: the copy port, and the SAFE domain where a safe flow is mapped to the image (R45). -/
def sampleNeeds (s : State) (e : Entry) : Needs :=
  let img := dfld e.w1 3 0
  let safe := e.w1.getLsbD 10 && (imageFlows s img).any (flowSafe s)
  ⟨if safe then some .safe else none, [(.copyPort, occSample (imageRegion s img).2)]⟩

/-- SAMPLE (R40). -/
def execSample (i : BitVec 16) (s : State) : Host.Outcome State Fault Refusal := .next (issueEntry 3 i sampleNeeds sampleBody s)

/-! ### SNAPSHOT (R41) -/

/-- A register belongs to the volatile part of a slot (R41): the module changes it other than by a committed write. -/
def isVolatile (k : Nat) : Bool :=
  match regRow? k with
  | some r => decide (r.access = .ro) || decide (r.access = .w1c) || decide (k = Reg.chronoLoad)
  | none => false

/-- Effect of a SNAPSHOT: every register is captured into the task's slot. -/
def snapshotBody (e : Entry) (s : State) : State :=
  let t := e.task
  let s := allLanes.foldl (fun s l => showIrqs l s) s
  let s := { s with snaps := tput s.snaps t s.regs }
  let since := if s.pair.snapsSince.contains t then s.pair.snapsSince else s.pair.snapsSince ++ [t]
  { s with pair := { s.pair with snapsSince := since, slots := s.pair.slots.filter (fun x => decide (x.1 ≠ t)) } }

/-- SNAPSHOT (R41). -/
def execSnapshot (i : BitVec 16) (s : State) : Host.Outcome State Fault Refusal :=
  .next (issueEntry 15 i (fun _ _ => ⟨none, [(.copyPort, occSnapshot)]⟩) snapshotBody s)

/-- The volatile part of a slot, as the Strait link carries it (R329). -/
def volatilePart (s : State) (t : Nat) : List (Nat × Word) := (slotRegs s t).filter (fun x => isVolatile x.1)

/-- A slot takes the active module's volatile part (R329). -/
def putVolatile (t : Nat) (part : List (Nat × Word)) (s : State) : State :=
  let own := (slotRegs s t).filter (fun x => !isVolatile x.1)
  { s with snaps := tput s.snaps t (part.foldl (fun f (k, v) => tset (resetVal k) f k v) own) }

/-! ### DELIVER (R40, R64, R124 to R126, R139, R329) -/

/-- Queues whose records trigger an event task, as the slot holds them (R126). -/
def triggerMask (s : State) (t : Nat) : Nat :=
  let sel := taskFld (taskRecord s t) 19 16
  ((List.range 4).map (fun m =>
    if sel.testBit m ∧ snapReg s t (Reg.evqTail m) ≠ snapReg s t (Reg.evqHead m) then 2 ^ m else 0)).sum

/-- A RELEASE or DELIVER of an event task is suppressed. -/
def isSuppressed (s : State) (t : Nat) : Bool := decide (taskFld (taskRecord s t) 1 0 = 2) && decide (triggerMask s t = 0)

/-- The module delivers mirrored images: a standby, and an ACTIVE module before its first SAMPLE as ACTIVE (R323, R329). -/
def takesMirrored (s : State) : Bool :=
  pairBank s && (standsBy s || (decide (modState s = .active) && !s.pair.ownImage))

/-- The OFFSET of the next RELEASE of a task in the running cycle. -/
def releaseOffset (s : State) (t i : Nat) : Option Nat :=
  (((activeBank s).map (·.entries)).getD []).zipIdx.findSome? (fun (e, j) =>
    if i < j ∧ e.kind = 5 ∧ e.task = t ∧ e.applies (cycleNow s) then some e.offset else none)

/-- The lanes' previous job of a task as a DELIVER finds it (R64, R139): open in every voting lane is an overrun of the
watchdog, open in some only makes those late. -/
def judgePrevious (t : Fin 48) (s : State) : State :=
  let j := job s t.val
  let open_ := (votingLanes s).filter (fun l => !(jobClosed s t.val l))
  if !isVoting s || !j.has || j.abandoned || open_.isEmpty then s
  else if open_.length = (votingLanes s).length then
    noteOverrun t (yieldForTask t.val Ev.taskOverrun 2 (showOverrun t.val 2 s))
  else raiseLanes t.val Ev.laneLate (open_.map (fun l => (l, checkDetail s t.val 0, 0))) s

/-- Image, cycle start, SAMPLE_TIME of what a DELIVER copies, whether it is the module's own (R125, R329). -/
def deliverSource (img t : Nat) (s : State) : List Byte × Dword × Dword × Bool :=
  let (o, n) := imageRegion s img
  let own := (readBytes s.sound o n, s.chrono.cycleStart, tget 0 s.chrono.sampleTimes img, true)
  if takesMirrored s ∧ s.pair.slots.any (fun x => decide (x.1 = t)) then
    match s.pair.images.find? (fun x => decide (x.1 = img)) with
    | some (_, bytes, start, time) => (fit n 0 bytes, start, time, false)
    | none => own
  else own

/-- The delivery header (R125). -/
def deliveryHeader (s : State) (t : Nat) (release prev sampled : Dword) (size mask : Nat) : List Byte :=
  let j := job s t
  let first := !j.has
  let flags := (if first then 1 else 0) + (if s.restart.warmStart then 2 else 0) + (if j.switched then 4 else 0)
    + (if (snapReg s t Reg.modState).getLsbD 3 then 8 else 0)
  leBytes 8 release.toNat ++ leBytes 8 (if first then release else prev).toNat ++ leBytes 8 sampled.toNat
    ++ leBytes 4 (j.count + 1).toNat ++ leBytes 2 (cycleNow s) ++ [0, 0] ++ leBytes 4 (hpNow s).toNat ++ leBytes 4 size
    ++ leBytes 2 flags ++ leBytes 1 mask ++ [0] ++ leBytes 4 0 ++ List.replicate 16 0

/-- Header and image are written into the delivery area of every receiving lane; poisoned image words stay marked (R359). -/
def writeDelivery (area : Nat) (head image : List Byte) (bad : List Nat) (s : State) : State :=
  let s := toLanes s area (head ++ image)
  (receivingLanes s).foldl (fun s l =>
    { s with dram := s.dram.set l (bad.foldl (fun m o => markPoison m (area + 64 + o) 16) (s.dram.get l)) }) s

/-- The copy of a DELIVER (R40, R125): of a poisoned own image it is marked, with DELIVER_POISON. -/
def deliverCopy (img t i : Nat) (s : State) : State :=
  let (image, start, sampled, own) := deliverSource img t s
  let (o, n) := imageRegion s img
  let (release, s) := match releaseOffset s t i with
    | some x => (start + BitVec.ofNat 64 (1000 * x), s)
    | none => takeFree s
  let j := job s t
  let area := 64 * fld s (Reg.taskDlvBase t) 26 0
  let mask := if taskFld (taskRecord s t) 1 0 = 2 then triggerMask s t else 0
  let bad := if own then badWords s.sound o n else []
  let s := writeDelivery area (deliveryHeader s t release j.relTime sampled n mask) image
    (bad.map (fun b => 16 * b.1 - o)) s
  let s := setJob s t { j with nextRel := release, trigger := mask, suppressed := false, own := own, area := area }
  match bad with
  | [] => s
  | (w, _) :: _ => raiseTask t Ev.deliverPoison 6 (0x200000000 + 16 * w) t (stick (meetSound o n s) Reg.faultError 2)

/-- A DELIVER of a module that takes mirrored images: its slot takes the active module's volatile part; where image or slot has
not arrived it goes on with its own (R329). -/
def takeMirrored (img t : Nat) (s : State) : State :=
  if takesMirrored s then
    match s.pair.slots.find? (fun x => decide (x.1 = t)), s.pair.images.find? (fun x => decide (x.1 = img)) with
    | some (_, part), some _ => putVolatile t part s
    | _, _ => mirrorMissing 1 s
  else s

/-- Effect of a DELIVER. -/
def deliverBody (i : Nat) (e : Entry) (s : State) : State :=
  let t := e.task
  let img := dfld e.w1 3 0
  let s := takeMirrored img t s
  if isSuppressed s t then setJob s t { job s t with suppressed := true }
  else
    let s := if h : t < 48 then judgePrevious ⟨t, h⟩ s else s
    if running s then deliverCopy img t i s else s

/-- Needs of a DELIVER. -/
def deliverNeeds (s : State) (e : Entry) : Needs := ⟨none, [(.copyPort, occDeliver (imageRegion s (dfld e.w1 3 0)).2)]⟩

/-- DELIVER (R40). -/
def execDeliver (i : BitVec 16) (s : State) : Host.Outcome State Fault Refusal :=
  .next (issueEntry 4 i deliverNeeds (deliverBody i.toNat) s)

/-! ### RELEASE (R40, R62, R79, R120, R126) -/

/-- Effect of a RELEASE: the release signal is raised at the task's core in every receiving lane whose cores run (R80, R120) and the
task's accumulator zeroed in every receiving lane (R62); a new job opens in the lanes whose cores run, with its deadline
(R133); FINAL of a copy is abandoned (R79). -/
def releaseBody (e : Entry) (s : State) : State :=
  let t := e.task
  if isSuppressed s t then s
  else
    let s := (receivingLanes s).foldl (fun s l => setAcc (if coresRun s l then signalCore t l s else s) l t 0) (abortFinal s)
    let j := job s t
    let lane := fun l => (⟨0, !((receivingLanes s).contains l && coresRun s l), false, false⟩ : JobLane)
    setJob s t { j with count := j.count + 1, has := true, abandoned := false, checked := false, measured := false,
                        releaseMt := s.time.mt, deadlineMt := s.time.mt + taskFld (taskRecord s t) 89 64, relTime := j.nextRel, switched := false,
                        lanes := ⟨lane .a, lane .b, lane .c⟩ }

/-- RELEASE (R40). -/
def execRelease (i : BitVec 16) (s : State) : Host.Outcome State Fault Refusal :=
  .next (issueEntry 5 i (fun _ _ => noNeeds) releaseBody s)

/-! ### CHECKPOINT (R49, R64, R67, R80) -/

/-- The lane took part in the latest job of a task. -/
def tookPart (s : State) (t : Nat) (l : Lane) : Bool :=
  let x := (job s t).lanes.get l
  decide (0 < x.nextChk) || !x.closed

/-- A lane's presentation for a checkpoint of the latest job of a task. -/
def presented (s : State) (t chk : Nat) (l : Lane) : Option Present :=
  (s.meridian.present.get l).find? (fun p => decide (p.task = t) && decide (p.chk = chk) && decide (p.job = (job s t).count))

/-- The vote is resolved: its presentations leave the stores. -/
def dropPresented (t chk : Nat) (s : State) : State :=
  allLanes.foldl (fun s l =>
    let rest := (s.meridian.present.get l).filter (fun p => !(decide (p.task = t) && decide (p.chk = chk)))
    { s with meridian := { s.meridian with present := s.meridian.present.set l rest } }) s

/-- The signature that at least two lanes presented. -/
def majority (sigs : List (Lane × Sig)) : Option Sig :=
  (sigs.find? (fun x => decide (2 ≤ (sigs.filter (fun y => decide (y.2 = x.2))).length))).map (·.2)

/-- The lanes that have passed the last CHECKPOINT of a task. -/
def setPassed (t : Nat) (ls : List Lane) (s : State) : State :=
  allLanes.foldl (fun s l => setJobLane s t l { (job s t).lanes.get l with passed := ls.contains l }) s

/-- A lane in OBSERVE meets its first CHECKPOINT (R80): late and different signatures end the rejoin, an equal one makes it
VOTING where everything else has matched. -/
def observeLane (t : Nat) (sig : Option Sig) (best : Sig) (l : Lane) (s : State) : State :=
  match sig with
  | none => rejoinFailed (raiseF 4 t) l 4 s
  | some v =>
    if v ≠ best ∨ ¬s.rejoin.observed then rejoinFailed (raiseF 4 t) l 3 s
    else
      let s := rejoinDone l s
      setJobLane s t l { (job s t).lanes.get l with passed := true }

/-- Comparison at a CHECKPOINT with quorum (R67): late lanes, the majority and its minority; then the observed lanes (R80). -/
def compareSigs (t chk : Nat) (sigs : List (Lane × Sig)) (late observed : List Lane) (seen : Lane → Option Sig) (s : State) :
    State :=
  let d := checkDetail s t chk
  let s := raiseLanes t Ev.laneLate (late.map (fun l => (l, d, 1))) s
  match majority sigs with
  | none => raiseTask t Ev.sigNoMajority 0xFF d 0 (setPassed t [] s)
  | some v =>
    let out := (sigs.filter (fun x => decide (x.2 ≠ v))).map (·.1)
    let s := setPassed t ((sigs.filter (fun x => decide (x.2 = v))).map (·.1)) s
    let s := raiseLanes t Ev.sigMinority (out.map (fun l => (l, d, v.toNat % 2 ^ 32))) s
    observed.foldl (fun s l => if laneState s l = .rejoining then observeLane t (seen l) v l s else s) s

/-- CHECKPOINT_NO_QUORUM (R49, R56). -/
def noQuorum (i t chk : Nat) (got : List Lane) (s : State) : State :=
  let s := noteEntryFault (setPassed t [] s) 4 i 6
  raiseTask t Ev.checkpointNoQuorum (activeNo s) (checkDetail s t chk) ((got.map (fun l => 2 ^ l.idx)).sum) s

/-- Effect of a CHECKPOINT: in SPLIT, for a job abandoned, suppressed or never released, and while fewer than two voting lanes
took part in the job, it resolves without comparison. -/
def checkpointBody (i : Nat) (e : Entry) (s : State) : State :=
  let t := e.task
  let chk := dfld e.w1 15 8
  let j := job s t
  let voters := (votingLanes s).filter (tookPart s t)
  let observed := (lanesIn s .rejoining).filter (fun l => coresRun s l && tookPart s t l)
  let all := voters.filterMap (fun l => (presented s t chk l).map (fun p => (l, p)))
  let limit := match (all.map (fun x => x.2.at_)).min? with
    | some f => min (f + couplingWindow s) s.time.mt
    | none => s.time.mt
  let inTime := fun l => ((presented s t chk l).filter (fun p => decide (p.at_ ≤ limit))).map (·.sig)
  let sigs := voters.filterMap (fun l => (inTime l).map (fun v => (l, v)))
  let late := voters.filter (fun l => (inTime l).isNone)
  let watched := observed.map (fun l => (l, inTime l))
  let seen := fun l => ((watched.find? (fun x => decide (x.1 = l))).bind (·.2))
  let s := dropPresented t chk s
  if !isVoting s || !j.has || j.abandoned || j.suppressed || decide (voters.length < 2) then s
  else if sigs.length < 2 then noQuorum i t chk (sigs.map (·.1)) s
  else compareSigs t chk sigs late observed seen s

/-- CHECKPOINT (R49). -/
def execCheckpoint (i : BitVec 16) (s : State) : Host.Outcome State Fault Refusal :=
  .next (issueEntry 6 i (fun _ _ => ⟨none, [(.checkpointUnit, occCheckpoint)]⟩) (checkpointBody i.toNat) s)

/-! ### COLLECT (R69, R136, R149, R323, R331) -/

/-- The lanes whose staging blocks a COLLECT votes (R64, R83). -/
def collectLanes (s : State) (t : Nat) : List Lane :=
  if voteMode s = .split then [designated s]
  else
    let ls := (votingLanes s).filter (fun l => ((job s t).lanes.get l).passed)
    if ls.length < 2 then [] else ls

/-- A lane's copy of a staging block; none where it is poisoned. -/
def stageCopy (s : State) (block : Nat) (l : Lane) : Lane × Option (List Byte) :=
  let a := (region s l.idx).1 + 64 * block
  (l, if isPoisoned s.sound a 64 then none else some (readBytes s.sound a 64))

/-- OUTPUT_WORD forces over a block of OUTPUT bytes (R158). -/
def forceBlock (s : State) (block : Nat) (bs : List Byte) : List Byte :=
  (forcesOf s 4).foldl (fun bs (_, i, m, v) =>
    if i / 16 = block then
      let o := 4 * (i % 16)
      let w := forceWord (BitVec.ofNat 32 (leVal ((bs.drop o).take 4))) m v
      bs.take o ++ leBytes 4 w.toNat ++ bs.drop (o + 4)
    else bs) bs

/-- What a COLLECT has found: OUTPUT blocks written, minority lanes with the staging block, staging blocks without majority. -/
structure Tally where
  wrote    : List Nat
  minority : List (Lane × Nat)
  noMajor  : List Nat
deriving DecidableEq, Repr

/-- One block of a COLLECT is voted and its majority written (R69). -/
def collectBlock (ls : List Lane) (src dst : Nat) (x : Tally × State) : Tally × State :=
  let (r, s) := x
  let copies := ls.map (stageCopy s src)
  let s := ls.foldl (fun s l => meetSound ((region s l.idx).1 + 64 * src) 64 s) s
  let write := fun (bs : List Byte) (r : Tally) =>
    ({ r with wrote := r.wrote ++ [dst] },
     { s with sound := writeBytes s.sound ((region s 3).1 + 64 * dst) (forceBlock s dst bs) })
  match ballot copies with
  | .all bs => write bs r
  | .pair bs l => write bs { r with minority := r.minority ++ [(l, src)] }
  | .none => ({ r with noMajor := r.noMajor ++ [src] }, s)
  | .empty => (r, s)

/-- The events of a COLLECT (R69): one STAGE_MINORITY per lane with its first block, one STAGE_NO_MAJORITY. -/
def collectEvents (t : Nat) (r : Tally) (s : State) : State :=
  let lanes := allLanes.filterMap (fun l =>
    let mine := r.minority.filter (fun x => decide (x.1 = l))
    mine.head?.map (fun x => (l, checkDetail s t x.2, mine.length)))
  let s := raiseLanes t Ev.stageMinority lanes s
  match r.noMajor with
  | [] => s
  | b :: _ => raiseTask t Ev.stageNoMajority 0xFF (checkDetail s t b) r.noMajor.length s

/-- Effect of a COLLECT. -/
def collectBody (i : Nat) (e : Entry) (s : State) : State :=
  let t := e.task
  let ls := if (job s t).abandoned then [] else (collectLanes s t).filter (fun l => !((job s t).lanes.get l).gone)
  let blocks := List.range (dfld e.w1 51 40 + 1)
  let (r, s) := blocks.foldl (fun x b => collectBlock ls (dfld e.w1 23 8 + b) (dfld e.w1 39 24 + b) x) (⟨[], [], []⟩, s)
  let s := collectEvents t r s
  let s := writeConfirm (job s t).own r.wrote (retainCollect t r.wrote s)
  if isVoting s then noteDigest i (!r.wrote.isEmpty) r.wrote s else s

/-- Needs of a COLLECT. -/
def collectNeeds (_ : State) (e : Entry) : Needs :=
  let d := occCollect (64 * (dfld e.w1 51 40 + 1))
  ⟨none, [(.copyPort, d), (.stagingUnit, d)]⟩

/-- COLLECT (R69). -/
def execCollect (i : BitVec 16) (s : State) : Host.Outcome State Fault Refusal :=
  .next (issueEntry 7 i collectNeeds (collectBody i.toNat) s)

/-! ### MIRROR (R40, R43, R329 to R331) -/

/-- The partner takes what a MIRROR carries: JOINING or STANDBY, with a link that delivers. -/
def partnerListens (s : State) : Bool :=
  pairBank s && decide (modState s = .active) && !s.pair.silent
    && (s.pair.partner.map (fun i => decide (i.state = .joining) || decide (i.state = .standby))).getD false

/-- The MIRROR of a content has an effect (R330). -/
def mirrorActs (s : State) (content : Nat) : Bool := partnerListens s && (decide (content ≠ 0) || mirrors s)

/-- Enabled TX connections. -/
def txConns (s : State) : List Nat := (List.range 128).filter (fun c => decide (connState s c = 5))

/-- Bytes of a journal item. -/
def itemBytes : JItem → Nat
  | .record r => 64 * recBlocks r
  | .mark _ _ _ _ _ | .freed _ _ => 64
  | .event _ _ _ _ | .waiting _ _ _ => 32
  | .setup _ _ => 20
  | .started _ => 12
  | .books _ _ _ => 8
  | .head _ _ => 4

/-- Bytes that a MIRROR carries (R43): of a slot the registers of its volatile part that it sends, at most 8 KiB (R41). -/
def mirrorBytes (s : State) (content img : Nat) : Nat :=
  match content with
  | 0 => (s.pair.delta.map itemBytes).sum
  | 1 => (imageRegion s img).2 + 16 + (s.pair.snapsSince.map (fun t => min 8192 (4 * (volatilePart s t).length))).sum
  | _ => 20 * s.pair.digests.length + 8 * (txConns s).length

/-- One Strait lane is down. -/
def oneLane (s : State) : Bool := decide (fld s Reg.pairStatus 11 10 ≠ 3)

/-- Needs of a MIRROR. -/
def mirrorNeeds (s : State) (e : Entry) : Needs :=
  let c := dfld e.w1 1 0
  ⟨none, if mirrorActs s c then [(.straitTx, occMirror (mirrorBytes s c (dfld e.w1 7 4)) (oneLane s))] else []⟩

/-- Effect of a MIRROR of CONTENT 0b00 (R330). -/
def mirrorJournal (s : State) : State :=
  let n := s.pair.batchSeq + 1
  let s := emitOut s (.straitJournal n s.pair.delta)
  { s with pair := { s.pair with batchSeq := n, batchOpen := s.pair.batchOpen ++ [(n, s.pair.delta)], delta := [] } }

/-- Effect of a MIRROR of CONTENT 0b01 (R329). -/
def mirrorImage (img : Nat) (s : State) : State :=
  let (o, n) := imageRegion s img
  emitOut s (.straitImage ⟨Fin.ofNat 16 img, readBytes s.sound o n, s.chrono.cycleStart, tget 0 s.chrono.sampleTimes img,
    s.pair.snapsSince.map (fun t => (t, volatilePart s t))⟩)

/-- Effect of a MIRROR of CONTENT 0b10 (R331, R221). -/
def mirrorCheck (s : State) : State :=
  let n := s.pair.checkSeq + 1
  let s := emitOut s (.straitCheck ⟨n, s.pair.digests.map (·.1), (txConns s).map (fun c => (c, getReg s (Reg.safeConnSeq c)))⟩)
  { s with pair := { s.pair with checkSeq := n, checkOpen := s.pair.checkOpen ++ [n] } }

/-- Effect of a MIRROR: in an ACTIVE module what it covers is no longer due, whether or not a partner takes it. -/
def mirrorBody (e : Entry) (s : State) : State :=
  let c := dfld e.w1 1 0
  let acts := mirrorActs s c
  if modState s ≠ .active then s
  else match c with
    | 0 => if acts then mirrorJournal s else s
    | 1 =>
      let s := if acts then mirrorImage (dfld e.w1 7 4) s else s
      { s with pair := { s.pair with snapsSince := [] } }
    | _ =>
      let s := if acts then mirrorCheck s else s
      { s with pair := { s.pair with digests := [] } }

/-- MIRROR (R40). -/
def execMirror (i : BitVec 16) (s : State) : Host.Outcome State Fault Refusal := .next (issueEntry 14 i mirrorNeeds mirrorBody s)

/-! ### ENTRY_POISON (R48) -/

/-- An uncorrectable entry word is due: it is not executed, and the module yields. -/
def entryPoison (i : BitVec 16) (s : State) : State :=
  match entryAt s i.toNat with
  | some e => if entryDue s i.toNat e ∧ e.poison then failPoison (passEntry s i.toNat) i.toNat else s
  | none => s

/-- ENTRY_POISON. -/
def execEntryPoison (i : BitVec 16) (s : State) : Host.Outcome State Fault Refusal := .next (entryPoison i s)

end Sys2Proof.Machine
end

