-- ==== Sys2Proof/Machine/Tick.lean ====
section
/-!
DEFINITION. One clock edge, which is what a step on an empty queue is: the raw counter advances (R165, R166), a microtick
edge is counted where corrected time, less the steps taken, passes a whole microsecond (R179), the output pulse falls when
its width is over (R180), a peer delay grows too old to be valid (R183), and the lockout of service access counts down (R436).
-/

namespace Sys2Proof.Machine

/-- Microticks from a start `late` microticks ago to the next aligned microtick at or after it (R34). -/
def alignDist (s : State) (late : Nat) : Nat :=
  let h := header s
  ((((h.alignOffset : Int) - (((corrected s).toNat / 1000 : Nat) : Int) + (late : Int)) % ((max 1 h.bcLen : Nat) : Int))).toNat

/-- The alignment is complete at a cycle start `late` microticks ago (R34, R56): ALIGN_DONE with the number of stretched cycles. -/
def alignDone (late : Nat) (s : State) : State :=
  if bit s Reg.chronoStatus 5 ∧ alignDist s late = 0 then
    let n := s.chrono.stretched
    let s := setBit { s with chrono := { s.chrono with stretched := 0 } } Reg.chronoStatus 5 false
    raise Ev.alignDone (activeNo s) 0 n s
  else s

/-- A microtick edge: the count, the entries issued in the microtick, and the Chronograph's place in its cycle. -/
def microtickEdge (n : Nat) (s : State) : State :=
  let s := { s with time := { s.time with mt := s.time.mt + n } }
  let c : ChronoSt := { s.chrono with mtIssued := 0 }
  if !(running s) then { s with chrono := c }
  else if 0 < c.idle then
    let s := { s with chrono := { c with idle := c.idle - n, offset := c.offset + (n - c.idle) } }
    if c.idle ≤ n then alignDone (n - c.idle) s else s
  else { s with chrono := { c with offset := c.offset + n } }

/-- The raw counter runs: the module is supplied, or Skerry still is (R395). -/
def counterRuns (s : State) : Bool := s.skerry.powered || !s.skerry.lostSupply

/-- Units that the raw counter gains at an edge of its clock (R165, R166). -/
def edgeUnits (s : State) : BitVec 72 := if s.time.onCrystal then 1953125 else 256

/-- Raw time in whole seconds. -/
def rawSeconds (s : State) : Nat := rawNow s / 64000000000

/-- LOCK_REMAIN counts down by seconds while service access is LOCKED and the fast clocks run (R436). -/
def lockTick (before : Nat) (s : State) : State :=
  if fld s Reg.svcStatus 1 0 = 2 ∧ ¬s.time.onCrystal ∧ before < rawSeconds s then
    setFld s Reg.svcStatus 17 8 (fld s Reg.svcStatus 17 8 - (rawSeconds s - before))
  else s

/-- One edge of the raw counter's clock. -/
def tick (s : State) : State :=
  if counterRuns s then
    let before := microtickNo s
    let seconds := rawSeconds s
    let s := { s with time := { s.time with raw := s.time.raw + edgeUnits s } }
    let after := microtickNo s
    let s := if before < after then microtickEdge (after - before).toNat s else s
    showPdelays (lockTick seconds (pulseFall s))
  else s

end Sys2Proof.Machine
end

