-- ==== Sys2Proof/Machine/Cycle.lean ====
section
/-!
DEFINITION. The run of the Chronograph: its start (R36, R372), base-cycle ends and idle microticks (R32 to R35),
hyperperiod boundaries with the changes that wait for them (R53, R83, R85, R146, R156, R157, R162, R320, R366), cycle marks
(R328), bank loads and switch requests (R51 to R54).
-/

namespace Sys2Proof.Machine

/-! ### Start (R36, R346, R372) -/

/-- Lanes enter a state together (R83, R85): one mode change follows from all of them. -/
def moveLanes (ls : List Lane) (new : LaneState) (s : State) : State :=
  let moved := (ls.filter (fun l => decide (laneState s l ≠ new))).map (fun l => (l, laneState s l))
  let s := moved.foldl (fun s (l, _) => enterState l new s) s
  let s := moved.foldl (fun s (l, old) => raise Ev.laneStateChanged l.idx 0 (laneCode old + 16 * laneCode new) s) s
  updateMode (raiseF 4 0) s

/-- The lanes enter VOTING together: their counts of set-up writes and window accesses start anew (R14, R260). -/
def freshCounts (s : State) : State :=
  let m := s.meridian
  { s with meridian := { m with queue := ⟨[], [], []⟩, stalled := ⟨[], [], []⟩, owed := ⟨[], [], []⟩ },
           isth := { s.isth with counts := ⟨0, 0, 0⟩, votes := s.isth.votes.filter (fun v => v.stream.isSome) } }

/-- A cycle begins: its first microtick is at hand, no entry has been passed; ages and timeouts count one base cycle more. -/
def beginCycle (start : Dword) (s : State) : State :=
  { s with chrono := { s.chrono with offset := 0, nextIndex := 0, cycleStart := start, cycles := s.chrono.cycles + 1 } }

/-- What every start of the Chronograph does: the module level returns to LOG (R346), Holm groups are IDLE, safe connections
are disabled (R213), the Transit servo starts anew, jobs and idle microticks count from 0. -/
def startRun (s : State) : State :=
  let s := setFld (setFld s Reg.faultStatus 2 0 0) Reg.faultStatus 4 3 0
  let s := forgetNotices (startTransit (safeStart (holmChronoStart s)))
  let s := setBit (setReg s Reg.chronoStretchCount 0) Reg.chronoStatus 5 false
  let ms := (rawNow s - s.restart.bootRaw) / 64000000
  let s := setFld s Reg.modBootInfo 19 8 (min 4095 ms)
  let c := s.chrono
  setBit { s with jobs := [], force := { s.force with dropSafe := false }, isth := { s.isth with stream := 0 },
                  chrono := { c with offset := 0, cycles := 0, idle := 0, hpDue := false, nextIndex := 0, mtIssued := 0, stretched := 0,
                                     startAt := none, gateOpen := false, sampleTimes := [] } } Reg.chronoStatus 0 true

/-- The run begins with a base cycle; force changes that waited for it take effect at its first boundary (R160). -/
def beginRun (hp : Word) (cycle : Nat) (s : State) : State :=
  let s := { s with force := { s.force with changes := s.force.changes.map (fun x => (x.1, hp, cycle)) } }
  setReg (setFld s Reg.chronoCycle 11 0 cycle) Reg.chronoHpCount hp

/-- CYCLE_MARK of an ACTIVE module at the start of a base cycle (R328). -/
def sendMark (s : State) : State :=
  if pairBank s ∧ ringsAct s then emitOut s (.straitMark (hpNow s) (cycleNow s) s.chrono.cycleStart) else s

/-- CHRONOGRAPH_START (R36, R319, R337, R372): the copy of R374 is complete, the microtick is aligned, and in a pair the claim
has stood for 60 µs; ready lanes enter VOTING and the module is ACTIVE. -/
def chronographStart (s : State) : State :=
  let copied : Bool := match s.chrono.startAt with | some t => decide (t ≤ rawNow s) | none => false
  if modState s = .boot ∧ copied ∧ (activeBank s).isSome ∧ alignDist s 0 = 0 ∧ (¬pairBank s ∨ claimLead s) then
    let ready := readyLanes s
    let s := beginRun 0 0 (startDegraded (startRun (freshCounts s)))
    let s := beginCycle (microtickTime s) s
    let s := ready.foldl (fun s l => setLane s l { s.lanes.get l with ready := false, testStep := 0 }) s
    let s := moveLanes ready .voting s
    let s := { s with pair := { s.pair with claimAt := none, ownImage := true } }
    sendMark (showListenAll (setModTo .active s))
  else s

/-- CHRONOGRAPH_START. -/
def execChronographStart (s : State) : Host.Outcome State Fault Refusal := .next (chronographStart s)

/-! ### Base-cycle end (R32 to R35) -/

/-- Consecutive cycles in which everything matched and nothing was missing (R336, R337). -/
def countCycle (s : State) : State :=
  let counts := joinStep s 6 || (decide (modState s = .standby) && decide (s.pair.reason = 7) && isVoting s)
  let n := if counts ∧ ¬s.pair.cycleBad then s.pair.eligCount + 1 else 0
  { s with pair := { s.pair with eligCount := n, cycleBad := false } }

/-- What ends with a base cycle, at the boundary at which the next begins: open receive buffers complete (R236), a check that is overdue
is missing (R331), committed force changes take effect (R160, R162). -/
def endCycle (next : Word × Nat) (s : State) : State := forceBoundary next (flushRx (countCycle (checkOverdue s)))

/-- Idle microticks before the next cycle, whose nominal start was `late` microticks ago (R34, R179): in ACTIVE,
max(1, min(d, BC_LEN / 100)) where that start is not aligned. -/
def idleFor (s : State) (late : Nat) : Nat :=
  let d := alignDist s late
  if modState s = .active ∧ 0 < d then max 1 (min d ((header s).bcLen / 100)) else 0

/-- The idle microticks are inserted, with ALIGN_START before the first stretched cycle; from the first of them on, microtick edges
fall on whole µs of corrected time (R179). -/
def stretch (late : Nat) (s : State) : State :=
  let n := idleFor s late
  if n = 0 then alignDone late s
  else
    let d := alignDist s late
    let first := !bit s Reg.chronoStatus 5
    let s := setBit s Reg.chronoStatus 5 true
    let s := setReg s Reg.chronoStretchCount (getReg s Reg.chronoStretchCount + BitVec.ofNat 32 n)
    let s := { s with chrono := { s.chrono with stretched := if first then 1 else s.chrono.stretched + 1 },
                      time := { s.time with phase := 0 } }
    let s := if first then raise Ev.alignStart (activeNo s) 0 d s else s
    if n ≤ late then alignDone (late - n) s else s

/-- BASE_CYCLE_END (R32, R34): a module that follows the partner's marks ends its cycles at them (R328). -/
def baseCycleEnd (s : State) : State :=
  let h := header s
  if running s ∧ s.chrono.idle = 0 ∧ ¬s.chrono.hpDue ∧ h.bcLen ≤ s.chrono.offset ∧ 0 < h.bcLen
      ∧ ¬(standsBy s ∧ partnerMaster s) then
    let s := endCycle (cycleAhead s 1) s
    let late := s.chrono.offset - h.bcLen
    let n := idleFor s late
    let s := stretch late s
    let start := microtickTime s + BitVec.ofNat 64 (1000 * n) - BitVec.ofNat 64 (1000 * late)
    let s := beginCycle start s
    let s := { s with chrono := { s.chrono with idle := n - late, offset := late - n } }
    if h.hpLen ≤ cycleNow s + 1 then
      { setFld s Reg.chronoCycle 11 0 0 with chrono := { s.chrono with hpDue := true } }
    else sendMark (setFld s Reg.chronoCycle 11 0 (cycleNow s + 1))
  else s

/-- BASE_CYCLE_END. -/
def execBaseCycleEnd (s : State) : Host.Outcome State Fault Refusal := .next (baseCycleEnd s)

/-- A cycle begins at a mark of the partner (R35, R328): at its arrival less PAIR_LINK.LATENCY, with microtick edges counted from
there. -/
def beginAtMark (time : Dword) (s : State) : State :=
  let ns := fld s Reg.pairLink 15 0
  let s := { s with time := { s.time with phase := ((corrected s).toNat : Int) - ns } }
  let s := beginCycle time s
  { s with chrono := { s.chrono with idle := 0, offset := ns / 1000 } }

/-- STRAIT_CYCLE_MARK (R35, R36, R328): a JOINING module past HELLO starts its Chronograph at the mark; a JOINING or STANDBY
module ends its cycle and starts the one that the mark names.  A new hyperperiod count is reached by the boundary. -/
def cycleMark (hp : Word) (cycle : Nat) (time : Dword) (s : State) : State :=
  let s := heard s
  if modState s = .joining ∧ ¬running s ∧ 2 ≤ joinPhase s ∧ (activeBank s).isSome then
    beginAtMark time (beginRun hp cycle (startRun s))
  else if standsBy s ∧ running s then
    let s := beginAtMark time (endCycle (hp, cycle) s)
    let s := setFld s Reg.chronoCycle 11 0 cycle
    if hp = hpNow s then s
    else setReg { s with chrono := { s.chrono with hpDue := true } } Reg.chronoHpCount (hp - 1)
  else s

/-- STRAIT_CYCLE_MARK. -/
def execStraitCycleMark (hp : Word) (cycle : BitVec 12) (time : Dword) (s : State) : Host.Outcome State Fault Refusal :=
  .next (cycleMark hp cycle.toNat time s)

/-! ### Hyperperiod boundary -/

/-- A change committed at a microtick takes effect at this boundary (R53). -/
def isDue (s : State) (commit : Nat) : Bool := dueAt (s.time.mt - s.chrono.offset) commit

/-- The hyperperiod count has reached a boundary. -/
def hpReached (s : State) (h : Word) : Bool := decide (wsub (hpNow s) h < 2 ^ 31)

/-- A job is open in some lane that runs it (R120). -/
def jobOpen (s : State) (t : Nat) : Bool :=
  (if voteMode s = .split then lanesIn s .splitRun else votingLanes s).any (openIn s t)

/-- A job of the old bank is abandoned at a switch (R156): YIELD where the task is CRITICAL in the old bank. -/
def xchgAbandon (t : Nat) (s : State) : State :=
  let critical := decide (taskFld (taskRecord s t) 3 3 = 1)
  let e := { Ev.xchgJobAbandoned with reaction := if critical then .yield else .notify }
  let s := abandonJob t s
  raiseTask t e t 0 (job s t).count.toNat s

/-- The partner's banks after a switch that both modules make (R157). -/
def swapIds (h : HelloInfo) : HelloInfo := { h with activeId := h.shadowId, shadowId := h.activeId }

/-- The bank switch (R31, R53, R101, R153, R156, R162): jobs that cross the boundary are abandoned, the force table is cleared,
the shadow becomes active, and the journal records the new application.  The switch is signalled to core 0 of
every receiving lane, and a lane still REJOINING repeats step 5 of R75 (R153). -/
def switchBank (s : State) : State :=
  let s := ((List.range 48).filter (jobOpen s)).foldl (fun s t => xchgAbandon t s) s
  let s := clearForces s
  let new := 1 - activeNo s
  let s := setBit (setFld (setFld s Reg.chronoStatus 1 1 new) Reg.chronoStatus 3 2 2) Reg.chronoStatus 4 false
  let s := { s with chrono := { s.chrono with req := { s.chrono.req with bankSwitch := none } },
                    pair := { s.pair with exchangeHp := none, hello := s.pair.hello.map swapIds } }
  let s := set64 (showBanks s) Reg.ringJournalBuildLo (header s).appBuildId
  let s := (List.range 48).foldl (fun s t => setJob s t { job s t with switched := true }) s
  let s := (receivingLanes s).foldl (fun s l => setLane s l { s.lanes.get l with switchSig := true }) s
  let s := (lanesIn s .rejoining).foldl (fun s l => setLane s l { s.lanes.get l with testStep := 5 }) s
  raise Ev.bankSwitched new 0 new s

/-- The switch at a boundary (R53, R157): in a pair at the boundary that both modules have set, in an active module without one as
R53 states; a standby that has not committed by then is too late. -/
def switchBoundary (s : State) : State :=
  let reached : Bool := match exchangeBoundary s with | some h => hpReached s h | none => false
  match s.chrono.req.bankSwitch with
  | some m =>
    let go := if (exchangeBoundary s).isSome || (pairBank s && standsBy s) then reached else isDue s m
    if go then switchBank s else s
  | none => if standsBy s ∧ reached then standbyFault 6 { s with pair := { s.pair with exchangeHp := none } } else s

/-- SPLIT takes effect (R83).  The spec does not say what becomes of set-up votes and window votes that are still open then: their
writes and accesses are dropped without report, and the cores that stall on them go on (DESIGN CHOICE, assumption log 83). -/
def takeSplit (d : Nat) (s : State) : State :=
  let s := moveLanes (votingLanes s) .splitRun (setFld (freshCounts s) Reg.laneState 15 14 d)
  allLanes.foldl (fun s l => showIrqs l s) s

/-- A JOIN takes effect (R85 step 1): the lanes that were not designated enter TESTING. -/
def takeJoin (s : State) : State :=
  let s := ((lanesIn s .splitRun).filter (fun l => decide (l ≠ designated s))).foldl (fun s l => startTesting l (isolate l s)) s
  ((lanesIn s .testing).filter (fun l => decide (l ≠ designated s))).foldl
    (fun s l => setLane s l { s.lanes.get l with joining := true }) s

/-- SPLIT and JOIN requests at a boundary (R83, R85). -/
def modeBoundary (s : State) : State :=
  match s.chrono.req.mode with
  | some (join, d, m) =>
    if isDue s m then
      let s := setBit { s with chrono := { s.chrono with req := { s.chrono.req with mode := none } } } Reg.laneState 16 false
      if join then takeJoin s else takeSplit d s
    else s
  | none => s

/-- A join completes at the boundary inside its quiet interval (R80, R85 step 3). -/
def joinBoundary (s : State) : State :=
  if s.rejoin.join ∧ s.rejoin.finalOk ∧ ¬(targetLanes s).isEmpty then
    let ls := designated s :: targetLanes s
    let s := ls.foldl (fun s l => setLane s l { s.lanes.get l with joining := false }) (freshCounts s)
    moveLanes ls .voting (rejoinIdle { s with rejoin := rejoin0 })
  else s

/-- A restart requested while the Chronograph ran (R146). -/
def restartDue (s : State) : State :=
  match s.chrono.req.restart with
  | some (cold, m) => if running s ∧ isDue s m then restartBoundary cold s else s
  | none => s

/-- PAIR_CMD HANDOVER (R320). -/
def handoverDue (s : State) : State :=
  match s.chrono.req.handover with
  | some m =>
    if running s ∧ isDue s m then
      giveUp (raiseF 4 0) .handover { s with chrono := { s.chrono with req := { s.chrono.req with handover := none } } }
    else s
  | none => s

/-- SLEEP at a boundary (R366): of the module's own request, or in a standby of its partner's. -/
def sleepDue (s : State) : State :=
  let own : Bool := match s.chrono.req.sleep with | some m => isDue s m | none => false
  let theirs : Bool := match s.pair.sleepHp with | some h => standsBy s && hpReached s h | none => false
  if running s ∧ (own ∨ theirs) then
    sleepBegin { s with chrono := { s.chrono with req := { s.chrono.req with sleep := none } },
                        pair := { s.pair with sleepHp := none } }
  else s

/-- HYPERPERIOD_BOUNDARY (R32, R55): the count advances and the changes that wait for the boundary take effect, a bank switch
before a mode change (R83). -/
def hyperperiod (s : State) : State :=
  if running s ∧ s.chrono.hpDue then
    let old := hpNow s
    let s := setReg { s with chrono := { s.chrono with hpDue := false } } Reg.chronoHpCount (old + 1)
    let s := switchBoundary (dropNotices old s)
    let s := if running s then joinBoundary (modeBoundary s) else s
    sendMark (sleepDue (handoverDue (restartDue s)))
  else s

/-- HYPERPERIOD_BOUNDARY. -/
def execHyperperiodBoundary (s : State) : Host.Outcome State Fault Refusal := .next (hyperperiod s)

/-! ### Bank loads (R51, R52) -/

/-- CHRONO_STATUS.SHADOW. -/
def shadowState (s : State) : Nat := fld s Reg.chronoStatus 3 2

/-- CHRONO_LOAD with START (R51): refused with BUSY while LOADING or with a switch pending.  Whether such a refusal is a load that sets
TASK_TABLE_CHECK (R119) the spec leaves open: the register stays as it stood (DESIGN CHOICE, assumption log 89). -/
def loadStart (n : Nat) (s : State) : State :=
  let s := setFld s Reg.chronoLoad 7 0 n
  let shadow := 1 - activeNo s
  if shadowState s = 1 ∨ bit s Reg.chronoStatus 4 then
    raise Ev.bankRejected shadow 0 0x0C (setReg s Reg.chronoLoadResult 0x0C)
  else
    let s := setBit (setFld s Reg.chronoStatus 3 2 1) Reg.chronoLoad 31 true
    domAcquire { s with chrono := { s.chrono with loadSlot := some n } } .img

/-- CHRONO_LOAD_START. -/
def execChronoLoadStart (n : BitVec 8) (s : State) : Host.Outcome State Fault Refusal := .next (loadStart n.toNat s)

/-- The result of a load of a slot: what the image store refuses, then the load checks (R52, R385). -/
def loadResult (s : State) (n : Nat) : LoadResult :=
  if ephemerisGood s n then loadChecks (slotOf s n).content 256 (payloadLen (slotOf s n)) else ⟨0x0B, 0, none⟩

/-- BANK_LOAD_DONE (R51). -/
def loadDone (s : State) : State :=
  match s.chrono.loadSlot with
  | some n =>
    if !(domReady s .img) then s else
    let shadow := 1 - activeNo s
    let r := loadResult s n
    let good := decide (r.reason = 0)
    let s := domRelease (showLoad { s with chrono := { s.chrono with loadSlot := none } } r) .img
    let s := setBit (setFld s Reg.chronoStatus 3 2 (if good then 2 else 3)) Reg.chronoLoad 31 false
    let s := setBank s shadow (if good then some (parseBank (slotOf s n).content 256) else none)
    let s := showBanks s
    let s := if pairBank s ∧ ¬s.pair.silent then emitOut s (.straitHello (ownHello s)) else s
    if good then raise Ev.bankLoaded shadow 0 shadow s
    else raise Ev.bankRejected shadow 0 (r.reason + r.entry % 65536 * 65536) s
  | none => s

/-- BANK_LOAD_DONE. -/
def execBankLoadDone (s : State) : Host.Outcome State Fault Refusal := .next (loadDone s)

/-! ### Switch requests (R53, R54, R157) -/

/-- Why a switch is refused (R54); 0 where it is not. -/
def switchReason (s : State) : Nat :=
  let shadow := ((shadowBank s).map (·.header)).getD noHeader
  let differs : Bool := match s.pair.hello with
    | some h => !s.pair.silent && decide (h.shadowId ≠ get64 s Reg.chronoShadowIdLo)
    | none => false
  if shadowState s ≠ 2 then 1
  else if shadow.bcLen ≠ (header s).bcLen then 2
  else if pairBank s ∧ differs then 3
  else 0

/-- The exchange boundary of a pair (R157): the active module sets the later of the two modules' boundaries and sends it; a
standby sends its own. -/
def exchangeRequest (s : State) : State :=
  let mine := nextBoundary s
  if modState s = .active ∧ eligiblePartner s then
    let b := match s.pair.exchangeHp with | some theirs => laterHp mine theirs | none => mine
    emitOut { s with pair := { s.pair with exchangeHp := some b } } (.straitNotice (.exchange b))
  else if standsBy s ∧ pairBank s then emitOut s (.straitNotice (.exchange mine))
  else s

/-- CHRONO_BANK_SEL with the shadow bank's number (R53). -/
def switchRequest (s : State) : State :=
  let shadow := 1 - activeNo s
  let s := setReg s Reg.chronoBankSel (BitVec.ofNat 32 shadow)
  let why := switchReason s
  if why ≠ 0 then raise Ev.switchRejected shadow 0 why s
  else if s.chrono.req.bankSwitch.isSome then s
  else
    let s := setBit s Reg.chronoStatus 4 true
    exchangeRequest { s with chrono := { s.chrono with req := { s.chrono.req with bankSwitch := some s.time.mt } } }

/-- BANK_SWITCH_REQUEST. -/
def execBankSwitchRequest (s : State) : Host.Outcome State Fault Refusal := .next (switchRequest s)

/-- CHRONO_BANK_SEL with the active bank's number (R54). -/
def switchCancel (s : State) : State :=
  let s := setBit (setReg s Reg.chronoBankSel (BitVec.ofNat 32 (activeNo s))) Reg.chronoStatus 4 false
  { s with chrono := { s.chrono with req := { s.chrono.req with bankSwitch := none } },
           pair := { s.pair with exchangeHp := none } }

/-- BANK_SWITCH_CANCEL. -/
def execBankSwitchCancel (s : State) : Host.Outcome State Fault Refusal := .next (switchCancel s)

end Sys2Proof.Machine
end

