-- ==== Sys2Proof/Machine/Recorder.lean ====
section
/-!
DEFINITION. The event recorder (18_recorder.md): histograms and extremes of the quantities, the log with its retention rule,
application entries, clears, and the read-out requests of X_SVC.
-/

namespace Sys2Proof.Machine

/-! ### Answers on X_SVC (R430, R431) -/

/-- A response on X_SVC with its COUNT. -/
def answerCount (req : SvcReq) (op status count : Nat) (data : List Byte) (s : State) : State :=
  emitOut s (.svc req op status count data)

/-- A response whose COUNT the spec does not state: the field is free. -/
def answer (req : SvcReq) (op status : Nat) (data : List Byte) (s : State) : State :=
  let (v, s) := takeFree s
  answerCount req op status (v.toNat % 65536) data s

/-- Requests reach the module (R431): X_SVC has link, and the module is neither in SLEEP nor unpowered. -/
def svcServed (s : State) : Bool := s.svc.link && s.skerry.powered && decide (modState s ≠ .sleep)

/-- The requester is the holder of open service access (R432). -/
def svcHeld (s : State) (req : SvcReq) : Bool := svcIsOpen s && decide (s.svc.holder = some (req.ip, req.port))

/-- A request of the holder restarts the idle time (R438). -/
def svcTouch (req : SvcReq) (s : State) : State :=
  if svcHeld s req then { s with svc := { s.svc with lastReq := rawNow s } } else s

/-- A request is served: nothing happens without link, in SLEEP or unpowered. -/
def svcServe (req : SvcReq) (f : State → State) (s : State) : State := if svcServed s then f (svcTouch req s) else s

/-! ### Quantities (R418, R419) -/

/-- Numbers of the quantities: 0 supply, 1 cold wall, 2 hot spot, 3 to 5 shock X, Y, Z, 6 load. -/
abbrev Quantity := Nat

/-- The bin of a sample (R418). -/
def binOf (low width x : Int) : Nat := if x < low then 0 else min 15 ((x - low) / width).toNat

/-- The recorder meets an uncorrectable word (R359) and raises REC_POISON (R427, R429). -/
def recPoisoned (offset : Nat) (s : State) : State :=
  raise Ev.recPoison 0xFF 0 offset (stick (memUncorrectable 10 (0x501400000 + offset) 1 s) Reg.recError 2)

/-- An update of the quantity area: where words of it are poisoned, whether it meets one is free, since the spec does not place the
counts; the word met is reported and written anew. -/
def meetQuant (s : State) : Bool × State :=
  match s.recorder.poison with
  | [] => (false, s)
  | w :: _ =>
    let (v, s) := takeFree s
    if v.getLsbD 0 then
      (true, recPoisoned (0x1000 + w) { s with recorder := { s.recorder with poison := s.recorder.poison.erase w } })
    else (false, s)

/-- An extreme keeps the earlier of two equal samples (R419); one whose word is poisoned is empty (R427). -/
def keepExtreme (key : Nat) (high : Bool) (x : Int) (s : State) : State :=
  let (met, s) := meetQuant s
  let old := if met then none else s.recorder.extremes.find? (fun e => decide (e.1 = key))
  let better := match old with
    | none => true
    | some (_, e) => if high then decide (e.value < x) else decide (x < e.value)
  if better then
    let e : Extreme := ⟨x, getReg s Reg.skerryHours, getReg s Reg.skerryCycles⟩
    { s with recorder := { s.recorder with extremes := tput s.recorder.extremes key e } }
  else s

/-- A quantity is sampled: its bin counts, saturating, from 0 where its word is poisoned (R427), and its extremes follow. -/
def sampleQuantity (q : Quantity) (low width x : Int) (lowest : Bool) (s : State) : State :=
  let key := 16 * q + binOf low width x
  let (met, s) := meetQuant s
  let n := if met then (0 : Word) else tget 0 s.recorder.hist key
  let n' := if n = BitVec.allOnes 32 then n else n + 1
  let s := { s with recorder := { s.recorder with hist := tset 0 s.recorder.hist key n' } }
  let s := keepExtreme (2 * q + 1) true x s
  if lowest then keepExtreme (2 * q) false x s else s

/-- RECORDER_SAMPLE (R415, R418): supply in 0.1 V, temperatures in °C, shock in 0.001 g, load in 0.01 %; the live registers of
supply and temperature take the readings. -/
def recorderSample (decivolts : BitVec 12) (base hot : Byte) (x y z load : BitVec 16) (s : State) : State :=
  if s.skerry.powered ∧ modState s ≠ .sleep then
    let s := noteThermal base hot (noteSupply decivolts s)
    let s := sampleQuantity 0 0 100 decivolts.toNat true s
    let s := sampleQuantity 1 (-40) 10 (celsius base) true s
    let s := sampleQuantity 2 (-40) 12 (celsius hot) true s
    let s := sampleQuantity 3 0 1000 x.toNat false s
    let s := sampleQuantity 4 0 1000 y.toNat false s
    let s := sampleQuantity 5 0 1000 z.toNat false s
    if running s then sampleQuantity 6 0 625 load.toNat true s else s
  else s

/-- RECORDER_SAMPLE. -/
def execRecorderSample (decivolts : BitVec 12) (base hot : Byte) (shockX shockY shockZ load : BitVec 16) (s : State) :
    Host.Outcome State Fault Refusal := .next (recorderSample decivolts base hot shockX shockY shockZ load s)

/-! ### The log (R421, R422, R424) -/

/-- Entries that the log holds (R417). -/
def logSize : Nat := 129024

/-- REC_STATUS as the log, the queue and the clear give it (R428). -/
def showRec (s : State) : State :=
  let n := s.recorder.log.length
  let v := n + (if logSize ≤ n then 2 ^ 17 else 0) + (if s.recorder.clearing.isSome then 2 ^ 18 else 0)
    + 2 ^ 19 * min 64 s.recQ.length
  setReg s Reg.recStatus (BitVec.ofNat 32 v)

/-- Severity of an entry for R424: a poisoned one counts as INFO. -/
def entryRank (e : LogEntry) : Nat := if e.poison then 0 else sevCode e.record.sev

/-- The entry that a new one of a severity displaces in a full log (R424): the oldest of the lowest severity present, if that
is at or below its own; never the clear entry. -/
def victim (log : List LogEntry) (rank : Nat) : Option LogEntry :=
  let es := log.filter (fun e => !e.clear)
  let low := es.foldl (fun m e => min m (entryRank e)) 5
  if low ≤ rank then es.find? (fun e => decide (entryRank e = low)) else none

/-- A new entry with the next ENTRY_SEQ and the present counts (R421). -/
def newEntry (s : State) (r : Record) (app clear : Bool) : LogEntry :=
  ⟨r, app, clear, getReg s Reg.recSeq + 1, getReg s Reg.skerryHours, getReg s Reg.skerryCycles, false⟩

/-- An entry stands in the log. -/
def putEntry (e : LogEntry) (s : State) : State :=
  setReg { s with recorder := { s.recorder with log := s.recorder.log ++ [e] } } Reg.recSeq e.seq

/-- An entry is written, displaces another, or is dropped (R424); whether it was written. -/
def writeEntry (r : Record) (app : Bool) (s : State) : Bool × State :=
  if s.recorder.log.length < logSize then (true, putEntry (newEntry s r app false) s)
  else match victim s.recorder.log (sevCode r.sev) with
    | some old =>
      let first := !s.recorder.displaced
      let s := satAdd s Reg.recLoss 15 0 1
      let s := { s with recorder := { s.recorder with log := s.recorder.log.erase old, displaced := true } }
      let s := putEntry (newEntry s r app false) s
      (true, if first then raise Ev.recFull 0xFF 0 s.recorder.log.length (stick s Reg.recError 0) else s)
    | none => (false, stick (satAdd s Reg.recLoss 31 16 1) Reg.recError 1)

/-- LOG_ENTRY_WRITE (R111, R422): the oldest queued entry reaches its commit point; an application entry then completes DONE, or
REFUSED for reason 3.  One whose descriptor is no longer started was taken back before its commit. -/
def logEntryWrite (s : State) : State :=
  match s.recQ with
  | [] => s
  | r :: rest =>
    if ¬s.skerry.powered ∨ s.recorder.clearing.isSome then s
    else
      let s := { s with recQ := rest }
      if isApp r then
        match findRec s r.source r.seq with
        | some j =>
          if j.state = .started then
            let (ok, s) := writeEntry r true s
            showRec (finishDesc s r.source r.seq (if ok then .done else .refused) (if ok then 0 else 3))
          else showRec s
        | none => showRec s
      else showRec (writeEntry r false s).2

/-- LOG_ENTRY_WRITE. -/
def execLogEntryWrite (s : State) : Host.Outcome State Fault Refusal := .next (logEntryWrite s)

/-! ### Application entries (R423) -/

/-- Severity of a code. -/
def sevOf : Nat → Severity
  | 0 => .info | 1 => .notice | 2 => .warning | 3 => .fault | _ => .safety

/-- The record of an APP_ENTRY: CODE 0xFF00 + n, the payload in DETAIL_A and then DETAIL_B. -/
def appRecord (s : State) (n : Nat) (d : Desc) (payload : List Byte) : Record :=
  let bs := fit 12 0 payload
  { code := 0xFF00 + dfld d.spec 7 0, sev := sevOf (dfld d.spec 15 8), reaction := .log, seq := d.seq, time := corrected s,
    detailA := BitVec.ofNat 64 (leVal (bs.take 8)), detailB := BitVec.ofNat 32 (leVal (bs.drop 8)), source := n }

/-- REC_APP_ENTRY (R423): refused for its LEN or severity, else queued; it completes when it is written. -/
def recAppEntry (n : Nat) (s : State) : State :=
  match startRec s n 6 1 with
  | (some r, s) =>
    if 12 < r.desc.len.toNat then finishDesc s n r.desc.seq .refused 1
    else if 4 < dfld r.desc.spec 15 8 then finishDesc s n r.desc.seq .refused 2
    else
      let s := markRec s n r.desc.seq .started
      showRec { s with recQ := s.recQ ++ [appRecord s n r.desc r.payload] }
  | (none, s) => s

/-- REC_APP_ENTRY. -/
def execRecAppEntry (n : Fin 64) (s : State) : Host.Outcome State Fault Refusal := .next (recAppEntry n.val s)

/-! ### Clearing (R425) -/

/-- A clear runs until REC_CLEAR_DONE. -/
def startClear (source : Nat) (req : Option SvcReq) (s : State) : State :=
  showRec { s with recorder := { s.recorder with clearing := some (source, req) } }

/-- REC_CMD CLEAR, with the value written: refused while a clear runs. -/
def recCmdClear (v : Nat) (s : State) : State :=
  if s.recorder.clearing.isSome then raise Ev.recCmdRefused 0xFF 0 v s else startClear 0 none s

/-- REC_CMD_CLEAR. -/
def execRecCmdClear (s : State) : Host.Outcome State Fault Refusal := .next (recCmdClear 1 s)

/-- The three steps of R425. -/
def clearAll (source : Nat) (s : State) : State :=
  let n := if getReg s Reg.recClearCount = BitVec.allOnes 32 then getReg s Reg.recClearCount else getReg s Reg.recClearCount + 1
  let m := getReg s Reg.skerryHours
  let c := getReg s Reg.skerryCycles
  let s := setReg (setReg (setReg s Reg.recClearCount n) Reg.recClearMinutes m) Reg.recClearCycles c
  let s := setReg s Reg.recLoss 0
  let r := s.recorder
  let copy := (n, m, c, false)
  let s := { s with recorder := { clear0 := if r.nextCopy = 0 then copy else r.clear0
                                  clear1 := if r.nextCopy = 0 then r.clear1 else copy
                                  nextCopy := 1 - r.nextCopy, hist := [], extremes := [], counters := [], poison := [], log := [],
                                  displaced := false, clearing := none } }
  let rec' : Record := ⟨0x1001, .notice, reactionFor s Ev.recCleared, 0, corrected s, BitVec.ofNat 64 source, n, 0xFF⟩
  let s := putEntry (newEntry s rec' false true) s
  raise Ev.recCleared 0xFF 0 n.toNat (showRec s)

/-- REC_CLEAR_DONE (R425, R426). -/
def recClearDone (s : State) : State :=
  match s.recorder.clearing with
  | some (source, req) =>
    let s := clearAll source s
    match req with
    | some r => answer r 0x23 0 [] s
    | none => s
  | none => s

/-- REC_CLEAR_DONE. -/
def execRecClearDone (s : State) : Host.Outcome State Fault Refusal := .next (recClearDone s)

/-! ### Read-out (R426, R427) -/

/-- The clear record in use: the newer copy, or the other where that is poisoned, with REC_POISON at an offset that the spec
does not state. -/
def readClear (s : State) : (Word × Word × Word) × State :=
  let r := s.recorder
  let (a, b) := if r.nextCopy = 0 then (r.clear1, r.clear0) else (r.clear0, r.clear1)
  let (c, s) := if a.2.2.2 then
      let (v, s) := takeFree s
      (b, recPoisoned (v.toNat % 4096) s)
    else (a, s)
  ((c.1, c.2.1, c.2.2.1), s)

/-- REC_INFO: of an empty log the lowest and highest ENTRY_SEQ are free. -/
def recInfo (req : SvcReq) (s : State) : State :=
  let ((n, m, c), s) := readClear s
  let (lo, hi, s) := match s.recorder.log.head?, s.recorder.log.getLast? with
    | some a, some b => (a.seq, b.seq, s)
    | _, _ =>
      let (v, s) := takeFree s
      (v.extractLsb' 0 32, v.extractLsb' 32 32, s)
  let s := showRec s
  answer req 0x20 0 ([n, m, c, getReg s Reg.recStatus, getReg s Reg.recLoss, lo, hi].flatMap (fun w => leBytes 4 w.toNat)) s

/-- REC_INFO. -/
def execRecInfo (req : SvcReq) (s : State) : Host.Outcome State Fault Refusal := .next (svcServe req (recInfo req) s)

/-- Bytes that the spec leaves open. -/
def freeBytes : Nat → State → List Byte × State
  | 0, s => ([], s)
  | n + 1, s =>
    let (v, s) := takeFree s
    let (bs, s) := freeBytes n s
    (v.extractLsb' 0 8 :: bs, s)

/-- Bytes of the quantity area (R417). -/
def quantArea : Nat := 61440

/-- REC_QUANT: the spec gives the area's size and not the places of its counts, so the bytes are free; poisoned words read 0,
with STATUS 3, and are reported (R359, R427). -/
def recQuant (req : SvcReq) (s : State) : State :=
  let a := req.start.toNat
  let n := req.count.toNat
  if 1024 < n ∨ quantArea < a + n then answerCount req 0x21 2 0 [] s
  else
    let (bs, s) := freeBytes n s
    let bad := s.recorder.poison.filter (wordIn a n ∘ (· / 16))
    let bs := bs.zipIdx.map (fun (b, i) => if s.recorder.poison.any (fun w => decide (w / 16 = (a + i) / 16)) then 0 else b)
    let s := bad.foldl (fun s w => recPoisoned (0x1000 + w) s) s
    answerCount req 0x21 (if bad.isEmpty then 0 else 3) n bs s

/-- REC_QUANT. -/
def execRecQuant (req : SvcReq) (s : State) : Host.Outcome State Fault Refusal := .next (svcServe req (recQuant req) s)

/-- The 32 bytes of a log entry (R421). -/
def entryBytes (e : LogEntry) : List Byte :=
  let r := e.record
  leBytes 2 r.code ++ leBytes 1 (sevCode r.sev)
    ++ leBytes 1 ((if e.app then 1 else 0) + (if e.clear then 2 else 0) + (if e.poison then 4 else 0))
    ++ leBytes 4 e.seq.toNat ++ leBytes 4 e.minutes.toNat ++ leBytes 4 e.cycles.toNat ++ leBytes 8 r.detailA.toNat
    ++ leBytes 4 r.detailB.toNat ++ leBytes 2 r.source ++ leBytes 1 (rankOf r.reaction) ++ [0]

/-- REC_LOG: at most 32 entries from START on; a poisoned one is returned with its flag, and REC_POISON. -/
def recLog (req : SvcReq) (s : State) : State :=
  let es := (s.recorder.log.filter (fun e => decide (wsub e.seq req.start < 2 ^ 31))).take (min 32 req.count.toNat)
  let s := es.foldl (fun s e =>
    if e.poison then
      let i := (s.recorder.log.idxOf? e).getD 0
      recPoisoned (0x10000 + 32 * i) s
    else s) s
  answerCount req 0x22 0 es.length (es.flatMap entryBytes) s

/-- REC_LOG. -/
def execRecLog (req : SvcReq) (s : State) : Host.Outcome State Fault Refusal := .next (svcServe req (recLog req) s)

/-- REC_CLEAR over X_SVC: answered when the clear completes, or BUSY. -/
def recClear (req : SvcReq) (s : State) : State :=
  if s.recorder.clearing.isSome then answer req 0x23 1 [] s else startClear 1 (some req) s

/-- REC_CLEAR. -/
def execRecClear (req : SvcReq) (s : State) : Host.Outcome State Fault Refusal := .next (svcServe req (recClear req) s)

end Sys2Proof.Machine
end

