-- ==== Sys2Proof/Machine/Fault.lean ====
section
/-!
DEFINITION. The fault manager's commands and registers (R346, R349, R360), the 160/128 code (R354 to R356), and the scrubber
(R357, R358, R382).
-/

namespace Sys2Proof.Machine

/-! ### Commands and the reaction table -/

/-- FAULT_CMD CLEAR_LEVEL (R346): refused at YIELD or above, else LOG with DEGRADED and NOTIFIED 0. -/
def clearLevel (s : State) : State :=
  let level := fld s Reg.faultStatus 2 0
  if 4 ≤ level then refuseCfg s Reg.faultCfgResult Ev.faultCfgRefused 3 Reg.faultCmd 0xFF 0
  else raise Ev.levelCleared 0xFF 0 level (setFld s Reg.faultStatus 4 0 0)

/-- FAULT_CLEAR_LEVEL. -/
def execFaultClearLevel (s : State) : Host.Outcome State Fault Refusal := .next (clearLevel s)

/-- FAULT_CMD CLEAR_COUNTS (R360). -/
def clearCounts (s : State) : State := setReg (setReg s Reg.faultCorrCount 0) Reg.faultUncorrCount 0

/-- FAULT_CLEAR_COUNTS. -/
def execFaultClearCounts (s : State) : Host.Outcome State Fault Refusal := .next (clearCounts s)

/-- A new value of a FAULT_TABLE entry lowers, invalidates or recodes a valid one (R349). -/
def lowersEntry (old new : Word) : Bool :=
  decide (wordFld old 31 31 = 1)
    && (decide (wordFld new 31 31 = 0) || decide (wordFld new 15 0 ≠ wordFld old 15 0)
      || decide (rankOf (reactionOf (wordFld new 18 16)) < rankOf (reactionOf (wordFld old 18 16))))

/-- A write of FAULT_TABLE[k] (R349): reasons 1 LOWER and 2 CODE, judged in the order of their codes. -/
def writeFaultTable (k : Nat) (v : Word) (s : State) : State :=
  let key := Reg.faultTable k
  if running s ∧ lowersEntry (getReg s key) v then refuseCfg s Reg.faultCfgResult Ev.faultCfgRefused 1 key 0xFF 0
  else if 0x12 < wordFld v 15 8 then refuseCfg s Reg.faultCfgResult Ev.faultCfgRefused 2 key 0xFF 0
  else setReg s key (committed s key v)

/-- FAULT_TABLE_WRITE. -/
def execFaultTableWrite (entry : Fin 64) (value : Word) (s : State) : Host.Outcome State Fault Refusal :=
  .next (writeFaultTable entry.val value s)

/-- A new value of FAULT_SEV_FLOOR lowers some floor (R349). -/
def lowersFloor (old new : Word) : Bool :=
  (List.range 5).any (fun i =>
    decide (rankOf (reactionOf (wordFld new (3 * i + 2) (3 * i))) < rankOf (reactionOf (wordFld old (3 * i + 2) (3 * i)))))

/-- A write of FAULT_SEV_FLOOR (R349). -/
def writeSevFloor (v : Word) (s : State) : State :=
  if running s ∧ lowersFloor (getReg s Reg.faultSevFloor) v then
    refuseCfg s Reg.faultCfgResult Ev.faultCfgRefused 1 Reg.faultSevFloor 0xFF 0
  else setReg s Reg.faultSevFloor (committed s Reg.faultSevFloor v)

/-- FAULT_SEV_FLOOR_WRITE. -/
def execFaultSevFloorWrite (value : Word) (s : State) : Host.Outcome State Fault Refusal := .next (writeSevFloor value s)

/-- FM_SELF_FAULT (R353): the duplicated reaction logic differs; an independent path forces SAFE_HALT. -/
def execFmSelfFault (s : State) : Host.Outcome State Fault Refusal := .next (raise Ev.fmSelfFault 0xFF 0 0 s)

/-! ### The 160/128 code (R354 to R356) -/

/-- A symbol times α in GF(2^8) with the polynomial 0x11D (R354). -/
def gfDouble (a : Byte) : Byte := if a.getLsbD 7 then (a <<< 1) ^^^ 0x1D else a <<< 1

/-- A symbol times α^n. -/
def gfShift (a : Byte) : Nat → Byte
  | 0 => a
  | n + 1 => gfDouble (gfShift a n)

/-- The symbols c_0 to c_19 of a 160-bit word (R354): c_0 to c_3 are its check bits, c_(4+i) the data symbol d_i. -/
def codeSymbols (w : BitVec 160) : List Byte :=
  (List.range 4).map (fun j => w.extractLsb' (128 + 8 * j) 8) ++ (List.range 16).map (fun i => w.extractLsb' (8 * i) 8)

/-- Value at α^j of the polynomial with these coefficients, lowest first. -/
def polyAt (j : Nat) : List Byte → Byte
  | [] => 0
  | c :: r => c ^^^ gfShift (polyAt j r) j

/-- The syndrome S_j (R355). -/
def syndrome (w : BitVec 160) (j : Nat) : Byte := polyAt j (codeSymbols w)

/-- The syndromes of the poison mark, which adds 0x5A to c_0 to c_3 (R356). -/
def markSyndrome (j : Nat) : Byte := polyAt j [0x5A, 0x5A, 0x5A, 0x5A]

/-- What a decoder finds (R355). -/
inductive Decoded where
  | clean | poisoned
  | corrected (p : Nat)
  | uncorrectable
deriving DecidableEq, Repr

/-- The decoder: the first row of R355 that applies. -/
def decode160 (w : BitVec 160) : Decoded :=
  let s0 := syndrome w 0
  let s1 := syndrome w 1
  let s2 := syndrome w 2
  let s3 := syndrome w 3
  if s0 = 0 ∧ s1 = 0 ∧ s2 = 0 ∧ s3 = 0 then .clean
  else if s0 = 0 ∧ s1 = markSyndrome 1 ∧ s2 = markSyndrome 2 ∧ s3 = markSyndrome 3 then .poisoned
  else match (List.range 20).find? (fun p =>
      decide (s0 ≠ 0) && decide (s1 = gfShift s0 p) && decide (s2 = gfShift s1 p) && decide (s3 = gfShift s2 p)) with
    | some p => .corrected p
    | none => .uncorrectable

/-- The 16 data bytes of a word with S_0 added to symbol p (R355 row 3). -/
def correctedBytes (w : BitVec 160) (p : Nat) : List Byte :=
  let cs := codeSymbols w
  (setNth cs p (nth 0 cs p ^^^ syndrome w 0)).drop 4

/-! ### The list of corrected words (R358) -/

/-- STUCK_LIMIT; 0 acts as 1. -/
def stuckLimit (s : State) : Nat := max 1 (fld s Reg.faultScrubCfg 7 0)

/-- Corrections older than 24 hours of operating time leave the window; a word whose count falls below the limit may raise its
event again. -/
def ageOut (s : State) (c : Corrected) : Corrected :=
  let ms := c.minutes.filter (fun m => decide (wsub (getReg s Reg.skerryHours) (BitVec.ofNat 32 m) < 1440))
  { c with minutes := ms, stuck := c.stuck && decide (stuckLimit s ≤ ms.length) }

/-- A word of the list. -/
def sameWord (region addr : Nat) (c : Corrected) : Bool := decide (c.region = region) && decide (c.addr = addr)

/-- A correction of a word is noted among the last 64 distinct words, with MEM_SYMBOL_STUCK where its count reaches the
limit. -/
def noteCorrection (region addr : Nat) (s : State) : State :=
  let old := ageOut s ((s.fm.corrected.find? (sameWord region addr)).getD ⟨region, addr, [], false⟩)
  let ms := old.minutes ++ [(getReg s Reg.skerryHours).toNat]
  let due := !old.stuck && decide (stuckLimit s ≤ ms.length)
  let rest := s.fm.corrected.filter (fun c => !(sameWord region addr c))
  let all := rest ++ [⟨region, addr, ms, old.stuck || due⟩]
  let s := { s with fm := { s.fm with corrected := all.drop (all.length - 64) } }
  if due then raise Ev.memSymbolStuck region addr ms.length (stick s Reg.faultError 1) else s

/-- CORRECTION_AGE_OUT (R358). -/
def correctionAgeOut (region addr : Nat) (s : State) : State :=
  { s with fm := { s.fm with corrected := s.fm.corrected.map (fun c => if sameWord region addr c then ageOut s c else c) } }

/-- CORRECTION_AGE_OUT. -/
def execCorrectionAgeOut (region : BitVec 4) (addr : BitVec 40) (s : State) : Host.Outcome State Fault Refusal :=
  .next (correctionAgeOut region.toNat addr.toNat s)

/-! ### The scrubber (R357) -/

/-- Corrected data of a word of lane DRAM or Sound memory is written back. -/
def writeBack (region addr : Nat) (bs : List Byte) (s : State) : State :=
  let a := addr / 16 * 16
  match Lane.ofIdx? region with
  | some l => { s with dram := s.dram.set l (writeBytes (s.dram.get l) a bs) }
  | none => if region = 6 then { s with sound := writeBytes s.sound (a - 0x200000000) bs } else s

/-- An Ephemeris entry word of a bank is uncorrectable from now on (R48); an offset counts both banks, one after the other. -/
def spoilEntry (offset : Nat) (s : State) : State :=
  let n := offset / bankBytes
  let at_ := offset % bankBytes
  if at_ < 1024 then s
  else
    let i := (at_ - 1024) / 16
    let spoil := fun (b : Bank) => { b with entries := b.entries.zipIdx.map (fun (e, j) => if j = i then { e with poison := true } else e) }
    { s with chrono := if n = 0 then { s.chrono with bank0 := s.chrono.bank0.map spoil }
                       else { s.chrono with bank1 := s.chrono.bank1.map spoil } }

/-- A word of the recorder region is bad (R417); which copy of the clear record holds it, and in a log whose entries have been
displaced which entry, the spec does not state: free. -/
def spoilRecorder (offset : Nat) (s : State) : State :=
  if offset < 0x1000 then
    let (v, s) := takeFree s
    let r := s.recorder
    let bad := fun (c : Word × Word × Word × Bool) => (c.1, c.2.1, c.2.2.1, true)
    { s with recorder := if v.getLsbD 0 then { r with clear1 := bad r.clear1 } else { r with clear0 := bad r.clear0 } }
  else if offset < 0x10000 then
    { s with recorder := { s.recorder with poison := risingPut s.recorder.poison ((offset - 0x1000) / 16 * 16) } }
  else
    let log := s.recorder.log
    let (i, s) : Nat × State := if s.recorder.displaced then
        let (v, s) := takeFree s
        (v.toNat % max 1 log.length, s)
      else ((offset - 0x10000) / 32, s)
    match log[i]? with
    | some e => { s with recorder := { s.recorder with log := log.set i { e with poison := true } } }
    | none => s

/-- A word of MRAM is bad (R147), by its offset in the window. -/
def spoilMram (offset : Nat) (s : State) : State :=
  if offset < 0x10000 then { s with retain := { s.retain with headPoison := true } }
  else if offset < 0x50000 then
    { s with retain := { s.retain with logBad := risingPut s.retain.logBad ((offset - 0x10000) / 16) } }
  else if offset < 0x200000 then
    { s with retain := { s.retain with data := markBroken s.retain.data (offset - 0x50000) } }
  else if offset < 0x400000 then { s with journalBad := risingPut s.journalBad ((offset - 0x200000) / 16) }
  else spoilRecorder (offset - 0x400000) s

/-- A bad page of the image store (R382): its slot is DAMAGED.  Which written slot holds an offset of a bank, and which of its
words it is, the spec does not state: free. -/
def damageSlot (offset : Nat) (s : State) : State :=
  let held := s.store.slots.filter (fun x => decide (x.1 / 128 = offset / 2 ^ 32) && decide (x.2.state ≠ .empty))
  match held with
  | [] => s
  | first :: _ =>
    let (v, s) := takeFree s
    let (n, x) := nth first held (v.toNat % held.length)
    let (w, s) := takeFree s
    let s := setSlot n { x with damaged := true, content := markBroken x.content (w.toNat % max 1 x.written) } s
    raise Ev.imgDamaged n 0 n s

/-- A word that the decoder cannot correct is marked in the model's memory, so that its next consumer meets it; the hardware
leaves it unchanged (R357). -/
def spoil (region addr : Nat) (s : State) : State :=
  match Lane.ofIdx? region with
  | some l => { s with dram := s.dram.set l (markBroken (s.dram.get l) addr) }
  | none =>
    match region with
    | 6 => { s with sound := markBroken s.sound (addr - 0x200000000) }
    | 8 => spoilEntry addr s
    | 10 => spoilMram (addr - 0x501000000) s
    | 11 => damageSlot addr s
    | _ => s

/-- A word that decodes POISONED: a patrol read of NAND damages its slot; elsewhere the scrubber passes over it, and its
consumer reports it. -/
def spoilPoisoned (region addr : Nat) (s : State) : State :=
  match Lane.ofIdx? region with
  | some l => { s with dram := s.dram.set l (markPoison (s.dram.get l) addr 1) }
  | none =>
    match region with
    | 6 => { s with sound := markPoison s.sound (addr - 0x200000000) 1 }
    | _ => spoil region addr s

/-- A word that no decoder can correct (R357): SCRUB_UNCORRECTABLE, counted as an uncorrectable decode. -/
def scrubBad (region addr : Nat) (s : State) : State :=
  let s := satAdd s Reg.faultUncorrCount 31 0 1
  let s := setReg s Reg.faultLastAddrLo (BitVec.ofNat 32 addr)
  let s := setReg s Reg.faultLastAddrHi (BitVec.ofNat 32 (addr / 2 ^ 32 % 256 + 256 * region + 2 ^ 31))
  raise Ev.scrubUncorrectable region addr 0 (stick (spoil region addr s) Reg.faultError 0)

/-- A CORRECTED word (R357, R358). -/
def scrubCorrected (region addr p : Nat) (word : BitVec 160) (s : State) : State :=
  let s := satAdd s Reg.faultCorrCount 31 0 1
  let s := raise Ev.memCorrected region addr p (writeBack region addr (correctedBytes word p) s)
  noteCorrection region addr s

/-- SCRUB_READ: the word of a region that the scrubber has read, as the memory holds it. -/
def scrubRead (region addr : Nat) (word : BitVec 160) (s : State) : State :=
  if ¬s.skerry.powered ∨ modState s = .sleep ∨ 11 < region then s
  else match decode160 word with
    | .clean => s
    | .poisoned => spoilPoisoned region addr s
    | .corrected p => scrubCorrected region addr p word s
    | .uncorrectable => scrubBad region addr s

/-- SCRUB_READ. -/
def execScrubRead (region : BitVec 4) (addr : BitVec 40) (word : BitVec 160) (s : State) : Host.Outcome State Fault Refusal :=
  .next (scrubRead region.toNat addr.toNat word s)

end Sys2Proof.Machine
end

