-- ==== Sys2Proof/Machine/Commit.lean ====
section
/-!
DEFINITION. What a committed write of a set-up register does, whoever commits it (a vote, the designated lane, service access):
the rules of each block's register table on who may write when, the checks of R444, and the commands of the WO registers.
-/

namespace Sys2Proof.Machine

/-- Index of an array element from its key. -/
def elemNo (key first stride : Nat) : Nat := (key - first) / stride

/-- The register is written, reserved and read-only bits excepted (R7). -/
def plainWrite (key : Nat) (v : Word) (s : State) : State := setReg s key (committed s key v)

/-! ### MOD (R163, R386) -/

/-- MOD_FORCE_CMD. -/
def commitForceCmd (v : Word) (s : State) : State :=
  match wordFld v 11 8 with
  | 1 => forceSet (wordFld v 5 0) s
  | 2 => commitForce (.remove (wordFld v 5 0)) s
  | 3 => commitForce .removeAll s
  | _ => s

/-- Registers of block MOD. -/
def commitMod (key : Nat) (v : Word) (s : State) : State :=
  if key = Reg.modSleepCmd then (if wordFld v 3 0 = 1 then modSleep s else s)
  else if key = Reg.modStartCmd then
    (match wordFld v 3 0 with | 1 => modStart s | 2 => modMaintenance s | _ => s)
  else if key = Reg.modRestartCmd then
    (match wordFld v 3 0 with | 1 => restartCmd false 2 s | 2 => restartCmd true 2 s | _ => s)
  else if key = Reg.modRetainOut ∨ key = Reg.modRetainSize ∨ key = Reg.modRetainDram then writeRetain key v s
  else if key = Reg.modSafeOutBase ∨ key = Reg.modSafeOutSize then writeSafeOut key v s
  else if key = Reg.modXchgReport then raise Ev.xchgRemoved 0xFF 0 v.toNat s
  else if key = Reg.modXchgSummary then raise Ev.xchgDone 0xFF 0 v.toNat s
  else if key = Reg.modForceCmd then commitForceCmd v s
  else plainWrite key v s

/-! ### LANE (R76, R82, R84, R86) -/

/-- LANE_CMD: the lane 0b11 is ignored. -/
def commitLaneCmd (v : Word) (s : State) : State :=
  match Lane.ofIdx? (wordFld v 1 0) with
  | some l =>
    match wordFld v 7 4 with
    | 1 => laneExclude l v.toNat s
    | 2 => laneRejoin l v.toNat s
    | 3 => lanePowerOff l v.toNat s
    | 4 => lanePowerOn l v.toNat s
    | _ => s
  | none => s

/-- A banked register of one lane is written. -/
def commitBanked (l : Lane) (key : Nat) (v : Word) (s : State) : State :=
  let k := bankedKey l.idx key
  showIrqs l (if key = Reg.laneIrqPend then clearW1C s k v else plainWrite k v s)

/-- Registers of block LANE: a banked one takes the value in all three copies (R84). -/
def commitLane (key : Nat) (v : Word) (s : State) : State :=
  if isBanked key then allLanes.foldl (fun s l => commitBanked l key v s) s
  else if key = Reg.laneModeReq then
    (match wordFld v 1 0 with
      | 1 => modeSplit (v.extractLsb' 4 2) s
      | 2 => modeJoin s
      | _ => modeCancel s)
  else if key = Reg.laneCmd then commitLaneCmd v s
  else if key = Reg.laneSaLock then saLock v s
  else if Reg.laneSaBase 0 ≤ key ∧ key ≤ Reg.laneSaPages 15 then (if bit s Reg.laneSaLock 0 then s else plainWrite key v s)
  else plainWrite key v s

/-! ### CHRONO, RING, EVQ, TASK, TRANSIT -/

/-- Registers of block CHRONO (R51, R54, R55). -/
def commitChrono (key : Nat) (v : Word) (s : State) : State :=
  if key = Reg.chronoBankSel then (if wordFld v 0 0 = activeNo s then switchCancel s else switchRequest s)
  else if v.getLsbD 31 then loadStart (wordFld v 7 0) s
  else setFld s Reg.chronoLoad 7 0 (wordFld v 7 0)

/-- Registers of block RING (R95, R115): set-up takes writes only in STOPPED. -/
def commitRing (key : Nat) (v : Word) (s : State) : State :=
  if key = Reg.ringCmd then
    let n := wordFld v 5 0
    match wordFld v 11 8 with
    | 1 => ringStartCmd n v.toNat s
    | 2 => ringResume n v.toNat s
    | 3 => ringStop n v.toNat s
    | 4 => ringDiscard n v.toNat s
    | _ => s
  else
    let n := elemNo key (Reg.ringBase 0) 32
    if ringState s n = 0 then plainWrite key v s else ringRefuse n v.toNat s

/-- Registers of block EVQ (R112, R116): a queue's set-up takes writes only while it is not RUNNING. -/
def commitEvq (key : Nat) (v : Word) (s : State) : State :=
  if key = Reg.evqCmd then
    let m := wordFld v 1 0
    match wordFld v 7 4 with
    | 1 => evqStart m v.toNat s
    | 2 => evqResume m v.toNat s
    | _ => s
  else if key < Reg.evqBase 0 then plainWrite key v s
  else
    let m := elemNo key (Reg.evqBase 0) 32
    if evqRunning s m then evqRefuse m v.toNat s else plainWrite key v s

/-- Registers of block TASK (R142). -/
def commitTask (key : Nat) (v : Word) (s : State) : State :=
  if key = Reg.taskCmd then
    let t := wordFld v 5 0
    if 47 < t then s
    else match wordFld v 11 8 with
      | 1 => clearResp t s
      | 2 => clearCount t s
      | _ => s
  else writeDlvBase (elemNo key (Reg.taskInfo 0) 16) v s

/-- Registers of block TRANSIT (R183): ports and reference follow TRANSIT_CFG and TRANSIT_PTP_CFG. -/
def commitTransit (key : Nat) (v : Word) (s : State) : State :=
  if key = Reg.transitCmd then
    (match wordFld v 3 0 with | 1 => capture s | 2 => clearTsqCounts s | _ => s)
  else if key = Reg.transitCfg ∨ key = Reg.transitPtpCfg then followPtp (plainWrite key v s)
  else plainWrite key v s

/-! ### NET, SAFE, CAN -/

/-- A location that NET_FLOW_DATA or NET_FLOW_IMG names (R444), with the other words of its context as they stand: for NET_FLOW_DATA
the payload in OUTPUT or the receive buffer in FLOW by DIR, for NET_FLOW_IMG the record and payload in the context's image. -/
def flowWordBad (s : State) (f key : Nat) (v : Word) : Bool :=
  let cfg := flowCfg s f
  let len := wordFld v 28 18
  if key = Reg.netFlowData f then
    (if cfg.getLsbD 1 then
      !(inRegion s 4 (64 * wordFld v 17 0) (2 * (if wordFld cfg 5 4 = 3 then 2 else 1) * ((64 + len + 63) / 64 * 64)))
    else !(inRegion s 3 (64 * wordFld v 17 0) (max 1 len)))
  else if key = Reg.netFlowImg f then
    !(inImage s (wordFld cfg 27 24) (16 * wordFld v 19 0) (16 + (flowLen s f + 15) / 16 * 16))
  else false

/-- Registers of block NET (R206, R444). -/
def commitNet (key : Nat) (v : Word) (s : State) : State :=
  if key = Reg.netCmd then
    (match wordFld v 3 0 with | 1 => netClear s | 2 => arpFlush s | _ => s)
  else if key = Reg.netRxRoute then writeRxRoute (committed s key v) s
  else if Reg.netFlowCfg 0 ≤ key then
    let f := elemNo key (Reg.netFlowCfg 0) 32
    if key = Reg.netFlowCfg f then writeFlowCfg f (committed s key v) s
    else if bit s (Reg.netFlowCfg f) 0 then refuseNet 6 key s
    else if flowWordBad s f key v then refuseNet 5 key s
    else plainWrite key v s
  else if Reg.netTunCfg 0 ≤ key ∧ key < Reg.netTunCfg 8 ∧ key % 8 = 0 then
    writeTunCfg (elemNo key (Reg.netTunCfg 0) 8) (committed s key v) s
  else plainWrite key v s

/-- Registers of block SAFE (R222): the SDC is write-only. -/
def commitSafe (key : Nat) (v : Word) (s : State) : State :=
  if key = Reg.safeCmd then
    (match wordFld v 11 8 with | 1 => resetFault (wordFld v 6 0) s | 2 => safeClear s | _ => s)
  else
    let c := elemNo key (Reg.safeConnCfg 0) 32
    if key = Reg.safeConnCfg c then writeConnCfg c (committed s key v) s
    else if bit s (Reg.safeConnCfg c) 0 then refuseSafe c 6 s
    else if key = Reg.safeConnSdc c then setConn s c { conn s c with sdc := v }
    else plainWrite key v s

/-- CAN_CMD: channels 0 and 21 to 31 name none, and RECOVER of one is refused as not bus-off. -/
def commitCanCmd (v : Word) (s : State) : State :=
  let n := wordFld v 4 0
  let named := decide (1 ≤ n) && decide (n ≤ 20)
  match wordFld v 11 8 with
  | 1 => if named then cmdRecover n s else refuseCan n 10 Reg.canCmd s
  | 2 => if named then canClear n s else s
  | _ => s

/-- A committed write of a channel register other than CAN_CH_CFG (R251, R444). -/
def commitCanCh (n key : Nat) (v : Word) (s : State) : State :=
  let w := committed s key v
  let badRing := decide (key = Reg.canChRxr n) && w.getLsbD 7
    && !(decide (ringTarget s (wordFld w 5 0) = 4) && decide (ringUnit s (wordFld w 5 0) = n))
  let size := (wordFld w 23 18 + 1) * 64 * (wordFld w 24 24 + 1)
  if chEnabled s n then refuseCan n 6 key s
  else if badRing then refuseCan n 7 key s
  else if key = Reg.canChSlots n ∧ ¬inRegion s 3 (64 * wordFld w 17 0) size then refuseCan n 8 key s
  else setReg s key w

/-- A committed write of a filter register other than CAN_FLT_CFG (R251, R444): CAN_FLT_IMG names a place in the image that
CAN_FLT_CFG names. -/
def commitCanFlt (k key : Nat) (v : Word) (s : State) : State :=
  let cfg := getReg s (Reg.canFltCfg k)
  let size := if cfg.getLsbD 11 then 80 else 32
  let n := wordFld cfg 5 1
  if cfg.getLsbD 0 then refuseCan n 6 key s
  else if key = Reg.canFltImg k ∧ ¬inImage s (wordFld cfg 15 12) (16 * wordFld v 19 0) size then refuseCan n 8 key s
  else plainWrite key v s

/-- Registers of block CAN. -/
def commitCan (key : Nat) (v : Word) (s : State) : State :=
  if key = Reg.canCmd then commitCanCmd v s
  else if key < Reg.canFltCfg 0 then
    let n := elemNo key (Reg.canChCfg 1) 64 + 1
    if key = Reg.canChCfg n then writeChCfg n (committed s key v) s else commitCanCh n key v s
  else
    let k := elemNo key (Reg.canFltCfg 0) 16
    if key = Reg.canFltCfg k then writeFltCfg k (committed s key v) s else commitCanFlt k key v s

/-! ### ISTH, HOLM, MOTION -/

/-- ISTH_CMD. -/
def commitIsthCmd (v : Word) (s : State) : State :=
  match wordFld v 11 8 with
  | 1 => revive (wordFld v 3 0) s
  | 2 => isthArm (v.extractLsb' 0 8) s
  | 3 => crateReset s
  | 4 => isthClear s
  | _ => s

/-- A committed write of ISTH_XFER_FAR or ISTH_XFER_DATA (R278, R444): the words lie in OUTPUT for a write transfer, the status record
and the words in the image for a read, their number as ISTH_XFER_CTL gives it. -/
def commitXferWord (i key : Nat) (v : Word) (s : State) : State :=
  let out := bit s (Reg.isthXferCtl i) 1
  let n := 2 * xferWords s i
  let inside := if out then inRegion s 3 (64 * wordFld v 19 0) n
    else inImage s (wordFld v 23 20) (16 * wordFld v 19 0) (16 + (n + 15) / 16 * 16)
  if running s ∧ xferNamed s i then refuseIsth 5 key s
  else if key = Reg.isthXferData i ∧ ¬inside then refuseIsth 7 key s
  else plainWrite key v s

/-- Registers of block ISTH. -/
def commitIsth (key : Nat) (v : Word) (s : State) : State :=
  if key = Reg.isthCmd then commitIsthCmd v s
  else if key = Reg.isthIntCfg then writeIntCfg (committed s key v) s
  else if Reg.isthXferCtl 0 ≤ key then
    let i := elemNo key (Reg.isthXferCtl 0) 16
    if key = Reg.isthXferCtl i then writeXferCtl i (committed s key v) s else commitXferWord i key v s
  else if Reg.isthWinCfg 0 ≤ key then
    let w := elemNo key (Reg.isthWinCfg 0) 16
    if key = Reg.isthWinCfg w then writeWinCfg w (committed s key v) s
    else if bit s (Reg.isthWinCfg w) 0 then refuseIsth 5 key s
    else plainWrite key v s
  else plainWrite key v s

/-- Registers of block HOLM. -/
def commitHolm (key : Nat) (v : Word) (s : State) : State :=
  let w := committed s key v
  if key = Reg.holmCmd then
    (match wordFld v 11 8 with | 1 => holmRearm (wordFld v 4 0) s | 2 => holmClearFault (wordFld v 4 0) s | _ => s)
  else if key = Reg.holmDriveSrc then writeDriveSrc w s
  else if Reg.holmImgMap 0 ≤ key ∧ key ≤ Reg.holmImgMap 15 then
    writeHolmMap (elemNo key (Reg.holmImgMap 0) 4) w s
  else if Reg.holmConnCfg 1 ≤ key ∧ key ≤ Reg.holmConnCfg 4 then writeConnCfgHolm (elemNo key (Reg.holmConnCfg 1) 4 + 1) w s
  else if Reg.holmDoCfg 1 ≤ key then writeDoCfg (elemNo key (Reg.holmDoCfg 1) 8 + 1) w s
  else plainWrite key v s

/-- A location that a MOTION register names lies outside (R444): reason 5 for a record, 7 for the selection; 0 when none does. -/
def motionWordReason (s : State) (key : Nat) (v : Word) : Nat :=
  if key = Reg.motionSelSrc then (if inRegion s 3 (64 * wordFld v 17 0) 4 then 0 else 7)
  else if Reg.motionImgMap 0 ≤ key ∧ key ≤ Reg.motionImgMap 15 then
    (if inImage s (elemNo key (Reg.motionImgMap 0) 4) (16 * wordFld v 19 0) 32 then 0 else 5)
  else if Reg.motionSpdMap 0 ≤ key ∧ key ≤ Reg.motionSpdMap 15 then
    (if inImage s (elemNo key (Reg.motionSpdMap 0) 4) (16 * wordFld v 19 0) 64 then 0 else 5)
  else 0

/-- Registers of block MOTION (R315, R444). -/
def commitMotion (key : Nat) (v : Word) (s : State) : State :=
  let w := committed s key v
  let why := motionWordReason s key w
  if key = Reg.motionCfg then writeMotionCfg w s
  else if ¬bit s Reg.motionCfg 0 ∧ why ≠ 0 then refuseMotion why key s
  else writeMotion key w s

/-! ### PAIR to IMG -/

/-- Registers of block PAIR (R342). -/
def commitPair (key : Nat) (v : Word) (s : State) : State :=
  if key = Reg.pairCmd then
    (match wordFld v 3 0 with | 1 => pairHandover v.toNat s | 2 => setReg s Reg.pairCounts 0 | _ => s)
  else plainWrite key v s

/-- Registers of block FAULT (R349, R360). -/
def commitFault (key : Nat) (v : Word) (s : State) : State :=
  if key = Reg.faultCmd then
    (match wordFld v 3 0 with | 1 => clearLevel s | 2 => clearCounts s | _ => s)
  else if key = Reg.faultSevFloor then writeSevFloor v s
  else if Reg.faultTable 0 ≤ key then writeFaultTable (elemNo key (Reg.faultTable 0) 4) v s
  else plainWrite key v s

/-- REC_CMD (R425, R428). -/
def commitRec (v : Word) (s : State) : State := if wordFld v 3 0 = 1 then recCmdClear v.toNat s else s

/-- SVC_CMD CLOSE (R438). -/
def svcCmdClose (s : State) : State := if svcIsOpen s then svcShut 1 s else s

/-- Registers of block SVC (R442): SVC_IP is taken up at the next link-up. -/
def commitSvc (key : Nat) (v : Word) (s : State) : State :=
  if key = Reg.svcCmd then (if wordFld v 3 0 = 1 then svcCmdClose s else s) else plainWrite key v s

/-- Registers of block IMG (R383, R388). -/
def commitImg (key : Nat) (v : Word) (s : State) : State :=
  if key = Reg.imgCmd then imgCommand (wordFld v 3 0) (imgArgs s) false s else plainWrite key v s

/-! ### All blocks -/

/-- Sticky flags cleared by writing 1 (R7).  Clearing ISTH_ERROR.POSTED releases the latch of R269; CHRONO_FAULT_ENTRY is VALID while
a bit of CHRONO_FAULT_STATUS is set (R55). -/
def clearFlags (key : Nat) (v : Word) (s : State) : State :=
  if isBanked key then
    (if voteMode s = .split then commitBanked (designated s) key v s
     else allLanes.foldl (fun s l => commitBanked l key v s) s)
  else
    let s := clearW1C s key v
    if key = Reg.isthError ∧ v.getLsbD 1 then setReg (setReg s Reg.isthPostErrAddr 0) Reg.isthPostErrTag 0
    else if getReg s Reg.chronoFaultStatus = 0 then setBit s Reg.chronoFaultEntry 31 false
    else s

/-- A committed write of a register by its key: nothing where no register stands (R28) or it is read-only (R7). -/
def commitWrite (key : Nat) (v : Word) (s : State) : State :=
  match regRow? key with
  | none => s
  | some r =>
    match r.access with
    | .ro => s
    | .w1c => clearFlags key v s
    | .rw | .wo =>
      match key / 0x10000 with
      | 0 => commitMod key v s
      | 1 => commitLane key v s
      | 2 => commitChrono key v s
      | 3 => commitRing key v s
      | 4 => commitEvq key v s
      | 5 => commitTask key v s
      | 6 => commitTransit key v s
      | 7 => commitNet key v s
      | 8 => commitSafe key v s
      | 9 => commitCan key v s
      | 10 => commitIsth key v s
      | 11 => commitHolm key v s
      | 12 => commitMotion key v s
      | 13 => commitPair key v s
      | 14 => commitFault key v s
      | 16 => commitRec v s
      | 17 => commitSvc key v s
      | 18 => commitImg key v s
      | _ => plainWrite key v s

/-- Values that X_SVC has written in the running microtick (R437). -/
def svcWritten (s : State) : List (Nat × Word) := if s.svc.writtenMt = s.time.mt then s.svc.written else []

/-- A voted commit (R15, R17, R437): a service write of the same microtick to the same register follows it; one to a command
register stands as it was executed. -/
def commitVoted (key : Nat) (v : Word) (s : State) : State :=
  let s := commitWrite key v s
  match regRow? key, (svcWritten s).find? (fun x => decide (x.1 = key)) with
  | some r, some x => if r.access = .rw then commitWrite key x.2 s else s
  | _, _ => s

/-- A write of a register by a lane's core: it clears flags where the register is W1C. -/
def w1cWrite (key : Nat) (v : Word) (s : State) : State :=
  match regRow? key with
  | some r => if key < 0x130000 ∧ r.access = .w1c then clearFlags key v s else s
  | none => s

/-- W1C_CLEAR (R7): a W1C write of a lane address. -/
def w1cClear (addr : BitVec 40) (v : Word) (s : State) : State :=
  if 0x300000000 ≤ addr.toNat then w1cWrite (addr.toNat - 0x300000000) v s else s

/-- W1C_CLEAR. -/
def execW1cClear (addr : BitVec 40) (value : Word) (s : State) : Host.Outcome State Fault Refusal :=
  .next (w1cClear addr value s)

end Sys2Proof.Machine
end

