-- ==== Sys2Proof/Machine/Cores.lean ====
section
/-!
DEFINITION. What a core of a lane does and sees: the answers to its register and CSR reads (R21, R22, R58), the retirement of its
instructions with what the signature unit folds (R57, R60, R77, R94), and its presentations (R62, R63, R68).
-/

namespace Sys2Proof.Machine

/-! ### The frozen and the live view (R21, R22, R58, R127, R169) -/

/-- A lane's register reads are answered from snapshot slots: VOTING and REJOINING lanes (R21, R58); all others read live values
(R22, R374). -/
def frozenView (s : State) (l : Lane) : Bool := decide (laneState s l = .voting) || decide (laneState s l = .rejoining)

/-- What a core reads from the register at a key: 0 where none stands or it is write-only (R7, R28); in the frozen view the value
in the slot that the core's MSNAPSEL selects (R21, R41), else the live value; of a banked register the lane's own copy (R84). -/
def readReg (s : State) (l : Lane) (core : Fin 4) (key : Nat) : Word :=
  match regRow? key with
  | none => 0
  | some r =>
    let k := if isBanked key then bankedKey l.idx key else key
    if r.access = .wo then 0
    else if frozenView s l then snapReg s (snapSlot s l core.val) k
    else if key = Reg.laneIrqPend then setWordFld (getReg s k) 3 0 (timerBits s l)
    else getReg s k

/-- The bytes that a core reads from the register blocks, little-endian (R6). -/
def readRegBytes (s : State) (l : Lane) (core : Fin 4) (a n : Nat) : List Byte :=
  (List.range n).map (fun i =>
    let x := a + i - 0x300000000
    (readReg s l core (x / 4 * 4)).extractLsb' (8 * (x % 4)) 8)

/-- The bytes that a core's load of `n` bytes returns: its own DRAM, Sound memory, registers, the value that its latest window
read brought (R262, R270).  None where the spec gives the module no content to answer with: boot ROM and MRAM window. -/
def readMem (s : State) (l : Lane) (core : Fin 4) (a n : Nat) : Option (List Byte) :=
  if a < 0x200000000 then some (readBytes (s.dram.get l) a n)
  else if a < 0x201000000 then some (readBytes s.sound (a - 0x200000000) n)
  else if 0x300000000 ≤ a ∧ a < 0x300130000 then some (readRegBytes s l core a n)
  else if 0x400000000 ≤ a ∧ a < 0x410000000 then some (leBytes n (tget 0 (s.lanes.get l).loaded core.val).toNat)
  else none

/-- A loaded value as the register takes it: sign- or zero-extended, a single-precision value NaN-boxed (R60). -/
def extendLoad (fp signed : Bool) (size : BitVec 2) (v : Nat) : Dword :=
  let w := 8 * 2 ^ size.toNat
  if fp then BitVec.ofNat 64 (v + (2 ^ 64 - 2 ^ w))
  else if signed then BitVec.ofInt 64 (signedOf w v)
  else BitVec.ofNat 64 v

/-- A CSR that counts cycles, instructions or hardware events: cycle, instret, hpmcounter3 to 31 and their machine-mode
counterparts. -/
def isCounterCsr (n : Nat) : Bool :=
  [0xC00, 0xB00].any (fun b => decide (n = b) || (decide (b + 2 ≤ n) && decide (n ≤ b + 31)))

/-- What a CSR read returns (R58): the SPLIT column of its table for a SPLIT_RUN lane, the other column for every other lane (the
set-up phase is named by neither; DESIGN CHOICE, assumption log 82).  The counters of a SPLIT_RUN lane count as the privileged
architecture defines, so the command carries their value. -/
def readCsr (s : State) (l : Lane) (core : Fin 4) (n : Nat) : Option Dword :=
  let split := decide (laneState s l = .splitRun)
  if n = 0xF14 then some (BitVec.ofNat 64 (if split then 4 * l.idx + core.val else core.val))
  else if n = 0xFC0 then some (BitVec.ofNat 64 (if split then l.idx else 3))
  else if n = 0xC01 then some (if split then corrected s else (job s (snapSlot s l core.val)).relTime)
  else if n = 0x7C0 then some (tget 0 (s.lanes.get l).msnapsel core.val)
  else if n = 0x800 then some 0
  else if isCounterCsr n then (if split then none else some 0)
  else none

/-- What a read of an instruction brings into a register of the integer or the floating-point file, where the module answers it. -/
def readValue (s : State) (l : Lane) (core : Fin 4) (fp : Bool) : CoreLoad → Option Dword
  | .csr n => readCsr s l core n.toNat
  | .mem a size signed =>
    (readMem s l core a.toNat (2 ^ size.toNat)).map (fun bs => extendLoad fp signed size (leVal bs))

/-! ### Dispatch (R120, R121) -/

/-- A core waits in WFI: no job is open on it (R120). -/
def inWfi (s : State) (l : Lane) (core : Fin 4) : Bool := coresRun s l && (coreJob s l core.val).isNone

/-- The jobs that wait on a core for one of a higher priority, and resume when it ends (R120, R121). -/
def preempted (s : State) (l : Lane) (core : Fin 4) : List Nat :=
  (List.range 48).filter (fun t => runsOn s t core.val && openIn s t l && decide (coreJob s l core.val ≠ some t))

/-! ### Retirement (R57, R60, R77, R94) -/

/-- How the lane address map takes an access of a retiring instruction (R13, R25 to R27); an aligned 32-bit store of a register
block and an access of the MRAM window have commands of their own (SETUP_WRITE, MRAM_WINDOW_ACCESS) and pass here. -/
def accessFaults (s : State) (l : Lane) (a : Nat) (size : BitVec 2) (store : Bool) : Option Bool :=
  if 0x300000000 ≤ a ∧ a < 0x300130000 then (if store ∧ (size ≠ 2 ∨ a % 4 ≠ 0) then some false else none)
  else mapFault s l a store

/-- The exception that one access of an instruction takes: an access fault of the map (R26, R27) with its ACCESS_FAULT, or an
address-misaligned exception (R57), code 4 of a load and 6 of a store.  A window access takes its exception from its own command
(WINDOW_ACCESS, R257, R262). -/
def accessTrap (s : State) (l : Lane) (a : BitVec 40) (size : BitVec 2) (store : Bool) :
    Option (BitVec 5 × Dword × Option (BitVec 40 × Bool)) :=
  if 0x400000000 ≤ a.toNat ∧ a.toNat < 0x410000000 then none
  else match accessFaults s l a.toNat size store with
  | some excludes => some (if store then 7 else 5, a.zeroExtend 64, some (a, excludes))
  | none => if misaligned a size then some (if store then 6 else 4, a.zeroExtend 64, none) else none

/-- The exception that an instruction's store or load takes, the store's first. -/
def memTrap (s : State) (l : Lane) (w : Retire) : Option (BitVec 5 × Dword × Option (BitVec 40 × Bool)) :=
  match w.store.bind (fun st => accessTrap s l st.addr st.size true) with
  | some t => some t
  | none => match w.load with
    | some (.mem a size _) => accessTrap s l a size false
    | _ => none

/-- The poisoned word that an instruction consumes (R57): the one that the command names, or one that its load from the lane's own
DRAM meets. -/
def poisonMet (s : State) (l : Lane) (w : Retire) : Option (BitVec 40) :=
  match w.poisoned, w.load with
  | some a, _ => some a
  | none, some (.mem a size _) =>
    if a.toNat < 0x200000000 ∧ isPoisoned (s.dram.get l) a.toNat (2 ^ size.toNat) then some a else none
  | none, _ => none

/-- An instruction that takes an exception: it writes no register and stores nothing. -/
def trapped (w : Retire) (code : BitVec 5) (mtval : Dword) : Retire :=
  { w with store := none, reg := none, msnapsel := none, trap := some (code, mtval) }

/-- What a core's instruction comes to: one with an exception writes nothing; a misaligned or faulting access and a poisoned word
are exceptions (R57); the register takes what the module answers to its read. -/
def instrOutcome (s : State) (l : Lane) (core : Fin 4) (w : Retire) : Retire :=
  match w.trap with
  | some (code, mtval) => trapped w code mtval
  | none =>
    match memTrap s l w with
    | some (code, mtval, _) => trapped w code mtval
    | none =>
      match poisonMet s l w with
      | some a => trapped w 5 (a.zeroExtend 64)
      | none =>
        match w.reg, w.load with
        | some r, some ld => { w with reg := some { r with value := (readValue s l core r.fp ld).getD r.value } }
        | _, _ => w

/-- What the module raises for an instruction's exception: ACCESS_FAULT (R26, R27), POISON_CONSUMED (R57). -/
def raiseTrap (l : Lane) (w : Retire) (before : State) (s : State) : State :=
  match w.trap with
  | some _ => s
  | none =>
    match memTrap before l w with
    | some (_, _, some (a, excludes)) =>
      raise (if excludes then { Ev.accessFault with reaction := .excludeLane } else Ev.accessFault) l.idx a.toNat 0 s
    | some (_, _, none) => s
    | none =>
      match poisonMet before l w with
      | some a => poisonConsumed l a s
      | none => s

/-- A store of a lane reaches its own DRAM (R77), or Sound memory where the address map lets it (R25, R27), before any later
presentation of its core enters the store (R94). -/
def laneStore (l : Lane) (w : StoreWord) (s : State) : State :=
  let a := w.addr.toNat
  let bs := leBytes (2 ^ w.size.toNat) w.data.toNat
  if a < 2 ^ 33 then
    let s := { s with dram := s.dram.set l (writeBytes (s.dram.get l) a bs) }
    if (sourceLanes s).contains l then markDirty (a / 4096) s else s
  else if a < 0x201000000 then { s with sound := writeBytes s.sound (a - 0x200000000) bs }
  else s

/-- A core retires an instruction or takes an exception (R60): the words are folded in order, then its registers and its
store take effect, and the module raises what the exception calls for.  A poisoned word met in a lane whose cores do not run is
reported all the same (R73). -/
def retire (l : Lane) (core : Fin 4) (w : Retire) (s : State) : State :=
  if coreActs s l core then
    let x := instrOutcome s l core w
    let t := takeSignal l core s
    let t := coreWrites l core.val x ((foldWords x).foldl (fun t y => foldCore t l core.val y) t)
    let t := match x.store with
      | some st => laneStore l st t
      | none => t
    raiseTrap l w s t
  else match w.poisoned with
    | some a => if coresRun s l then s else poisonConsumed l a s
    | none => s

/-- INSTRUCTION_RETIRE (R60, R57, R77). -/
def execInstructionRetire (l : Lane) (core : Fin 4) (w : Retire) (s : State) : Host.Outcome State Fault Refusal :=
  .next (retire l core w s)

/-! ### Presentations -/

/-- A core writes SIGPRES (R62): the accumulator of its slot is presented and zeroed, the register write of the CSR
instruction is folded after it, and the presentation enters the store or waits while 64 are unresolved (R63). -/
def present (l : Lane) (core : Fin 4) (v : Dword) (rd : Fin 32) (machine : Bool) (s : State) : State :=
  if coreActs s l core then
    let t := snapSlot s l core.val
    let p : Present :=
      { core := core, task := t, job := (job s t).count, chk := v.toNat % 256, final := v.getLsbD 8,
        sig := accOf s l t, at_ := s.time.mt }
    let s := takeSignal l core (setAcc s l t 0)
    let s := if machine ∨ rd = 0 then s else foldCore s l core.val (regWord ⟨false, rd, 0⟩)
    let s := coreWrites l core.val
      { machine := machine, store := none, reg := some ⟨false, rd, 0⟩, trap := none, msnapsel := none, poisoned := none,
        l1Parity := false, load := none } s
    if (s.meridian.present.get l).length < 64 then enterPresentation l p s
    else
      { s with meridian := { s.meridian with
          sigStalled := s.meridian.sigStalled.set l (s.meridian.sigStalled.get l ++ [p]) } }
  else s

/-- SIGPRES (R62). -/
def execSigpres (l : Lane) (core : Fin 4) (v : Dword) (rd : Fin 32) (machine : Bool) (s : State) :
    Host.Outcome State Fault Refusal := .next (present l core v rd machine s)

/-- A core stalled on a full presentation store proceeds once there is room (R63). -/
def presentStallEnd (l : Lane) (core : Fin 4) (s : State) : State :=
  let waiting := s.meridian.sigStalled.get l
  match waiting.find? (fun p => p.core = core) with
  | some p =>
    if (s.meridian.present.get l).length < 64 then
      enterPresentation l p
        { s with meridian := { s.meridian with sigStalled := s.meridian.sigStalled.set l (waiting.erase p) } }
    else s
  | none => s

/-- SIGPRES_STALL_END (R63). -/
def execSigpresStallEnd (l : Lane) (core : Fin 4) (s : State) : Host.Outcome State Fault Refusal :=
  .next (presentStallEnd l core s)


end Sys2Proof.Machine
end

