-- ==== Sys2Proof/Machine/Meridian.lean ====
section
/-!
DEFINITION. Set-up writes of the lanes (R13 to R19): paired by issue order and voted in TRIPLE, DUAL and the set-up phase, taken
at once from the designated lane in SPLIT and MAINTENANCE.
-/

namespace Sys2Proof.Machine

/-- The lanes whose set-up writes are voted: the ready lanes in the set-up phase (R374), else the VOTING lanes. -/
def setupVoters (s : State) : List Lane :=
  if setupPhase s then readyLanes s else if isVoting s then votingLanes s else []

/-- The lane whose writes take effect unvoted (R18, R381). -/
def loneWriter (s : State) : Option Lane :=
  if voteMode s = .split then some (designated s)
  else if modState s = .maintenance then (readyLanes s).head?
  else none

/-- A rejoined lane whose set-up writes are compared and not voted (R80). -/
def observesSetup (s : State) (l : Lane) : Bool := decide (laneState s l = .rejoining) && s.rejoin.finalOk

/-- Two writes match (R15). -/
def sameWrite (a b : SetupReq) : Bool := decide (a.addr = b.addr) && decide (a.value = b.value)

/-- The state with a lane's queue of set-up writes replaced. -/
def setQueueOf (l : Lane) (q : List SetupReq) (s : State) : State :=
  { s with meridian := { s.meridian with queue := s.meridian.queue.set l q } }

/-- The state with the completed votes replaced whose write of a lane is still to come. -/
def setOwed (l : Lane) (o : List Owed) (s : State) : State :=
  { s with meridian := { s.meridian with owed := s.meridian.owed.set l o } }

/-- The writes of the oldest vote, by lane. -/
def oldest (s : State) (ls : List Lane) : List (Lane × SetupReq) :=
  ls.filterMap (fun l => (s.meridian.queue.get l).head?.map (fun r => (l, r)))

/-- The write of a vote's majority: one that at least two lanes have made, or with which the register has been written already
(R15, R16; where the lane that made the other of two matching writes was excluded since, the decision stands: assumption log 24). -/
def matching (rs : List (Lane × SetupReq)) : Option SetupReq :=
  (rs.find? (fun x => x.2.written || decide (2 ≤ (rs.filter (fun y => sameWrite x.2 y.2)).length))).map (·.2)

/-- The writes of the oldest vote leave the queues (R15); the lanes whose write is still to come owe it. -/
def popOldest (best : Option SetupReq) (openMt : Nat) (s : State) : State :=
  let ls := allLanes.filter (fun l => (setupVoters s).contains l || observesSetup s l)
  ls.foldl (fun s l =>
    match s.meridian.queue.get l with
    | r :: rest =>
      let s := setQueueOf l rest s
      match best with
      | some b => if observesSetup s l ∧ ¬sameWrite r b then rejoinFailed (raiseF 4 0) l 3 s else s
      | none => s
    | [] => setOwed l (s.meridian.owed.get l ++ [⟨openMt, best.map (fun b => (b.addr, b.value))⟩]) s) s

/-- SETUP_NO_MAJORITY (R15, R17, R19): the address where the writes agree in it, else free. -/
def setupNoMajority (rs : List (Lane × SetupReq)) (s : State) : State :=
  match rs with
  | [] => s
  | (_, r) :: more =>
    let (a, s) : Nat × State := if more.all (fun x => decide (x.2.addr = r.addr)) then (r.addr.toNat, s) else
      let (v, s) := takeFree s
      (v.toNat % 2 ^ 40, s)
    raise Ev.setupNoMajority 0xFF a 0 s

/-- Microtick at which the first write of the oldest vote arrived. -/
def oldestOpen (s : State) (rs : List (Lane × SetupReq)) : Nat := (rs.map (fun x => x.2.at_)).foldl min s.time.mt

/-- The oldest vote completes with the writes that have arrived (R15, R17): its report, with the lanes that are late. -/
def completeSetup (rs : List (Lane × SetupReq)) (late : List Lane) (s : State) : State :=
  let openMt := oldestOpen s rs
  let best := matching rs
  let s := popOldest best openMt s
  match best with
  | none => setupNoMajority rs s
  | some b =>
    let out := (rs.filter (fun x => !(sameWrite x.2 b))).map (·.1)
    let s := raiseLanes 0 Ev.setupMinority (out.map (fun l => (l, b.addr.toNat, b.value.toNat))) s
    raiseLanes 0 Ev.laneLate (late.map (fun l => (l, b.addr.toNat, 2))) s

/-- Votes complete in order while every voter's write has arrived. -/
def settleVotes : Nat → State → State
  | 0, s => s
  | n + 1, s =>
    let vs := setupVoters s
    let rs := oldest s vs
    if 2 ≤ vs.length ∧ rs.length = vs.length then settleVotes n (completeSetup rs [] s) else s

/-- A queue whose write at a place is one of the matching writes of a decided vote: it is marked as written. -/
def markWritten (place : Nat) (r : SetupReq) (q : List SetupReq) : List SetupReq :=
  q.zipIdx.map (fun (x, i) => if i = place ∧ sameWrite x r then { x with written := true } else x)

/-- The register is written when the second matching write of a vote arrives (R15, R17), once in a vote. -/
def commitSecond (l : Lane) (place : Nat) (r : SetupReq) (s : State) : State :=
  let others := (setupVoters s).filter (fun m => decide (m ≠ l))
  let same := others.filterMap (fun m =>
    match (s.meridian.queue.get m)[place]? with
    | some x => if sameWrite x r then some x else none
    | none => none)
  if same.isEmpty then s
  else
    let s := allLanes.foldl (fun s m => setQueueOf m (markWritten place r (s.meridian.queue.get m)) s) s
    if same.any (·.written) then s else commitVoted (r.addr.toNat - 0x300000000) r.value s

/-- Before a write is paired, the votes complete whose coupling window has passed, in order (R15, R17): the write comes too late for
them. -/
def closePassed : Nat → State → State
  | 0, s => s
  | n + 1, s =>
    let vs := setupVoters s
    let rs := oldest s vs
    if ¬rs.isEmpty ∧ oldestOpen s rs + couplingWindow s < s.time.mt then
      closePassed n (completeSetup rs (vs.filter (fun l => !(rs.any (fun x => decide (x.1 = l))))) s)
    else s

/-- A write enters its lane's queue: one owed to a completed vote is only compared, where the lane is observed (R16, R80). -/
def enterSetup (l : Lane) (r : SetupReq) (s : State) : State :=
  let s := closePassed 9 s
  if ¬((setupVoters s).contains l ∨ observesSetup s l) then s
  else match s.meridian.owed.get l with
  | o :: rest =>
    let s := setOwed l rest s
    match o.value with
    | some v => if observesSetup s l ∧ v ≠ (r.addr, r.value) then rejoinFailed (raiseF 4 0) l 3 s else s
    | none => s
  | [] =>
    let q := s.meridian.queue.get l
    let s := setQueueOf l (q ++ [r]) s
    let s := if (setupVoters s).contains l then commitSecond l q.length r s else s
    settleVotes 9 s

/-- A set-up write reaches the Meridian; with eight of its lane waiting the core stalls (R16). -/
def queueSetup (l : Lane) (r : SetupReq) (s : State) : State :=
  if 8 ≤ (s.meridian.queue.get l).length ∨ ¬(s.meridian.stalled.get l).isEmpty then
    { s with meridian := { s.meridian with stalled := s.meridian.stalled.set l (s.meridian.stalled.get l ++ [r]) } }
  else enterSetup l r s

/-- A set-up write that is not voted (R18, R84, R381). -/
def loneWrite (l writer : Lane) (key addr : Nat) (v : Word) (s : State) : State :=
  if isBanked key then (if (regRow? key).isSome then commitBanked l key v s else s)
  else if l = writer then commitWrite key v s
  else raise Ev.setupIgnored l.idx addr 0 s

/-- SETUP_WRITE (R13 to R18): a store that is not an aligned one to a register block is an access of the address map instead. -/
def setupWrite (l : Lane) (core : Fin 4) (addr : BitVec 40) (v : Word) (s : State) : State :=
  let a := addr.toNat
  if ¬coreActs s l core then s
  else if a < 0x300000000 ∨ 0x300130000 ≤ a ∨ a % 4 ≠ 0 then mapAccess l core addr true s
  else match loneWriter s with
    | some w => loneWrite l w (a - 0x300000000) a v s
    | none =>
      if (setupVoters s).contains l ∨ observesSetup s l then queueSetup l ⟨core, addr, v, s.time.mt, false⟩ s else s

/-- SETUP_WRITE. -/
def execSetupWrite (l : Lane) (core : Fin 4) (addr : BitVec 40) (value : Word) (s : State) : Host.Outcome State Fault Refusal :=
  .next (setupWrite l core addr value s)

/-- An observed lane whose write has not come when its vote's window closes fails its rejoin (R80, R81). -/
def closeObserved (s : State) : State :=
  (allLanes.filter (observesSetup s)).foldl (fun s l =>
    match s.meridian.owed.get l with
    | o :: _ => if o.openMt + couplingWindow s ≤ s.time.mt then rejoinFailed (raiseF 4 0) l 4 s else s
    | [] => s) s

/-- SETUP_VOTE_CLOSE: the coupling window of the oldest vote closes before all its writes have arrived (R15, R17). -/
def setupVoteClose (s : State) : State :=
  let s := settleVotes 9 s
  let vs := setupVoters s
  let rs := oldest s vs
  let s := if ¬rs.isEmpty ∧ oldestOpen s rs + couplingWindow s ≤ s.time.mt then
      settleVotes 9 (completeSetup rs (vs.filter (fun l => !(rs.any (fun x => decide (x.1 = l))))) s)
    else s
  closeObserved s

/-- SETUP_VOTE_CLOSE. -/
def execSetupVoteClose (s : State) : Host.Outcome State Fault Refusal := .next (setupVoteClose s)

/-- SETUP_QUEUE_STALL_END (R16): a stalled core's write enters the queue once there is room. -/
def setupStallEnd (l : Lane) (core : Fin 4) (s : State) : State :=
  match (s.meridian.stalled.get l).find? (fun r => decide (r.core = core)) with
  | some r =>
    if (s.meridian.queue.get l).length < 8 then
      enterSetup l { r with at_ := s.time.mt }
        { s with meridian := { s.meridian with stalled := s.meridian.stalled.set l ((s.meridian.stalled.get l).erase r) } }
    else s
  | none => s

/-- SETUP_QUEUE_STALL_END. -/
def execSetupQueueStallEnd (lane : Lane) (core : Fin 4) (s : State) : Host.Outcome State Fault Refusal :=
  .next (setupStallEnd lane core s)

end Sys2Proof.Machine
end

