-- ==== Sys2Proof/Machine/Service.lean ====
section
/-!
DEFINITION. Service access over X_SVC (R430 to R438, 19_service_test.md) and the end of image-store commands (R383).
-/

namespace Sys2Proof.Machine

/-! ### Answers -/

/-- Bytes of a word as X_SVC carries it (R430: little-endian). -/
def wordBytes (v : Word) : List Byte := leBytes 4 v.toNat

/-- Bytes of a secret, the least significant one first. -/
def secretBytes {w : Nat} (v : BitVec w) : List Byte := leBytes (w / 8) v.toNat

/-- DETAIL_A of the service block's events (R443). -/
def clientDetail (req : SvcReq) : Nat := req.ip.toNat + 2 ^ 32 * req.port.toNat

/-- A request that needs open service access (R432): DENIED unless the requester holds it. -/
def svcOpened (req : SvcReq) (op : Nat) (f : State → State) (s : State) : State :=
  if svcHeld s req then f s else answer req op 5 [] s

/-- A request that needs MAINTENANCE as well (R432): STATE elsewhere. -/
def svcMaintenance (req : SvcReq) (op : Nat) (f : State → State) (s : State) : State :=
  svcOpened req op (fun s => if modState s = .maintenance then f s else answer req op 6 [] s) s

/-! ### INFO, CHALLENGE, OPEN, CLOSE (R432 to R436) -/

/-- INFO. -/
def svcInfo (req : SvcReq) (s : State) : State :=
  answer req 1 0 ([Reg.modHwIssue, Reg.modState, Reg.svcStatus].flatMap (fun k => wordBytes (getReg s k))) s

/-- SVC_INFO. -/
def execSvcInfo (req : SvcReq) (s : State) : Host.Outcome State Fault Refusal := .next (svcServe req (svcInfo req) s)

/-- Service access is LOCKED (R436). -/
def svcIsLocked (s : State) : Bool := decide (fld s Reg.svcStatus 1 0 = 2)

/-- CHALLENGE (R434): a new NONCE from the random source, here two free values, with the SALT. -/
def svcChallenge (req : SvcReq) (s : State) : State :=
  if svcIsLocked s then answer req 2 4 [] s
  else
    let (a, s) := takeFree s
    let (b, s) := takeFree s
    let nonce := a ++ b
    let s := { s with svc := { s.svc with nonce := some (nonce, rawNow s) } }
    answer req 2 0 (secretBytes nonce ++ secretBytes s.svc.salt) s

/-- SVC_CHALLENGE. -/
def execSvcChallenge (req : SvcReq) (s : State) : Host.Outcome State Fault Refusal := .next (svcServe req (svcChallenge req) s)

/-- RESPONSE as the module computes it (R434): METHOD 1 by the derived password key, METHOD 2 by the module key. -/
def expectedResponse (s : State) (nonce : BitVec 128) (method : Byte) : List Byte :=
  hmacSha256 (secretBytes (if method = 1 then s.svc.pwKey else s.svc.modKey))
    (secretBytes nonce ++ wordBytes (getReg s Reg.modHwIssue) ++ [method])

/-- The NONCE that is still valid (R434): for 30 s. -/
def validNonce (s : State) : Option (BitVec 128) :=
  match s.svc.nonce with
  | some (v, at_) => if rawNow s - at_ < msRaw 30000 then some v else none
  | none => none

/-- OPEN succeeds (R435). -/
def openSuccess (req : SvcReq) (method : Byte) (s : State) : State :=
  let s := setFld (setFld (setFld s Reg.svcStatus 1 0 1) Reg.svcStatus 3 2 method.toNat) Reg.svcStatus 6 4 0
  let s := { s with svc := { s.svc with holder := some (req.ip, req.port), lastReq := rawNow s } }
  answer req 3 0 [] (raise Ev.svcOpened 0xFF (clientDetail req) method.toNat s)

/-- OPEN fails (R435): counted, and the fifth failure locks for 600 s; access that the same client held open then ends. -/
def openFailure (req : SvcReq) (s : State) : State :=
  let n := fld s Reg.svcStatus 6 4 + 1
  let s := raise Ev.svcAuthFailed 0xFF (clientDetail req) n (setFld s Reg.svcStatus 6 4 n)
  let s := if n < 5 then s
    else
      let s := if svcIsOpen s then svcEnd s else s
      raise Ev.svcLocked 0xFF 0 600 (setFld (setFld s Reg.svcStatus 1 0 2) Reg.svcStatus 17 8 600)
  answer req 3 5 [] s

/-- OPEN (R434, R435). -/
def svcOpen (req : SvcReq) (method : Byte) (response : BitVec 256) (s : State) : State :=
  if svcIsLocked s then answer req 3 4 [] s
  else if method ≠ 1 ∧ method ≠ 2 then answer req 3 2 [] s
  else if svcIsOpen s ∧ s.svc.holder ≠ some (req.ip, req.port) then answer req 3 5 [] s
  else match validNonce s with
    | none => answer req 3 5 [] s
    | some nonce =>
      let good := decide (expectedResponse s nonce method = secretBytes response)
      let s := { s with svc := { s.svc with nonce := none } }
      if good then openSuccess req method s else openFailure req s

/-- SVC_OPEN. -/
def execSvcOpen (req : SvcReq) (method : Byte) (response : BitVec 256) (s : State) : Host.Outcome State Fault Refusal :=
  .next (svcServe req (svcOpen req method response) s)

/-- CLOSE (R438). -/
def svcClose (req : SvcReq) (s : State) : State := svcOpened req 4 (fun s => answer req 4 0 [] (svcShut 1 s)) s

/-- SVC_CLOSE. -/
def execSvcClose (req : SvcReq) (s : State) : Host.Outcome State Fault Refusal := .next (svcServe req (svcClose req) s)

/-- SVC_CMD_CLOSE: a committed SVC_CMD CLOSE (R438). -/
def execSvcCmdClose (s : State) : Host.Outcome State Fault Refusal := .next (svcCmdClose s)

/-! ### Secrets and keys -/

/-- SET_SECRET (R432): METHOD 1 sets SALT and the derived password key, METHOD 2 the module key. -/
def svcSetSecret (req : SvcReq) (method : Byte) (salt : BitVec 128) (key : BitVec 256) (s : State) : State :=
  svcMaintenance req 5 (fun s =>
    if method = 1 then answer req 5 0 [] { s with svc := { s.svc with salt := salt, pwKey := key } }
    else if method = 2 then answer req 5 0 [] { s with svc := { s.svc with modKey := key } }
    else answer req 5 2 [] s) s

/-- SVC_SET_SECRET. -/
def execSvcSetSecret (req : SvcReq) (method : Byte) (salt : BitVec 128) (key : BitVec 256) (s : State) :
    Host.Outcome State Fault Refusal := .next (svcServe req (svcSetSecret req method salt key) s)

/-- KEY_ENROL (R378, R432): an integrator key under index 1 to 4. -/
def svcKeyEnrol (req : SvcReq) (index : Byte) (key : BitVec 256) (s : State) : State :=
  svcMaintenance req 0x42 (fun s =>
    if 1 ≤ index.toNat ∧ index.toNat ≤ 4 then
      answer req 0x42 0 [] { s with store := { s.store with keys := tput s.store.keys index.toNat (secretBytes key) } }
    else answer req 0x42 2 [] s) s

/-- SVC_KEY_ENROL. -/
def execSvcKeyEnrol (req : SvcReq) (index : Byte) (key : BitVec 256) (s : State) : Host.Outcome State Fault Refusal :=
  .next (svcServe req (svcKeyEnrol req index key) s)

/-! ### Registers (R432, R437) -/

/-- First byte behind the register blocks, counted from lane address 0x3_0000_0000. -/
def regSpace : Nat := 0x130000

/-- What lanes read from a register beside the vote: 0 where none stands or it is write-only (R7, R28); of a banked register the
value that the lanes' copies share, free where they differ. -/
def liveReg (k : Nat) (s : State) : Word × State :=
  match regRow? k with
  | none => (0, s)
  | some r =>
    if r.access = .wo then (0, s)
    else if isBanked k then
      let vs := allLanes.map (fun l => getReg s (bankedKey l.idx k))
      let v := nth 0 vs 0
      if vs.all (fun x => decide (x = v)) then (v, s)
      else let (x, s) := takeFree s; (x.extractLsb' 0 32, s)
    else (getReg s k, s)

/-- Values of `n` registers from a key on. -/
def liveRegs : Nat → Nat → State → List Word × State
  | 0, _, s => ([], s)
  | n + 1, k, s =>
    let (v, s) := liveReg k s
    let (vs, s) := liveRegs n (k + 4) s
    (v :: vs, s)

/-- START and COUNT lie within the register blocks. -/
def regRange (req : SvcReq) (n : Nat) : Bool := decide (req.start.toNat % 4 = 0) && decide (req.start.toNat + 4 * n ≤ regSpace)

/-- REG_READ: START is the low half of the lane address. -/
def svcRegRead (req : SvcReq) (s : State) : State :=
  svcOpened req 0x30 (fun s =>
    let n := req.count.toNat
    if 256 < n ∨ ¬regRange req n then answer req 0x30 2 [] s
    else
      let (vs, s) := liveRegs n req.start.toNat s
      answerCount req 0x30 0 n (vs.flatMap wordBytes) s) s

/-- SVC_REG_READ. -/
def execSvcRegRead (req : SvcReq) (s : State) : Host.Outcome State Fault Refusal := .next (svcServe req (svcRegRead req) s)

/-- The writes of REG_WRITE, each at once and with SVC_WRITE, and noted for a voted commit of the microtick (R437), as
long as service access stays open. -/
def writeRegs (req : SvcReq) : List Word → Nat → State → State
  | [], _, s => s
  | v :: vs, k, s =>
    if svcIsOpen s then
      let s := { s with svc := { s.svc with written := tput (svcWritten s) k v, writtenMt := s.time.mt } }
      writeRegs req vs (k + 4) (raise Ev.svcWrite 0xFF (clientDetail req) k (commitWrite k v s))
    else s

/-- Outside MAINTENANCE only the force registers may be written (R437). -/
def forceOnly (req : SvcReq) (n : Nat) : Bool :=
  decide (Reg.modForceTarget ≤ req.start.toNat) && decide (req.start.toNat + 4 * n ≤ Reg.modForceCmd + 4)

/-- REG_WRITE (R437). -/
def svcRegWrite (req : SvcReq) (vs : List Word) (s : State) : State :=
  svcOpened req 0x31 (fun s =>
    if modState s ≠ .maintenance ∧ ¬forceOnly req vs.length then answer req 0x31 6 [] s
    else if req.count.toNat ≠ vs.length ∨ ¬regRange req vs.length then answer req 0x31 2 [] s
    else answer req 0x31 0 [] (writeRegs req vs req.start.toNat s)) s

/-- SVC_REG_WRITE. -/
def execSvcRegWrite (req : SvcReq) (vs : List Word) (s : State) : Host.Outcome State Fault Refusal :=
  if vs.length ≤ 366 then .next (svcServe req (svcRegWrite req vs) s) else .fault .illFormed

/-! ### Images -/

/-- Operands of an IMG request (R432); the DRAM address is the one that the registers hold. -/
def svcImgArgs (arg len : Word) (bootSet : List Word) (s : State) : ImgArgs :=
  { slot := wordFld arg 7 0, typ := wordFld arg 10 8, bank := wordFld arg 11 11, len := len.toNat, src := (imgArgs s).src,
    bootSet := bootSet.map (fun w => wordFld w 6 0) }

/-- IMG: BUSY, else answered when the command completes, with RANGE for a refusal; NONE and reserved codes do nothing. -/
def svcImg (req : SvcReq) (arg len : Word) (bootSet : List Word) (cmd : Word) (s : State) : State :=
  svcOpened req 0x40 (fun s =>
    let c := wordFld cmd 3 0
    if imgBusy s then answer req 0x40 1 [] s
    else if c = 0 ∨ 7 < c then answer req 0x40 0 [] s
    else
      let s := imgCommand c (svcImgArgs arg len bootSet s) true s
      { s with svc := { s.svc with imgFrom := some req } }) s

/-- SVC_IMG. -/
def execSvcImg (req : SvcReq) (arg len : Word) (bootSet : List Word) (cmd : Word) (s : State) :
    Host.Outcome State Fault Refusal :=
  if bootSet.length = 7 then .next (svcServe req (svcImg req arg len bootSet cmd) s) else .fault .illFormed

/-- IMG_DATA: appended to the slot opened over X_SVC, within what OPEN allocated. -/
def svcImgData (req : SvcReq) (data : List Byte) (s : State) : State :=
  svcOpened req 0x41 (fun s =>
    match openSlot s with
    | none => answer req 0x41 2 [] s
    | some n =>
      let x := slotOf s n
      if ¬s.store.viaSvc ∨ data.length = 0 ∨ 1024 < data.length ∨ x.alloc < x.written + data.length then answer req 0x41 2 [] s
      else if imgBusy s then answer req 0x41 1 [] s
      else answer req 0x41 0 [] (appendSlot n data s)) s

/-- SVC_IMG_DATA. -/
def execSvcImgData (req : SvcReq) (data : List Byte) (s : State) : Host.Outcome State Fault Refusal :=
  if data.length ≤ 1464 then .next (svcServe req (svcImgData req data) s) else .fault .illFormed

/-- The running command ends, once its clock domain runs (R46, R383): its effect, IMG_RESULT, IMG_CMD_DONE or IMG_REFUSED, BUSY
clears, and an IMG request is answered. -/
def imgComplete (s : State) : State :=
  match s.store.running with
  | none => s
  | some (cmd, a, svc) =>
    if !(domReady s .img) then s else
    let (slot, why, s) := imgAct cmd a svc s
    let s := domRelease (setBit { s with store := { s.store with running := none } } Reg.imgStatus 0 false) .img
    let s := if why = 0 then raise Ev.imgCmdDone slot 0 cmd (imgResult cmd 0 s) else imgRefuse cmd slot why s
    match s.svc.imgFrom with
    | some req => answer req 0x40 (if why = 0 then 0 else 2) [] { s with svc := { s.svc with imgFrom := none } }
    | none => s

/-- IMG_CMD_COMPLETE. -/
def execImgCmdComplete (s : State) : Host.Outcome State Fault Refusal := .next (imgComplete s)

/-! ### RESTART, undefined requests -/

/-- RESTART (R432): MOD_RESTART_CMD WARM with cause RESET, answered before it acts. -/
def svcRestart (req : SvcReq) (s : State) : State :=
  svcOpened req 0x50 (fun s =>
    if modState s = .safeHalt ∧ s.pair.common then answer req 0x50 6 [] s
    else restartCmd false 3 (answer req 0x50 0 [] s)) s

/-- SVC_RESTART. -/
def execSvcRestart (req : SvcReq) (s : State) : Host.Outcome State Fault Refusal := .next (svcServe req (svcRestart req) s)

/-- OPs that R432 defines. -/
def definedOps : List Nat := [1, 2, 3, 4, 5, 0x20, 0x21, 0x22, 0x23, 0x30, 0x31, 0x40, 0x41, 0x42, 0x50]

/-- A request with an undefined OP is answered UNKNOWN (R431); a defined OP is no such request. -/
def svcUnknown (req : SvcReq) (op : Byte) (s : State) : State :=
  if definedOps.contains op.toNat then s else svcServe req (answer req op.toNat 7 []) s

/-- SVC_UNKNOWN_OP. -/
def execSvcUnknownOp (req : SvcReq) (op : Byte) (s : State) : Host.Outcome State Fault Refusal := .next (svcUnknown req op s)

/-! ### Link and time (R434, R436, R438, R442) -/

/-- IDLE in raw time (R442): 0 is treated as 1 s. -/
def idleRaw (s : State) : Nat := msRaw (1000 * max 1 (fld s Reg.svcCfg 15 0))

/-- SVC_IDLE_TIMEOUT: IDLE seconds without a request of the holder. -/
def svcIdle (s : State) : State := if svcIsOpen s ∧ idleRaw s ≤ rawNow s - s.svc.lastReq then svcShut 2 s else s

/-- SVC_IDLE_TIMEOUT. -/
def execSvcIdleTimeout (s : State) : Host.Outcome State Fault Refusal := .next (svcIdle s)

/-- SVC_LINK_LOSS. -/
def execSvcLinkLoss (s : State) : Host.Outcome State Fault Refusal :=
  .next (svcShut 3 { s with svc := { s.svc with link := false } })

/-- SVC_LINK_UP: the address of SVC_IP is taken up. -/
def svcLinkUp (s : State) : State :=
  if s.skerry.powered then { s with svc := { s.svc with link := true, address := getReg s Reg.svcIp } } else s

/-- SVC_LINK_UP. -/
def execSvcLinkUp (s : State) : Host.Outcome State Fault Refusal := .next (svcLinkUp s)

/-- NONCE_EXPIRY: 30 s have passed. -/
def nonceExpiry (s : State) : State :=
  if s.svc.nonce.isSome ∧ validNonce s = none then { s with svc := { s.svc with nonce := none } } else s

/-- NONCE_EXPIRY. -/
def execNonceExpiry (s : State) : Host.Outcome State Fault Refusal := .next (nonceExpiry s)

/-- LOCKOUT_END: LOCK_REMAIN has come to 0. -/
def lockoutEnd (s : State) : State :=
  if svcIsLocked s ∧ fld s Reg.svcStatus 17 8 = 0 then setFld (setFld s Reg.svcStatus 1 0 0) Reg.svcStatus 6 4 0 else s

/-- LOCKOUT_END. -/
def execLockoutEnd (s : State) : Host.Outcome State Fault Refusal := .next (lockoutEnd s)

end Sys2Proof.Machine
end

