-- ==== Sys2Proof/Machine/Jtag.lean ====
section
/-!
DEFINITION. Boundary scan (R439 to R441): the instructions of the test access port, what it captures, and what an acting
instruction does to the pins.
-/

namespace Sys2Proof.Machine

/-- The device identification (R439): version 0, part 0xB372, manufacturer 0x60E, bit 0 set. -/
def idcode : Word := 0x0B372C1D

/-- Length of the data register that the instruction register selects (R439); EXTEST without effect acts as BYPASS (R441). -/
def dataLength (s : State) : Nat :=
  if s.tap.ir = 1 ∨ (s.tap.ir = 0 ∧ s.tap.acting.isSome) then 257 else if s.tap.ir = 2 then 32 else 1

/-- What the instruction register captures in Capture-IR (R439). -/
def captureIr : Byte := 1

/-- The input cell of DI_n captures its filtered level while its group's supply is good, else 0 (R440). -/
def captureDi (s : State) (n : Nat) : Bool := supplyOk s (groupOfDi n) && diLevel s n

/-- The data cell of DO_n captures its switch while its group's supply is good, else 0 (R440). -/
def captureDo (s : State) (n : Nat) : Bool := supplyOk s (groupOfDo n) && doOn s n

/-- A bit of the boundary register replaced. -/
def putCell (i : Nat) (b : Bool) (v : BitVec 257) : BitVec 257 := if b then v ||| BitVec.twoPow 257 i else v &&& ~~~(BitVec.twoPow 257 i)

/-- Cell of DI_n (R440): in X_IO_c the pins 1 to 12 come first. -/
def diCell (n : Nat) : Nat := 5 + 24 * ((n - 1) / 12) + (n - 1) % 12

/-- Cell of the speed channel SPD_n (R440), behind the four field connectors. -/
def spdCell (n : Nat) : Nat := 101 + (n - 1)

/-- An output's cells capture its switch, and 0 in both without the group's supply (R440). -/
def captureOut (s : State) (n : Nat) (v : BitVec 257) : BitVec 257 :=
  let v := if supplyOk s (groupOfDo n) then v else putCell (doCell n) false v
  putCell (doCell n + 1) (captureDo s n) v

/-- What the boundary register captures (R440): inputs, outputs and speed channels of Holm as they are; the levels of the other pins,
which no command of the model gives, and what a control cell of a supplied output captures, are free (assumption log 104). -/
def captureCells (s : State) : BitVec 257 × State :=
  let (bs, s) := freeBytes 33 s
  let v := (List.range 48).foldl (fun v i => putCell (diCell (i + 1)) (captureDi s (i + 1)) v) (BitVec.ofNat 257 (leVal bs))
  let v := allOuts.foldl (fun v n => captureOut s n v) v
  let v := allSensors.foldl (fun v i => putCell (spdCell (2 * i - 1)) (sensor s i).a (putCell (spdCell (2 * i)) (sensor s i).b v)) v
  (v, s)

/-- The TAP takes an instruction: what the instruction register captured is shifted out, and one in effect stops. -/
def tapUpdate (code : Byte) (s : State) : State :=
  let s := emitOut s (.shift 8 (captureIr.setWidth 257))
  let s := if s.tap.acting.isSome then scanRelease s else s
  { s with tap := { s.tap with ir := code } }

/-- EXTEST, CLAMP and HIGHZ take effect only in MAINTENANCE with service access open; elsewhere they act as BYPASS and raise
SCAN_REFUSED (R441). -/
def tapDrive (code : Byte) (s : State) : State :=
  if ¬s.skerry.powered then s
  else
    let s := tapUpdate code s
    if modState s = .maintenance ∧ svcIsOpen s then
      let s := setBit s Reg.svcStatus 18 true
      showScan (settleOuts allOuts (fun s => { s with tap := { s.tap with acting := some code } }) s)
    else raise Ev.scanRefused 0xFF 0 code.toNat s

/-- JTAG_EXTEST. -/
def execJtagExtest (s : State) : Host.Outcome State Fault Refusal := .next (tapDrive 0 s)
/-- JTAG_CLAMP. -/
def execJtagClamp (s : State) : Host.Outcome State Fault Refusal := .next (tapDrive 3 s)
/-- JTAG_HIGHZ. -/
def execJtagHighz (s : State) : Host.Outcome State Fault Refusal := .next (tapDrive 4 s)

/-- SAMPLE/PRELOAD: the captured cells are shifted out, and the update latch takes the cells shifted in. -/
def samplePreload (cells : BitVec 257) (s : State) : State :=
  if s.skerry.powered then
    let (v, s) := captureCells (tapUpdate 1 s)
    emitOut { s with tap := { s.tap with cells := cells } } (.shift 257 v)
  else s

/-- JTAG_SAMPLE_PRELOAD. -/
def execJtagSamplePreload (cells : BitVec 257) (s : State) : Host.Outcome State Fault Refusal := .next (samplePreload cells s)

/-- IDCODE (R439): the device identification is shifted out. -/
def jtagIdcode (s : State) : State := if s.skerry.powered then emitOut (tapUpdate 2 s) (.shift 32 (idcode.setWidth 257)) else s

/-- JTAG_IDCODE. -/
def execJtagIdcode (s : State) : Host.Outcome State Fault Refusal := .next (jtagIdcode s)

/-- BYPASS, or a code that the table does not hold; the codes of other instructions are no such update. -/
def jtagBypass (code : Byte) (s : State) : State := if s.skerry.powered ∧ 4 < code.toNat then tapUpdate code s else s

/-- JTAG_BYPASS. -/
def execJtagBypass (code : Byte) (s : State) : Host.Outcome State Fault Refusal := .next (jtagBypass code s)

/-- TAP_RESET. -/
def execTapReset (s : State) : Host.Outcome State Fault Refusal := .next (tapReset s)

end Sys2Proof.Machine
end

