-- ==== Sys2Proof/Machine/Dispatch.lean ====
section
/-!
DEFINITION. The dispatch: one arm per command, each a direct call of its meaning.
-/

namespace Sys2Proof.Machine

/-- The effect of a command on everything but the queue. -/
def exec (i : Instr) (s : State) : Host.Outcome State Fault Refusal :=
  match i with
  | .setupWrite lane core addr value => Sys2Proof.Machine.execSetupWrite lane core addr value s
  | .setupVoteClose => Sys2Proof.Machine.execSetupVoteClose s
  | .setupQueueStallEnd lane core => Sys2Proof.Machine.execSetupQueueStallEnd lane core s
  | .w1cClear addr value => Sys2Proof.Machine.execW1cClear addr value s
  | .accessFault lane core addr store => Sys2Proof.Machine.execAccessFault lane core addr store s
  | .mramWindowAccess lane core addr store => Sys2Proof.Machine.execMramWindowAccess lane core addr store s
  | .instructionRetire lane core what => Sys2Proof.Machine.execInstructionRetire lane core what s
  | .sigpres lane core value rd machine => Sys2Proof.Machine.execSigpres lane core value rd machine s
  | .sigpresStallEnd lane core => Sys2Proof.Machine.execSigpresStallEnd lane core s
  | .laneClockFault lane deviation => Sys2Proof.Machine.execLaneClockFault lane deviation s
  | .lanePowerFault lane millivolts => Sys2Proof.Machine.execLanePowerFault lane millivolts s
  | .laneTimerInterrupt lane core => Sys2Proof.Machine.execLaneTimerInterrupt lane core s
  | .autoRejoin lane => Sys2Proof.Machine.execAutoRejoin lane s
  | .laneCmdExclude lane => Sys2Proof.Machine.execLaneCmdExclude lane s
  | .laneCmdRejoin lane => Sys2Proof.Machine.execLaneCmdRejoin lane s
  | .laneCmdPowerOff lane => Sys2Proof.Machine.execLaneCmdPowerOff lane s
  | .laneCmdPowerOn lane => Sys2Proof.Machine.execLaneCmdPowerOn lane s
  | .laneModeSplit designated => Sys2Proof.Machine.execLaneModeSplit designated s
  | .laneModeJoin => Sys2Proof.Machine.execLaneModeJoin s
  | .laneModeCancel => Sys2Proof.Machine.execLaneModeCancel s
  | .laneSaLockWrite lock => Sys2Proof.Machine.execLaneSaLockWrite lock s
  | .selftestStepDone lane pass => Sys2Proof.Machine.execSelftestStepDone lane pass s
  | .rejoinPageCopy page => Sys2Proof.Machine.execRejoinPageCopy page s
  | .rejoinBulkDone => Sys2Proof.Machine.execRejoinBulkDone s
  | .rejoinPassDone => Sys2Proof.Machine.execRejoinPassDone s
  | .rejoinFinalStart => Sys2Proof.Machine.execRejoinFinalStart s
  | .rejoinFinalDone => Sys2Proof.Machine.execRejoinFinalDone s
  | .rejoinTimeout lane => Sys2Proof.Machine.execRejoinTimeout lane s
  | .chronographStart => Sys2Proof.Machine.execChronographStart s
  | .baseCycleEnd => Sys2Proof.Machine.execBaseCycleEnd s
  | .hyperperiodBoundary => Sys2Proof.Machine.execHyperperiodBoundary s
  | .nop index => Sys2Proof.Machine.execNop index s
  | .clockUp index => Sys2Proof.Machine.execClockUp index s
  | .clockDown index => Sys2Proof.Machine.execClockDown index s
  | .sample index => Sys2Proof.Machine.execSample index s
  | .snapshot index => Sys2Proof.Machine.execSnapshot index s
  | .deliver index => Sys2Proof.Machine.execDeliver index s
  | .release index => Sys2Proof.Machine.execRelease index s
  | .checkpoint index => Sys2Proof.Machine.execCheckpoint index s
  | .collect index => Sys2Proof.Machine.execCollect index s
  | .emit index => Sys2Proof.Machine.execEmit index s
  | .canSlot index => Sys2Proof.Machine.execCanSlot index s
  | .crateXfer index => Sys2Proof.Machine.execCrateXfer index s
  | .drive index => Sys2Proof.Machine.execDrive index s
  | .reference index => Sys2Proof.Machine.execReference index s
  | .poll index => Sys2Proof.Machine.execPoll index s
  | .mirror index => Sys2Proof.Machine.execMirror index s
  | .entryPoison index => Sys2Proof.Machine.execEntryPoison index s
  | .domainReady domain => Sys2Proof.Machine.execDomainReady domain s
  | .domainIdleStop domain => Sys2Proof.Machine.execDomainIdleStop domain s
  | .clockDownDeferred domain => Sys2Proof.Machine.execClockDownDeferred domain s
  | .chronoLoadStart slot => Sys2Proof.Machine.execChronoLoadStart slot s
  | .bankLoadDone => Sys2Proof.Machine.execBankLoadDone s
  | .bankSwitchRequest => Sys2Proof.Machine.execBankSwitchRequest s
  | .bankSwitchCancel => Sys2Proof.Machine.execBankSwitchCancel s
  | .ringCmdStart ring => Sys2Proof.Machine.execRingCmdStart ring s
  | .ringCmdResume ring => Sys2Proof.Machine.execRingCmdResume ring s
  | .ringCmdStop ring => Sys2Proof.Machine.execRingCmdStop ring s
  | .ringCmdDiscard ring => Sys2Proof.Machine.execRingCmdDiscard ring s
  | .descriptorFetch ring => Sys2Proof.Machine.execDescriptorFetch ring s
  | .descriptorAccepted ring => Sys2Proof.Machine.execDescriptorAccepted ring s
  | .descriptorNop ring => Sys2Proof.Machine.execDescriptorNop ring s
  | .evqCmdStart queue => Sys2Proof.Machine.execEvqCmdStart queue s
  | .evqCmdResume queue => Sys2Proof.Machine.execEvqCmdResume queue s
  | .eventRecordDelivery => Sys2Proof.Machine.execEventRecordDelivery s
  | .deadlineCheck task => Sys2Proof.Machine.execDeadlineCheck task s
  | .taskCmdClearResp task => Sys2Proof.Machine.execTaskCmdClearResp task s
  | .taskCmdClearCount task => Sys2Proof.Machine.execTaskCmdClearCount task s
  | .modRestartWarm => Sys2Proof.Machine.execModRestartWarm s
  | .modRestartCold => Sys2Proof.Machine.execModRestartCold s
  | .retainCommitDone => Sys2Proof.Machine.execRetainCommitDone s
  | .xchgReportWrite key => Sys2Proof.Machine.execXchgReportWrite key s
  | .xchgSummaryWrite value => Sys2Proof.Machine.execXchgSummaryWrite value s
  | .forceSet entry => Sys2Proof.Machine.execForceSet entry s
  | .forceRemove entry => Sys2Proof.Machine.execForceRemove entry s
  | .forceRemoveAll => Sys2Proof.Machine.execForceRemoveAll s
  | .ptpMessageRx port msg => Sys2Proof.Machine.execPtpMessageRx port msg s
  | .syncLost => Sys2Proof.Machine.execSyncLost s
  | .ptpMessageTx port kind => Sys2Proof.Machine.execPtpMessageTx port kind s
  | .ptpEventForward ingress egress msg => Sys2Proof.Machine.execPtpEventForward ingress egress msg s
  | .timestampEnqueue port domain mtype seq => Sys2Proof.Machine.execTimestampEnqueue port domain mtype seq s
  | .tsqEntryExpiry => Sys2Proof.Machine.execTsqEntryExpiry s
  | .transitCapture => Sys2Proof.Machine.execTransitCapture s
  | .transitClearCounts => Sys2Proof.Machine.execTransitClearCounts s
  | .pulseOut => Sys2Proof.Machine.execPulseOut s
  | .pulseInEdge rising widthNs => Sys2Proof.Machine.execPulseInEdge rising widthNs s
  | .pulseInMissing => Sys2Proof.Machine.execPulseInMissing s
  | .switchFrameRx port frame => Sys2Proof.Machine.execSwitchFrameRx port frame s
  | .egressFrameStart port => Sys2Proof.Machine.execEgressFrameStart port s
  | .macAgeing plane mac => Sys2Proof.Machine.execMacAgeing plane mac s
  | .linkChanged port level => Sys2Proof.Machine.execLinkChanged port level s
  | .frameReceive plane => Sys2Proof.Machine.execFrameReceive plane s
  | .pullReplyTx flow => Sys2Proof.Machine.execPullReplyTx flow s
  | .arpRefresh plane ip => Sys2Proof.Machine.execArpRefresh plane ip s
  | .mdNotify ring => Sys2Proof.Machine.execMdNotify ring s
  | .mdRequest ring => Sys2Proof.Machine.execMdRequest ring s
  | .mdReply ring => Sys2Proof.Machine.execMdReply ring s
  | .mdReplyQuery ring => Sys2Proof.Machine.execMdReplyQuery ring s
  | .mdConfirm ring => Sys2Proof.Machine.execMdConfirm ring s
  | .rawFrame ring => Sys2Proof.Machine.execRawFrame ring s
  | .mdSendCommit ring => Sys2Proof.Machine.execMdSendCommit ring s
  | .mdReplyTimeout session => Sys2Proof.Machine.execMdReplyTimeout session s
  | .mdUnresolvedTimeout ring => Sys2Proof.Machine.execMdUnresolvedTimeout ring s
  | .netRxBuffer ring => Sys2Proof.Machine.execNetRxBuffer ring s
  | .tunnelDatagramSend tunnel => Sys2Proof.Machine.execTunnelDatagramSend tunnel s
  | .netClearCounts => Sys2Proof.Machine.execNetClearCounts s
  | .netArpFlush => Sys2Proof.Machine.execNetArpFlush s
  | .netFlowCfgWrite flow value => Sys2Proof.Machine.execNetFlowCfgWrite flow value s
  | .safeConnEnable conn value => Sys2Proof.Machine.execSafeConnEnable conn value s
  | .safeConnDisable conn value => Sys2Proof.Machine.execSafeConnDisable conn value s
  | .safeResetFault conn => Sys2Proof.Machine.execSafeResetFault conn s
  | .safeClearCounts => Sys2Proof.Machine.execSafeClearCounts s
  | .canFrameRx chan frame sofNs => Sys2Proof.Machine.execCanFrameRx chan frame sofNs s
  | .canTxFrame ring => Sys2Proof.Machine.execCanTxFrame ring s
  | .canRxBuffer ring => Sys2Proof.Machine.execCanRxBuffer ring s
  | .canTxAttempt start => Sys2Proof.Machine.execCanTxAttempt start s
  | .canTxCommit chan => Sys2Proof.Machine.execCanTxCommit chan s
  | .canTxError chan why => Sys2Proof.Machine.execCanTxError chan why s
  | .canSuspendEnd start => Sys2Proof.Machine.execCanSuspendEnd start s
  | .canRecoveryStart chan => Sys2Proof.Machine.execCanRecoveryStart chan s
  | .canRecoveryDone chan => Sys2Proof.Machine.execCanRecoveryDone chan s
  | .canIntegration chan => Sys2Proof.Machine.execCanIntegration chan s
  | .canDeadlineExpiry chan => Sys2Proof.Machine.execCanDeadlineExpiry chan s
  | .canCmdRecover chan => Sys2Proof.Machine.execCanCmdRecover chan s
  | .canClearCounts chan => Sys2Proof.Machine.execCanClearCounts chan s
  | .canChEnable chan value => Sys2Proof.Machine.execCanChEnable chan value s
  | .canChDisable chan value => Sys2Proof.Machine.execCanChDisable chan value s
  | .groupSupplyFault group => Sys2Proof.Machine.execGroupSupplyFault group s
  | .groupSupplyReturn group => Sys2Proof.Machine.execGroupSupplyReturn group s
  | .windowAccess lane core kind addr size data => Sys2Proof.Machine.execWindowAccess lane core kind addr size data s
  | .windowVoteClose => Sys2Proof.Machine.execWindowVoteClose s
  | .windowAccessTimeout => Sys2Proof.Machine.execWindowAccessTimeout s
  | .fenceComplete => Sys2Proof.Machine.execFenceComplete s
  | .busCycleStart => Sys2Proof.Machine.execBusCycleStart s
  | .busCycleEnd words ended => Sys2Proof.Machine.execBusCycleEnd words ended s
  | .busTimeout words => Sys2Proof.Machine.execBusTimeout words s
  | .crateRetry => Sys2Proof.Machine.execCrateRetry s
  | .prefetchHoldExpiry => Sys2Proof.Machine.execPrefetchHoldExpiry s
  | .crateInt line => Sys2Proof.Machine.execCrateInt line s
  | .crateIntRecord => Sys2Proof.Machine.execCrateIntRecord s
  | .isthRevive window => Sys2Proof.Machine.execIsthRevive window s
  | .isthArm lines => Sys2Proof.Machine.execIsthArm lines s
  | .isthCrateReset => Sys2Proof.Machine.execIsthCrateReset s
  | .crateResetEnd => Sys2Proof.Machine.execCrateResetEnd s
  | .isthClearCounts => Sys2Proof.Machine.execIsthClearCounts s
  | .isthWrite ring => Sys2Proof.Machine.execIsthWrite ring s
  | .isthRead ring => Sys2Proof.Machine.execIsthRead ring s
  | .isthIntCfgWrite value => Sys2Proof.Machine.execIsthIntCfgWrite value s
  | .isthWinEnable window value => Sys2Proof.Machine.execIsthWinEnable window value s
  | .isthXferValidate xfer value => Sys2Proof.Machine.execIsthXferValidate xfer value s
  | .busMonitorCycle write addr words ended => Sys2Proof.Machine.execBusMonitorCycle write addr words ended s
  | .diRawChange chan decivolts => Sys2Proof.Machine.execDiRawChange chan decivolts s
  | .diFilterAccept chan => Sys2Proof.Machine.execDiFilterAccept chan s
  | .holmRefreshRx conn crcOk => Sys2Proof.Machine.execHolmRefreshRx conn crcOk s
  | .logicSilence conn => Sys2Proof.Machine.execLogicSilence conn s
  | .fieldSupplyLoss conn decivolts => Sys2Proof.Machine.execFieldSupplyLoss conn decivolts s
  | .fieldSupplyReturn conn decivolts => Sys2Proof.Machine.execFieldSupplyReturn conn decivolts s
  | .islandFault cause => Sys2Proof.Machine.execIslandFault cause s
  | .demagPulse chan millijoules => Sys2Proof.Machine.execDemagPulse chan millijoules s
  | .doFaultDetect chan cause => Sys2Proof.Machine.execDoFaultDetect chan cause s
  | .doOpenLoad chan microamps => Sys2Proof.Machine.execDoOpenLoad chan microamps s
  | .offPulseStart chan => Sys2Proof.Machine.execOffPulseStart chan s
  | .offPulseEnd chan readback => Sys2Proof.Machine.execOffPulseEnd chan readback s
  | .holmRearm conn => Sys2Proof.Machine.execHolmRearm conn s
  | .holmClearFault chan => Sys2Proof.Machine.execHolmClearFault chan s
  | .positionStep sensor a b => Sys2Proof.Machine.execPositionStep sensor a b s
  | .motionTick => Sys2Proof.Machine.execMotionTick s
  | .plausFault i1 j => Sys2Proof.Machine.execPlausFault i1 j s
  | .slsViolation => Sys2Proof.Machine.execSlsViolation s
  | .motionSelectionRx crcOk => Sys2Proof.Machine.execMotionSelectionRx crcOk s
  | .selDefault => Sys2Proof.Machine.execSelDefault s
  | .resetJudge => Sys2Proof.Machine.execResetJudge s
  | .resetJammed => Sys2Proof.Machine.execResetJammed s
  | .motionEnable value => Sys2Proof.Machine.execMotionEnable value s
  | .mstInChange level => Sys2Proof.Machine.execMstInChange level s
  | .masteryClaim => Sys2Proof.Machine.execMasteryClaim s
  | .takeover => Sys2Proof.Machine.execTakeover s
  | .crateDriversRelease => Sys2Proof.Machine.execCrateDriversRelease s
  | .safeHaltAutoRestart => Sys2Proof.Machine.execSafeHaltAutoRestart s
  | .straitStatus info => Sys2Proof.Machine.execStraitStatus info s
  | .straitCycleMark hp cycle time => Sys2Proof.Machine.execStraitCycleMark hp cycle time s
  | .straitImage content => Sys2Proof.Machine.execStraitImage content s
  | .straitJournal batch items => Sys2Proof.Machine.execStraitJournal batch items s
  | .straitCheck content => Sys2Proof.Machine.execStraitCheck content s
  | .straitAck isCheck seq ok => Sys2Proof.Machine.execStraitAck isCheck seq ok s
  | .straitWindowResult result => Sys2Proof.Machine.execStraitWindowResult result s
  | .straitNotice notice => Sys2Proof.Machine.execStraitNotice notice s
  | .straitGiveUp cause => Sys2Proof.Machine.execStraitGiveUp cause s
  | .straitCopy content => Sys2Proof.Machine.execStraitCopy content s
  | .straitHello info => Sys2Proof.Machine.execStraitHello info s
  | .straitResend fseq lane => Sys2Proof.Machine.execStraitResend fseq lane s
  | .straitFrameError lane what => Sys2Proof.Machine.execStraitFrameError lane what s
  | .straitSilent => Sys2Proof.Machine.execStraitSilent s
  | .straitLaneDown lane => Sys2Proof.Machine.execStraitLaneDown lane s
  | .statusFrameTx => Sys2Proof.Machine.execStatusFrameTx s
  | .standbyResultTimeout => Sys2Proof.Machine.execStandbyResultTimeout s
  | .eligibilityRegained => Sys2Proof.Machine.execEligibilityRegained s
  | .joinJournalDone => Sys2Proof.Machine.execJoinJournalDone s
  | .joinTimeout => Sys2Proof.Machine.execJoinTimeout s
  | .joinComplete => Sys2Proof.Machine.execJoinComplete s
  | .joinRetry => Sys2Proof.Machine.execJoinRetry s
  | .pairHandover => Sys2Proof.Machine.execPairHandover s
  | .pairClearCounts => Sys2Proof.Machine.execPairClearCounts s
  | .faultClearLevel => Sys2Proof.Machine.execFaultClearLevel s
  | .faultClearCounts => Sys2Proof.Machine.execFaultClearCounts s
  | .faultTableWrite entry value => Sys2Proof.Machine.execFaultTableWrite entry value s
  | .faultSevFloorWrite value => Sys2Proof.Machine.execFaultSevFloorWrite value s
  | .scrubRead region addr word => Sys2Proof.Machine.execScrubRead region addr word s
  | .correctionAgeOut region addr => Sys2Proof.Machine.execCorrectionAgeOut region addr s
  | .fmSelfFault => Sys2Proof.Machine.execFmSelfFault s
  | .powerValid decivolts => Sys2Proof.Machine.execPowerValid decivolts s
  | .supplyInterruptionBegin decivolts => Sys2Proof.Machine.execSupplyInterruptionBegin decivolts s
  | .supplyInterruptionEnd decivolts => Sys2Proof.Machine.execSupplyInterruptionEnd decivolts s
  | .supplyHigh decivolts => Sys2Proof.Machine.execSupplyHigh decivolts s
  | .powerFailWarning => Sys2Proof.Machine.execPowerFailWarning s
  | .powerDown => Sys2Proof.Machine.execPowerDown s
  | .skerryMinute => Sys2Proof.Machine.execSkerryMinute s
  | .skerrySleepHour => Sys2Proof.Machine.execSkerrySleepHour s
  | .xtalFault => Sys2Proof.Machine.execXtalFault s
  | .tcxoSettled => Sys2Proof.Machine.execTcxoSettled s
  | .wakingDone di spd => Sys2Proof.Machine.execWakingDone di spd s
  | .imageChecksDone => Sys2Proof.Machine.execImageChecksDone s
  | .bootLoadsDone => Sys2Proof.Machine.execBootLoadsDone s
  | .startGate => Sys2Proof.Machine.execStartGate s
  | .modStart => Sys2Proof.Machine.execModStart s
  | .modStartMaintenance => Sys2Proof.Machine.execModStartMaintenance s
  | .modSleep => Sys2Proof.Machine.execModSleep s
  | .sleepEntryComplete => Sys2Proof.Machine.execSleepEntryComplete s
  | .wake sources channels => Sys2Proof.Machine.execWake sources channels s
  | .imgOpen => Sys2Proof.Machine.execImgOpen s
  | .imgWrite => Sys2Proof.Machine.execImgWrite s
  | .imgClose => Sys2Proof.Machine.execImgClose s
  | .imgErase => Sys2Proof.Machine.execImgErase s
  | .imgLoad => Sys2Proof.Machine.execImgLoad s
  | .imgSetBoot => Sys2Proof.Machine.execImgSetBoot s
  | .imgInfo => Sys2Proof.Machine.execImgInfo s
  | .imgCmdComplete => Sys2Proof.Machine.execImgCmdComplete s
  | .tempHigh ten base hot => Sys2Proof.Machine.execTempHigh ten base hot s
  | .tempCritical hotSpot base hot => Sys2Proof.Machine.execTempCritical hotSpot base hot s
  | .recorderSample decivolts base hot shockX shockY shockZ load => Sys2Proof.Machine.execRecorderSample decivolts base hot shockX shockY shockZ load s
  | .logEntryWrite => Sys2Proof.Machine.execLogEntryWrite s
  | .recAppEntry ring => Sys2Proof.Machine.execRecAppEntry ring s
  | .recCmdClear => Sys2Proof.Machine.execRecCmdClear s
  | .recClearDone => Sys2Proof.Machine.execRecClearDone s
  | .recInfo req => Sys2Proof.Machine.execRecInfo req s
  | .recQuant req => Sys2Proof.Machine.execRecQuant req s
  | .recLog req => Sys2Proof.Machine.execRecLog req s
  | .recClear req => Sys2Proof.Machine.execRecClear req s
  | .svcInfo req => Sys2Proof.Machine.execSvcInfo req s
  | .svcChallenge req => Sys2Proof.Machine.execSvcChallenge req s
  | .svcOpen req method response => Sys2Proof.Machine.execSvcOpen req method response s
  | .svcClose req => Sys2Proof.Machine.execSvcClose req s
  | .svcSetSecret req method salt key => Sys2Proof.Machine.execSvcSetSecret req method salt key s
  | .svcRegRead req => Sys2Proof.Machine.execSvcRegRead req s
  | .svcRegWrite req values => Sys2Proof.Machine.execSvcRegWrite req values s
  | .svcImg req arg len bootSet cmd => Sys2Proof.Machine.execSvcImg req arg len bootSet cmd s
  | .svcImgData req data => Sys2Proof.Machine.execSvcImgData req data s
  | .svcKeyEnrol req index key => Sys2Proof.Machine.execSvcKeyEnrol req index key s
  | .svcRestart req => Sys2Proof.Machine.execSvcRestart req s
  | .svcUnknownOp req op => Sys2Proof.Machine.execSvcUnknownOp req op s
  | .svcCmdClose => Sys2Proof.Machine.execSvcCmdClose s
  | .svcIdleTimeout => Sys2Proof.Machine.execSvcIdleTimeout s
  | .svcLinkLoss => Sys2Proof.Machine.execSvcLinkLoss s
  | .nonceExpiry => Sys2Proof.Machine.execNonceExpiry s
  | .lockoutEnd => Sys2Proof.Machine.execLockoutEnd s
  | .jtagExtest => Sys2Proof.Machine.execJtagExtest s
  | .jtagSamplePreload cells => Sys2Proof.Machine.execJtagSamplePreload cells s
  | .jtagIdcode => Sys2Proof.Machine.execJtagIdcode s
  | .jtagClamp => Sys2Proof.Machine.execJtagClamp s
  | .jtagHighz => Sys2Proof.Machine.execJtagHighz s
  | .jtagBypass code => Sys2Proof.Machine.execJtagBypass code s
  | .tapReset => Sys2Proof.Machine.execTapReset s
  | .quadratureError sensor => Sys2Proof.Machine.execQuadratureError sensor s
  | .canRxError chan e dataPhase heavy => Sys2Proof.Machine.execCanRxError chan e dataPhase heavy s
  | .announceReceiptTimeout plane => Sys2Proof.Machine.execAnnounceReceiptTimeout plane s
  | .holdUpStoreCharged => Sys2Proof.Machine.execHoldUpStoreCharged s
  | .skerrySupplyLoss => Sys2Proof.Machine.execSkerrySupplyLoss s
  | .svcLinkUp => Sys2Proof.Machine.execSvcLinkUp s
  | .straitLaneUp lane => Sys2Proof.Machine.execStraitLaneUp lane s

end Sys2Proof.Machine
end

