-- ==== Sys2Proof/Machine/Leds.lean ====
section
/-!
DEFINITION. The six front LEDs (R161, R347, R412), which show what the state already holds: a view of the state, no state of
their own.
-/

namespace Sys2Proof.Machine

/-- What a LED does. -/
inductive Led where
  | off | slow | fast | steady
deriving DecidableEq, Repr

/-- RUN. -/
def ledRun (s : State) : Led :=
  match modState s with
  | .safeHalt => .off
  | .waking | .boot => .slow
  | .maintenance => .fast
  | .active | .standby | .joining => .steady
  | .sleep => .off

/-- VOTE. -/
def ledVote (s : State) : Led :=
  if ¬running s then .off
  else match voteMode s with
    | .none => .off
    | .dual => .slow
    | .split => .fast
    | .triple => .steady

/-- PAIR; off as well in the states that the table does not name. -/
def ledPair (s : State) : Led :=
  if ¬pairBank s then .off
  else match modState s with
    | .standby => if bit s Reg.pairStatus 2 then .slow else .fast
    | .joining => .fast
    | .active => if eligiblePartner s then .steady else .fast
    | _ => .off

/-- FORCE. -/
def ledForce (s : State) : Led := if bit s Reg.modState 3 then .steady else .off

/-- FAULT (R347). -/
def ledFault (s : State) : Led :=
  let n := fld s Reg.faultStatus 2 0
  if n = 0 then .off else if n ≤ 3 then .slow else .steady

/-- SVC. -/
def ledSvc (s : State) : Led :=
  match fld s Reg.svcStatus 1 0 with
  | 1 => .steady
  | 2 => .fast
  | _ => .off

/-- The LEDs in the order RUN, VOTE, PAIR, FORCE, FAULT, SVC (R412): all lit for 0.5 s from BOOT entry, all off in SLEEP and
while unpowered. -/
def leds (s : State) : List Led :=
  if ¬s.skerry.powered ∨ modState s = .sleep then List.replicate 6 .off
  else if modState s = .boot ∧ rawNow s - s.restart.bootRaw < msRaw 500 then List.replicate 6 .steady
  else [ledRun s, ledVote s, ledPair s, ledForce s, ledFault s, ledSvc s]

end Sys2Proof.Machine
end

