-- ==== Sys2Proof/Safety.lean ====
section
/-!
DEFINITION. What counts as a sound state: the canonical form of the register file and of every memory; and what an event's
detection may change, which is the frame that statements about commands with events rest on.
-/

namespace Sys2Proof

/-- The state is in canonical form: registers and memories hold no entry equal to what an unlisted one reads as, in rising
order. -/
def Sound (s : Machine.State) : Bool :=
  Machine.tabWf Machine.resetVal s.regs && Machine.Memory.wf s.sound && Machine.Memory.wf s.dram.a
    && Machine.Memory.wf s.dram.b && Machine.Memory.wf s.dram.c

namespace Machine

/-- The registers that the detection of an event can change: those that show its record and its level (R116, R346, R360,
R426), and those of the state that a reaction changes (R50, R65, R73, R81, R86, R320, R344), with what an abort of operations in
progress shows (R111). -/
def eventRegs : List Nat :=
  [Reg.faultStatus, Reg.faultLastCode, Reg.faultError, Reg.evqError, Reg.evqOvfStatus, Reg.evqStatus 0, Reg.evqStatus 1,
   Reg.evqStatus 2, Reg.evqStatus 3, Reg.recStatus, Reg.chronoStatus, Reg.pairStatus, Reg.pairCounts, Reg.modState,
   Reg.laneState, Reg.laneExclCount, Reg.laneLastExcl, Reg.laneRejoinStatus, Reg.laneDirtyCount, Reg.isthStatus]
    ++ (List.range 20).map (fun i => Reg.canChTxq (i + 1))

/-- From `s` to `t` nothing changed but what the detection of events can change: the registers of `eventRegs`, the fault
manager, the event queues' counters, the recorder's input and counters, the lanes and their votes, the pair's and the
restart's own notes, the force unit's mark for dropping, what the engines of CAN, network and crate had in progress (a reaction
that ends control aborts it, R111), and what went out on the connectors.  Every memory, every other engine, the journal and the
command queue stand. -/
def OnlyEvents (s t : State) : Prop :=
  (∀ k, k ∉ eventRegs → getReg t k = getReg s k) ∧
  t = { s with
        regs := t.regs, fm := t.fm, evq := t.evq, recQ := t.recQ, recorder := t.recorder, lanes := t.lanes,
        meridian := t.meridian, restart := t.restart, force := t.force, pair := t.pair, net := t.net,
        can := t.can, isth := t.isth, out := t.out, freeCount := t.freeCount }

/-- The entry at a table index issues as one of a KIND (R42, R48): it is in the active bank, due and not poisoned, and nothing
that it needs fails it. -/
def issues (kind : Nat) (needs : State → Entry → Needs) (i : BitVec 16) (e : Entry) (s : State) : Bool :=
  decide (entryAt s i.toNat = some e) && entryDue s i.toNat e && !e.poison && decide (e.kind = kind)
    && (entryFailure (passEntry s i.toNat) e (needs (passEntry s i.toNat) e)).isNone

/-- The state in which an issued entry has its effect: the entry is passed, counted in its microtick, and occupies what it
needs. -/
def issued (needs : State → Entry → Needs) (i : BitVec 16) (e : Entry) (s : State) : State :=
  takeIssue (passEntry s i.toNat) (needs (passEntry s i.toNat) e)

end Machine

end Sys2Proof
end

