-- ==== Sys2Proof/Certificates/Slice0/Obligations.lean ====
section
/-!
DEFINITION. The statements for the provers.
-/

open Sys2Proof Sys2Proof.Machine

/-- For every command and state, a step of the state with the command at the front of its queue is the command's meaning on
the state with the queue's rest. On an empty queue a step always answers a next state: one edge of the raw counter's clock
passes, the counter gains 256 units where it runs on its 250 MHz clock and 1953125 on the crystal, and it stands where neither
module nor Skerry is supplied. (That a step on an empty queue is a clock edge is the model's choice: assumption log 4.) -/
def Obligations.StepRunsTheFrontCommand : Prop :=
  (∀ (c : Instr) (rest : List Instr) (s : State), s.pending = c :: rest → step s = exec c { s with pending := rest }) ∧
  (∀ s : State, s.pending = [] → step s = .next (tick s)) ∧
  (∀ s : State, (s.skerry.powered = true ∨ s.skerry.lostSupply = false) →
    (tick s).time.raw = s.time.raw + (if s.time.onCrystal then 1953125 else 256)) ∧
  (∀ s : State, s.skerry.powered = false → s.skerry.lostSupply = true → tick s = s)

/-- After reset the registers and every memory are in canonical form, no command waits, no byte of any memory is listed or
poisoned, no lane is ready, the journal, the pending store, both banks of the Ephemeris, the recorder's log and the service
holder are empty, and nothing has gone out on a connector. (Those of these values for which the spec states none are the
model's choice: assumption log 5 and 8.) -/
def Obligations.ResetIsSound : Prop :=
  Sound State.reset = true ∧ State.reset.pending = [] ∧ (∀ l, State.reset.dram.get l = noMem) ∧ State.reset.sound = noMem ∧
  (∀ l, (State.reset.lanes.get l).ready = false) ∧ State.reset.journal = [] ∧ State.reset.fm.pending = [] ∧
  State.reset.chrono.bank0 = none ∧ State.reset.chrono.bank1 = none ∧ State.reset.recorder.log = [] ∧
  State.reset.svc.holder = none ∧ State.reset.out = [] ∧ (∀ l a, readByte (State.reset.dram.get l) a = 0)

/-- After reset every register whose table gives a reset value other than 0 reads as that value, each element of an array
alike: the list below gives base, stride, count and value as the tables of all blocks do. NET_VLAN[0] alone of its array reads
0x00FF_0001. MOD_STATE then shows BOOT and LANE_STATE vote mode NONE with three lanes OFF. (MOD_HW_ISSUE, for which the spec
states no number, is not part of this statement.) -/
def Obligations.ResetValuesOfTheRegisters : Prop :=
  (∀ p ∈ ([
     (0x0, 0, 1, 0x00000002), (0x10000, 0, 1, 0x00003000), (0x1000c, 0, 1, 0x00640831), (0x10810, 8, 4, 0xFFFFFFFF),
     (0x10814, 8, 4, 0xFFFFFFFF), (0x30108, 32, 64, 0x00000014), (0x3010c, 32, 64, 0x00000001), (0x40004, 0, 1, 0x55555555),
     (0x40008, 0, 1, 0x00000015), (0x40108, 32, 4, 0x00000004), (0x60004, 0, 1, 0x000A6405), (0x60008, 0, 1, 0x0D1B0804),
     (0x60050, 0, 1, 0x80800E00), (0x60054, 0, 1, 0x030000FD), (0x60060, 0, 1, 0x00000A00), (0x70018, 0, 1, 0x00001818),
     (0x70024, 0, 1, 0x43494348), (0x70028, 0, 1, 0x00004358), (0x70080, 4, 8, 0x00000017), (0x80100, 32, 128, 0x02040000),
     (0x8010c, 32, 128, 0x014007D0), (0x80110, 32, 128, 0x0000000A), (0x90104, 64, 20, 0x0073EFC0),
     (0x90108, 64, 20, 0x00786780), (0x9010c, 64, 20, 0x01F3EFC0), (0x90110, 64, 20, 0x007A6780),
     (0xa0004, 0, 1, 0x03081450), (0xb0080, 4, 4, 0x00020140), (0xb0100, 4, 48, 0x0000000A), (0xb0200, 8, 24, 0x00641400),
     (0xc0000, 0, 1, 0x00100000), (0xc0004, 0, 1, 0x00143200), (0xc0010, 0, 1, 0x140A01F4), (0xc0014, 0, 1, 0x00000232),
     (0xc001c, 0, 1, 0x00500000), (0xc0100, 16, 4, 0x00000352), (0xd0004, 0, 1, 0x08100A01), (0xd0014, 0, 1, 0x01F40A03),
     (0xe0014, 0, 1, 0x00000004), (0xf0004, 0, 1, 0x00000001), (0xf000c, 0, 1, 0x28282828), (0xf0010, 0, 1, 0xFFFFFFFF),
     (0xf0014, 0, 1, 0xFFFFFFFF), (0x110004, 0, 1, 0x00180258), (0x110008, 0, 1, 0xC0A86401)] : List (Nat × Nat × Nat × Word)),
    ∀ n, n < p.2.2.1 → getReg State.reset (p.1 + p.2.1 * n) = p.2.2.2) ∧
  getReg State.reset (Reg.netVlan 0) = 0x00FF0001 ∧ getReg State.reset (Reg.netVlan 1) = 0 ∧
  modState State.reset = .boot ∧ voteMode State.reset = .none ∧ (∀ l, laneState State.reset l = .off)

/-- For every state in canonical form and every step that answers a next state, whatever command stands in front or none: the
registers, the Sound memory and the DRAM of each lane are in canonical form again, so that equal contents are equal data,
every register and byte reads as last written, and an unlisted one reads as its reset value. (The canonical form is the
model's own: assumption log 3.) -/
def Obligations.EveryStepKeepsTheStateSound : Prop :=
  ∀ s t : State, Sound s = true → step s = .next t → Sound t = true

/-- For every command and state, where the command's meaning answers a next state, the queue of waiting commands is as before;
and a step on an empty queue leaves it empty. Nothing that a command does puts another command into the queue or takes one
out. -/
def Obligations.CommandsLeaveTheQueue : Prop :=
  (∀ (c : Instr) (s t : State), Sound s = true → exec c s = .next t → t.pending = s.pending) ∧
  (∀ s : State, Sound s = true → (tick s).pending = s.pending)

/-- For every command and every state, sound or not: the command's meaning answers a next state exactly where the command is
well formed (its lists no longer than the hardware carries), and stops with the one fault of the model elsewhere. No command
is refused, and no step stops on data that the state holds. -/
def Obligations.WellFormedCommandsComplete : Prop :=
  ∀ (c : Instr) (s : State),
    (c.wellFormed = true → ∃ t, exec c s = .next t) ∧ (c.wellFormed = false → exec c s = .fault .illFormed)

/-- Raising an event changes no register but those that show events, level, lanes, mode, pair, Chronograph, the crate bridge's
status and the occupancy of the CAN transmit queues, no memory, no journal and not the queue of commands; of the engines, only
those of CAN, network and crate can change, whose work in progress a reaction that ends control aborts. Where the pending
store has room and the reaction is LOG, NOTIFY or DEGRADE, the record enters it behind the others and nothing else is decided:
LOG only enters; NOTIFY and DEGRADE also enter the recorder's queue and set NOTIFIED, DEGRADE sets DEGRADED; a level stronger
than the module level replaces it. The record carries code, severity, reaction, corrected time, details and source. Where the
store is full, the severity is below FAULT and the reaction is LOG, the store stays as it is. -/
def Obligations.RaisedEventsAreRecordedAndContained : Prop :=
  (∀ (e : EvDef) (src dA dB : Nat) (s : State), OnlyEvents s (raise e src dA dB s)) ∧
  (∀ (e : EvDef) (src dA dB : Nat) (s : State), (mkRecord s e src dA dB).code = e.code ∧ (mkRecord s e src dA dB).sev = e.sev ∧
    (mkRecord s e src dA dB).time = corrected s ∧ (mkRecord s e src dA dB).detailA = BitVec.ofNat 64 dA ∧
    (mkRecord s e src dA dB).detailB = BitVec.ofNat 32 dB ∧ (mkRecord s e src dA dB).source = src) ∧
  (∀ (e : EvDef) (src dA dB : Nat) (s : State) (r : Record), r = mkRecord s e src dA dB → s.fm.pending.length < 16 →
    r.reaction = .log ∨ r.reaction = .notify ∨ r.reaction = .degrade →
    raise e src dA dB s = applyStatus (setPending s (s.fm.pending ++ [r])) r ∧
    (raise e src dA dB s).fm.pending = s.fm.pending ++ [r] ∧
    (r.reaction = .log → (raise e src dA dB s).recQ = s.recQ) ∧
    (r.reaction ≠ .log → (raise e src dA dB s).recQ = s.recQ ++ [r]) ∧
    (r.reaction ≠ .log → bit (raise e src dA dB s) Reg.faultStatus 4 = true) ∧
    (r.reaction = .degrade → bit (raise e src dA dB s) Reg.faultStatus 3 = true) ∧
    fld (raise e src dA dB s) Reg.faultStatus 2 0 = max (fld s Reg.faultStatus 2 0) (rankOf r.reaction)) ∧
  (∀ (e : EvDef) (src dA dB : Nat) (s : State), 16 ≤ s.fm.pending.length → sevCode e.sev < 3 →
    (mkRecord s e src dA dB).reaction = .log → (raise e src dA dB s).fm.pending = s.fm.pending)

/-- In every sound state the reaction computed for an event is the strongest of three: the event's default, the REACTION of
every valid FAULT_TABLE entry whose CODE equals the event's code, and the field of FAULT_SEV_FLOOR for its severity; it is one
of them, so a weaker table entry or floor has no effect. Where it is EXCLUDE_LANE and the event names no lane (for the four
minority events DETAIL_B bits 1:0, for every other SOURCE_INDEX, a value outside 0 to 2 naming none), DEGRADE is recorded and
applied: the pending store takes the record, DEGRADED is set, and no lane changes. -/
def Obligations.ReactionOfAnEvent : Prop :=
  (∀ (e : EvDef) (s : State), Sound s = true →
    rankOf e.reaction ≤ rankOf (reactionFor s e) ∧
    rankOf (reactionOf (fld s Reg.faultSevFloor (3 * sevCode e.sev + 2) (3 * sevCode e.sev))) ≤ rankOf (reactionFor s e) ∧
    (∀ k, k < 64 → wordFld (getReg s (Reg.faultTable k)) 31 31 = 1 → wordFld (getReg s (Reg.faultTable k)) 15 0 = e.code →
      rankOf (reactionOf (wordFld (getReg s (Reg.faultTable k)) 18 16)) ≤ rankOf (reactionFor s e)) ∧
    (reactionFor s e = e.reaction ∨
      reactionFor s e = reactionOf (fld s Reg.faultSevFloor (3 * sevCode e.sev + 2) (3 * sevCode e.sev)) ∨
      ∃ k, k < 64 ∧ wordFld (getReg s (Reg.faultTable k)) 31 31 = 1 ∧ wordFld (getReg s (Reg.faultTable k)) 15 0 = e.code ∧
        reactionFor s e = reactionOf (wordFld (getReg s (Reg.faultTable k)) 18 16))) ∧
  (∀ (e : EvDef) (src dA dB : Nat) (s : State), (mkRecord s e src dA dB).reaction =
    if reactionFor s e = .excludeLane ∧ (if e.code = Ev.ringMinority.code ∨ e.code = Ev.descMinority.code ∨
        e.code = Ev.evqHeadMinority.code ∨ e.code = Ev.winMinority.code then 2 < dB % 4 else 2 < src)
    then .degrade else reactionFor s e) ∧
  (∀ (e : EvDef) (src dA dB : Nat) (s : State), s.fm.pending.length < 16 → reactionFor s e = .excludeLane →
    (mkRecord s e src dA dB).reaction ≠ .excludeLane →
    (raise e src dA dB s).fm.pending = s.fm.pending ++ [mkRecord s e src dA dB] ∧
    (mkRecord s e src dA dB).reaction = .degrade ∧ bit (raise e src dA dB s) Reg.faultStatus 3 = true ∧
    (raise e src dA dB s).lanes = s.lanes ∧ getReg (raise e src dA dB s) Reg.laneState = getReg s Reg.laneState)

/-- A detected record of severity FAULT or SAFETY is routed to EVQ_0 and every other one to the queue that EVQ_ROUTE assigns
to its source block, with that queue's running count; a completion record goes to the queue that RING_CFG[n].EVQ names (its
reserved value 0 naming EVQ_1, R115). A queue counts its records with a 32-bit running index: the record of index i is written
into slot i mod SIZE of every receiving lane, its PHASE bit 0 is 1 when floor(i / SIZE) is even and 0 when odd, and T then
advances to i + 1. With a partner that acknowledges, the record is journaled for the batch first, and slot and T follow when
the batch's acknowledgement shows it. A completion record counts in its queue as every record does. On the first pass the
PHASE bit is 1, so that a zeroed slot reads as empty. -/
def Obligations.RecordsAreRoutedAndPlaced : Prop :=
  (∀ (s : State) (r : Record) (q : Nat), q = (if r.sev = .fault ∨ r.sev = .safety then 0
      else if r.code / 256 < 16 then fld s Reg.evqRouteLo (2 * (r.code / 256) + 1) (2 * (r.code / 256))
      else fld s Reg.evqRouteHi (2 * (r.code / 256 - 16) + 1) (2 * (r.code / 256 - 16))) →
    routeRecord s r = placeRecord (countRecord s q).2 q { r with seq := (countRecord s q).1 }) ∧
  (∀ (n : Nat) (r : JRecord) (s : State) (q : Nat), findRec s n (ringC s n + 1) = some r → r.state = .done →
    q = (if fld s (Reg.ringCfg n) 5 4 = 0 then 1 else fld s (Reg.ringCfg n) 5 4) →
    completeReady n 1 s = showRing (addDelta (setReg (placeRecord (countRecord { s with journal := s.journal.erase r } q).2 q
      (completionOf s r)) (Reg.ringCompleted n) r.desc.seq) (.freed n r.desc.seq)) n) ∧
  (∀ (s : State) (m : Nat) (r : Record) (i : Word) (size : Nat), i = evqNext s m → size = 2 ^ fld s (Reg.evqCfg m) 3 0 →
    (mirrors s = false → ∃ u, u = toLanes s (4096 * fld s (Reg.evqBase m) 20 0 + 32 * (i.toNat % size))
        (recordBytes r (decide (i.toNat / size % 2 = 0))) ∧
      writeRecord s m r = splitIrq (showCredits (setReg { u with evq := { u.evq with part := u.evq.part ++ [(m, i, r)] } }
        (Reg.evqTail m) (i + 1)) m) m) ∧
    (mirrors s = true → writeRecord s m r = showCredits (addDelta { s with evq := { s.evq with part := s.evq.part ++ [(m, i, r)] } }
      (.event m i (tget 0 s.evq.counts m) r)) m)) ∧
  (∀ (s : State) (m : Nat) (r : Record) (i : Word) (size : Nat), size = 2 ^ fld s (Reg.evqCfg m) 3 0 → ∃ u,
    u = toLanes s (4096 * fld s (Reg.evqBase m) 20 0 + 32 * (i.toNat % size)) (recordBytes r (decide (i.toNat / size % 2 = 0))) ∧
    showRecord s m i r = splitIrq (showCredits (setReg u (Reg.evqTail m) (i + 1)) m) m) ∧
  (∀ (r : Record) (b : Bool), (recordBytes r b).length = 32 ∧
    nth 0 (recordBytes r b) 30 = if b then 1 else 0) ∧
  (∀ i size : Nat, i < size → decide (i / size % 2 = 0) = true)

/-- With A the last accepted and C the last completed SEQ of a running ring whose last fetch has ended, and D the word that
the vote of a POLL gives: D is valid exactly when (D - C) mod 2^32 is at most SIZE and at least (A - C) mod 2^32. A valid D is
kept as the ring's doorbell, (D - A) mod 2^32 descriptors are then pending, and as many of them as are not yet recorded, at
most 64, are fetched; an invalid D raises DOORBELL_INVALID and halts the ring with reason 6: HALTED, or STOPPED at once where
nothing is in flight. -/
def Obligations.DoorbellsAreJudged : Prop :=
  ∀ (n : Nat) (d : Word) (s v : State), ringState s n = 1 → (ringSt s n).fetchLeft = 0 → voteDoorbell n s = (some d, v) →
    ((d - ringC v n).toNat ≤ 2 ^ fld v (Reg.ringCfg n) 3 0 ∧ (ringA v n - ringC v n).toNat ≤ (d - ringC v n).toNat →
      ∃ t, pollRing n s = t ∧ ringSt t n = { ringSt v n with
        doorbell := d, fetched := none, voted := [], fetchLeft := min 64 ((d - ringA v n).toNat - pendingRecs v n) } ∧
      ((ringSt t n).doorbell - ringA t n).toNat = (d - ringA v n).toNat ∧ t = { v with rings := t.rings, regs := t.regs }) ∧
    (¬((d - ringC v n).toNat ≤ 2 ^ fld v (Reg.ringCfg n) 3 0 ∧ (ringA v n - ringC v n).toNat ≤ (d - ringC v n).toNat) →
      ∃ h, h = haltRing n 6 (stick v Reg.ringError 0) ∧ pollRing n s = raise Ev.doorbellInvalid n 0 d.toNat h ∧
      fld h (Reg.ringStatus n) 15 8 = 6 ∧ ringState h n = if ringA v n = ringC v n then 0 else 3)

/-- VALID_BYTES is 0 for a remote frame whatever its DLC; else the DLC for 0 to 8; else 8 in a classical frame, and 12, 16,
20, 24, 32, 48 or 64 for DLC 9 to 15 in an FD frame. A frame given to the module carries exactly that many data bytes. -/
def Obligations.ValidBytesOfCanFrames : Prop :=
  (∀ f : CanFrame, f.rtr = true → f.validBytes = 0) ∧
  (∀ f : CanFrame, f.rtr = false → f.dlc.toNat ≤ 8 → f.validBytes = f.dlc.toNat) ∧
  (∀ f : CanFrame, f.rtr = false → f.fdf = false → 9 ≤ f.dlc.toNat → f.validBytes = 8) ∧
  (∀ f : CanFrame, f.rtr = false → f.fdf = true →
    (f.dlc = 9 → f.validBytes = 12) ∧ (f.dlc = 10 → f.validBytes = 16) ∧ (f.dlc = 11 → f.validBytes = 20) ∧
    (f.dlc = 12 → f.validBytes = 24) ∧ (f.dlc = 13 → f.validBytes = 32) ∧ (f.dlc = 14 → f.validBytes = 48) ∧
    (f.dlc = 15 → f.validBytes = 64)) ∧
  (∀ f : CanFrame, f.wellFormed = true → f.data.length = f.validBytes)

/-- With a healthy island every transition of (A, B) to an adjacent Gray state changes the signed POSITION by +1 when A leads
B (00, 10, 11, 01, 00) and by -1 when B leads A, with the sign reversed by INVERT; the register shows it as a 32-bit number.
The four transitions of one period give four steps in one direction, so a wheel of PPR periods gives 4 PPR steps per
revolution. A sample in which both channels change is a quadrature error and leaves POSITION unchanged. -/
def Obligations.PositionFollowsTheGrayPair : Prop :=
  (∀ (i : Fin 4) (pa pb a b : Bool) (s : State), islandOk s = true →
    (sensor s (i.val + 1)).a = pa → (sensor s (i.val + 1)).b = pb →
    ((pa, pb, a, b) ∈ [(false, false, true, false), (true, false, true, true), (true, true, false, true),
        (false, true, false, false)] → ∃ t, exec (.positionStep i a b) s = .next t ∧
      (sensor t (i.val + 1)).a = a ∧ (sensor t (i.val + 1)).b = b ∧
      (sensor t (i.val + 1)).pos = (sensor s (i.val + 1)).pos
        + (if bit s (Reg.motionSensorCfg (i.val + 1)) 10 then -1 else 1) ∧
      getReg t (Reg.motionSensorPos (i.val + 1)) = BitVec.ofInt 32 (sensor t (i.val + 1)).pos) ∧
    ((pa, pb, a, b) ∈ [(false, false, false, true), (false, true, true, true), (true, true, true, false),
        (true, false, false, false)] → ∃ t, exec (.positionStep i a b) s = .next t ∧
      (sensor t (i.val + 1)).a = a ∧ (sensor t (i.val + 1)).b = b ∧
      (sensor t (i.val + 1)).pos = (sensor s (i.val + 1)).pos
        + (if bit s (Reg.motionSensorCfg (i.val + 1)) 10 then 1 else -1) ∧
      getReg t (Reg.motionSensorPos (i.val + 1)) = BitVec.ofInt 32 (sensor t (i.val + 1)).pos)) ∧
  (∀ (i : Fin 4) (s : State), islandOk s = true → (sensor s (i.val + 1)).a = false →
    (sensor s (i.val + 1)).b = false → bit s (Reg.motionSensorCfg (i.val + 1)) 10 = false → (sensor s (i.val + 1)).run = none →
    ∃ t u v w, exec (.positionStep i true false) s = .next t ∧ exec (.positionStep i true true) t = .next u ∧
      exec (.positionStep i false true) u = .next v ∧ exec (.positionStep i false false) v = .next w ∧
      (sensor w (i.val + 1)).pos = (sensor s (i.val + 1)).pos + 4) ∧
  (∀ (i : Fin 4) (s : State), ∃ t, exec (.quadratureError i) s = .next t ∧
    (sensor t (i.val + 1)).pos = (sensor s (i.val + 1)).pos ∧
    getReg t (Reg.motionSensorPos (i.val + 1)) = getReg s (Reg.motionSensorPos (i.val + 1)))

/-- The FAULT LED is off at level LOG, flashes at 1 Hz at NOTIFY, EXCLUDE_LANE and DEGRADE, and is steady on at YIELD and
SAFE_HALT. Outside SLEEP, the unpowered module and the first 0.5 s of BOOT, it is the fifth of the front LEDs. -/
def Obligations.FaultLedShowsTheLevel : Prop :=
  (∀ s : State,
    (fld s Reg.faultStatus 2 0 = rankOf .log → ledFault s = .off) ∧
    (fld s Reg.faultStatus 2 0 = rankOf .notify → ledFault s = .slow) ∧
    (fld s Reg.faultStatus 2 0 = rankOf .excludeLane → ledFault s = .slow) ∧
    (fld s Reg.faultStatus 2 0 = rankOf .degrade → ledFault s = .slow) ∧
    (fld s Reg.faultStatus 2 0 = rankOf .yield → ledFault s = .steady) ∧
    (fld s Reg.faultStatus 2 0 = rankOf .safeHalt → ledFault s = .steady)) ∧
  (∀ s : State, s.skerry.powered = true → modState s ≠ .sleep → (modState s = .boot → msRaw 500 ≤ rawNow s - s.restart.bootRaw) →
    (leds s)[4]? = some (ledFault s))

/-- An entry issues where it stands in the active bank at the command's index, is due, is not poisoned, has the command's KIND
and fails no check; it has its effect on the state in which it has issued: passed, counted in its microtick, with what it
needs occupied. A NOP that issues answers exactly that state. A CLOCK_UP for a block with a gated domain starts that domain's
clock, notes the last scheduled command as up and overtakes a deferred stop. A CLOCK_DOWN of a running domain notes the last
command as down and stops the clock at once where the block is idle; where it is busy, the stop is deferred with the entry's
DETAIL_A. A SNAPSHOT answers a state in which the slot of the entry's task holds every register as it then stands, every other
slot, Sound memory and the lanes' DRAM are as before, and no register but the lanes' LANE_IRQ_PEND has changed. A RELEASE of a
task whose release is not suppressed abandons FINAL of a copy, raises the task's signal at its core in every receiving lane
whose cores run, clears the task's accumulator in every receiving lane, and opens a new job: its count is one more, it is not
abandoned, its release microtick is now, its deadline follows by the task's record, and it is open in the receiving lanes
whose cores run. -/
def Obligations.ClockAndJobEntriesTakeEffect : Prop :=
  (∀ (i : BitVec 16) (e : Entry) (s : State), issues 0 (fun _ _ => noNeeds) i e s = true →
    exec (.nop i) s = .next (issued (fun _ _ => noNeeds) i e s)) ∧
  (∀ (i : BitVec 16) (e : Entry) (d : Domain) (s u : State), issues 1 (fun _ _ => noNeeds) i e s = true →
    domOfBlock? (dfld e.w1 7 0) = some d → u = startDomain (issued (fun _ _ => noNeeds) i e s) d →
    exec (.clockUp i) s = .next (setDom u d { domSt u d with lastUp := true, deferred := none })) ∧
  (∀ (i : BitVec 16) (e : Entry) (d : Domain) (s u : State), issues 2 (fun _ _ => noNeeds) i e s = true →
    domOfBlock? (dfld e.w1 7 0) = some d →
    u = setDom (issued (fun _ _ => noNeeds) i e s) d { domSt (issued (fun _ _ => noNeeds) i e s) d with lastUp := false } →
    (domSt u d).running = true →
    exec (.clockDown i) s = .next (if domBusy u d
      then setDom u d { domSt u d with deferred := some (entryDetail (issued (fun _ _ => noNeeds) i e s) i.toNat 2) }
      else stopDomain u d)) ∧
  (∀ (i : BitVec 16) (e : Entry) (s : State), issues 15 (fun _ _ => ⟨none, [(.copyPort, occSnapshot)]⟩) i e s = true →
    ∃ t, exec (.snapshot i) s = .next t ∧ slotRegs t e.task = t.regs ∧
      (∀ k, (∀ l : Lane, k ≠ bankedKey l.idx Reg.laneIrqPend) → getReg t k = getReg s k) ∧
      (∀ k, k ≠ e.task → slotRegs t k = slotRegs s k) ∧ t.sound = s.sound ∧ t.dram = s.dram) ∧
  (∀ (i : BitVec 16) (e : Entry) (s : State), issues 5 (fun _ _ => noNeeds) i e s = true → ∃ u v,
    u = issued (fun _ _ => noNeeds) i e s ∧
    v = (receivingLanes u).foldl (fun s l => setAcc (if coresRun s l then signalCore e.task l s else s) l e.task 0)
      (abortFinal u) ∧
    (isSuppressed u e.task = false →
      exec (.release i) s = .next (setJob v e.task { job v e.task with
        count := (job v e.task).count + 1, has := true, abandoned := false, checked := false, measured := false,
        releaseMt := v.time.mt, deadlineMt := v.time.mt + taskFld (taskRecord v e.task) 89 64,
        relTime := (job v e.task).nextRel, switched := false,
        lanes := ⟨⟨0, !((receivingLanes v).contains .a && coresRun v .a), false, false⟩,
          ⟨0, !((receivingLanes v).contains .b && coresRun v .b), false, false⟩,
          ⟨0, !((receivingLanes v).contains .c && coresRun v .c), false, false⟩⟩ })))

/-- An entry issues where it stands in the active bank at the command's index, is due, is not poisoned, has the command's KIND
and fails no check; it has its effect on the state in which it has issued: passed, counted in its microtick, with what it
needs occupied. A SAMPLE that issues answers its entry's effect on that state, and the corrected time stands noted as the
SAMPLE_TIME of its image. A DELIVER, taken while the Chronograph runs, of a task whose delivery is not suppressed and of which
no job has been released yet answers the copy of header and image to the receiving lanes. A MIRROR of the journal to a partner
that takes it answers a state with one batch sent, under the next batch number, kept until it is acknowledged, and with no
item left to send. A MIRROR of an image by an ACTIVE module sends the image with the slots that are due, where the partner
takes it, and no slot is due any more; a MIRROR of the checks likewise sends the digests that are due. -/
def Obligations.ImageEntriesTakeEffect : Prop :=
  (∀ (i : BitVec 16) (e : Entry) (s : State), issues 3 sampleNeeds i e s = true → ∃ t, exec (.sample i) s = .next t ∧
    t = sampleBody e (issued sampleNeeds i e s) ∧ tget 0 t.chrono.sampleTimes (dfld e.w1 3 0) = corrected t) ∧
  (∀ (i : BitVec 16) (e : Entry) (s u : State), issues 4 deliverNeeds i e s = true →
    u = takeMirrored (dfld e.w1 3 0) e.task (issued deliverNeeds i e s) → isSuppressed u e.task = false →
    (job u e.task).has = false → running u = true →
    exec (.deliver i) s = .next (deliverCopy (dfld e.w1 3 0) e.task i.toNat u)) ∧
  (∀ (i : BitVec 16) (e : Entry) (s u : State), issues 14 mirrorNeeds i e s = true → u = issued mirrorNeeds i e s →
    dfld e.w1 1 0 = 0 → mirrorActs u 0 = true →
    exec (.mirror i) s = .next { emitOut u (.straitJournal (u.pair.batchSeq + 1) u.pair.delta) with
      pair := { u.pair with
        batchSeq := u.pair.batchSeq + 1,
        batchOpen := u.pair.batchOpen ++ [(u.pair.batchSeq + 1, u.pair.delta)], delta := [] } }) ∧
  (∀ (i : BitVec 16) (e : Entry) (s u v : State), issues 14 mirrorNeeds i e s = true → u = issued mirrorNeeds i e s →
    modState u = .active → (dfld e.w1 1 0 = 1 → v = (if mirrorActs u 1 then mirrorImage (dfld e.w1 7 4) u else u) →
      exec (.mirror i) s = .next { v with pair := { v.pair with snapsSince := [] } }) ∧
    (dfld e.w1 1 0 = 2 → v = (if mirrorActs u 2 then mirrorCheck u else u) →
      exec (.mirror i) s = .next { v with pair := { v.pair with digests := [] } }))

/-- An entry issues where it stands in the active bank at the command's index, is due, is not poisoned, has the command's KIND
and fails no check; it has its effect on the state in which it has issued: passed, counted in its microtick, with what it
needs occupied. A CHECKPOINT, with two or more voting lanes that took part in a released job that is neither abandoned nor
suppressed, drops the presentations of its vote; where no such lane has presented it answers the report of
CHECKPOINT_NO_QUORUM with no lane, and where every such lane has presented the same signature in this microtick and no lane
rejoins it answers exactly that those lanes have passed. A COLLECT of one block of a job that is not abandoned, whose copies
in the lanes it votes all agree and none of which is poisoned, answers a state in which the OUTPUT block holds that copy,
forces applied, with the block counted as written for retention, confirmation and the check of the pair; every COLLECT that
issues answers its entry's effect. A POLL answers its rings polled in order and then the heads of its queues. -/
def Obligations.VotingEntriesTakeEffect : Prop :=
  (∀ (i : BitVec 16) (e : Entry) (s u : State) (voters : List Lane),
    issues 6 (fun _ _ => ⟨none, [(.checkpointUnit, occCheckpoint)]⟩) i e s = true →
    u = issued (fun _ _ => ⟨none, [(.checkpointUnit, occCheckpoint)]⟩) i e s →
    voters = (votingLanes u).filter (tookPart u e.task) → isVoting u = true → (job u e.task).has = true →
    (job u e.task).abandoned = false → (job u e.task).suppressed = false → 2 ≤ voters.length →
    (∀ l ∈ voters, presented u e.task (dfld e.w1 15 8) l = none) →
    exec (.checkpoint i) s = .next (noQuorum i.toNat e.task (dfld e.w1 15 8) [] (dropPresented e.task (dfld e.w1 15 8) u))) ∧
  (∀ (i : BitVec 16) (e : Entry) (s u : State) (voters : List Lane) (v : Sig),
    issues 6 (fun _ _ => ⟨none, [(.checkpointUnit, occCheckpoint)]⟩) i e s = true →
    u = issued (fun _ _ => ⟨none, [(.checkpointUnit, occCheckpoint)]⟩) i e s →
    voters = (votingLanes u).filter (tookPart u e.task) → isVoting u = true → (job u e.task).has = true →
    (job u e.task).abandoned = false → (job u e.task).suppressed = false → 2 ≤ voters.length → lanesIn u .rejoining = [] →
    (∀ l ∈ voters, ∃ p, presented u e.task (dfld e.w1 15 8) l = some p ∧ p.at_ = u.time.mt ∧ p.sig = v) →
    exec (.checkpoint i) s = .next (setPassed e.task voters (dropPresented e.task (dfld e.w1 15 8) u))) ∧
  (∀ (i : BitVec 16) (e : Entry) (s : State), issues 7 collectNeeds i e s = true →
    exec (.collect i) s = .next (collectBody i.toNat e (issued collectNeeds i e s))) ∧
  (∀ (i : BitVec 16) (e : Entry) (s u v w : State) (ls : List Lane) (bs : List Byte), issues 7 collectNeeds i e s = true →
    u = issued collectNeeds i e s → dfld e.w1 51 40 = 0 → (job u e.task).abandoned = false →
    ls = (collectLanes u e.task).filter (fun l => !((job u e.task).lanes.get l).gone) →
    ballot (ls.map (stageCopy u (dfld e.w1 23 8))) = .all bs →
    (∀ l ∈ ls, badWords u.sound ((region u l.idx).1 + 64 * dfld e.w1 23 8) 64 = []) →
    v = { u with sound := writeBytes u.sound ((region u 3).1 + 64 * dfld e.w1 39 24) (forceBlock u (dfld e.w1 39 24) bs) } →
    w = writeConfirm (job v e.task).own [dfld e.w1 39 24] (retainCollect e.task [dfld e.w1 39 24] v) →
    exec (.collect i) s = .next (if isVoting w then noteDigest i.toNat true [dfld e.w1 39 24] w else w)) ∧
  (∀ (i : BitVec 16) (e : Entry) (s : State), issues 13 pollNeeds i e s = true → ∃ u,
    u = (List.range (dfld e.w1 14 8)).foldl (fun s k => pollRing (dfld e.w1 5 0 + k) s) (issued pollNeeds i e s) ∧
    exec (.poll i) s = .next ([0, 1, 2, 3].foldl (fun s m => if (dfld e.w1 19 16).testBit m then pollHead m s else s) u))

/-- An entry issues where it stands in the active bank at the command's index, is due, is not poisoned, has the command's KIND
and fails no check; it has its effect on the state in which it has issued: passed, counted in its microtick, with what it
needs occupied. An EMIT that issues while the module sends outputs, for a usable unsafe flow whose data are neither withheld
nor poisoned and with a destination resolved, writes the flow's sequence number and sends, for every plane with a destination,
a request (PULL_REQ) or the process data from OUTPUT at the flow's ports; every EMIT that issues answers its entry's effect. A
CAN_SLOT, while the module sends outputs, on an enabled channel for a slot of its table whose data are neither withheld nor
poisoned and hold a valid record of a format the channel can send, puts the record's frame into the channel's reserved entry.
A CRATE_XFER of a valid transfer outside SPLIT that writes nothing makes the transfer due on the bus. A DRIVE, without a
motion selection and with a word that is neither withheld nor poisoned, sends the selected connectors their refresh and then
what the motion unit sends. A REFERENCE on an enabled channel with EN set and no reference message queued takes the reserved
entry with a reference message and counts its SEQ. -/
def Obligations.OutputEntriesTakeEffect : Prop :=
  (∀ (i : BitVec 16) (e : Entry) (s : State), issues 8 emitNeeds i e s = true →
    exec (.emit i) s = .next (emitBody e (issued emitNeeds i e s))) ∧
  (∀ (i : BitVec 16) (e : Entry) (s u v : State) (f len : Nat) (dests : List (Nat × BitVec 48)), issues 8 emitNeeds i e s = true →
    u = issued emitNeeds i e s → f = dfld e.w1 9 0 → sendsOutputs u = true → emitUsable u f = true → flowSafe u f = false →
    len = (if flowKind u f = 1 then 0 else flowLen u f) → withheld u (flowOffset u f) len = false →
    poisonedBlock u (flowOffset u f) len = none → resolveFlow f (emitPlanes u e) u = (dests, v) → dests ≠ [] →
    exec (.emit i) s = .next (dests.foldl (fun s d =>
      sendPorts f d.1 (trdpFrame s d.1 d.2 (planeDest s d.1 (getReg s (Reg.netFlowIp f))) (pdPort s) (flowTag s f)
        (if flowKind u f = 1
          then pdTelegram s .pr (BitVec.ofNat 32 (absCycle u / e.period)) (flowComId s f) (flowComId s f) (trafficIp s d.1) []
          else pdTelegram s .pd (BitVec.ofNat 32 (absCycle u / e.period)) (flowComId s f) 0 0
            (readBytes u.sound ((region u 3).1 + flowOffset u f) len))) s)
      (setReg v (Reg.netFlowSeq f) (BitVec.ofNat 32 (absCycle u / e.period))))) ∧
  (∀ (i : BitVec 16) (e : Entry) (s u : State) (n slot : Nat), issues 9 canNeeds i e s = true → u = issued canNeeds i e s →
    n = dfld e.w1 4 0 → slot = dfld e.w1 13 8 → sendsOutputs u = true → chEnabled u n = true →
    slot ≤ fld u (Reg.canChSlots n) 23 18 →
    withheld u ((slotPlace u n slot).1 - (region u 3).1) (slotPlace u n slot).2 = false →
    isPoisoned u.sound (slotPlace u n slot).1 (slotPlace u n slot).2 = false →
    (nth 0 (readBytes u.sound (slotPlace u n slot).1 (slotPlace u n slot).2) 7).toNat % 2 = 1 →
    badRecord (readBytes u.sound (slotPlace u n slot).1 (slotPlace u n slot).2) = false →
    badFormat u n (frameOf (readBytes u.sound (slotPlace u n slot).1 (slotPlace u n slot).2)) = false →
    16 + (frameOf (readBytes u.sound (slotPlace u n slot).1 (slotPlace u n slot).2)).validBytes ≤ (slotPlace u n slot).2 →
    exec (.canSlot i) s = .next (loadReserved n (frameOf (readBytes u.sound (slotPlace u n slot).1 (slotPlace u n slot).2))
      (.slot slot) u)) ∧
  (∀ (i : BitVec 16) (e : Entry) (s u : State) (k : Nat), issues 10 xferNeeds i e s = true → u = issued xferNeeds i e s →
    k = dfld e.w1 7 0 → sendsOutputs u = true → (xferCtl u k).getLsbD 0 = true → voteMode u ≠ .split →
    xferWrites u k = false →
    exec (.crateXfer i) s = .next { u with isth := { u.isth with due := u.isth.due ++ [k] } }) ∧
  (∀ (i : BitVec 16) (e : Entry) (s u : State) (a : Nat),
    issues 11 (fun s _ => if sendsOutputs s then ⟨none, [(.holmLink, occDrive)]⟩ else noNeeds) i e s = true →
    u = issued (fun s _ => if sendsOutputs s then ⟨none, [(.holmLink, occDrive)]⟩ else noNeeds) i e s → sendsOutputs u = true →
    a = (region u 3).1 + 64 * fld u Reg.holmDriveSrc 17 0 → withheld u (64 * fld u Reg.holmDriveSrc 17 0) 4 = false →
    bit u Reg.motionCfg 0 = false → isPoisoned u.sound a 4 = false → ∃ v,
      v = ([1, 2, 3, 4].filter (fun c => dfld e.w1 (c - 1) (c - 1) = 1)).foldl
        (fun s c => sendRefresh c (BitVec.ofNat 32 (readLE u.sound a 4)) s) u ∧
      exec (.drive i) s = .next (if sendsOutputs v then sendSelection v else v)) ∧
  (∀ (i : BitVec 16) (e : Entry) (s u : State) (n : Nat), issues 12 refNeeds i e s = true → u = issued refNeeds i e s →
    n = dfld e.w1 4 0 → sendsOutputs u = true → chEnabled u n = true → bit u (Reg.canChRef n) 29 = true →
    (chan u n).queue.any (fun x => decide (x.src = .reference)) = false → ∃ v,
      v = loadReserved n (refFrame u n (chan u n).refSeq) .reference u ∧
      exec (.reference i) s =
        .next (setChan v n { chan v n with refSeq := ((chan u n).refSeq + 1) % 16, refSof := none }))

/-- For issueEntry, the issue that the commands of all entry kinds share: where the entry at the index is due, is of the kind,
is not poisoned and fails at issue, it answers the failure's report and nothing of the entry's body; where the entry is due
and poisoned, it answers the report of ENTRY_POISON and nothing else, and so does the command ENTRY_POISON. An entry fails
with SCAN_LATE where its offset lies before the present one or four entries have issued in the microtick; otherwise with
CLOCK_NOT_READY where the gated domain that it needs is not ready; otherwise with ENTRY_BUSY where one of its resources is
occupied, naming the first such; otherwise not. (That of several failures only the first in this order is reported is the
model's choice: assumption log 88.) -/
def Obligations.EntryFailuresAreReported : Prop :=
  (∀ (kind : Nat) (i : BitVec 16) (needs : State → Entry → Needs) (body : Entry → State → State) (e : Entry) (ev : EvDef)
    (flag b : Nat) (s : State), entryAt s i.toNat = some e → entryDue s i.toNat e = true → e.poison = false → e.kind = kind →
    entryFailure (passEntry s i.toNat) e (needs (passEntry s i.toNat) e) = some (ev, flag, b) →
    issueEntry kind i needs body s = failEntry (passEntry s i.toNat) ev flag i.toNat kind b) ∧
  (∀ (e : Entry) (n : Needs) (s : State), (e.offset < s.chrono.offset ∨ 4 ≤ s.chrono.mtIssued) →
    entryFailure s e n = some (Ev.scanLate, 2, min (s.chrono.offset - e.offset) (2 ^ 32 - 1))) ∧
  (∀ (e : Entry) (n : Needs) (s : State), s.chrono.offset ≤ e.offset → s.chrono.mtIssued < 4 →
    (∀ d, n.domain = some d → domReady s d = false → entryFailure s e n = some (Ev.clockNotReady, 1, domBlock d)) ∧
    ((∀ d, n.domain = some d → domReady s d = true) →
      entryFailure s e n = (n.resources.find? (fun x => busyRes s x.1)).map (fun x => (Ev.entryBusy, 0, resCode x.1)))) ∧
  (∀ (kind : Nat) (i : BitVec 16) (needs : State → Entry → Needs) (body : Entry → State → State) (e : Entry) (s : State),
    entryAt s i.toNat = some e → entryDue s i.toNat e = true → e.poison = true →
    issueEntry kind i needs body s = failPoison (passEntry s i.toNat) i.toNat ∧
    exec (.entryPoison i) s = .next (failPoison (passEntry s i.toNat) i.toNat) ∧
    exec (.nop i) s = .next (failPoison (passEntry s i.toNat) i.toNat))

/-- A domain whose clock runs and whose lead time has passed shows ready in CHRONO_DOMAIN_STATE; one that is ready, whose last
scheduled command was not CLOCK_UP, that is not busy and was last used at least 50 microseconds ago stops; a deferred
CLOCK_DOWN of a domain that is no longer busy stops the clock and raises CLOCK_DOWN_DEFERRED with the entry's DETAIL_A.
CHRONO_LOAD names the slot; while the shadow bank is LOADING or a switch is pending it is rejected with 0x0C, otherwise
LOADING begins and the image domain is held. A load of slot n, once the image domain is ready, ends: LOADING and the domain's
hold end, the result is shown, and where nothing was found wrong the shadow bank holds the slot's bank with SHADOW VALID and
BANK_LOADED is raised, and else the shadow bank is empty with SHADOW INVALID and BANK_REJECTED is raised with reason and
entry; in a bank with PAIR whose partner is heard, the module's HELLO goes out again. A switch request for which R54 finds no
reason to reject and with none pending sets the pending bit and the request (in a pair it names its boundary to the partner);
with a reason it is rejected; the number of the active bank cancels the request. -/
def Obligations.DomainsAndBankLoads : Prop :=
  (∀ (d : Domain) (s : State), domReady s d = true →
    exec (.domainReady d) s = .next (setBit s Reg.chronoDomainState (domBit d) true)) ∧
  (∀ (d : Domain) (s : State), domReady s d = true → (domSt s d).lastUp = false → domBusy s d = false →
    (domSt s d).lastUse + usRaw 50 ≤ rawNow s → exec (.domainIdleStop d) s = .next (stopDomain s d)) ∧
  (∀ (d : Domain) (detail : Nat) (s : State), (domSt s d).deferred = some detail → domBusy s d = false →
    exec (.clockDownDeferred d) s = .next (raise Ev.clockDownDeferred (activeNo s) detail (domBlock d) (stopDomain s d))) ∧
  (∀ (n : BitVec 8) (s u : State), u = setFld s Reg.chronoLoad 7 0 n.toNat → shadowState u ≠ 1 →
    bit u Reg.chronoStatus 4 = false →
    exec (.chronoLoadStart n) s = .next (domAcquire { setBit (setFld u Reg.chronoStatus 3 2 1) Reg.chronoLoad 31 true with
      chrono := { u.chrono with loadSlot := some n.toNat } } .img)) ∧
  (∀ (n : BitVec 8) (s u : State), u = setFld s Reg.chronoLoad 7 0 n.toNat →
    (shadowState u = 1 ∨ bit u Reg.chronoStatus 4 = true) →
    exec (.chronoLoadStart n) s =
      .next (raise Ev.bankRejected (1 - activeNo u) 0 0x0C (setReg u Reg.chronoLoadResult 0x0C))) ∧
  (∀ (n : Nat) (r : LoadResult) (s : State), s.chrono.loadSlot = some n → domReady s .img = true → r = loadResult s n → ∃ u v w,
    u = domRelease (showLoad { s with chrono := { s.chrono with loadSlot := none } } r) .img ∧
    v = setBit (setFld u Reg.chronoStatus 3 2 (if r.reason = 0 then 2 else 3)) Reg.chronoLoad 31 false ∧
    w = showBanks (setBank v (1 - activeNo s) (if r.reason = 0 then some (parseBank (slotOf v n).content 256) else none)) ∧
    (r.reason = 0 → exec .bankLoadDone s = .next (raise Ev.bankLoaded (1 - activeNo s) 0 (1 - activeNo s)
      (if pairBank w = true ∧ w.pair.silent = false then emitOut w (.straitHello (ownHello w)) else w))) ∧
    (r.reason ≠ 0 → exec .bankLoadDone s = .next (raise Ev.bankRejected (1 - activeNo s) 0 (r.reason + r.entry % 65536 * 65536)
      (if pairBank w = true ∧ w.pair.silent = false then emitOut w (.straitHello (ownHello w)) else w)))) ∧
  (∀ s u : State, u = setReg s Reg.chronoBankSel (BitVec.ofNat 32 (1 - activeNo s)) → switchReason u = 0 →
    u.chrono.req.bankSwitch = none → exec .bankSwitchRequest s = .next (exchangeRequest
      { setBit u Reg.chronoStatus 4 true with chrono := { u.chrono with req := { u.chrono.req with bankSwitch := some s.time.mt } } })) ∧
  (∀ s u : State, u = setReg s Reg.chronoBankSel (BitVec.ofNat 32 (1 - activeNo s)) → switchReason u ≠ 0 →
    exec .bankSwitchRequest s = .next (raise Ev.switchRejected (1 - activeNo s) 0 (switchReason u) u)) ∧
  (∀ s : State, ∃ u, u = setBit (setReg s Reg.chronoBankSel (BitVec.ofNat 32 (activeNo s))) Reg.chronoStatus 4 false ∧
    exec .bankSwitchCancel s = .next { u with
      chrono := { u.chrono with req := { u.chrono.req with bankSwitch := none } },
      pair := { u.pair with exchangeHp := none } })

/-- At an aligned microtick of BOOT with a bank loaded, the copy complete and no pair, CHRONOGRAPH_START starts the run at
cycle 0 of hyperperiod 0 with the lanes' counts of set-up writes and window accesses fresh; the ready lanes enter VOTING
together and the module is ACTIVE. At the end of a base cycle of a module that does not follow a partner's marks, with no idle
microtick running and no boundary due, the next cycle begins after the idle microticks that the alignment needs: the cycle
index advances by one, or goes to 0 with the hyperperiod boundary due where the hyperperiod ends. At a due boundary of a
running Chronograph the count advances by one, then a bank switch that is due is made, then (while the Chronograph still runs)
SPLIT, JOIN and the completion of a join, then restart, handover and SLEEP. In STANDBY with the Chronograph running a cycle
mark ends the present cycle and starts the cycle that the mark names; where it names another hyperperiod count than the one
that runs, the boundary before it is due as well. -/
def Obligations.CyclesRun : Prop :=
  (∀ (t : Nat) (s : State), modState s = .boot → s.chrono.startAt = some t → t ≤ rawNow s → (activeBank s).isSome = true →
    alignDist s 0 = 0 → pairBank s = false → ∃ r u v,
      r = beginRun 0 0 (startDegraded (startRun (freshCounts s))) ∧ u = beginCycle (microtickTime r) r ∧
      v = moveLanes (readyLanes s) .voting ((readyLanes s).foldl
        (fun s l => setLane s l { s.lanes.get l with ready := false, testStep := 0 }) u) ∧
      exec .chronographStart s = .next (sendMark (showListenAll (setModTo .active
        { v with pair := { v.pair with claimAt := none, ownImage := true } })))) ∧
  (∀ (s u : State) (late n : Nat), running s = true → s.chrono.idle = 0 → s.chrono.hpDue = false →
    (header s).bcLen ≤ s.chrono.offset → 0 < (header s).bcLen → standsBy s = false →
    late = (endCycle (cycleAhead s 1) s).chrono.offset - (header s).bcLen → n = idleFor (endCycle (cycleAhead s 1) s) late →
    u = stretch late (endCycle (cycleAhead s 1) s) → ∃ b v,
      b = beginCycle (microtickTime u + BitVec.ofNat 64 (1000 * n) - BitVec.ofNat 64 (1000 * late)) u ∧
      v = { b with chrono := { b.chrono with idle := n - late, offset := late - n } } ∧
      exec .baseCycleEnd s = .next (if (header s).hpLen ≤ cycleNow v + 1 then
          { setFld v Reg.chronoCycle 11 0 0 with chrono := { v.chrono with hpDue := true } }
        else sendMark (setFld v Reg.chronoCycle 11 0 (cycleNow v + 1)))) ∧
  (∀ s : State, running s = true → s.chrono.hpDue = true → ∃ u,
    u = switchBoundary (dropNotices (hpNow s)
      (setReg { s with chrono := { s.chrono with hpDue := false } } Reg.chronoHpCount (hpNow s + 1))) ∧
    exec .hyperperiodBoundary s = .next (sendMark (sleepDue (handoverDue (restartDue
      (if running u then joinBoundary (modeBoundary u) else u)))))) ∧
  (∀ (hp : Word) (cycle : BitVec 12) (time : Dword) (s u v : State), u = heard s → modState u = .standby → running u = true →
    v = setFld (beginAtMark time (endCycle (hp, cycle.toNat) u)) Reg.chronoCycle 11 0 cycle.toNat →
    (hp = hpNow v → exec (.straitCycleMark hp cycle time) s = .next v) ∧
    (hp ≠ hpNow v → exec (.straitCycleMark hp cycle time) s =
      .next (setReg { v with chrono := { v.chrono with hpDue := true } } Reg.chronoHpCount (hp - 1))))

/-- In SPLIT the designated lane's write of a register that is not banked commits at once, and another lane's write of one
raises SETUP_IGNORED with the address. Outside SPLIT and MAINTENANCE, while no vote waits whose window has passed, a voter's
write that finds its lane's queue shorter than eight, nothing of its lane stalled and no completed vote owed enters the queue
at its place. Where no other voter has the same write at that place, the votes that are complete are settled. Where another
has, the equal writes of that place are marked as written, the register is committed with the value unless one of them was
marked before, and the votes that are complete are settled. A write that finds its queue full, or a stalled write of its lane,
stalls; a stalled core's write enters when there is room, as of the present microtick. At the end of the coupling window of
the oldest vote it completes with the writes that have arrived, the voters without one being late. A write of ones to a W1C
register by a lane address clears those of its flags (for a register that is not banked and not ISTH_ERROR;
CHRONO_FAULT_ENTRY.VALID is cleared with the last bit of CHRONO_FAULT_STATUS). -/
def Obligations.SetupWritesAreVoted : Prop :=
  (∀ (l : Lane) (core : Fin 4) (addr : BitVec 40) (key : Nat) (v : Word) (s : State), coreActs s l core = true →
    addr.toNat = 0x300000000 + key → key < 0x130000 → key % 4 = 0 → voteMode s = .split → isBanked key = false →
    (designated s = l → exec (.setupWrite l core addr v) s = .next (commitWrite key v s)) ∧
    (designated s ≠ l → exec (.setupWrite l core addr v) s = .next (raise Ev.setupIgnored l.idx addr.toNat 0 s))) ∧
  (∀ (l : Lane) (core : Fin 4) (addr : BitVec 40) (key : Nat) (v : Word) (s : State), coreActs s l core = true →
    addr.toNat = 0x300000000 + key → key < 0x130000 → key % 4 = 0 → loneWriter s = none →
    (oldest s (setupVoters s) = [] ∨ s.time.mt ≤ oldestOpen s (oldest s (setupVoters s)) + couplingWindow s) →
    (setupVoters s).contains l = true → (s.meridian.queue.get l).length < 8 → s.meridian.stalled.get l = [] →
    s.meridian.owed.get l = [] → ∃ (place : Nat) (r : SetupReq) (u w : State) (same : List SetupReq),
      place = (s.meridian.queue.get l).length ∧ r = ⟨core, addr, v, s.time.mt, false⟩ ∧
      u = setQueueOf l (s.meridian.queue.get l ++ [r]) s ∧
      same = ((setupVoters u).filter (fun m => decide (m ≠ l))).filterMap (fun m =>
        match (u.meridian.queue.get m)[place]? with
        | some x => if sameWrite x r then some x else none
        | none => none) ∧
      w = allLanes.foldl (fun s m => setQueueOf m (markWritten place r (s.meridian.queue.get m)) s) u ∧
      (same = [] → exec (.setupWrite l core addr v) s = .next (settleVotes 9 u)) ∧
      (same ≠ [] → (∀ x ∈ same, x.written = false) →
        exec (.setupWrite l core addr v) s = .next (settleVotes 9 (commitVoted key v w))) ∧
      (∀ x ∈ same, x.written = true → exec (.setupWrite l core addr v) s = .next (settleVotes 9 w))) ∧
  (∀ (l : Lane) (core : Fin 4) (addr : BitVec 40) (key : Nat) (v : Word) (s : State), coreActs s l core = true →
    addr.toNat = 0x300000000 + key → key < 0x130000 → key % 4 = 0 → loneWriter s = none →
    (setupVoters s).contains l = true → (8 ≤ (s.meridian.queue.get l).length ∨ s.meridian.stalled.get l ≠ []) →
    exec (.setupWrite l core addr v) s = .next { s with meridian := { s.meridian with
      stalled := s.meridian.stalled.set l (s.meridian.stalled.get l ++ [⟨core, addr, v, s.time.mt, false⟩]) } }) ∧
  (∀ (l : Lane) (core : Fin 4) (r : SetupReq) (s : State),
    (s.meridian.stalled.get l).find? (fun r => decide (r.core = core)) = some r → (s.meridian.queue.get l).length < 8 →
    exec (.setupQueueStallEnd l core) s = .next (enterSetup l { r with at_ := s.time.mt }
      { s with meridian := { s.meridian with stalled := s.meridian.stalled.set l ((s.meridian.stalled.get l).erase r) } })) ∧
  (∀ (s u : State) (rs : List (Lane × SetupReq)), u = settleVotes 9 s → rs = oldest u (setupVoters u) → rs ≠ [] →
    oldestOpen u rs + couplingWindow u ≤ u.time.mt →
    exec .setupVoteClose s = .next (closeObserved (settleVotes 9 (completeSetup rs
      ((setupVoters u).filter (fun l => !(rs.any (fun x => decide (x.1 = l))))) u)))) ∧
  (∀ (addr : BitVec 40) (key : Nat) (v : Word) (r : RegRow) (s : State), addr.toNat = 0x300000000 + key → key < 0x130000 →
    regRow? key = some r → r.access = .w1c → isBanked key = false → key ≠ Reg.isthError → ∃ t,
    t = setReg s key (getReg s key &&& ~~~(v &&& r.cmask)) ∧ exec (.w1cClear addr v) s = .next (
      if getReg t Reg.chronoFaultStatus = 0 then setBit t Reg.chronoFaultEntry 31 false else t))

/-- An access of a core that executes and that the address map faults sets mcause and mtval of the core and raises
ACCESS_FAULT with the address, with reaction EXCLUDE_LANE where the map says so (a voting lane's access to another area of
Sound memory). Of the MRAM window: a voting lane's store, and its read while the Chronograph runs, is faulted so with
EXCLUDE_LANE; another lane's store is faulted with the event's own reaction; a read is served, changing nothing, in SPLIT, and
while the Chronograph is stopped; a read of a lane that does not vote while it runs outside SPLIT is faulted with the event's
own reaction. -/
def Obligations.AccessFaultsAreRaised : Prop :=
  (∀ (l : Lane) (core : Fin 4) (addr : BitVec 40) (store excludes : Bool) (s : State), coreActs s l core = true →
    mapFault s l addr.toNat store = some excludes → ∃ e : EvDef,
      e = (if excludes then { Ev.accessFault with reaction := .excludeLane } else Ev.accessFault) ∧
      exec (.accessFault l core addr store) s = .next (raise e l.idx addr.toNat 0 (coreFault l core store addr s))) ∧
  (∀ (l : Lane) (core : Fin 4) (addr : BitVec 40) (store : Bool) (s : State), coreActs s l core = true →
    0x501000000 ≤ addr.toNat → addr.toNat < 0x501800000 →
    (laneVotes s l = true → (store = true ∨ running s = true) →
      exec (.mramWindowAccess l core addr store) s =
        .next (raise { Ev.accessFault with reaction := .excludeLane } l.idx addr.toNat 0 (coreFault l core store addr s))) ∧
    (laneVotes s l = false → store = true →
      exec (.mramWindowAccess l core addr store) s =
        .next (raise Ev.accessFault l.idx addr.toNat 0 (coreFault l core store addr s))) ∧
    (store = false → running s = false → exec (.mramWindowAccess l core addr store) s = .next s) ∧
    (store = false → laneVotes s l = false → voteMode s = .split → exec (.mramWindowAccess l core addr store) s = .next s) ∧
    (store = false → laneVotes s l = false → running s = true → voteMode s ≠ .split →
      exec (.mramWindowAccess l core addr store) s =
        .next (raise Ev.accessFault l.idx addr.toNat 0 (coreFault l core store addr s))))

/-- A core that executes takes the signals that stand at it. A retirement without exception (none of its own, none of its
accesses, no poison met) then folds its words in order into the accumulator of its slot, the register word with what the
module answers to its read, writes the core's registers and performs its store. One whose access the map faults or that is
misaligned, or that meets a poisoned word, takes that exception in its place: it folds the exception word, sets mcause and
mtval, stores nothing, and ACCESS_FAULT or POISON_CONSUMED follows where the exception has one. A write to SIGPRES zeroes the
accumulator that it presents, folds the CSR instruction's own register word (none in machine mode or for x0), clears that
register, and enters the presentation with the accumulated signature, or stalls while 64 of its lane are unresolved; a stalled
presentation enters when there is room. In SPLIT, where a time compare of a SPLIT_RUN lane's core is met, LANE_IRQ_PEND shows
the lane's met compares, and its cores' timer interrupts are those pending and enabled. -/
def Obligations.LaneCoreWork : Prop :=
  (∀ (l : Lane) (core : Fin 4) (w x : Retire) (s : State), coreActs s l core = true → w.trap = none → memTrap s l w = none →
    poisonMet s l w = none → x = { w with reg := w.reg.map (fun r => { r with value :=
      match w.load with | some ld => (readValue s l core r.fp ld).getD r.value | none => r.value }) } → ∃ u,
    u = coreWrites l core.val x ((foldWords x).foldl (fun t y => foldCore t l core.val y) (takeSignal l core s)) ∧
    (w.store = none → exec (.instructionRetire l core w) s = .next u) ∧
    (∀ st, w.store = some st → exec (.instructionRetire l core w) s = .next (laneStore l st u))) ∧
  (∀ (l : Lane) (core : Fin 4) (w : Retire) (code : BitVec 5) (mtval : Dword) (s : State), coreActs s l core = true →
    w.trap = none → ∃ u, u = coreWrites l core.val (trapped w code mtval)
      ((foldWords (trapped w code mtval)).foldl (fun t y => foldCore t l core.val y) (takeSignal l core s)) ∧
    (memTrap s l w = some (code, mtval, none) → exec (.instructionRetire l core w) s = .next u) ∧
    (∀ a ex, memTrap s l w = some (code, mtval, some (a, ex)) → exec (.instructionRetire l core w) s = .next (
      raise (if ex then { Ev.accessFault with reaction := .excludeLane } else Ev.accessFault) l.idx a.toNat 0 u)) ∧
    (∀ a, memTrap s l w = none → poisonMet s l w = some a → code = 5 → mtval = a.zeroExtend 64 →
      exec (.instructionRetire l core w) s = .next (poisonConsumed l a u))) ∧
  (∀ (l : Lane) (core : Fin 4) (v : Dword) (rd : Fin 32) (machine : Bool) (s : State), coreActs s l core = true →
    ∃ (p : Present) (u w : State),
    p = { core := core, task := snapSlot s l core.val, job := (job s (snapSlot s l core.val)).count, chk := v.toNat % 256,
          final := v.getLsbD 8, sig := accOf s l (snapSlot s l core.val), at_ := s.time.mt } ∧
    u = takeSignal l core (setAcc s l (snapSlot s l core.val) 0) ∧
    w = coreWrites l core.val ⟨machine, none, some ⟨false, rd, 0⟩, none, none, none, false, none⟩
      (if machine = true ∨ rd = 0 then u else foldCore u l core.val (regWord ⟨false, rd, 0⟩)) ∧
    ((s.meridian.present.get l).length < 64 → exec (.sigpres l core v rd machine) s = .next (enterPresentation l p w)) ∧
    (64 ≤ (s.meridian.present.get l).length → exec (.sigpres l core v rd machine) s = .next { w with meridian := {
      w.meridian with sigStalled := w.meridian.sigStalled.set l (w.meridian.sigStalled.get l ++ [p]) } })) ∧
  (∀ (l : Lane) (core : Fin 4) (p : Present) (s : State),
    (s.meridian.sigStalled.get l).find? (fun p => p.core = core) = some p → (s.meridian.present.get l).length < 64 →
    exec (.sigpresStallEnd l core) s = .next (enterPresentation l p
      { s with meridian := { s.meridian with
          sigStalled := s.meridian.sigStalled.set l ((s.meridian.sigStalled.get l).erase p) } })) ∧
  (∀ (l : Lane) (core : Fin 4) (s : State), voteMode s = .split → laneState s l = .splitRun →
    (get64 s (bankedKey l.idx (Reg.laneTimecmpLo core.val))).toNat ≤ (corrected s).toNat → ∃ u t,
      u = setFld s (bankedKey l.idx Reg.laneIrqPend) 3 0 (timerBits s l) ∧
      exec (.laneTimerInterrupt l core) s = .next t ∧
      (t.lanes.get l).timerIrq = [0, 1, 2, 3].filter (fun n =>
        (fld u (bankedKey l.idx Reg.laneIrqPend) 3 0 &&& fld u (bankedKey l.idx Reg.laneIrqEn) 3 0).testBit n) ∧
      t.regs = u.regs)

/-- When a core that executes retires a store of 2^size bytes to an address of its DRAM (below 2^33), and the instruction
takes no exception (none of its own, none of its accesses, no poison met), the command completes; each byte of the lane's DRAM
outside those stored, every byte of the other lanes' DRAM and of Sound memory reads as before, and the stored bytes read as
the little-endian bytes of the data (for a state in canonical form). -/
def Obligations.InstructionStoreFrame : Prop :=
  ∀ (l : Lane) (core : Fin 4) (w : Retire) (st : StoreWord) (s : State), Sound s = true → coreActs s l core = true →
    w.trap = none → memTrap s l w = none → poisonMet s l w = none → w.store = some st → st.addr.toNat < 2 ^ 33 →
    ∃ t, exec (.instructionRetire l core w) s = .next t ∧
      (∀ a, (a < st.addr.toNat ∨ st.addr.toNat + 2 ^ st.size.toNat ≤ a) →
        readByte (t.dram.get l) a = readByte (s.dram.get l) a) ∧
      (∀ i, i < 2 ^ st.size.toNat → readByte (t.dram.get l) (st.addr.toNat + i)
        = BitVec.ofNat 8 (st.data.toNat / 256 ^ i)) ∧
      (∀ m, m ≠ l → t.dram.get m = s.dram.get m) ∧ t.sound = s.sound

/-- Of a lane that is not TESTING: a clock fault clears its clock bit of LANE_HEALTH and raises LANE_CLOCK_FAULT with the
deviation; a power fault clears its power bit, counts one power fault more, raises LANE_POWER_FAULT with the millivolts, and
then sends a lane that is EXCLUDED and has at least three OFF. AUTO_REJOIN of a lane excluded in an earlier microtick, while
the module is in control and AUTO_REJOIN is set, starts TESTING while its exclusions are within REJOIN_LIMIT, and else raises
LANE_OFF_LIMIT with their number and sends it OFF. LANE_CMD: EXCLUDE excludes a VOTING lane with reason 11, REJOIN starts
TESTING of an EXCLUDED lane, POWER_OFF sends an EXCLUDED or TESTING lane OFF, POWER_ON starts TESTING of a lane that is OFF;
each is refused with CMD_REFUSED and the value written in any other state of the lane. -/
def Obligations.LaneFaultsAndCommands : Prop :=
  (∀ (l : Lane) (dev : Word) (s : State), laneState s l ≠ .testing →
    exec (.laneClockFault l dev) s = .next (raise Ev.laneClockFault l.idx 0 dev.toNat
      (setBit s Reg.laneHealth (4 * l.idx + 1) false))) ∧
  (∀ (l : Lane) (mv : Word) (s : State), laneState s l ≠ .testing → ∃ u v,
    u = setBit s Reg.laneHealth (4 * l.idx + 2) false ∧
    v = raise Ev.lanePowerFault l.idx 0 mv.toNat
      (setLane u l { u.lanes.get l with powerFaults := (u.lanes.get l).powerFaults + 1 }) ∧
    exec (.lanePowerFault l mv) s = .next (if 3 ≤ (v.lanes.get l).powerFaults ∧ laneState v l = .excluded
      then setLaneTo l .off (setLane v l { v.lanes.get l with exclAt := none }) else v)) ∧
  (∀ (l : Lane) (m : Nat) (s : State), (s.lanes.get l).exclAt = some m → laneState s l = .excluded → m < s.time.mt →
    inControl s = true → bit s Reg.laneCfg 0 = true → exclCount s l ≤ fld s Reg.laneCfg 7 4 →
    exec (.autoRejoin l) s = .next (startTesting l s)) ∧
  (∀ (l : Lane) (m : Nat) (s : State), (s.lanes.get l).exclAt = some m → laneState s l = .excluded → m < s.time.mt →
    inControl s = true → bit s Reg.laneCfg 0 = true → fld s Reg.laneCfg 7 4 < exclCount s l → ∃ u,
    u = setLane s l { s.lanes.get l with exclAt := none } ∧
    exec (.autoRejoin l) s = .next (setLaneTo l .off (raise Ev.laneOffLimit l.idx 0 (exclCount u l) u))) ∧
  (∀ (l : Lane) (s : State), laneState s l = .voting →
    exec (.laneCmdExclude l) s = .next (excludeLane (raiseF 4 0) none l 11 0 s)) ∧
  (∀ (l : Lane) (s : State), laneState s l = .excluded → exec (.laneCmdRejoin l) s = .next (startTesting l s)) ∧
  (∀ (l : Lane) (s : State), laneState s l = .excluded ∨ laneState s l = .testing →
    exec (.laneCmdPowerOff l) s = .next (joinAdvance (setLaneTo l .off (testEnds l (setLane s l { s.lanes.get l with
      testStep := 0, ready := false, exclAt := none, joining := false, joinWait := false, step5Done := false,
      signals := [], switchSig := false }))))) ∧
  (∀ (l : Lane) (s : State), laneState s l = .off → exec (.laneCmdPowerOn l) s = .next (startTesting l s)) ∧
  (∀ (l : Lane) (s : State), laneState s l ≠ .voting →
    exec (.laneCmdExclude l) s = .next (raise Ev.cmdRefused l.idx 0 (l.idx + 0x10) s)) ∧
  (∀ (l : Lane) (s : State), laneState s l ≠ .excluded →
    exec (.laneCmdRejoin l) s = .next (raise Ev.cmdRefused l.idx 0 (l.idx + 0x20) s)) ∧
  (∀ (l : Lane) (s : State), laneState s l ≠ .excluded → laneState s l ≠ .testing →
    exec (.laneCmdPowerOff l) s = .next (raise Ev.cmdRefused l.idx 0 (l.idx + 0x30) s)) ∧
  (∀ (l : Lane) (s : State), laneState s l ≠ .off →
    exec (.laneCmdPowerOn l) s = .next (raise Ev.cmdRefused l.idx 0 (l.idx + 0x40) s))

/-- SPLIT in TRIPLE with no pair and a lane named waits for its boundary: LANE_MODE_REQ and the pending bit show it. In
another mode it is rejected with reason 1; in TRIPLE with a pair with 2, with no pair and no lane named with 3. JOIN in SPLIT
with the state area locked waits likewise; outside SPLIT it is rejected with reason 4, in SPLIT with the area unlocked with 5.
NONE clears a pending request, LANE_MODE_REQ and the pending bit. Locking the state area sets LANE_SA_LOCK and shows the total
of its pages where no extent is bad, and raises SA_INVALID with the first bad extent otherwise. Unlocking it clears the lock
and the total while no lane is TESTING or REJOINING, and is refused with CMD_REFUSED otherwise. -/
def Obligations.LaneModeRequests : Prop :=
  (∀ (d : BitVec 2) (s : State), voteMode s = .triple → pairBank s = false → d ≠ 3 →
    exec (.laneModeSplit d) s = .next (modeRequest false d.toNat (1 + 16 * d.toNat) s)) ∧
  (∀ (d : BitVec 2) (s : State), voteMode s ≠ .triple → exec (.laneModeSplit d) s = .next (raise Ev.modeRejected 0xFF 0 1 s)) ∧
  (∀ (d : BitVec 2) (s : State), voteMode s = .triple → pairBank s = true →
    exec (.laneModeSplit d) s = .next (raise Ev.modeRejected 0xFF 0 2 s)) ∧
  (∀ s : State, voteMode s = .triple → pairBank s = false →
    exec (.laneModeSplit 3) s = .next (raise Ev.modeRejected 0xFF 0 3 s)) ∧
  (∀ s : State, voteMode s = .split → fld s Reg.laneSaLock 0 0 = 1 →
    exec .laneModeJoin s = .next (modeRequest true (designated s).idx 2 s)) ∧
  (∀ s : State, voteMode s = .split → fld s Reg.laneSaLock 0 0 = 0 →
    exec .laneModeJoin s = .next (raise Ev.modeRejected 0xFF 0 5 s)) ∧
  (∀ s : State, voteMode s ≠ .split → exec .laneModeJoin s = .next (raise Ev.modeRejected 0xFF 0 4 s)) ∧
  (∀ (l : Lane) (s : State), laneState s l = .testing ∨ laneState s l = .rejoining →
    exec (.laneSaLockWrite false) s = .next (raise Ev.cmdRefused 0xFF 0 0 s)) ∧
  (∀ s : State, exec .laneModeCancel s = .next
    { setBit (setReg s Reg.laneModeReq 0) Reg.laneState 16 false with
      chrono := { s.chrono with req := { s.chrono.req with mode := none } } }) ∧
  (∀ s : State, badExtent s = none → exec (.laneSaLockWrite true) s = .next (setFld (setReg s Reg.laneSaLock 1) Reg.laneSaTotal 18 0
    ((List.range 16).map (fun n => fld s (Reg.laneSaPages n) 18 0)).sum)) ∧
  (∀ (n : Nat) (s : State), badExtent s = some n → exec (.laneSaLockWrite true) s = .next (raise Ev.saInvalid 0xFF 0 n s)) ∧
  (∀ s : State, (∀ l, laneState s l ≠ .testing ∧ laneState s l ≠ .rejoining) →
    exec (.laneSaLockWrite false) s = .next (setFld (setReg s Reg.laneSaLock 0) Reg.laneSaTotal 18 0 0))

/-- In a copy between lanes, a page copy takes a listed page off the list, clears its dirty bit and notes it as copied; where
the sources' unpoisoned copies of every block exist and agree it writes the page to every target lane, and where a block is
poisoned in every copy the rejoin of every target fails with reason 2. When the bulk list is empty PASS begins over the dirty
pages; a pass whose list is empty counts and starts the next over the dirty pages; FINAL starts when the sources are quiet and
the dirty pages fit; when FINAL has nothing left, for a rejoin (no join), the targets' queues are emptied and their counts of
window accesses set, and OBSERVE follows. A rejoin past REJOIN_TIMEOUT fails with reason 1. -/
def Obligations.RejoinCopyEngine : Prop :=
  (∀ (page : BitVec 21) (bs : List (Option (List Byte))) (s : State), copying s = true →
    s.rejoin.toCopy.contains page.toNat = true → s.rejoin.fromPair = false → ∃ u, u = showDirty { s with rejoin := { s.rejoin with
        toCopy := s.rejoin.toCopy.erase page.toNat, dirty := risingDel s.rejoin.dirty page.toNat,
        copied := risingPut s.rejoin.copied page.toNat } } ∧
      (pageBlocks ((sourceLanes u).take 2 |>.map (fun l => u.dram.get l)) page.toNat = (bs, false) →
        bs.any (·.isNone) = false →
        exec (.rejoinPageCopy page) s = .next ((targetLanes u).foldl (fun s l => { s with
          dram := s.dram.set l (writeBytes (s.dram.get l) (4096 * page.toNat) (bs.flatMap (fun b => b.getD []))) }) u)) ∧
      ((pageBlocks ((sourceLanes u).take 2 |>.map (fun l => u.dram.get l)) page.toNat).1.any (·.isNone) = true →
        exec (.rejoinPageCopy page) s = .next ((targetLanes u).foldl (fun s l => rejoinFailed (raiseF 4 0) l 2 s) u))) ∧
  (∀ s : State, joinStep s 3 = false → copyPhase s = 2 → s.rejoin.toCopy = [] → ∃ u, u = setCopyPhase 3 s ∧
    exec .rejoinBulkDone s = .next { u with rejoin := { u.rejoin with
      toCopy := u.rejoin.dirty, waiting := u.rejoin.dirty.isEmpty } }) ∧
  (∀ s : State, copyPhase s = 3 → s.rejoin.toCopy = [] → s.rejoin.waiting = false →
    exec .rejoinPassDone s = .next { satAdd s Reg.laneCopyPasses 15 0 1 with
      rejoin := { s.rejoin with toCopy := s.rejoin.dirty, waiting := s.rejoin.dirty.isEmpty } }) ∧
  (∀ s : State, joinStep s 4 = false → copyPhase s = 3 → sourcesQuiet s = true → finalFits s = true → ∃ u, u = setCopyPhase 4 s ∧
    exec .rejoinFinalStart s = .next { u with rejoin := { u.rejoin with toCopy := u.rejoin.dirty, waiting := false } }) ∧
  (∀ s : State, joinStep s 5 = false → copyPhase s = 4 → s.rejoin.toCopy = [] → s.rejoin.dirty = [] → s.rejoin.join = false →
    ∃ u, u = (targetLanes s).foldl (fun s l => joinCounts l (isolate l s)) s ∧
      (u.rejoin.join = false →
        exec .rejoinFinalDone s = .next (setCopyPhase 5 { u with rejoin := { u.rejoin with finalOk := true, observed := true } }))) ∧
  (∀ (l : Lane) (s : State), laneState s l = .rejoining →
    msRaw (100 * max 1 (fld s Reg.laneCfg 27 16)) < rawNow s - (s.lanes.get l).rejoinRaw →
    exec (.rejoinTimeout l) s = .next (rejoinFailed (raiseF 4 0) l 1 s))

/-- START of a STOPPED ring with a legal SIZE and TARGET, no journal record and room for its quota records the running build
and the ring's set-up, makes A and C one less than SEQ_START and runs the ring. RESUME of a HALTED ring runs it; RESUME of a
STOPPED one (here with no bad journal word) makes its STARTED records ACCEPTED again, runs it and completes its DONE ones.
STOP of a RUNNING ring ends its fetch, drops its PENDING records and makes it STOPPING. DISCARD of a STOPPED ring drops its
journal records and raises JOURNAL_DISCARD with their number; that C becomes A then is the model's choice (assumption log 92).
In any other case each of the four changes nothing but what RING_CMD_REFUSED with the value written changes. -/
def Obligations.RingCommandsTakeEffect : Prop :=
  (∀ (n : Fin 64) (s : State), ringState s n.val = 0 → 4 ≤ fld s (Reg.ringCfg n.val) 3 0 →
    fld s (Reg.ringCfg n.val) 3 0 ≤ 12 → 1 ≤ ringTarget s n.val → ringTarget s n.val ≤ 6 →
    s.journal.any (fun r => decide (r.ring = n.val)) = false → quotaExceeds s n.val = false → ∃ a u,
      a = getReg (noteSetup n.val (noteBuild s)) (Reg.ringSeqStart n.val) - 1 ∧
      u = setReg (setReg (noteSetup n.val (noteBuild s)) (Reg.ringAccepted n.val) a) (Reg.ringCompleted n.val) a ∧
      exec (.ringCmdStart n) s = .next (runRing n.val (addDelta u (.books n.val a a)))) ∧
  (∀ (n : Fin 64) (s : State), ringState s n.val = 3 →
    exec (.ringCmdResume n) s = .next (runRing n.val (noteBuild s))) ∧
  (∀ (n : Fin 64) (s : State), ringState s n.val = 0 → s.journalBad = [] → ∃ t u, t = noteSetup n.val (noteBuild s) ∧
    u = { t with journal := t.journal.map (fun r =>
      if r.ring = n.val ∧ r.state = .started then { r with state := .accepted } else r) } ∧
    exec (.ringCmdResume n) s = .next (completeReady n.val (u.journal.length + 1) (runRing n.val u))) ∧
  (∀ (n : Fin 64) (s : State), ringState s n.val = 1 →
    exec (.ringCmdStop n) s = .next (showRing (setFld (dropPending n.val
      (setRing n.val { ringSt s n.val with fetchLeft := 0, fetched := none } s)) (Reg.ringStatus n.val) 1 0 2) n.val)) ∧
  (∀ (n : Fin 64) (s : State), ringState s n.val = 0 → ∃ count u v w,
    count = ((noteBuild s).journal.filter (fun r => decide (r.ring = n.val))).length ∧
    u = { noteBuild s with journal := (noteBuild s).journal.filter (fun r => decide (r.ring ≠ n.val)) } ∧
    v = showRing (setReg u (Reg.ringCompleted n.val) (ringA u n.val)) n.val ∧
    w = showRingTxq n.val (addDelta v (.books n.val (ringA v n.val) (ringA v n.val))) ∧
    exec (.ringCmdDiscard n) s = .next (raise Ev.journalDiscard n.val 0 count (if 0 < count then stick w Reg.ringError 4 else w))) ∧
  (∀ (n : Fin 64) (s : State), (ringState s n.val ≠ 0 ∨ fld s (Reg.ringCfg n.val) 3 0 < 4 ∨ 12 < fld s (Reg.ringCfg n.val) 3 0 ∨
      ringTarget s n.val = 0 ∨ 7 ≤ ringTarget s n.val ∨ s.journal.any (fun r => decide (r.ring = n.val)) = true ∨
      quotaExceeds s n.val = true) →
    exec (.ringCmdStart n) s = .next (raise Ev.ringCmdRefused n.val 0 (n.val + 0x100) s)) ∧
  (∀ (n : Fin 64) (s : State), ringState s n.val ≠ 0 → ringState s n.val ≠ 3 →
    exec (.ringCmdResume n) s = .next (raise Ev.ringCmdRefused n.val 0 (n.val + 0x200) s)) ∧
  (∀ (n : Fin 64) (s : State), ringState s n.val ≠ 1 →
    exec (.ringCmdStop n) s = .next (raise Ev.ringCmdRefused n.val 0 (n.val + 0x300) s)) ∧
  (∀ (n : Fin 64) (s : State), ringState s n.val ≠ 0 →
    exec (.ringCmdDiscard n) s = .next (raise Ev.ringCmdRefused n.val 0 (n.val + 0x400) s))

/-- With a descriptor to fetch on a RUNNING ring, none fetched yet and the Chronograph running, DESCRIPTOR_FETCH votes over
the copies of the next SEQ's descriptor: with all copies equal it takes that descriptor to its checks, with one lane different
it takes the majority's after raising DESC_MINORITY with that lane. A descriptor that passes the checks and whose buffer its
target does not send is then the one fetched (in a module that is not a standby). A fetched descriptor of a RUNNING ring of an
ACTIVE module without a partner that acknowledges, with room in its target and its quota, gets an ACCEPTED journal record, and
A becomes its SEQ. A descriptor with opcode NOP that its ring may start next completes with DONE (here with no bad journal
word). -/
def Obligations.DescriptorsAreFetchedAndAccepted : Prop :=
  (∀ (n : Fin 64) (seq : Word) (bs : List Byte) (s u : State), ringState s n.val = 1 → 0 < (ringSt s n.val).fetchLeft →
    (ringSt s n.val).fetched = none → running s = true → seq = nextSeq s n.val →
    ballot ((ringLanes s).map (laneCopy s (4096 * fld s (Reg.ringBase n.val) 20 0 + 32 * (seq.toNat % ringSize s n.val)) 32))
      = .all bs →
    u = reportLanes (ringLanes s) (4096 * fld s (Reg.ringBase n.val) 20 0 + 32 * (seq.toNat % ringSize s n.val)) 32 s →
    exec (.descriptorFetch n) s = .next (takeDesc n.val seq (descOf bs) u) ∧
    (descReason u n.val seq (descOf bs) = 0 → sendsBuffer (ringTarget u n.val) (descOf bs).opcode.toNat = false →
      standsBy u = false →
      exec (.descriptorFetch n) s = .next (setRing n.val { ringSt u n.val with fetched := some (descOf bs, []) } u))) ∧
  (∀ (n : Fin 64) (seq : Word) (bs : List Byte) (l : Lane) (s u : State), ringState s n.val = 1 →
    0 < (ringSt s n.val).fetchLeft → (ringSt s n.val).fetched = none → running s = true → seq = nextSeq s n.val →
    ballot ((ringLanes s).map (laneCopy s (4096 * fld s (Reg.ringBase n.val) 20 0 + 32 * (seq.toNat % ringSize s n.val)) 32))
      = .pair bs l →
    u = reportLanes (ringLanes s) (4096 * fld s (Reg.ringBase n.val) 20 0 + 32 * (seq.toNat % ringSize s n.val)) 32 s →
    exec (.descriptorFetch n) s = .next (takeDesc n.val seq (descOf bs)
      (raise Ev.descMinority n.val seq.toNat l.idx (stick u Reg.ringError 2)))) ∧
  (∀ (n : Fin 64) (d : Desc) (payload : List Byte) (r : JRecord) (s : State), (ringSt s n.val).fetched = some (d, payload) →
    ringsAct s = true → ringState s n.val = 1 → mirrors s = false → targetFull s n.val d payload = false →
    r = ⟨n.val, .accepted, d, payload, .done, 0⟩ →
    quotaUsed s n.val + recBlocks r ≤ 64 * fld s (Reg.ringJquota n.val) 8 0 → ∃ u,
      u = setFld (setRing n.val { ringSt s n.val with
        fetched := none, fetchLeft := (ringSt s n.val).fetchLeft - 1, bpRaised := false } s) (Reg.ringStatus n.val) 5 4 0 ∧
      exec (.descriptorAccepted n) s = .next (showRingTxq n.val (showRing (setReg
        (addDelta { u with journal := u.journal ++ [r] } (.record r)) (Reg.ringAccepted n.val) d.seq) n.val))) ∧
  (∀ (n : Fin 64) (r : JRecord) (s : State), nextRec s n.val = some r → ringsAct s = true → r.desc.opcode = 0 →
    s.journalBad = [] →
    exec (.descriptorNop n) s = .next (finishDesc s n.val r.desc.seq .done 0))

/-- RESUME of a queue that is not RUNNING and has a legal SIZE (here with no bad journal word) records the build, sets RUNNING
and writes each unconsumed record into its slot again before what waits; START of such a queue with nothing left of an earlier
run sets RUNNING with T, H and the record count 0, and then writes what waits. Either command of a RUNNING queue, or of one
with an illegal SIZE, changes nothing but what EVQ_CMD_REFUSED with the value written changes. Outside SLEEP,
EVENT_RECORD_DELIVERY takes the pending record of the highest severity, the oldest of these, out of the pending store (a
POSTED_WRITE_FAILED record also frees its entry); a module that is not a standby routes it to its queue, a standby gives it to
the event recorder where its reaction is LOG and it is not one of the four forcing events. -/
def Obligations.QueueCommandsAndDelivery : Prop :=
  (∀ (m : Fin 4) (s : State), evqRefused s m.val = false → s.journalBad = [] → ∃ u,
    u = setBit (noteBuild s) (Reg.evqStatus m.val) 0 true ∧
    exec (.evqCmdResume m) s = .next (drain m.val ((u.evq.part.filter (fun x => decide (x.1 = m.val))).foldl (fun t x =>
      splitIrq (toLanes t (evqSlot t m.val x.2.1) (recordBytes x.2.2 (phaseBit t m.val x.2.1))) m.val) u))) ∧
  (∀ (m : Fin 4) (s : State), Sound s = true → evqRefused s m.val = false →
    s.evq.part.any (fun x => decide (x.1 = m.val)) = false →
    s.evq.overflow.any (fun w => decide (w.queue = m.val) && w.carried) = false →
    (∀ c ∈ s.evq.codes ++ s.evq.catchAll, c.queue = m.val → c.carried = 0) → ∃ u,
    exec (.evqCmdStart m) s = .next (drain m.val (showOverflow (setBit u (Reg.evqStatus m.val) 0 true))) ∧
    evqTail u m.val = 0 ∧ evqHead u m.val = 0 ∧ u.evq.counts = tset 0 s.evq.counts m.val 0) ∧
  (∀ (m : Fin 4) (s : State), evqRefused s m.val = true →
    exec (.evqCmdStart m) s = .next (raise Ev.evqCmdRefused m.val 0 (m.val + 0x10) s) ∧
    exec (.evqCmdResume m) s = .next (raise Ev.evqCmdRefused m.val 0 (m.val + 0x20) s)) ∧
  (∀ (r : Record) (s u : State), nextPending s.fm.pending = some r → modState s ≠ .sleep →
    u = freeFailed r (setPending s (s.fm.pending.erase r)) →
    (standsBy u = false → exec .eventRecordDelivery s = .next (routeRecord u r)) ∧
    (standsBy u = true → exec .eventRecordDelivery s = .next (
      if r.reaction = .log ∧ ¬([0x36, 0x37, 0x39, 0x3A].contains r.code = true) then queueRec r u else u)))

/-- DEADLINE_CHECK of a running Chronograph acts on a job that is neither abandoned nor checked once its deadline has come,
and marks it as checked. In a module whose lanes vote: if at least one voting lane has presented FINAL, CONSECUTIVE becomes 0
and nothing is raised; if none has and the task stops on an overrun, the overrun is shown and the task yields; if none has and
it does not, TASK_OVERRUN is raised, the job is abandoned in every voting lane, CONSECUTIVE advances, and at OVERRUN_LIMIT the
task yields too. In SPLIT each SPLIT_RUN lane without FINAL that is not the designated one is handled alone, and then the
designated lane's overrun as that of a module, or CONSECUTIVE becomes 0. Before the deadline, with the job checked or
abandoned, nothing changes. CLEAR_RESP and CLEAR_COUNT zero the task's register and change nothing else. -/
def Obligations.DeadlinesAreChecked : Prop :=
  (∀ (t : Fin 48) (s u : State), running s = true → (job s t.val).has = true → (job s t.val).abandoned = false →
    (job s t.val).checked = false → (job s t.val).deadlineMt ≤ s.time.mt →
    isVoting s = true → votingLanes s ≠ [] → u = setJob s t.val { job s t.val with checked := true } →
    ((votingLanes s).any (jobClosed u t.val) = true →
      exec (.deadlineCheck t) s = .next (setFld u (Reg.taskOverrunCount t.val) 19 16 0)) ∧
    ((votingLanes s).any (jobClosed u t.val) = false → taskFld (taskRecord u t.val) 2 2 = 1 →
      exec (.deadlineCheck t) s =
        .next (noteOverrun t (yieldForTask t.val Ev.taskOverrun 1 (showOverrun t.val 1 u)))) ∧
    ((votingLanes s).any (jobClosed u t.val) = false → taskFld (taskRecord u t.val) 2 2 = 0 → ∃ v w,
      w = raiseAbandoned t.val 0xFF (showOverrun t.val 0 u) ∧
      v = satAdd (if voteMode w = .split then abandonAlone t.val (designated w) w else abandonJob t.val w)
        (Reg.taskOverrunCount t.val) 19 16 1 ∧
      exec (.deadlineCheck t) s = .next (if max 1 (taskFld (taskRecord v t.val) 23 20) ≤ consecutive v t.val then
        noteOverrun t (yieldForTask t.val Ev.taskOverrunLimit (consecutive v t.val) v) else v))) ∧
  (∀ (t : Fin 48) (late : List Lane) (s u v : State), running s = true → (job s t.val).has = true →
    (job s t.val).abandoned = false → (job s t.val).checked = false → (job s t.val).deadlineMt ≤ s.time.mt →
    voteMode s = .split → u = setJob s t.val { job s t.val with checked := true } →
    late = (lanesIn u .splitRun).filter (fun l => !(jobClosed u t.val l)) →
    v = (late.filter (fun l => decide (l ≠ designated u))).foldl (fun x l => overrunLane t.val l x) u →
    (late.contains (designated u) = false →
      exec (.deadlineCheck t) s = .next (setFld v (Reg.taskOverrunCount t.val) 19 16 0)) ∧
    (late.contains (designated u) = true → exec (.deadlineCheck t) s = .next (overrun t v))) ∧
  (∀ (t : Fin 48) (s : State),
    (job s t.val).checked = true ∨ (job s t.val).abandoned = true ∨ s.time.mt < (job s t.val).deadlineMt →
    exec (.deadlineCheck t) s = .next s) ∧
  (∀ (t : Fin 48) (s : State), Sound s = true → ∃ u v,
    exec (.taskCmdClearResp t) s = .next u ∧ exec (.taskCmdClearCount t) s = .next v ∧
    getReg u (Reg.taskRespMax t.val) = 0 ∧ getReg v (Reg.taskOverrunCount t.val) = 0 ∧
    (∀ k, k ≠ Reg.taskRespMax t.val → getReg u k = getReg s k) ∧
    (∀ k, k ≠ Reg.taskOverrunCount t.val → getReg v k = getReg s k) ∧
    u = { s with regs := u.regs } ∧ v = { s with regs := v.regs })

/-- SET is refused with FORCE_REFUSED and its REASON where one of the checks fails (REASON 1 without open service access), and
none fails with open service access, a target that exists and is not safe, and a mask of 1. SET that is not refused, REMOVE
and REMOVE_ALL, where no equal change waits, put their change behind those that wait, with the base cycle that the model
assigns it (assumption log 39), and send it with that cycle to a partner that receives. RETAIN_COMMIT_DONE of a commit in
progress without its word yet, and with no word of its log gone bad, copies the log into the data blocks, and the generation,
build, size and last release follow. A restart command of a running Chronograph outside SAFE_HALT waits for the hyperperiod
boundary with cause 2; with the Chronograph stopped it takes effect at once in MAINTENANCE, in SAFE_HALT not entered by a
common-cause stop, and in BOOT during the set-up phase; COLD marks the committed data invalid first; after a common-cause stop
it is ignored. The exchange reports raise XCHG_REMOVED with the KEY and XCHG_DONE with the summary. -/
def Obligations.ForcesRetainAndRestart : Prop :=
  (∀ (n : Fin 64) (s : State), setReason s ≠ 0 → exec (.forceSet n) s =
    .next (raise Ev.forceRefused n.val 0 (setReason s) (setFld s Reg.modForceStatus 23 16 (setReason s)))) ∧
  (∀ s : State, (svcIsOpen s = false → setReason s = 1) ∧
    (svcIsOpen s = true → targetValid s (getReg s Reg.modForceTarget) = true →
      targetSafe s (getReg s Reg.modForceTarget) = false → getReg s Reg.modForceMask = 1 → setReason s = 0)) ∧
  (∀ (n : Fin 64) (c : ForceChange) (s u v : State), (∀ x ∈ s.force.changes, x.1 ≠ c) →
    u = showForces { s with force := { s.force with changes := s.force.changes ++ [(c, forceDue s)] } } →
    v = (if linked u then emitOut u (.straitNotice (.force c (forceDue s).1 (forceDue s).2)) else u) →
    (c = .set n.val (getReg s Reg.modForceTarget) (getReg s Reg.modForceMask) (getReg s Reg.modForceValue) → setReason s = 0 →
      exec (.forceSet n) s = .next v) ∧
    (c = .remove n.val → exec (.forceRemove n) s = .next v) ∧
    (c = .removeAll → exec .forceRemoveAll s = .next v)) ∧
  (∀ (log : RetainLog) (s : State), s.retain.log = some log → s.retain.wordWritten = false → s.retain.logBad = [] → ∃ t,
    exec .retainCommitDone s = .next t ∧
    t.retain.data = log.blocks.foldl (fun m x => writeBytes m (64 * x.1) x.2) s.retain.data ∧ t.retain.log = none ∧
    t.retain.generation = s.retain.generation + 1 ∧ t.retain.invalid = coldAhead s ∧ t.retain.appBuild = log.appBuild ∧
    t.retain.size = log.size ∧ t.retain.lastRelease = tset 0 s.retain.lastRelease log.task log.time ∧
    t = { setReg s Reg.modRetainGen (s.retain.generation + 1) with retain := t.retain }) ∧
  (∀ s : State, modState s ≠ .safeHalt → running s = true →
    exec .modRestartWarm s = .next { s with restart := { s.restart with cause := 2 }, chrono := { s.chrono with
      req := { s.chrono.req with restart := some (false, s.time.mt) } } } ∧
    exec .modRestartCold s = .next { s with
      retain := { s.retain with invalid := true }, restart := { s.restart with cause := 2 },
      chrono := { s.chrono with req := { s.chrono.req with restart := some (true, s.time.mt) } } }) ∧
  (∀ s : State, running s = false → (modState s = .maintenance ∨ (modState s = .safeHalt ∧ s.pair.common = false) ∨
      (modState s = .boot ∧ setupPhase s = true)) →
    exec .modRestartWarm s = .next (bootEntry 2 false true s) ∧
    exec .modRestartCold s = .next (bootEntry 2 true true { s with retain := { s.retain with invalid := true } })) ∧
  (∀ s : State, modState s = .safeHalt → s.pair.common = true →
    exec .modRestartWarm s = .next s ∧ exec .modRestartCold s = .next s) ∧
  (∀ (v : Word) (s : State), exec (.xchgReportWrite v) s = .next (raise Ev.xchgRemoved 0xFF 0 v.toNat s) ∧
    exec (.xchgSummaryWrite v) s = .next (raise Ev.xchgDone 0xFF 0 v.toNat s))

/-- A message of another domain or of the other transport has no effect on the clock. Where the clock runs on the port's
plane: a two-step Sync of the port's best master is kept with its ingress time; an Announce of another clock replaces the
port's best where there is none, or where it is of the same sender or better, and the state decision runs either way; with the
end-to-end mechanism a Delay_Req on a master port is due an answer. When the Announce receipt timeout has passed the best is
forgotten before the state decision. A master whose interval has passed sends Announce with its next sequence number, and Sync
with a Follow_Up due; a Delay_Resp that is due goes out. A switch hands nothing on between planes; within its plane it hands
on unchanged a two-step Sync of the clock's transport for which the egress queue has room, and notes its residence. -/
def Obligations.PtpMessagesTakeEffect : Prop :=
  (∀ (p : Fin 8) (m : PtpMsg) (s : State), (m.domain.toNat ≠ ptpDomain s ∨ m.udp ≠ ptpUdp s) →
    exec (.ptpMessageRx p m) s = .next s) ∧
  (∀ (p : Fin 8) (m : PtpMsg) (s : State), m.domain.toNat = ptpDomain s → m.udp = ptpUdp s → m.kind = .sync →
    clockOn s (clockPort p.val) = true → m.twoStep = true →
    (ptpPort s (clockPort p.val)).best.map (·.1) = some m.source →
    exec (.ptpMessageRx p m) s = .next (setPtpPort s (clockPort p.val) { ptpPort s (clockPort p.val) with
      sync := some (m.source, m.seq, ingressTime s p.val, corrNs m) })) ∧
  (∀ (p : Fin 8) (m : PtpMsg) (s : State), m.domain.toNat = ptpDomain s → m.udp = ptpUdp s → m.kind = .announce →
    clockOn s (clockPort p.val) = true → m.source.clock ≠ ownClock s →
    ((∀ b, (ptpPort s (clockPort p.val)).best = some b → b.1 = m.source ∨ betterData (m.source, m.data) b = true) →
      exec (.ptpMessageRx p m) s = .next (bestMaster (setPtpPort s (clockPort p.val) { ptpPort s (clockPort p.val) with
        best := some (m.source, m.data), lastAnn := rawNow s }))) ∧
    (∀ b, (ptpPort s (clockPort p.val)).best = some b → b.1 ≠ m.source → betterData (m.source, m.data) b = false →
      exec (.ptpMessageRx p m) s = .next (bestMaster (setPtpPort s (clockPort p.val) (ptpPort s (clockPort p.val)))))) ∧
  (∀ (p : Fin 8) (m : PtpMsg) (s : State), m.domain.toNat = ptpDomain s → m.udp = ptpUdp s → m.kind = .delayReq →
    clockOn s (clockPort p.val) = true → peerDelay s = false → portState s (clockPort p.val) = 4 →
    exec (.ptpMessageRx p m) s = .next (setPtpPort s (clockPort p.val) { ptpPort s (clockPort p.val) with
      due := (ptpPort s (clockPort p.val)).due ++ [(.delayResp, m.source, m.seq, ingressTime s p.val)] })) ∧
  (∀ (k : Fin 2) (s : State), clockOn s (8 + k.val) = true →
    announceTimeout s * intervalRaw (logAnnounce s) ≤ rawNow s - (ptpPort s (8 + k.val)).lastAnn →
    exec (.announceReceiptTimeout k) s = .next (bestMaster (setPtpPort s (8 + k.val)
      { ptpPort s (8 + k.val) with best := none, sync := none, ms := none }))) ∧
  (∀ (p : Fin 10) (s : State), 8 ≤ p.val → clockOn s p.val = true → portState s p.val = 4 →
    intervalDue s p.val .announce (logAnnounce s) = true → ∃ u,
    u = noteSent (setPtpPort s p.val { ptpPort s p.val with nextAnn := (ptpPort s p.val).nextAnn + 1 }) p.val .announce ∧
    exec (.ptpMessageTx p .announce) s = .next (emitOut u (.ptp p.val
      { ownMsg u p.val .announce (ptpPort s p.val).nextAnn (corrected u) (ownPort u p.val) with data := announceData u }))) ∧
  (∀ (p : Fin 10) (s : State), 8 ≤ p.val → clockOn s p.val = true → portState s p.val = 4 →
    intervalDue s p.val .sync (logSync s) = true → ∃ u,
    u = noteSent (setPtpPort s p.val { ptpPort s p.val with
      nextSync := (ptpPort s p.val).nextSync + 1,
      due := (ptpPort s p.val).due ++ [(.followUp, ownPort s p.val, (ptpPort s p.val).nextSync, 0)] }) p.val .sync ∧
    exec (.ptpMessageTx p .sync) s = .next (emitOut u (.ptp p.val
      (ownMsg u p.val .sync (ptpPort s p.val).nextSync (corrected u) (ownPort u p.val))))) ∧
  (∀ (p : Fin 10) (who : PortId) (seq : BitVec 16) (t : Dword) (s : State),
    (ptpPort s p.val).due.find? (fun d => d.1 = PtpKind.delayResp) = some (.delayResp, who, seq, t) →
    exec (.ptpMessageTx p .delayResp) s = .next (sendPtp p.val 0 (ownMsg s p.val .delayResp seq t who)
      (setPtpPort s p.val { ptpPort s p.val with due := (ptpPort s p.val).due.erase (.delayResp, who, seq, t) }))) ∧
  (∀ (p q : Fin 10) (m : PtpMsg) (s : State), planeOfPort p.val ≠ planeOfPort q.val →
    exec (.ptpEventForward p q m) s = .next s) ∧
  (∀ (p q : Fin 10) (m : PtpMsg) (s : State), p ≠ q → planeOfPort p.val = planeOfPort q.val → m.udp = ptpUdp s →
    m.kind = .sync → m.twoStep = true → (8 ≤ q.val ∨ egressRoom s q.val (ptpPcp s p.val) = true) →
    exec (.ptpEventForward p q m) s = .next (sendPtp q.val (ptpPcp s p.val) m { s with ptp := { s.ptp with
      residence := s.ptp.residence ++ [(⟨p.val, q.val, m.source, m.seq, m.domain.toNat, 0, ingressTime s p.val⟩ : Residence)] } }))

/-- When SYNC_TIMEOUT has passed while ACQUIRING or SYNCED, STATE becomes HOLDOVER and SYNC_LOST is raised with the port that
was the reference. A time stamp enters the transmit queue while it holds fewer than 32; the first entry that has stayed 10 ms
is freed and counted in EXPIRED. CAPTURE stores the raw counter and corrected time of one instant and changes nothing else;
CLEAR_COUNTS zeroes EXPIRED and DROPS, and changes nothing else. The pulse output rises within 8 ns of a multiple of
OUT_PERIOD while it is driven. The selected edge of the pulse input, at least 100 ns wide and not within half of IN_PERIOD
after the last, is time-stamped to 4 ns, and is a measurement where SOURCE is PULSE; the other edge changes nothing. A silence
of 1.5 IN_PERIOD raises PULSE_IN_MISSING while none is marked. -/
def Obligations.StampsAndPulsesTakeEffect : Prop :=
  (∀ s : State, syncState s = 1 ∨ syncState s = 2 →
    msRaw (10 * max 1 (fld s Reg.transitCfg 15 8)) ≤ rawNow s - s.time.lastMeas → ∃ u, u = stick (setSync 3 s) Reg.transitError 1 ∧
    exec .syncLost s = .next (raise Ev.syncLost s.time.lastRef (offsetDetail (getReg u Reg.transitOffset).toInt)
      (toTwos 32 (rate u)) u)) ∧
  (∀ (p : Fin 10) (dom : Byte) (mtype : BitVec 4) (seq : BitVec 16) (s : State), s.time.tsq.length < 32 →
    exec (.timestampEnqueue p dom mtype seq) s = .next (setTsq s (s.time.tsq ++
      [⟨p.val, dom.toNat, mtype.toNat, seq.toNat, egressTime s p.val, rawNow s⟩]))) ∧
  (∀ (e : TsqEntry) (s : State), s.time.tsq.find? (fun e => decide (msRaw 10 ≤ rawNow s - e.at_)) = some e →
    exec .tsqEntryExpiry s = .next (satAdd (setTsq s (s.time.tsq.erase e)) Reg.transitTsqStatus 15 8 1)) ∧
  (∀ s : State, Sound s = true → ∃ t, exec .transitCapture s = .next t ∧ get64 t Reg.transitCapTimeLo = corrected s ∧
    get64 t Reg.transitCapRawLo = s.time.raw.extractLsb' 8 64 ∧
    fld t Reg.transitCapRawFrac 7 0 = (s.time.raw.extractLsb' 0 8).toNat ∧ t = { s with regs := t.regs } ∧
    (∀ k, k ∉ [Reg.transitCapTimeLo, Reg.transitCapTimeLo + 4, Reg.transitCapRawLo, Reg.transitCapRawLo + 4,
      Reg.transitCapRawFrac] → getReg t k = getReg s k)) ∧
  (∀ s : State, Sound s = true → ∃ t, exec .transitClearCounts s = .next t ∧ fld t Reg.transitTsqStatus 15 8 = 0 ∧
    fld t Reg.transitTsqStatus 31 16 = 0 ∧ fld t Reg.transitTsqStatus 7 0 = fld s Reg.transitTsqStatus 7 0 ∧
    t = { s with regs := t.regs } ∧ (∀ k, k ≠ Reg.transitTsqStatus → getReg t k = getReg s k)) ∧
  (∀ s : State, pulseDriven s = true → (corrected s).toNat / outPeriod s ≠ s.time.pulseSlot →
    (corrected s).toNat % outPeriod s ≤ 8 →
    exec .pulseOut s = .next (emitOut { s with time := { s.time with
      pulseHigh := true, pulseRise := (corrected s).toNat, pulseSlot := (corrected s).toNat / outPeriod s } } (.pulse true))) ∧
  (∀ (rising : Bool) (w : Word) (s : State), rising = !(bit s Reg.transitPulseCfg 18) →
    (100 ≤ w.toNat → (∀ t, s.time.lastPulse = some t → 64 * inPeriod s ≤ (rawNow s - t) * 2) → ∃ u v,
      u = set64 s Reg.transitPulseInLo (BitVec.ofNat 64 ((corrected s).toNat / 4 * 4)) ∧
      v = { u with time := { u.time with lastPulse := some (rawNow u), missing := false } } ∧
      exec (.pulseInEdge rising w) s = .next (if syncSource v = 2 then
        measure 0xFF (pulseOffset ((corrected s).toNat / 4 * 4) (inPeriod v)) v else v)) ∧
    exec (.pulseInEdge (!rising) w) s = .next s) ∧
  (∀ s : State, s.time.missing = false → 64 * inPeriod s * 3 ≤ 2 * (rawNow s - s.time.lastPulse.getD s.restart.bootRaw) → ∃ u,
    u = stick { s with time := { s.time with missing := true } } Reg.transitError 3 ∧
    exec .pulseInMissing s = .next (raise Ev.pulseInMissing 0xFF (offsetDetail (getReg u Reg.transitOffset).toInt)
      (fld u Reg.transitPulseCfg 7 4) u))

/-- A well-formed frame, neither PAUSE nor PTP, received at an enabled port with link has its source address learned and is
forwarded; a PAUSE frame has no effect, and an ill-formed frame faults. A port with link that is neither busy nor held back
starts the oldest frame of its highest waiting priority. MAC_AGEING drops the address where it was learned 300 s ago and
leaves every other entry. A change of a port's link or speed that its enables admit, and every loss of link, shows in
NET_PORT_STATUS and NET_STATUS, is counted and raises LINK_CHANGED; a link-up sends a gratuitous ARP where the plane has an
address. A link level that changes nothing, or that the enables do not admit, has no effect. ARP_REFRESH of an entry whose
last answer or refresh is 60 s ago drops it after three refreshes without answer, and else asks again; ARP_FLUSH empties the
cache and CLEAR_COUNTS zeroes the counts. The next frame at the internal port is taken from it and classified; one that fails
its checks, neither PAUSE nor PTP, is only counted. -/
def Obligations.SwitchesTakeEffect : Prop :=
  (∀ (p : Fin 8) (f : EthFrame) (s : State), f.wellFormed = true → linkUp s p.val = true →
    bit s (Reg.netPortCfg p.val) 0 = true → f.body ≠ .pause → (∀ m, f.body ≠ .ptp m) →
    exec (.switchFrameRx p f) s = .next (forward p.val f (ingressTime s p.val -
      BitVec.ofNat 64 ((wireLen f + 4) * (if portGiga s p.val then 8 else 80))) (learn p.val f.src s))) ∧
  (∀ (p : Fin 8) (f : EthFrame) (s : State), (f.wellFormed = true → f.body = .pause →
    exec (.switchFrameRx p f) s = .next s) ∧ (f.wellFormed = false → exec (.switchFrameRx p f) s = .fault .illFormed)) ∧
  (∀ (p : Fin 8) (pcp : Nat) (f : EthFrame) (rest : List EthFrame) (s : State), linkUp s p.val = true →
    busyRes s (.ethPort p.val) = false → heldBack s p.val = false → topQueue s p.val = some pcp →
    egressQ s p.val pcp = f :: rest →
    exec (.egressFrameStart p) s = .next (emitOut { s with net := { s.net with
      egress := tset [] s.net.egress (p.val * 8 + pcp) rest,
      sending := (p.val, rawNow s + frameRaw s p.val f, f) :: s.net.sending.filter (fun x => decide (rawNow s < x.2.1)) } }
      (match f.body with | .ptp m => .ptp p.val m | _ => .frame p.val f))) ∧
  (∀ (pl : Fin 2) (m : BitVec 48) (s : State), ∃ t, exec (.macAgeing pl m) s = .next t ∧
    t = { s with net := { s.net with mac := t.net.mac } } ∧ ∀ x, x ∈ t.net.mac ↔
      x ∈ s.net.mac ∧ ¬(x.1 = pl.val ∧ x.2.1 = m ∧ x.2.2.2 + msRaw 300000 ≤ rawNow s)) ∧
  (∀ (p : Fin 8) (l : LinkLevel) (up giga able : Bool) (s : State), up = decide (l ≠ .down) → giga = decide (l = .up1000) →
    able = (bit s (Reg.netPortCfg p.val) 0 && bit s (Reg.netPortCfg p.val) (if giga then 1 else 2)) →
    ((up = linkUp s p.val ∧ giga = portGiga s p.val) ∨ (up = true ∧ able = false) →
      exec (.linkChanged p l) s = .next s) ∧
    (¬(up = linkUp s p.val ∧ giga = portGiga s p.val) → (up = true → able = true) → ∃ u v,
      u = satAdd (setBit (setBit (setBit (setBit s (Reg.netPortStatus p.val) 0 up) (Reg.netPortStatus p.val) 1 giga)
        Reg.netStatus p.val up) Reg.netStatus (8 + p.val) giga) (Reg.netPortStatus p.val) 15 8 1 ∧
      v = raise Ev.linkChanged p.val 0 (match l with | .down => 0 | .up1000 => 1 | .up100 => 2)
        (if up then u else dropPdelay p.val (stick u Reg.netError 0)) ∧
      exec (.linkChanged p l) s = .next (if up = true ∧ planeIp v (planeOf p.val) ≠ 0 then engineSend (planeOf p.val)
        (arpFrame v (planeOf p.val) true broadcast (planeIp v (planeOf p.val))) v else v))) ∧
  (∀ (pl : Fin 2) (ip : Word) (e : ArpEntry) (s : State), arpEntry s pl.val ip = some e →
    e.at_ + msRaw 60000 ≤ rawNow s →
    exec (.arpRefresh pl ip) s = .next (if 3 ≤ e.tries then { s with net := { s.net with arp := s.net.arp.erase e } }
      else engineSend pl.val (arpFrame s pl.val true (e.mac.getD broadcast) ip)
        (putArp { e with at_ := rawNow s, tries := e.tries + 1 } s))) ∧
  (∀ s : State, exec .netArpFlush s = .next { s with net := { s.net with arp := [] } }) ∧
  (∀ s : State, exec .netClearCounts s = .next ((List.range 8).foldl (fun s p => setFld s (Reg.netPortStatus p) 31 8 0)
    (setReg (setReg s Reg.netRxCounts 0) Reg.netRxCountsB 0))) ∧
  (∀ (pl : Fin 2) (p : Nat) (f : EthFrame) (t : Dword) (s : State),
    s.net.engine.find? (fun x => decide (x.1 = pl.val)) = some (p, f, t) → ∃ u,
    u = { s with net := { s.net with engine := s.net.engine.erase (p, f, t) } } ∧
    exec (.frameReceive pl) s = .next (classify pl.val f t u) ∧
    (f.body ≠ .pause → (∀ m, f.body ≠ .ptp m) → f.checks = false →
      exec (.frameReceive pl) s = .next (satAdd u Reg.netRxCounts 7 0 1)))

/-- A committed NET_FLOW_CFG that sets VALID of an invalid context and passes every check resets the context's state and
status and takes the value; one that fails a check is refused with the check's code; one that leaves VALID set is refused with
code 6; one that clears VALID is taken, unless the Chronograph runs and its active bank names the context in an EMIT, which is
refused with code 6. A waiting pull reply, in a module that sends outputs, of a VALID context with no poisoned block, whose
destination on its plane resolves, leaves with the next counter and the context's bytes of OUTPUT. A tunnel that transmits, in
a module that is not a standby, sends its held frames, at most BATCH, once BATCH are held or HOLD has passed since the first
was received, in one datagram with the next counter to each of its planes with an address, and keeps the rest. -/
def Obligations.ProcessDataAndTunnels : Prop :=
  (∀ (f : Fin 1024) (v w : Word) (s : State), w = committed s (Reg.netFlowCfg f.val) v →
    (getReg s (Reg.netFlowCfg f.val)).getLsbD 0 = false → w.getLsbD 0 = true →
    (flowReason s f.val w = 0 → exec (.netFlowCfgWrite f v) s =
      .next (setReg (setReg (setFlow s f.val flow0) (Reg.netFlowStat f.val) 0) (Reg.netFlowCfg f.val) w)) ∧
    (flowReason s f.val w ≠ 0 → exec (.netFlowCfgWrite f v) s =
      .next (refuseNet (flowReason s f.val w) (Reg.netFlowCfg f.val) s))) ∧
  (∀ (f : Fin 1024) (v w : Word) (s : State), w = committed s (Reg.netFlowCfg f.val) v →
    (getReg s (Reg.netFlowCfg f.val)).getLsbD 0 = true → w.getLsbD 0 = true →
    exec (.netFlowCfgWrite f v) s = .next (refuseNet 6 (Reg.netFlowCfg f.val) s)) ∧
  (∀ (f : Fin 1024) (v w : Word) (s : State), w = committed s (Reg.netFlowCfg f.val) v →
    (getReg s (Reg.netFlowCfg f.val)).getLsbD 0 = true → w.getLsbD 0 = false →
    (running s = true ∧ emitNamed s f.val = true →
      exec (.netFlowCfgWrite f v) s = .next (refuseNet 6 (Reg.netFlowCfg f.val) s)) ∧
    (¬(running s = true ∧ emitNamed s f.val = true) →
      exec (.netFlowCfgWrite f v) s = .next (setReg s (Reg.netFlowCfg f.val) w))) ∧
  (∀ (f : Fin 1024) (plane : Nat) (ip comId : Word) (m : BitVec 48) (s u v w : State),
    (flow s f.val).reply = some (plane, ip, comId) → u = setFlow s f.val { flow s f.val with reply := none } →
    sendsOutputs u = true → (flowCfg u f.val).getLsbD 0 = true → poisonedBlock u (flowOffset u f.val) (flowLen u f.val) = none →
    resolve plane (planeDest u plane ip) u = (some m, v) →
    w = setReg (setFlow v f.val { flow v f.val with
      replies := (flow v f.val).replies + 1, unresolved := (flow v f.val).unresolved.filter (· ≠ plane) })
      (Reg.netFlowSeq f.val) ((flow v f.val).replies + 1) →
    exec (.pullReplyTx f) s = .next (engineSend plane (trdpFrame w plane m (planeDest u plane ip) (pdPort w)
      (some (BitVec.ofNat 12 (max 1 (fld w (Reg.netFlowVlan f.val) 11 0)),
        BitVec.ofNat 3 (wordFld (flowCfg w f.val) 12 10)))
      (pdTelegram w .pp ((flow v f.val).replies + 1) comId 0 0
        (readBytes w.sound ((region w 3).1 + flowOffset w f.val) (flowLen w f.val)))) w)) ∧
  (∀ (k : Fin 8) (batch : Nat) (s u : State), batch = fld s (Reg.netTunCfg k.val) 19 16 + 1 →
    (tget tunnel0 s.net.tunnels k.val).held ≠ [] →
    (batch ≤ (tget tunnel0 s.net.tunnels k.val).held.length ∨ nth 0 (tget tunnel0 s.net.tunnels k.val).since 0
      + usRaw (10 * fld s (Reg.netTunCfg k.val) 27 20) ≤ rawNow s) → bit s (Reg.netTunCfg k.val) 0 = true →
    bit s (Reg.netTunCfg k.val) 1 = true → standsBy s = false →
    u = { s with net := { s.net with tunnels := tset tunnel0 s.net.tunnels k.val { tget tunnel0 s.net.tunnels k.val with
      held := (tget tunnel0 s.net.tunnels k.val).held.drop batch, since := (tget tunnel0 s.net.tunnels k.val).since.drop batch,
      counter := (tget tunnel0 s.net.tunnels k.val).counter + 1 } } } →
    exec (.tunnelDatagramSend k) s = .next (([0, 1].filter (fun pl => (getReg s (Reg.netTunCfg k.val)).getLsbD (9 + pl)
      && decide (planeIp u pl ≠ 0))).foldl (fun t plane =>
        match resolve plane (planeDest t plane (getReg t (Reg.netTunDst k.val))) t with
        | (some mac, t') => engineSend plane {
            dst := mac, src := planeMac t' plane, tag := some (1, 5), checks := true,
            body := .tunnel (trafficIp t' plane) (planeDest t plane (getReg t (Reg.netTunDst k.val))) (tunPort t')
              ⟨BitVec.ofNat 8 k.val, BitVec.ofNat 8 (fld s (Reg.netTunCfg k.val) 8 4),
                (tget tunnel0 s.net.tunnels k.val).counter + 1, (tget tunnel0 s.net.tunnels k.val).held.take batch⟩,
            bytes := [] } t'
        | (none, t') => t') u))

/-- An MD_NOTIFY, MD_REPLY, MD_CONFIRM or RAW_FRAME descriptor that its ring may start next and that is read without a bad
journal word, of a legal length and with a plane that has link and, but for raw frames, an address, is marked STARTED and its
frame tried on those planes; an MD_REQUEST or MD_REPLY_QUERY with a timeout also takes one of the 32 supervision entries. An
MD_NOTIFY shorter than its send header completes with REFUSED, reason 1. The send whose frames have left completes with DONE
and its planes; a destination unresolved for 100 ms with REFUSED, reason 3; a supervision entry that expires leaves with
MD_REPLY_TIMEOUT. A receive buffer that its ring may start next is refused with reason 4 where it has less than 1,536 bytes,
and otherwise stays accepted until a message fills it. -/
def Obligations.MessageDataTakesEffect : Prop :=
  (∀ (k : Fin 64) (op : Nat) (r : JRecord) (s z u v : State) (x : MdSend) (planes : List Nat), op ∈ [1, 3, 5] →
    startRec s k.val 1 op = (some r, z) → 32 ≤ r.desc.len.toNat → r.desc.len.toNat ≤ 1388 →
    planes = (mdPlanes r.desc).filter (fun p => planeLink z p && decide (planeIp z p ≠ 0)) → planes ≠ [] →
    u = markRec z k.val r.desc.seq .started → (x, v) = trySend op r ⟨k.val, r.desc.seq, [], rawNow u, planes, []⟩ u →
    (op = 1 → exec (.mdNotify k) s = .next (setSends v (v.net.sends ++ [x]))) ∧
    (op = 3 → exec (.mdReply k) s = .next (setSends v (v.net.sends ++ [x]))) ∧
    (op = 5 → exec (.mdConfirm k) s = .next (setSends v (v.net.sends ++ [x])))) ∧
  (∀ (k : Fin 64) (op : Nat) (r : JRecord) (s z u v : State) (x : MdSend) (planes : List Nat), op ∈ [2, 4] →
    startRec s k.val 1 op = (some r, z) → 32 ≤ r.desc.len.toNat → r.desc.len.toNat ≤ 1388 →
    planes = (mdPlanes r.desc).filter (fun p => planeLink z p && decide (planeIp z p ≠ 0)) → planes ≠ [] →
    sendField r.payload 24 4 ≠ 0 → z.net.superv.length < 32 → u = markRec z k.val r.desc.seq .started →
    (x, v) = trySend op r ⟨k.val, r.desc.seq, [], rawNow u, planes, []⟩
      { u with net := { u.net with superv := u.net.superv ++ [⟨k.val, r.desc.seq,
        BitVec.ofNat 128 (beVal ((r.payload.drop 8).take 16)), rawNow u + usRaw (sendField r.payload 24 4)⟩] } } →
    (op = 2 → exec (.mdRequest k) s = .next (setSends v (v.net.sends ++ [x]))) ∧
    (op = 4 → exec (.mdReplyQuery k) s = .next (setSends v (v.net.sends ++ [x])))) ∧
  (∀ (k : Fin 64) (r : JRecord) (s z u v : State) (x : MdSend) (planes : List Nat), startRec s k.val 1 16 = (some r, z) →
    14 ≤ r.desc.len.toNat → r.desc.len.toNat ≤ 1518 → planes = (mdPlanes r.desc).filter (planeLink z) → planes ≠ [] →
    u = markRec z k.val r.desc.seq .started → (x, v) = trySend 16 r ⟨k.val, r.desc.seq, [], rawNow u, planes, []⟩ u →
    exec (.rawFrame k) s = .next (setSends v (v.net.sends ++ [x]))) ∧
  (∀ (k : Fin 64) (r : JRecord) (s z : State), startRec s k.val 1 1 = (some r, z) → r.desc.len.toNat < 32 →
    exec (.mdNotify k) s = .next (finishDesc z k.val r.desc.seq .refused 1)) ∧
  (∀ (k : Fin 64) (x : MdSend) (s : State), s.net.sends.find? (fun x => decide (x.ring = k.val) && x.open_.isEmpty
      && !(x.frames.any (frameWaits s))) = some x →
    exec (.mdSendCommit k) s =
      .next (finishDesc (setSends s (s.net.sends.erase x)) k.val x.seq .done (planeBits x.sent * 256))) ∧
  (∀ (k : Fin 64) (x : MdSend) (s : State), s.net.sends.find? (fun x => decide (x.ring = k.val) && !x.open_.isEmpty
      && decide (x.first + msRaw 100 ≤ rawNow s)) = some x →
    exec (.mdUnresolvedTimeout k) s =
      .next (finishDesc (setSends s (s.net.sends.erase x)) k.val x.seq .refused (3 + planeBits x.sent * 256))) ∧
  (∀ (id : BitVec 128) (x : Superv) (s : State),
    s.net.superv.find? (fun x => decide (x.session = id) && decide (x.expires ≤ rawNow s)) = some x →
    exec (.mdReplyTimeout id) s = .next (raise Ev.mdReplyTimeout 0xFF 0 x.seq.toNat
      { s with net := { s.net with superv := s.net.superv.erase x } })) ∧
  (∀ (k : Fin 64) (r : JRecord) (s z : State), startRec s k.val 2 1 = (some r, z) →
    (r.desc.len.toNat < 1536 → exec (.netRxBuffer k) s = .next (finishDesc z k.val r.desc.seq .refused 4)) ∧
    (1536 ≤ r.desc.len.toNat → exec (.netRxBuffer k) s = .next z))

/-- A committed write that enables a connection which is not enabled, and passes every check, takes its value, and the
connection of a flow that receives is in WAIT, of one that sends in SEND. One with ENABLE set to an enabled connection that
passes the checks and whose flow has the direction of its state takes the value and changes nothing else. One that fails a
check is refused with the check's code and changes nothing but CFG_RESULT and what an event changes. A write that disables a
connection leaves it DISABLED with its value. RESET_FAULT of a connection in FAULT leaves it in WAIT, of any other is refused
with reason 7. CLEAR_COUNTS zeroes every connection's rejection count and no other field. -/
def Obligations.SafeConnectionCommands : Prop :=
  (∀ (c : Fin 128) (v w : Word) (s : State), Sound s = true → w = committed s (Reg.safeConnCfg c.val) (v ||| 1) →
    wordFld w 0 0 = 1 → bit s (Reg.safeConnCfg c.val) 0 = false → connReason s c.val w = 0 → ∃ t,
    exec (.safeConnEnable c v) s = .next t ∧ getReg t (Reg.safeConnCfg c.val) = w ∧
    connState t c.val = (if bit s (Reg.netFlowCfg (wordFld w 13 4)) 1 then 1 else 5) ∧ t = { s with regs := t.regs } ∧
    (∀ k, k ≠ Reg.safeConnCfg c.val → k ≠ Reg.safeConnStatus c.val → k ≠ Reg.safeStatus → getReg t k = getReg s k)) ∧
  (∀ (c : Fin 128) (v w : Word) (s : State), w = committed s (Reg.safeConnCfg c.val) (v ||| 1) → wordFld w 0 0 = 1 →
    bit s (Reg.safeConnCfg c.val) 0 = true → connReason s c.val w = 0 →
    bit s (Reg.netFlowCfg (wordFld w 13 4)) 1 = decide (connState s c.val ≠ 5) →
    exec (.safeConnEnable c v) s = .next (setReg s (Reg.safeConnCfg c.val) w)) ∧
  (∀ (c : Fin 128) (v w : Word) (s : State), w = committed s (Reg.safeConnCfg c.val) (v ||| 1) → wordFld w 0 0 = 1 →
    connReason s c.val w ≠ 0 → ∃ u t, u = setReg s Reg.safeCfgResult (BitVec.ofNat 32 (connReason s c.val w + c.val * 256)) ∧
    exec (.safeConnEnable c v) s = .next t ∧ t = raise Ev.safeCfgRefused c.val (connFlow u c.val) (connReason s c.val w) u ∧
    OnlyEvents u t) ∧
  (∀ (c : Fin 128) (v w : Word) (s : State), Sound s = true → w = committed s (Reg.safeConnCfg c.val) (v &&& ~~~1) →
    wordFld w 0 0 = 0 → ∃ t, exec (.safeConnDisable c v) s = .next t ∧ getReg t (Reg.safeConnCfg c.val) = w ∧
    connState t c.val = 0 ∧ t = { s with regs := t.regs } ∧
    (∀ k, k ≠ Reg.safeConnCfg c.val → k ≠ Reg.safeConnStatus c.val → k ≠ Reg.safeStatus → getReg t k = getReg s k)) ∧
  (∀ (c : Fin 128) (s : State), Sound s = true → connState s c.val = 4 → ∃ t, exec (.safeResetFault c) s = .next t ∧
    connState t c.val = 1 ∧ t = { s with regs := t.regs } ∧
    (∀ k, k ≠ Reg.safeConnStatus c.val → k ≠ Reg.safeStatus → getReg t k = getReg s k)) ∧
  (∀ (c : Fin 128) (s : State), connState s c.val ≠ 4 → ∃ u t, u = setReg s Reg.safeCfgResult (BitVec.ofNat 32 (7 + c.val * 256)) ∧
    exec (.safeResetFault c) s = .next t ∧ t = raise Ev.safeCfgRefused c.val (connFlow u c.val) 7 u ∧ OnlyEvents u t) ∧
  (∀ (c : Fin 128) (s : State), Sound s = true → ∃ t, exec .safeClearCounts s = .next t ∧
    fld t (Reg.safeConnStatus c.val) 31 16 = 0 ∧ fld t (Reg.safeConnStatus c.val) 15 0 = fld s (Reg.safeConnStatus c.val) 15 0 ∧
    t = { s with regs := t.regs } ∧ (∀ k, (∀ d < 128, k ≠ Reg.safeConnStatus d) → getReg t k = getReg s k))

/-- On a channel that is enabled and error active or passive: CAN_RX_ERROR notes the error and, unless the channel only
listens, adds 8 or 1 to REC; CAN_FRAME_RX of a well-formed frame, outside loopback and of a format that FD admits, counts a
good reception, looks for a foreign reference message, lets a standby mark the mirrored record that it matches and hands the
frame to the lowest matching filter, its time stamp in steps of 12.5 ns (model's choice of grid: assumption log 100); an FD
frame with FD 0 and PEX 1 puts the channel into JOINING, with PEX 0 counts as a form error. A frame that no filter takes and
the channel does not keep is dropped with reason 2. CAN_RX_BUFFER reads the next accepted buffer record of its CAN_RX ring:
one of less than 80 bytes is REFUSED with reason 4, a longer one stays and supplies room. -/
def Obligations.CanReceptionTakesEffect : Prop :=
  (∀ (c : Fin 20) (e : CanErr) (dataPhase heavy : Bool) (s : State), chOnBus s (c.val + 1) = true →
    ∃ u, u = noteCanErr (c.val + 1) e dataPhase false s ∧
      exec (.canRxError c e dataPhase heavy) s = .next (if listenOnly u (c.val + 1) then u
        else setCounters (c.val + 1) (tec u (c.val + 1)) (rec_ u (c.val + 1) + if heavy then 8 else 1) 0 u)) ∧
  (∀ (c : Fin 20) (f : CanFrame) (sofNs : Word) (s : State), f.wellFormed = true → chOnBus s (c.val + 1) = true →
    chLoopback s (c.val + 1) = false → (f.fdf = true → bit s (Reg.canChCfg (c.val + 1)) 3 = true) → ∃ sof,
    sof.toNat = (corrected s - sofNs.setWidth 64).toNat * 2 / 25 * 25 / 2 ∧
    exec (.canFrameRx c f sofNs) s = .next (filterFrame (c.val + 1) f sof
      (seenFrame (c.val + 1) f sof (refForeign (c.val + 1) f (rxGood (c.val + 1) s))))) ∧
  (∀ (c : Fin 20) (f : CanFrame) (sofNs : Word) (s : State), f.wellFormed = true → chOnBus s (c.val + 1) = true →
    chLoopback s (c.val + 1) = false → f.fdf = true → bit s (Reg.canChCfg (c.val + 1)) 3 = false →
    exec (.canFrameRx c f sofNs) s = if bit s (Reg.canChCfg (c.val + 1)) 4 then .next (setChState s (c.val + 1) 1)
      else exec (.canRxError c .form false false) s) ∧
  (∀ (n : Nat) (f : CanFrame) (sof : Dword) (s : State), (enabledFilters s).find? (fltMatches s n f) = none →
    bit s (Reg.canChCfg n) 9 = false →
    filterFrame n f sof s = raise Ev.canRxDrop n (idWord f) 2 (stick (satAdd s (Reg.canChCounts n) 31 24 1) Reg.canError 4)) ∧
  (∀ (k : Fin 64) (r : JRecord) (s z : State), startRec s k 4 1 = (some r, z) →
    exec (.canRxBuffer k) s = .next (if r.desc.len.toNat < 80 then finishDesc z k r.desc.seq .refused 4 else z))

/-- CAN_TX_FRAME reads the next accepted frame of a CAN_TX ring (R102): one that fails a check of R241 is REFUSED with its
reason; with an entry free it enters its channel's queue, STARTED. CAN_TX_ATTEMPT on a channel on the bus that may send, with
no frame in flight, starts the frame that wins arbitration: one attempt more, its SOF time in steps of 12.5 ns, its ESI bit,
and what is measured of the loop delay. CAN_TX_COMMIT of a ring frame completes it DONE with its SOF time, takes 1 from a TEC
above 0 and puts the frame on the bus, or in loopback through the filters. CAN_TX_ERROR with lost arbitration ends the attempt
and clears CLASH_RUN; with an error that counts it notes the error, counts a clash, ends the attempt and adds 8 to TEC; with
an error after an attempt on a channel that is on the bus and sends it adds 8 to TEC. CAN_SUSPEND_END of a suspended channel
lets it send the frame that wins then, or nothing where none is left. CAN_DEADLINE_EXPIRY takes a ring's expired frame that
has not started out of the queue and completes it EXPIRED with its attempts modulo 256 in bits 15:8. After the end of a frame
a channel in loopback takes the recovery profile. -/
def Obligations.CanTransmissionTakesEffect : Prop :=
  (∀ (k : Fin 64) (r : JRecord) (s z : State) (n : Nat), startRec s k 3 1 = (some r, z) → n = ringUnit z k →
    txReason z n r.desc r.payload ≠ 0 →
    exec (.canTxFrame k) s = .next (showTxq n (finishDesc z k r.desc.seq .refused (txReason z n r.desc r.payload)))) ∧
  (∀ (k : Fin 64) (r : JRecord) (s z : State) (n : Nat), startRec s k 3 1 = (some r, z) → n = ringUnit z k →
    txReason z n r.desc r.payload = 0 → canShared z n < 31 →
    exec (.canTxFrame k) s = .next (setQueue (markRec z k r.desc.seq .started) n
      ((chan (markRec z k r.desc.seq .started) n).queue ++
        [⟨frameOf r.payload, .ring k r.desc.seq (descFlag r.desc 2) (if descFlag r.desc 1 then some r.desc.spec else none),
          0, none⟩]))) ∧
  (∀ (c : Fin 20) (ld : BitVec 16) (i : Nat) (e : TxEntry) (s : State), chOnBus s (c.val + 1) = true →
    listenOnly s (c.val + 1) = false →
    (chan s (c.val + 1)).suspend = false → (chan s (c.val + 1)).queue.any (fun e => e.sof.isSome) = false →
    s.tap.acting = none → winner s (chan s (c.val + 1)).queue = some i → (chan s (c.val + 1)).queue[i]? = some e →
    exec (.canTxAttempt ⟨c, ld⟩) s = .next (setChan s (c.val + 1) { chan s (c.val + 1) with
      loopDelay := (measureLoop s (c.val + 1) ld.toNat e.frame).1
      ssp := (measureLoop s (c.val + 1) ld.toNat e.frame).2
      queue := (chan s (c.val + 1)).queue.modify i (fun e => { e with
        attempts := e.attempts + 1, sof := some (canStamp (corrected s)),
        frame := { e.frame with esi := e.frame.fdf && decide (chState s (c.val + 1) = 3) } }) })) ∧
  (∀ (c : Fin 20) (e : TxEntry) (rest : List TxEntry) (k : Nat) (seq : Word) (single : Bool) (d : Option Dword) (s : State),
    inFlight s (c.val + 1) = some (e, rest) → e.src = .ring k seq single d → ∃ u v,
      u = finishDesc (setFld (setQueue s (c.val + 1) rest) (Reg.canChTxq (c.val + 1)) 9 8 0) k seq .done (e.sof.getD 0).toNat ∧
      v = beginSuspend (c.val + 1) (decide (chState s (c.val + 1) = 3)) (if 0 < tec u (c.val + 1) then
        setCounters (c.val + 1) (tec u (c.val + 1) - 1) (rec_ u (c.val + 1)) 0 u else u) ∧
      exec (.canTxCommit c) s = .next (loopProfile (c.val + 1)
        (if chLoopback v (c.val + 1) then filterFrame (c.val + 1) e.frame (e.sof.getD 0) v
        else emitOut v (.can (c.val + 1) e.frame)))) ∧
  (∀ (c : Fin 20) (e : TxEntry) (rest : List TxEntry) (s : State), inFlight s (c.val + 1) = some (e, rest) →
    exec (.canTxError c .lost) s = .next (loopProfile (c.val + 1) (endAttempt (c.val + 1) 8 e rest
      (setFld s (Reg.canChTxq (c.val + 1)) 9 8 0)))) ∧
  (∀ (c : Fin 20) (e : TxEntry) (rest : List TxEntry) (err : CanErr) (dataPhase late : Bool) (s : State),
    inFlight s (c.val + 1) = some (e, rest) → ∃ u,
      u = endAttempt (c.val + 1) (canErrCode err) e rest (clashRun (c.val + 1) e.frame
        (late && (decide (err = .bit0) || decide (err = .bit1))) (noteCanErr (c.val + 1) err dataPhase true s)) ∧
      exec (.canTxError c (.error err dataPhase late false)) s = .next (loopProfile (c.val + 1) (beginSuspend (c.val + 1)
        (decide (chState s (c.val + 1) = 3)) (setCounters (c.val + 1) (tec u (c.val + 1) + 8) (rec_ u (c.val + 1))
          (canErrCode err) u)))) ∧
  (∀ (c : Fin 20) (b : Bool) (s : State), inFlight s (c.val + 1) = none → chOnBus s (c.val + 1) = true →
    listenOnly s (c.val + 1) = false → ∃ u, u = (if b then noteCanErr (c.val + 1) .bit0 false true s else s) ∧
      exec (.canTxError c (.flag b)) s = .next (setCounters (c.val + 1) (tec u (c.val + 1) + 8) (rec_ u (c.val + 1)) 0 u)) ∧
  (∀ (c : Fin 20) (ld : BitVec 16) (s u : State), (chan s (c.val + 1)).suspend = true →
    u = setChan s (c.val + 1) { chan s (c.val + 1) with suspend := false } →
    exec (.canSuspendEnd ⟨c, ld⟩) s = exec (.canTxAttempt ⟨c, ld⟩) u ∧
    (winner u (chan u (c.val + 1)).queue = none → exec (.canSuspendEnd ⟨c, ld⟩) s = .next u)) ∧
  (∀ (c : Fin 20) (ld : BitVec 16) (i : Nat) (e : TxEntry) (s u : State), (chan s (c.val + 1)).suspend = true →
    u = setChan s (c.val + 1) { chan s (c.val + 1) with suspend := false } → chOnBus u (c.val + 1) = true →
    listenOnly u (c.val + 1) = false → (chan u (c.val + 1)).suspend = false →
    (chan u (c.val + 1)).queue.any (fun e => e.sof.isSome) = false →
    u.tap.acting = none → winner u (chan u (c.val + 1)).queue = some i → (chan u (c.val + 1)).queue[i]? = some e →
    exec (.canSuspendEnd ⟨c, ld⟩) s = .next (setChan u (c.val + 1) { chan u (c.val + 1) with
      loopDelay := (measureLoop u (c.val + 1) ld.toNat e.frame).1
      ssp := (measureLoop u (c.val + 1) ld.toNat e.frame).2
      queue := (chan u (c.val + 1)).queue.modify i (fun e => { e with
        attempts := e.attempts + 1, sof := some (canStamp (corrected u)),
        frame := { e.frame with esi := e.frame.fdf && decide (chState u (c.val + 1) = 3) } }) })) ∧
  (∀ (c : Fin 20) (i : Nat) (f : CanFrame) (k : Nat) (seq : Word) (single : Bool) (d : Option Dword) (n : Nat)
    (o : Option Dword) (s : State),
    (chan s (c.val + 1)).queue.findIdx? (fun e => pastDeadline s e && e.sof.isNone) = some i →
    (chan s (c.val + 1)).queue[i]? = some ⟨f, .ring k seq single d, n, o⟩ →
    exec (.canDeadlineExpiry c) s = .next (finishDesc (setQueue s (c.val + 1) ((chan s (c.val + 1)).queue.eraseIdx i)) k seq
      .expired (n % 256 * 256)))

/-- In AUTO the recovery sequence of a channel with its supply starts RECOVERY_DELAY ms after bus-off; RECOVER of a channel in
bus-off starts it at once, or without its group's supply when the supply returns, and of any other channel is refused with
code 10. When it completes, TEC and REC are 0, the channel is error active, waits for no idle bus and shows whether it only
listens, BUS_OFF_RECOVERED is raised with DETAIL_A 0 and the milliseconds since bus-off in DETAIL_B, and then the profile
becomes what R230 gives an integrated channel. 11 recessive bits take a JOINING channel to error passive where TEC or REC is
128 or more, else error active; one in bus-off or recovering only ceases to wait for them. CLEAR_COUNTS zeroes the channel's
counts and the error count. A supply fault raises GROUP_SUPPLY_FAULT with the mask of the group's channels, then puts its
enabled channels into bus-off and leaves all four without supply. A supply's return shows in CAN_GROUP_STATUS; a channel
without it has it again, and one in bus-off for which RECOVER has waited starts its recovery. -/
def Obligations.CanRecoveryTakesEffect : Prop :=
  (∀ (c : Fin 20) (s : State), chEnabled s (c.val + 1) = true → chState s (c.val + 1) = 4 →
    bit s (Reg.canChCfg (c.val + 1)) 6 = false → (chan s (c.val + 1)).noSupply = false →
    (chan s (c.val + 1)).busOffAt + msRaw (fld s (Reg.canChCfg (c.val + 1)) 23 16) ≤ rawNow s →
    exec (.canRecoveryStart c) s = .next (setChState s (c.val + 1) 5)) ∧
  (∀ (c : Fin 20) (s : State), chEnabled s (c.val + 1) = true → chState s (c.val + 1) = 4 →
    (chan s (c.val + 1)).noSupply = false → exec (.canCmdRecover c) s = .next (setChState s (c.val + 1) 5)) ∧
  (∀ (c : Fin 20) (s : State), chEnabled s (c.val + 1) = true → chState s (c.val + 1) = 4 →
    (chan s (c.val + 1)).noSupply = true →
    exec (.canCmdRecover c) s = .next (setChan s (c.val + 1) { chan s (c.val + 1) with recovery := true })) ∧
  (∀ (c : Fin 20) (s : State), (chEnabled s (c.val + 1) = false ∨ chState s (c.val + 1) ≠ 4) →
    exec (.canCmdRecover c) s = .next (refuseCan (c.val + 1) 10 Reg.canCmd s)) ∧
  (∀ (c : Fin 20) (s : State), Sound s = true → chEnabled s (c.val + 1) = true → chState s (c.val + 1) = 5 → ∃ u,
    tec u (c.val + 1) = 0 ∧ rec_ u (c.val + 1) = 0 ∧ chState u (c.val + 1) = 2 ∧
    bit u (Reg.canChStatus (c.val + 1)) 4 = listenOnly u (c.val + 1) ∧
    u = { setChan s (c.val + 1) { chan s (c.val + 1) with waitIdle := false } with regs := u.regs } ∧
    (∀ k, k ≠ Reg.canChStatus (c.val + 1) → k ≠ Reg.canBusoff → k ≠ Reg.canPassive → getReg u k = getReg s k) ∧
    exec (.canRecoveryDone c) s = .next (integratedProfile (c.val + 1)
      (raise Ev.busOffRecovered (c.val + 1) 0 ((rawNow s - (chan s (c.val + 1)).busOffAt) / msRaw 1) u))) ∧
  (∀ (c : Fin 20) (s : State), chEnabled s (c.val + 1) = true → chState s (c.val + 1) = 1 →
    exec (.canIntegration c) s = .next (showListen (c.val + 1) (integratedProfile (c.val + 1)
      (setChState (setChan s (c.val + 1) { chan s (c.val + 1) with waitIdle := false }) (c.val + 1)
        (if 128 ≤ tec s (c.val + 1) ∨ 128 ≤ rec_ s (c.val + 1) then 3 else 2))))) ∧
  (∀ (c : Fin 20) (s : State), chEnabled s (c.val + 1) = true → 4 ≤ chState s (c.val + 1) →
    exec (.canIntegration c) s = .next (showListen (c.val + 1)
      (setChan s (c.val + 1) { chan s (c.val + 1) with waitIdle := false }))) ∧
  (∀ (c : Fin 20) (s : State), exec (.canClearCounts c) s = .next (setFld (setReg s (Reg.canChCounts (c.val + 1)) 0)
    (Reg.canChLastErr (c.val + 1)) 31 16 0)) ∧
  (∀ (g : Fin 5) (s : State), bit s Reg.canGroupStatus g.val = true → ∃ u,
    u = raise Ev.groupSupplyFault (g.val + 1) 0 (15 * 2 ^ (4 * g.val))
      (stick (setBit s Reg.canGroupStatus g.val false) Reg.canError 7) ∧
    exec (.groupSupplyFault g) s = .next ((groupChannels (g.val + 1)).foldl (fun s n =>
      let v := if chEnabled s n = false then s else if chState s n = 4 ∨ chState s n = 5 then setChState s n 4 else busOff n 0 s
      setChan v n { chan v n with noSupply := true, recovery := false }) u)) ∧
  (∀ (g : Fin 5) (s : State), ∃ u, u = setBit s Reg.canGroupStatus g.val true ∧
    exec (.groupSupplyReturn g) s = .next ((groupChannels (g.val + 1)).foldl (fun s n =>
      let v := setChan s n { chan s n with noSupply := false, recovery := false }
      if (chan s n).noSupply = false then s
      else if (chan s n).recovery = true ∧ chState s n = 4 then setChState v n 5 else v) u))

/-- A committed write of CAN_CH_CFG that sets ENABLE of a disabled channel and passes every check takes effect: TEC and REC 0,
no warning, the recovery profile, the channel joins the bus, or goes to bus-off where its group is without supply (model's
choice for a channel enabled then: assumption log 101). With ENABLE set on an enabled channel and bits 5:3 as they stood it
takes its value, LISTEN follows, and a channel in loopback with no frame in transmission takes the recovery profile. One that
clears ENABLE with bits 5:3 as they stood and no ring frame queued or waiting empties the queue and leaves the channel
DISABLED. Where a check fails, bits 5:3 change on an enabled channel, or a ring frame stands against clearing ENABLE, the
write is refused: with the check's code, or with code 6. -/
def Obligations.CanEnableTakesEffect : Prop :=
  (∀ (c : Fin 20) (v : Word) (s : State), wordFld (getReg s (Reg.canChCfg (c.val + 1))) 0 0 = 0 →
    wordFld (committed s (Reg.canChCfg (c.val + 1)) (v ||| 1)) 0 0 = 1 →
    chReason s (c.val + 1) (committed s (Reg.canChCfg (c.val + 1)) (v ||| 1)) = 0 →
    ∃ u, u = setProfile (c.val + 1) 1 (setChState (setBit
      (setFld (setFld (setReg s (Reg.canChCfg (c.val + 1)) (committed s (Reg.canChCfg (c.val + 1)) (v ||| 1)))
        (Reg.canChStatus (c.val + 1)) 16 8 0) (Reg.canChStatus (c.val + 1)) 31 24 0)
      (Reg.canChStatus (c.val + 1)) 5 false) (c.val + 1) 1) ∧
    exec (.canChEnable c v) s = .next (showListen (c.val + 1)
      (if (chan u (c.val + 1)).noSupply then busOff (c.val + 1) 0 u else u))) ∧
  (∀ (c : Fin 20) (v : Word) (s : State), wordFld (getReg s (Reg.canChCfg (c.val + 1))) 0 0 = 0 →
    wordFld (committed s (Reg.canChCfg (c.val + 1)) (v ||| 1)) 0 0 = 1 →
    chReason s (c.val + 1) (committed s (Reg.canChCfg (c.val + 1)) (v ||| 1)) ≠ 0 →
    exec (.canChEnable c v) s = .next (refuseCan (c.val + 1) (chReason s (c.val + 1) (committed s (Reg.canChCfg (c.val + 1)) (v ||| 1)))
      (Reg.canChCfg (c.val + 1)) s)) ∧
  (∀ (c : Fin 20) (v : Word) (s : State), wordFld (getReg s (Reg.canChCfg (c.val + 1))) 0 0 = 1 →
    wordFld (committed s (Reg.canChCfg (c.val + 1)) (v ||| 1)) 0 0 = 1 →
    wordFld (getReg s (Reg.canChCfg (c.val + 1))) 5 3 = wordFld (committed s (Reg.canChCfg (c.val + 1)) (v ||| 1)) 5 3 →
    exec (.canChEnable c v) s = .next (loopProfile (c.val + 1) (showListen (c.val + 1)
      (setReg s (Reg.canChCfg (c.val + 1)) (committed s (Reg.canChCfg (c.val + 1)) (v ||| 1)))))) ∧
  (∀ (c : Fin 20) (v : Word) (s : State), wordFld (getReg s (Reg.canChCfg (c.val + 1))) 0 0 = 1 →
    wordFld (getReg s (Reg.canChCfg (c.val + 1))) 5 3 ≠ wordFld (committed s (Reg.canChCfg (c.val + 1)) (v ||| 1)) 5 3 →
    exec (.canChEnable c v) s = .next (refuseCan (c.val + 1) 6 (Reg.canChCfg (c.val + 1)) s)) ∧
  (∀ (c : Fin 20) (v : Word) (s : State), wordFld (getReg s (Reg.canChCfg (c.val + 1))) 0 0 = 1 →
    wordFld (committed s (Reg.canChCfg (c.val + 1)) (v &&& ~~~1)) 0 0 = 0 →
    (wordFld (getReg s (Reg.canChCfg (c.val + 1))) 5 3 ≠
        wordFld (committed s (Reg.canChCfg (c.val + 1)) (v &&& ~~~1)) 5 3 ∨
      hasRingFrame (chan s (c.val + 1)).queue = true ∨ 0 < canWaiting s (c.val + 1)) →
    exec (.canChDisable c v) s = .next (refuseCan (c.val + 1) 6 (Reg.canChCfg (c.val + 1)) s)) ∧
  (∀ (c : Fin 20) (v : Word) (s : State), wordFld (getReg s (Reg.canChCfg (c.val + 1))) 0 0 = 1 →
    wordFld (committed s (Reg.canChCfg (c.val + 1)) (v &&& ~~~1)) 0 0 = 0 →
    wordFld (getReg s (Reg.canChCfg (c.val + 1))) 5 3 = wordFld (committed s (Reg.canChCfg (c.val + 1)) (v &&& ~~~1)) 5 3 →
    hasRingFrame (chan s (c.val + 1)).queue = false → canWaiting s (c.val + 1) = 0 → ∃ u,
      u = setQueue (setReg s (Reg.canChCfg (c.val + 1)) (committed s (Reg.canChCfg (c.val + 1)) (v &&& ~~~1))) (c.val + 1) [] ∧
      exec (.canChDisable c v) s = .next (showListen (c.val + 1) (setChState (setChan u (c.val + 1)
        { chan u (c.val + 1) with suspend := false, waitIdle := false }) (c.val + 1) 0)))

/-- An access of a VOTING lane, of a core that executes, to an enabled window, aligned and within it, opens a vote when it is
the lane's first of its count, and forms a vote that stands unformed with one VOTING lane's access which it matches. The same
of a SPLIT_RUN lane to a window that is not SAFE forms a vote of its own at once. An access that breaks these rules, or of a
SPLIT_RUN lane to a SAFE window, is an access fault. Of the votes whose coupling window has passed, WINDOW_VOTE_CLOSE takes
the oldest: with one VOTING lane's access and no match it never forms (its cores stay stalled) and WIN_NO_MAJORITY is raised.
On a module that does not stand by: a read, or a store that is not posted, not complete 100 µs after its vote formed completes
with cause TIMEOUT, its repeats dropped; the oldest fence read whose stream has no earlier posted write left, or which formed
100 µs ago, completes with the number of failed and of remaining posted writes and the first failure, and the stream's summary
starts anew. A prefetched block whose hold has passed is discarded. -/
def Obligations.WindowAccessesAreVoted : Prop :=
  (∀ (l : Lane) (core : Fin 4) (kind : WinKind) (addr : BitVec 40) (size : BitVec 2) (data : Dword) (a : WinAcc)
    (s : State), a = ⟨l, core, accKind kind (winOf addr).2 size.toNat, addr, size.toNat, data⟩ → coreActs s l core = true →
    winFaults s a.kind addr size.toNat = false → laneState s l = .voting →
    s.isth.votes.find? (fun v => decide (v.stream = none) && decide (v.index = s.isth.counts.get l)) = none →
    exec (.windowAccess l core kind addr size data) s = .next (matchResults (retryWaiting (setVotes
      { s with isth := { s.isth with counts := s.isth.counts.set l (s.isth.counts.get l + 1), order := s.isth.order + 1 } }
      (s.isth.votes ++
        [⟨none, s.isth.counts.get l, [a], none, s.time.mt, none, 0, s.isth.order, false, none, none, [], false⟩]))))) ∧
  (∀ (l : Lane) (core : Fin 4) (kind : WinKind) (addr : BitVec 40) (size : BitVec 2) (data : Dword) (a b : WinAcc)
    (v : WinVote) (s u : State), a = ⟨l, core, accKind kind (winOf addr).2 size.toNat, addr, size.toNat, data⟩ →
    coreActs s l core = true → winFaults s a.kind addr size.toNat = false → laneState s l = .voting →
    s.isth.votes.find? (fun v => decide (v.stream = none) && decide (v.index = s.isth.counts.get l)) = some v →
    v.chosen = none → v.stuck = false → v.got = [b] → laneVotes s b.lane = true → sameAccess a b = true →
    u = mapVote { s with isth := { s.isth with counts := s.isth.counts.set l (s.isth.counts.get l + 1) } } v.order
      (fun x => { x with got := x.got ++ [a], openMt := v.openMt }) →
    exec (.windowAccess l core kind addr size data) s = .next (matchResults (retryWaiting (formVote v.order b u)))) ∧
  (∀ (l : Lane) (core : Fin 4) (kind : WinKind) (addr : BitVec 40) (size : BitVec 2) (data : Dword) (a : WinAcc)
    (s : State), a = ⟨l, core, accKind kind (winOf addr).2 size.toNat, addr, size.toNat, data⟩ → coreActs s l core = true →
    winFaults s a.kind addr size.toNat = false → laneState s l = .splitRun → winSafe s (winOf addr).1 = false →
    exec (.windowAccess l core kind addr size data) s = .next (matchResults (formVote s.isth.order a (setVotes
      { s with isth := { s.isth with order := s.isth.order + 1 } } (s.isth.votes ++
        [⟨some l, 0, [a], none, s.time.mt, none, 0, s.isth.order, false, none, none, [], false⟩]))))) ∧
  (∀ (l : Lane) (core : Fin 4) (kind : WinKind) (addr : BitVec 40) (size : BitVec 2) (data : Dword) (s : State),
    coreActs s l core = true → (winFaults s (accKind kind (winOf addr).2 size.toNat) addr size.toNat = true ∨
      (laneState s l = .splitRun ∧ winSafe s (winOf addr).1 = true)) →
    exec (.windowAccess l core kind addr size data) s =
      .next (matchResults (accessFault l core addr (decide (kind = .store)) false s))) ∧
  (∀ (v : WinVote) (a : WinAcc) (s : State), s.isth.votes.find? (voteDue s) = some v →
    v.chosen = none → voters s v = [a] → ∃ u, u = mapVote s v.order (fun v => { v with stuck := true }) ∧
    exec .windowVoteClose s = .next (retryWaiting (raise Ev.winNoMajority 0xFF
      (winDetail (winOf a.addr).1 (winOf a.addr).2) 0 (stick u Reg.isthError 5)))) ∧
  (∀ (v : WinVote) (s : State), s.isth.votes.find? (boundPassed s) = some v → standsBy s = false →
    exec .windowAccessTimeout s = .next (retryWaiting (complete v.order .timeout 0 { s with isth := { s.isth with
      retry := s.isth.retry.filter (fun x => decide (x.1.owner ≠ .lane v.order)) } }))) ∧
  (∀ (v : WinVote) (f : FenceSum) (left : Nat) (s : State), s.isth.votes.find? (fenceReady s) = some v → standsBy s = false →
    f = tget fence0 s.isth.fences (streamKey v.stream) → left = (postedBefore s v.stream v.order).length →
    exec .fenceComplete s = .next (complete v.order .none (BitVec.ofNat 64 (min f.failed 0xFFFF + left % 256 * 2 ^ 16
      + f.window * 2 ^ 24 + (if 0 < left then 2 ^ 31 else 0) + f.addr * 2 ^ 32))
      { s with isth := { s.isth with fences := tset fence0 s.isth.fences (streamKey v.stream) fence0 } })) ∧
  (∀ (p : Prefetch) (s : State), s.isth.fetched.find? (fun p => !p.dead
      && decide (p.at_ + usRaw (16 * max 1 (fld s Reg.isthCfg 29 24)) ≤ rawNow s)) = some p →
    exec .prefetchHoldExpiry s = .next (retryWaiting (discardBlock p s)))

/-- A module that drives the crate, with no cycle in progress and its test port not in control, tries the waiting accesses
again and then starts the transfer that is due first. A cycle whose words were all acknowledged ends without a cause; one
ended by BERR before that counts in ISTH_COUNTS and ends with cause BERR; one ended by RETRY counts and, with repeats left,
waits RETRY_GAP with the rest of its words, else ends with cause RETRY. A cycle not acknowledged for BUS_TIMEOUT ends with
cause TIMEOUT and counts for its window. The first operation whose gap has passed is repeated: one of a transfer before all
others, unless its window is LOST (cause LOST) or in reset (cause TIMEOUT); another with no transfer due or near. A ring WRITE
or READ whose ring has none in progress, with legal operands, is STARTED, a WRITE from its first block not acknowledged; with
others it is REFUSED with its reason. A module that stands by notes the write cycles it monitors, acknowledges the mirrored
ring WRITE that an acknowledged one carries on, and takes read words of acknowledged cycles into its own transfers. -/
def Obligations.CrateCyclesTakeEffect : Prop :=
  (∀ (i : Nat) (rest : List Nat) (s u : State), u = retryWaiting s → u.isth.bus = none → drivesCrate u = true →
    u.tap.acting = none → u.isth.due = i :: rest →
    exec .busCycleStart s = .next (startXfer i { u with isth := { u.isth with due := rest } })) ∧
  (∀ (o : BusOp) (ws : List (BitVec 16)) (s : State), s.isth.bus = some o → ws.length = o.count → o.count ≤ 16 →
    exec (.busCycleEnd ws .ack) s = .next (settled { o with got := o.got ++ ws } .none
      (setFld { s with isth := { s.isth with bus := none } } (Reg.isthWinStatus o.window) 7 4 0))) ∧
  (∀ (o : BusOp) (ws : List (BitVec 16)) (s u : State), s.isth.bus = some o → ws.length < o.count → ws.length ≤ 16 →
    u = setFld { s with isth := { s.isth with bus := none } } (Reg.isthWinStatus o.window) 7 4 0 →
    exec (.busCycleEnd ws .berr) s = .next (settled o .berr (satAdd u Reg.isthCounts 7 0 1)) ∧
    (o.retries < retryLimit (satAdd u Reg.isthCounts 23 16 1) o → ∃ v, v = satAdd u Reg.isthCounts 23 16 1 ∧
      exec (.busCycleEnd ws .retry) s = .next { v with isth := { v.isth with
        retry := v.isth.retry ++ [({ restOp o ws with retries := o.retries + 1 }, rawNow v + retryGap v)] } }) ∧
    (retryLimit (satAdd u Reg.isthCounts 23 16 1) o ≤ o.retries →
      exec (.busCycleEnd ws .retry) s = .next (settled o .retry (satAdd u Reg.isthCounts 23 16 1)))) ∧
  (∀ (o : BusOp) (ws : List (BitVec 16)) (s : State), s.isth.bus = some o → ws.length ≤ 16 →
    o.at_ + busLimit s ≤ rawNow s → exec (.busTimeout ws) s = .next (settled o .timeout (countTimeout o.window
      (satAdd { s with isth := { s.isth with bus := none } } Reg.isthCounts 15 8 1)))) ∧
  (∀ (isXfer : BusOwner → Bool) (o : BusOp) (t : Nat) (s u : State), (∀ w, isXfer w = true ↔ ∃ i, w = .xfer i) →
    s.isth.bus = none → drivesCrate s = true → s.tap.acting = none →
    s.isth.retry.find? (fun x => decide (x.2 ≤ rawNow s) && (isXfer x.1.owner || (s.isth.due.isEmpty && !crateHeld s)))
      = some (o, t) → u = { s with isth := { s.isth with retry := s.isth.retry.erase (o, t) } } →
    exec .crateRetry s = .next (if isXfer o.owner then
        (if winLost s o.window then settled o .lost u else if s.isth.resetTo.isSome then settled o .timeout u else startOp o u)
      else startOther o u)) ∧
  (∀ (k : Fin 64) (r : JRecord) (s z u : State), s.isth.rings.any (fun x => decide (x.ring = k.val)) = false →
    ringReason z r.desc = 0 → u = domAcquire (markRec z k.val r.desc.seq .started) .isth →
    (startRec s k.val 5 1 = (some r, z) → ∃ done, done = r.detailA.toNat / 2 ^ 32 % 65536 ∧ exec (.isthWrite k) s =
      .next (setRings u (u.isth.rings ++
        [⟨k.val, r.desc.seq, done, ((blocksOf z r.desc).take done).foldl (fun n b => n + b.2) 0, []⟩]))) ∧
    (startRec s k.val 5 2 = (some r, z) → exec (.isthRead k) s =
      .next (setRings u (u.isth.rings ++ [⟨k.val, r.desc.seq, 0, 0, []⟩])))) ∧
  (∀ (k : Fin 64) (r : JRecord) (s z : State), s.isth.rings.any (fun x => decide (x.ring = k.val)) = false →
    ringReason z r.desc ≠ 0 →
    (startRec s k.val 5 1 = (some r, z) →
      exec (.isthWrite k) s = .next (finishDesc z k.val r.desc.seq .refused (ringReason z r.desc))) ∧
    (startRec s k.val 5 2 = (some r, z) →
      exec (.isthRead k) s = .next (finishDesc z k.val r.desc.seq .refused (ringReason z r.desc)))) ∧
  (∀ (addr : BitVec 24) (ws : List (BitVec 16)) (s : State), standsBy s = true → ws.length ≤ 16 →
    exec (.busMonitorCycle true addr ws .ack) s = .next (monitorRing addr.toNat (bytesOf ws) { s with isth := { s.isth with
      monitor := s.isth.monitor ++ [(addr, ws)] } }) ∧
    exec (.busMonitorCycle false addr ws .ack) s = .next (((validXfers s).filter (fun i => !xferWrites s i
      && decide (xferAddr s i = addr.toNat) && decide (xferWords s i = ws.length))).foldl (fun s i => xferDone i ws s) s))

/-- An enabled and armed interrupt line sensed low is disarmed and its record waits for the posted writes that stand, and for
the ring transfer whose crate cycle is in progress; with none of them left CRATE_INT is raised with the line and the levels.
ARM arms the enabled lines among those named and senses the named lines anew; a write of ISTH_INT_CFG arms the lines that it
newly enables and disarms those it does not. REVIVE clears a window's LOST mark and timeout count and raises CARD_REVIVED;
CRATE_RESET drives RESET_N low for 1 ms in ACTIVE and MAINTENANCE, after which it is released, and is refused with code 8 in
any other state; CLEAR_COUNTS zeroes ISTH_COUNTS. A window of 2^8 to 2^23 bytes, aligned and within the crate, not both SAFE
and posted, is enabled. A transfer that no CRATE_XFER of the active bank of a running Chronograph names, and that fits its
enabled window, its page and, of a write, its place in OUTPUT, of a read, its place in an input image, is made VALID; a read
starts as one that has read nothing. -/
def Obligations.CrateInterruptsAndSetUp : Prop :=
  (∀ (l : Fin 8) (s u : State), u = setBit s Reg.isthIntStatus l.val true → bit u Reg.isthIntCfg l.val = true →
    bit u Reg.isthIntStatus (8 + l.val) = true → ∃ rs,
    (∀ x, x ∈ rs ↔ x ∈ u.isth.rings ∧ ∃ o, u.isth.bus = some o ∧ o.owner = .ring x.ring x.seq) ∧
    exec (.crateInt l) s = .next (setBit { u with isth := { u.isth with
      ints := u.isth.ints ++ [⟨l.val, u.isth.posted.map (·.order), rs⟩] } } Reg.isthIntStatus (8 + l.val) false)) ∧
  (∀ (w : IntWait) (s : State), s.isth.ints.find? (fun w => w.posted.all (fun o => !(s.isth.posted.any (fun p => decide (p.order = o))))
      && w.rings.all (fun x => !(s.isth.rings.contains x))) = some w →
    exec .crateIntRecord s = .next (raise Ev.crateInt (w.line + 1) 0 (fld s Reg.isthIntStatus 7 0)
      { s with isth := { s.isth with ints := s.isth.ints.erase w } })) ∧
  (∀ (lines : Byte) (s : State), ∃ u, u = setFld s Reg.isthIntStatus 15 8 (fld s Reg.isthIntStatus 15 8 |||
      (lines.toNat &&& fld s Reg.isthIntCfg 7 0)) ∧
    exec (.isthArm lines) s = .next (setFld u Reg.isthIntStatus 7 0 (fld u Reg.isthIntStatus 7 0 &&& (255 - lines.toNat)))) ∧
  (∀ (v w : Word) (s : State), w = committed s Reg.isthIntCfg v →
    exec (.isthIntCfgWrite v) s = .next (setFld (setReg s Reg.isthIntCfg w) Reg.isthIntStatus 15 8
      ((fld s Reg.isthIntStatus 15 8 &&& wordFld w 7 0) ||| (wordFld w 7 0 &&& (255 - fld s Reg.isthIntCfg 7 0))))) ∧
  (∀ (w : Fin 16) (s : State), ∃ u, u = setFld (setBit s (Reg.isthWinStatus w.val) 0 false) (Reg.isthWinStatus w.val) 7 4 0 ∧
    exec (.isthRevive w) s = .next (raise Ev.cardRevived w.val (winDetail w.val (winBase u w.val)) 0 u)) ∧
  (∀ s : State, modState s = .active ∨ modState s = .maintenance → exec .isthCrateReset s =
    .next (emitOut { s with isth := { s.isth with resetTo := some (rawNow s + msRaw 1) } } (.crateReset true))) ∧
  (∀ s : State, modState s ≠ .active → modState s ≠ .maintenance → ∃ u t,
    u = setReg s Reg.isthCfgResult (BitVec.ofNat 32 (8 + Reg.isthCmd % 65536 * 65536)) ∧
    exec .isthCrateReset s = .next t ∧ t = raise Ev.isthCfgRefused 0xFF 0 8 u ∧ OnlyEvents u t) ∧
  (∀ (t : Nat) (s : State), s.isth.resetTo = some t → t ≤ rawNow s → exec .crateResetEnd s =
    .next (emitOut { s with isth := { s.isth with resetTo := none } } (.crateReset false))) ∧
  (∀ s : State, exec .isthClearCounts s = .next (setReg s Reg.isthCounts 0)) ∧
  (∀ (w : Fin 16) (v x : Word) (s : State), x = committed s (Reg.isthWinCfg w.val) (v ||| 1) → wordFld x 0 0 = 1 →
    8 ≤ wordFld x 12 8 → wordFld x 12 8 ≤ 23 → winBase s w.val % 2 ^ wordFld x 12 8 = 0 →
    winBase s w.val + 2 ^ wordFld x 12 8 ≤ 0x1000000 → (x.getLsbD 3 = false ∨ x.getLsbD 4 = false) →
    exec (.isthWinEnable w v) s = .next (setReg s (Reg.isthWinCfg w.val) x)) ∧
  (∀ (i : Fin 256) (v x : Word) (n : Nat) (s : State), x = committed s (Reg.isthXferCtl i.val) (v ||| 1) →
    n = 2 * (wordFld x 11 8 + 1) → (running s = false ∨ xferNamed s i.val = false) → wordFld x 0 0 = 1 → winEnabled s (wordFld x 7 4) = true →
    xferFar s i.val % 2 = 0 → xferFar s i.val + n ≤ winSize s (wordFld x 7 4) → xferFar s i.val % 256 + n ≤ 256 →
    (x.getLsbD 1 = true → inRegion s 3 (64 * fld s (Reg.isthXferData i.val) 19 0) n = true →
      exec (.isthXferValidate i v) s = .next (setReg s (Reg.isthXferCtl i.val) x)) ∧
    (x.getLsbD 1 = false → inImage s (fld s (Reg.isthXferData i.val) 23 20) (16 * fld s (Reg.isthXferData i.val) 19 0)
        (16 + (n + 15) / 16 * 16) = true →
      exec (.isthXferValidate i v) s = .next (setReg (setXfer s i.val xfer0) (Reg.isthXferCtl i.val) x)))

/-- With a healthy island: a terminal whose voltage comes to or below the OFF threshold of its class where its raw level was
high, or to or above the ON threshold where it was low, changes the raw level at the time in whole microseconds and sinks the
cleaning current for 1 ms; with FILTER 0 the level is accepted at once, else once it has held for FILTER. The oldest refresh
on a link, with a correct CRC and a new sequence bit, drives a group that is not SILENT; any other is discarded and counted. A
DRIVEN group without an accepted refresh for SILENCE goes to SILENT and raises LOGIC_SILENCE with the milliseconds. REARM of a
SILENT group returns it to IDLE, of any other is refused with code 5. A field supply that leaves its range, or returns, shows
in the group's status with its voltage, the loss with FIELD_SUPPLY. A failed supervisor shows in HOLM_STATUS and raises
ISLAND_FAULT with its cause after every output has been switched off. -/
def Obligations.InputsAndRefreshesTakeEffect : Prop :=
  (∀ (c : Fin 48) (dv : BitVec 12) (b : Bool) (s u v : State), islandOk s = true →
    ((b = false ∧ dv.toNat ≤ (classVolts s (groupOfDi (c.val + 1))).1) ∨
      (b = true ∧ (classVolts s (groupOfDi (c.val + 1))).1 < dv.toNat ∧ (classVolts s (groupOfDi (c.val + 1))).2.1 ≤ dv.toNat)) →
    u = setDin s (c.val + 1) { din s (c.val + 1) with volts := dv.toNat } → (din u (c.val + 1)).raw ≠ b →
    v = setDin u (c.val + 1) { din u (c.val + 1) with
      raw := b, since := rawNow s, time := BitVec.ofNat 64 ((corrected s).toNat / 1000 * 1000),
      cleanTo := rawNow s + msRaw 1 } →
    exec (.diRawChange c dv) s = .next
      (if filterRaw s (c.val + 1) = 0 ∧ b ≠ diLevel s (c.val + 1) then acceptDi (c.val + 1) v else v)) ∧
  (∀ (c : Fin 48) (s : State), islandOk s = true → (din s (c.val + 1)).raw ≠ diLevel s (c.val + 1) →
    filterRaw s (c.val + 1) ≤ rawNow s - (din s (c.val + 1)).since →
    exec (.diFilterAccept c) s = .next (acceptDi (c.val + 1) s)) ∧
  (∀ (c : Fin 4) (values : Nat) (sq : Bool) (rest : List (Nat × Bool)) (s u : State),
    (group s (c.val + 1)).link = (values, sq) :: rest → u = setGroup s (c.val + 1) { group s (c.val + 1) with link := rest } →
    islandOk s = true →
    ((group s (c.val + 1)).lastBit ≠ some sq → groupState s (c.val + 1) ≠ 2 →
      exec (.holmRefreshRx c true) s = .next (acceptRefresh (c.val + 1) values sq u)) ∧
    ((group s (c.val + 1)).lastBit = some sq ∨ groupState s (c.val + 1) = 2 →
      exec (.holmRefreshRx c true) s = .next (badRefresh (c.val + 1) u)) ∧
    exec (.holmRefreshRx c false) s = .next (badRefresh (c.val + 1) u)) ∧
  (∀ (c : Fin 4) (s : State), islandOk s = true → groupState s (c.val + 1) = 1 →
    msRaw (silenceMs (getReg s (Reg.holmConnCfg (c.val + 1)))) ≤ rawNow s - (group s (c.val + 1)).refreshAt →
    exec (.logicSilence c) s = .next (raise Ev.logicSilence (c.val + 1) 0
      ((rawNow s - (group s (c.val + 1)).refreshAt) / msRaw 1) (stick (settleOuts (groupOuts (c.val + 1))
        (fun s => setFld s (Reg.holmConnStatus (c.val + 1)) 13 12 2) s) Reg.holmError 0))) ∧
  (∀ (c : Fin 4) (s : State), groupState s (c.val + 1) = 2 → exec (.holmRearm c) s =
    .next (settleOuts (groupOuts (c.val + 1)) (fun s => setFld s (Reg.holmConnStatus (c.val + 1)) 13 12 0) s)) ∧
  (∀ (c : Fin 4) (s : State), groupState s (c.val + 1) ≠ 2 →
    exec (.holmRearm c) s = .next (refuseHolm 5 Reg.holmCmd s)) ∧
  (∀ (c : Fin 4) (dv : BitVec 12) (s : State), islandOk s = true → supplyOk s (c.val + 1) = true →
    dv.toNat < (classVolts s (c.val + 1)).2.2.1 ∨ (classVolts s (c.val + 1)).2.2.2 < dv.toNat →
    exec (.fieldSupplyLoss c dv) s = .next (raise Ev.fieldSupply (c.val + 1) 0 dv.toNat (stick
      (setFld (setSupplyOk (c.val + 1) false s) (Reg.holmConnStatus (c.val + 1)) 11 0 dv.toNat) Reg.holmError 3))) ∧
  (∀ (c : Fin 4) (dv : BitVec 12) (s : State), islandOk s = true → supplyOk s (c.val + 1) = false →
    (classVolts s (c.val + 1)).2.2.1 ≤ dv.toNat → dv.toNat ≤ (classVolts s (c.val + 1)).2.2.2 →
    exec (.fieldSupplyReturn c dv) s =
      .next (setFld (setSupplyOk (c.val + 1) true s) (Reg.holmConnStatus (c.val + 1)) 11 0 dv.toNat)) ∧
  (∀ (k : Fin 3) (s : State), islandOk s = true → exec (.islandFault k) s = .next (raise Ev.islandFault 0xFF 0 (k.val + 1)
    (stick (allOuts.foldl (fun s n => showSwitch n (setDout s n { dout s n with pulse := none }))
      (setBit s Reg.holmStatus 0 false)) Reg.holmError 5)))

/-- With a healthy island: a demagnetisation pulse shows its energy, raises DEMAG_LIMIT with it above 400 mJ, and DEMAG_LIMIT
with the group's total of the last second above 2,000 mJ. A fault whose condition can be met in a channel without a latched
fault latches its cause and FAULT bit, ends an off-pulse, switches the output, reads back ON for STUCK_ON and PULSE and OFF
for STUCK_OFF, and raises DO_FAULT, with severity SAFETY for a SAFE output and FAULT for another; a channel with a latched
fault latches no further one. An output that is ON and draws below 5 mA for longer than GRACE raises DO_OPEN_LOAD with the
milliamperes, once per episode. An off-pulse that may start takes the output OFF for PULSE_WIDTH; at its end a read-back of ON
with a good supply latches the PULSE fault, a read-back of OFF lets the channel go on. CLEAR_FAULT of a channel without a
latched fault is refused with code 5; of one with it, it clears FAULT and cause, and in a DRIVEN group the command with them.
-/
def Obligations.OutputFaultsAndPulses : Prop :=
  (∀ (c : Fin 24) (mj : BitVec 16) (s u v : State) (kept : List (Nat × Nat × Nat)) (total : Nat), islandOk s = true →
    kept = s.holm.demag.filter (fun x => decide (rawNow s < x.1 + msRaw 1000)) ++ [(rawNow s, groupOfDo (c.val + 1), mj.toNat)] →
    total = ((kept.filter (fun x => decide (x.2.1 = groupOfDo (c.val + 1)))).map (fun x => x.2.2)).sum →
    u = { setFld s (Reg.holmDoStatus (c.val + 1)) 25 16 (min 1023 mj.toNat) with holm := { s.holm with demag := kept } } →
    v = (if 400 < mj.toNat then raise Ev.demagLimit (c.val + 1) 0 mj.toNat (stick u Reg.holmError 2) else u) →
    exec (.demagPulse c mj) s = .next (if 2000 < total then
      raise Ev.demagLimit (groupOfDo (c.val + 1)) 0 total (stick v Reg.holmError 2) else v)) ∧
  (∀ (c : Fin 24) (cause : DoCause) (s u v w : State), islandOk s = true → doFaulted s (c.val + 1) = false →
    faultPossible s (c.val + 1) cause = true →
    u = setBit (setFld s (Reg.holmDoStatus (c.val + 1)) 3 0 (doCauseCode cause + 8)) Reg.holmDoFault c.val true →
    v = showSwitch (c.val + 1) (setDout u (c.val + 1) { dout u (c.val + 1) with pulse := none }) →
    w = (if cause = .stuckOn ∨ cause = .pulse then setBit v Reg.holmDoReadback c.val true
      else if cause = .stuckOff then setBit v Reg.holmDoReadback c.val false else v) →
    exec (.doFaultDetect c cause) s = .next (raise
      (if doSafe w (c.val + 1) then ⟨0x0B03, .safety, .notify⟩ else ⟨0x0B03, .fault, .notify⟩) (c.val + 1) 0
      (doCauseCode cause) (stick w Reg.holmError 1))) ∧
  (∀ (c : Fin 24) (cause : DoCause) (s : State), doFaulted s (c.val + 1) = true →
    exec (.doFaultDetect c cause) s = .next s) ∧
  (∀ (c : Fin 24) (ua : Word) (s : State), islandOk s = true → doOn s (c.val + 1) = true → ua.toNat < 5000 →
    graceRaw s (c.val + 1) < rawNow s - (dout s (c.val + 1)).changedAt → (dout s (c.val + 1)).openLoad = false →
    exec (.doOpenLoad c ua) s = .next (raise Ev.doOpenLoad (c.val + 1) 0 (ua.toNat / 1000)
      (setDout s (c.val + 1) { dout s (c.val + 1) with openLoad := true }))) ∧
  (∀ (c : Fin 24) (s : State), offAllowed s (c.val + 1) = true → exec (.offPulseStart c) s = .next (showSwitch (c.val + 1)
    (setDout s (c.val + 1) { dout s (c.val + 1) with
      pulse := some (rawNow s + offWidth s (c.val + 1)), lastPulse := some (rawNow s) }))) ∧
  (∀ (c : Fin 24) (t : Nat) (s : State), (dout s (c.val + 1)).pulse = some t → islandOk s = true → t ≤ rawNow s →
    exec (.offPulseEnd c false) s =
      .next (putSwitch (c.val + 1) (setDout s (c.val + 1) { dout s (c.val + 1) with pulse := none })) ∧
    (supplyOk s (groupOfDo (c.val + 1)) = true → exec (.offPulseEnd c true) s = .next (latchFault (c.val + 1) .pulse s))) ∧
  (∀ (c : Fin 24) (s : State), doFaulted s (c.val + 1) = true →
    exec (.holmClearFault c) s = .next (settleOuts [c.val + 1] (fun s =>
      let u := setBit (setFld s (Reg.holmDoStatus (c.val + 1)) 3 0 0) Reg.holmDoFault c.val false
      if groupState u (groupOfDo (c.val + 1)) = 1 then setDout u (c.val + 1) { dout u (c.val + 1) with command := false }
      else u) s)) ∧
  (∀ (c : Fin 24) (s : State), doFaulted s (c.val + 1) = false →
    exec (.holmClearFault c) s = .next (refuseHolm 5 Reg.holmCmd s))

/-- With a healthy island: a change of both channels or of none is no step; a step to an adjacent Gray state moves POSITION by
one, up when A leads B and INVERT is 0 or the reverse holds of both (stated where the step latches no sensor fault). Both
channels changing at once counts an error and, as the fourth within 1 s, latches QUAD. A tick runs once per millisecond:
enabled, it takes the selection, each sensor's speed and standstill and the implausible pairs, and derives the results; not
enabled, it derives them. A pair of used sensors implausible for DISC_TIME latches PLAUS_FAULT, with the difference and, for
differing signs, bit 31 in DETAIL_B; SAFE_SPEED above the limit for LIMIT_TIME latches SLS, each with its event and sticky
flag. With the unit enabled, a selection message with a correct CRC and a new sequence bit is accepted, one with a wrong CRC
is not; SEL_SILENCE without one puts entry 0 in force and raises SEL_DEFAULT with the milliseconds. -/
def Obligations.MotionTakesEffect : Prop :=
  (∀ (i : Fin 4) (b : Bool) (s : State), islandOk s = true → b ≠ (sensor s (i.val + 1)).b →
    exec (.positionStep i (!(sensor s (i.val + 1)).a) b) s = .next s ∧
    exec (.positionStep i (sensor s (i.val + 1)).a (!b)) s = .next s) ∧
  (∀ (i : Fin 4) (a b : Bool) (x : Sensor) (s : State), islandOk s = true → Sound s = true → x = sensor s (i.val + 1) →
    decide (a ≠ x.a) ≠ decide (b ≠ x.b) → (motionOn s = false ∨ ∀ ch n, x.run = some (ch, n) → n < 15) →
    ∃ t, exec (.positionStep i a b) s = .next t ∧
    getReg t (Reg.motionSensorPos (i.val + 1)) = BitVec.ofInt 32
      (x.pos + if leads x.a x.b a b = bit s (Reg.motionSensorCfg (i.val + 1)) 10 then -1 else 1) ∧
    t = { s with regs := t.regs, motion := t.motion }) ∧
  (∀ (i : Fin 4) (q : List Nat) (x : Sensor) (s : State), islandOk s = true → x = sensor s (i.val + 1) →
    q = x.quads.filter (fun t => decide (rawNow s < t + msRaw 1000)) ++ [rawNow s] → ∃ u,
    u = satAdd (setSensor s (i.val + 1) { x with
      a := !x.a, b := !x.b, run := none, quads := q,
      cntA := if x.a then x.cntA else x.cntA + 1,
      cntB := if x.b then x.cntB else x.cntB + 1 }) (Reg.motionSensorStatus (i.val + 1)) 15 8 1 ∧
    exec (.quadratureError i) s = .next (if 4 ≤ q.length then sensorFault (i.val + 1) 1 u else u)) ∧
  (∀ s : State, islandOk s = true → (corrected s).toNat / 1000000 = s.motion.tickMs → exec .motionTick s = .next s) ∧
  (∀ s : State, islandOk s = true → (corrected s).toNat / 1000000 ≠ s.motion.tickMs → bit s Reg.motionCfg 0 = false →
    exec .motionTick s =
      .next (deriveResults { s with motion := { s.motion with tickMs := (corrected s).toNat / 1000000 } })) ∧
  (∀ s u v : State, islandOk s = true → (corrected s).toNat / 1000000 ≠ s.motion.tickMs → bit s Reg.motionCfg 0 = true →
    u = { s with motion := { s.motion with tickMs := (corrected s).toNat / 1000000 } } →
    v = allSensors.foldl (fun s i => setBit
        (setReg s (Reg.motionSensorSpeed i) (BitVec.ofInt 32 (sensorSpeed s i (1000000 * ((corrected u).toNat / 1000000)))))
        (Reg.motionSensorStatus i) 1
        (sensorStill (setReg s (Reg.motionSensorSpeed i)
          (BitVec.ofInt 32 (sensorSpeed s i (1000000 * ((corrected u).toNat / 1000000))))) i
          (1000000 * ((corrected u).toNat / 1000000)))) (takeSelection u) →
    ∃ w, w = { v with freeCount := v.freeCount + 5 } ∧
    exec .motionTick s = .next (deriveResults { w with motion := { w.motion with implaus := trackPairs w } })) ∧
  (∀ (i j : Fin 4) (sign : Bool) (s : State), motionOn s = true → i < j → bit s Reg.motionStatus 4 = false →
    sign = heldLong s (64 + 8 * (i.val + 1) + (j.val + 1)) →
    (heldLong s (8 * (i.val + 1) + (j.val + 1)) = true ∨ sign = true) → ∃ u,
    u = stick (setBit s Reg.motionStatus 4 true) Reg.motionError 1 ∧
    exec (.plausFault i j) s = .next (deriveResults (raise Ev.plausFault (i.val + 1 + 16 * (j.val + 1)) (motionDetail u)
      ((speedOf s (i.val + 1) - speedOf s (j.val + 1)).natAbs % 2 ^ 31 + if sign then 2 ^ 31 else 0) u))) ∧
  (∀ (t : Nat) (s : State), s.motion.overAt = some t → motionOn s = true → bit s Reg.motionStatus 3 = false →
    msRaw (max 1 (fld s Reg.motionCfg 23 16)) ≤ rawNow s - t → ∃ u,
    u = stick (setBit s Reg.motionStatus 3 true) Reg.motionError 0 ∧
    exec .slsViolation s = .next (applyGates (raise Ev.slsViolation 0xFF (motionDetail u) (getReg u Reg.motionLimitNow).toNat u))) ∧
  (∀ (k : Nat) (sq : Bool) (rest : List (Nat × Bool)) (s : State), s.motion.link = (k, sq) :: rest → motionOn s = true →
    s.motion.lastBit ≠ some sq →
    exec (.motionSelectionRx true) s = .next { s with motion := { s.motion with
      link := rest, selected := some k, selAt := rawNow s, lastBit := some sq } } ∧
    exec (.motionSelectionRx false) s = .next { s with motion := { s.motion with link := rest } }) ∧
  (∀ (k : Nat) (s : State), motionOn s = true → s.motion.selected = some k →
    msRaw (min 1000 (max 1 (fld s Reg.motionSelSrc 27 18))) ≤ rawNow s - s.motion.selAt → ∃ u,
    u = takeSelection { s with motion := { s.motion with selected := none } } ∧
    exec .selDefault s = .next (raise Ev.selDefault 0xFF (motionDetail u)
      ((rawNow s - s.motion.selAt) / msRaw 1) (stick u Reg.motionError 5)))

/-- With the unit enabled, a reset request whose press has fallen is judged at the next tick: with a latch set and the speed
or standstill condition not met it is refused with reason 2; with no latch set, or the conditions met, it is accepted and
counted, and every latch cleared. At the tick after a reset input has been high for more than 5 s, by its accepted time or,
high since the unit started, by the time since then, JAMMED is set and RESET_JAMMED raised, once. A committed write that
enables a disabled unit and passes every check starts it; one that fails is refused with the check's code and register. A
write to an enabled unit that keeps it enabled changes nothing, or is refused with code 1 where it would change another field.
-/
def Obligations.MotionResetAndEnable : Prop :=
  (∀ (h fell t : Nat) (s u : State), s.motion.judge = some (h, fell) → motionOn s = true →
    t = (corrected s).toNat / 1000000 * 1000000 → fell ≤ t → u = { s with motion := { s.motion with judge := none } } →
    (anyLatch s = true → resetClear s t = false → exec .resetJudge s = .next (resetRefused 2 u)) ∧
    (anyLatch s = false → exec .resetJudge s = .next (deriveResults (raise Ev.resetAccepted (fld s Reg.motionResetCfg 5 0)
      (motionDetail s) h { s with motion := { s.motion with judge := none, resets := (s.motion.resets + 1) % 65536 } }))) ∧
    (anyLatch s = true → resetClear s t = true → ∃ v, v = clearLatches u ∧ exec .resetJudge s = .next (deriveResults
      (raise Ev.resetAccepted (fld v Reg.motionResetCfg 5 0) (motionDetail v) h
        { v with motion := { v.motion with resets := (v.motion.resets + 1) % 65536 } })))) ∧
  (∀ (rise m : Nat) (t : Dword) (accepted : Bool) (s : State), s.motion.press = some (rise, t, accepted) → motionOn s = true →
    t.toNat < (corrected s).toNat / 1000000 * 1000000 →
    (accepted = true → t.toNat + 5000000000 < (corrected s).toNat / 1000000 * 1000000) →
    (accepted = false → msRaw 5000 < rawNow s - rise) →
    bit s Reg.motionStatus 7 = false → m = fld s Reg.motionResetCfg 5 0 → ∃ u,
    u = stick (setBit s Reg.motionStatus 7 true) Reg.motionError 3 ∧
    exec .resetJammed s = .next (raise Ev.resetJammed m (motionDetail u) m u)) ∧
  (∀ (v w : Word) (s : State), w = committed s Reg.motionCfg (v ||| 1) → (getReg s Reg.motionCfg).getLsbD 0 = false →
    w.getLsbD 0 = true →
    (motionReason s w = none → exec (.motionEnable v) s = .next (motionStart (setReg s Reg.motionCfg w))) ∧
    (∀ why reg, motionReason s w = some (why, reg) → exec (.motionEnable v) s = .next (refuseMotion why reg s))) ∧
  (∀ (v w : Word) (s : State), w = committed s Reg.motionCfg (v ||| 1) → (getReg s Reg.motionCfg).getLsbD 0 = true →
    w.getLsbD 0 = true → exec (.motionEnable v) s =
      .next (if w = getReg s Reg.motionCfg then s else refuseMotion 1 Reg.motionCfg s))

/-- In an ACTIVE module with the link not silent a change of MST_IN is shown in PAIR_STATUS, and 20 us without mastery count
from it where it ends. With MST_IN without mastery for 20 us: an eligible standby whose partner has given up or whose link is
silent claims mastery, and so does a started module in BOOT, on side 2 after 1 s. From 60 us after the claim a standby takes
over at a base-cycle boundary: ACTIVE, no longer eligible, PAIR_LAST_TAKEOVER and its count, TAKEOVER, then outputs, bridge,
CAN channels, rings and addresses take their first steps as the active module. A module that gave up enters SAFE_HALT when the
crate drivers release, and restarts where a restart command led there. SAFE_HALT restarts after RESTART_DELAY with
AUTO_RESTART, not after a common cause. A standby's first access, formed and without a result for 200 us while the partner
holds mastery, is a missing mirror. A standby whose wait of reason 7, 8 or 9 is over is eligible again where its lanes vote
and the lines have read correctly for 1 s. HANDOVER is taken by an ACTIVE module with an eligible partner, refused by any
other; CLEAR_COUNTS clears PAIR_COUNTS. Silence of the link is reported once, ends both lanes' UP bits and the partner's state
(stated in SAFE_HALT); one lane down is reported and shown, one up is shown. -/
def Obligations.MasteryIsClaimedAndTaken : Prop :=
  (∀ (level : MstLevel) (s u : State), u = showScan (setFld s Reg.pairStatus 7 6
      (match level with | .low => 0 | .alive => 1 | .mastery => 2)) → modState u = .active → u.pair.silent = false →
    exec (.mstInChange level) s = .next (if mstIn s = 2 ∧ level ≠ .mastery
      then { u with pair := { u.pair with noMastery := rawNow u - usRaw 20 } } else u)) ∧
  (∀ s : State, modState s = .standby → bit s Reg.pairStatus 2 = true → (s.pair.give.isSome = true ∨ s.pair.silent = true) →
    pairBank s = true → s.pair.claimAt = none → partnerMaster s = false → s.pair.noMastery + usRaw 20 ≤ rawNow s →
    exec .masteryClaim s = .next (mstOut { s with pair := { s.pair with claimAt := some (rawNow s) } } .mastery)) ∧
  (∀ s : State, modState s = .boot → s.chrono.startAt.isSome = true → pairBank s = true → s.pair.claimAt = none →
    partnerMaster s = false → s.pair.noMastery + usRaw 20 ≤ rawNow s →
    (bit s Reg.pairStatus 12 = false ∨ s.pair.noMastery + msRaw 1000 ≤ rawNow s) →
    exec .masteryClaim s = .next (mstOut { s with pair := { s.pair with claimAt := some (rawNow s) } } .mastery)) ∧
  (∀ (c : Nat) (s : State), modState s = .standby → s.pair.claimAt = some c → c + usRaw 60 ≤ rawNow s → running s = true →
    s.chrono.offset = 0 → s.chrono.nextIndex = 0 → s.chrono.hpDue = false → ∃ u v w,
      u = setReg (setBit (setModTo .active s) Reg.pairStatus 2 false) Reg.pairLastTakeover
        (BitVec.ofNat 32 (takeoverCause s + cycleNow (setBit (setModTo .active s) Reg.pairStatus 2 false) * 256 + 2 ^ 31)) ∧
      v = recCount 48 (satAdd u Reg.pairCounts 7 0 1) ∧ w = raise Ev.takeover 0xFF (pairDetail v) (takeoverCause s) v ∧
      exec .takeover s = .next (announceShared (takeoverRings (canTakeover (takeoverIsth (safeTakeover
        { w with pair := { w.pair with claimAt := none, ownImage := false, results := [], give := none,
                                       mirroring := false } })))))) ∧
  (∀ (b : GiveUpCause) (s : State), modState s = .active → s.pair.gaveUp = some b → ∃ u v,
    u = enterSafeHalt (raiseF 4 0) s ∧ v = { u with pair := { u.pair with gaveUp := none } } ∧
    (s.chrono.req.restart = none → exec .crateDriversRelease s = .next v) ∧
    (∀ cold x, s.chrono.req.restart = some (cold, x) →
      exec .crateDriversRelease s = .next (bootEntry v.restart.cause cold true v))) ∧
  (∀ s : State, modState s = .safeHalt → bit s Reg.pairCfg 0 = true → s.pair.common = false →
    s.pair.haltRaw + msRaw (100 * fld s Reg.pairCfg 15 8) ≤ rawNow s →
    exec .safeHaltAutoRestart s = .next (bootEntry 4 false true s)) ∧
  (∀ (v : WinVote) (t : Nat) (rest : List WinVote) (s : State), standsBy s = true → partnerMaster s = true →
    s.isth.votes = v :: rest → v.stream = none → v.result = none → v.formed = some t → t + usRaw 200 ≤ rawNow s →
    exec .standbyResultTimeout s = .next (mirrorMissing 0xFF (endStandbyAccess v.order s))) ∧
  (∀ s : State, modState s = .standby → bit s Reg.pairStatus 2 = false → (s.pair.reason = 9 ∨
      (s.pair.reason = 7 ∧ eligCycles s ≤ s.pair.eligCount) ∨
      (s.pair.reason = 8 ∧ max 1 (fld s Reg.pairXchk 7 0) ≤ s.pair.xchkOk)) → isVoting s = true →
    linesOk s = true → exec .eligibilityRegained s =
      .next (setBit { s with pair := { s.pair with reason := 0 } } Reg.pairStatus 2 true)) ∧
  (∀ s : State, modState s = .active → eligiblePartner s = true → exec .pairHandover s =
    .next { s with chrono := { s.chrono with req := { s.chrono.req with handover := some s.time.mt } } }) ∧
  (∀ s : State, ¬(modState s = .active ∧ eligiblePartner s = true) → exec .pairHandover s = .next (raise Ev.pairCmdRefused 0xFF (pairDetail s) 1 s)) ∧
  (∀ s : State, exec .pairClearCounts s = .next (setReg s Reg.pairCounts 0)) ∧
  (∀ (s p u v : State), s.pair.silent = false → p = { s with pair := { s.pair with silent := true } } →
    u = raise Ev.straitSilent 0xFF (pairDetail p) (mstIn p) (stick p Reg.pairError 5) →
    v = setFld (setFld u Reg.pairStatus 5 3 0) Reg.pairStatus 11 10 0 →
    modState v = .safeHalt → exec .straitSilent s = .next v) ∧
  (∀ (l : Fin 2) (s : State), bit s Reg.pairStatus (10 + l.val) = true → s.pair.silent = false → ∃ u,
    u = setBit (stick s Reg.pairError 4) Reg.pairStatus (10 + l.val) false ∧
    exec (.straitLaneDown l) s = .next (raise Ev.straitLaneDown l.val (pairDetail u) l.val u)) ∧
  (∀ (l : Fin 2) (s : State), exec (.straitLaneUp l) s =
    .next (setBit { s with pair := { s.pair with silent := false } } Reg.pairStatus (10 + l.val) true))

/-- Every valid frame ends the silence. STATUS of an ACTIVE partner whose eligibility is the one known, at a SAFE_HALT module
without a line fault, is shown in PAIR_STATUS. A module that stands by keeps an image and its slots for DELIVER, writes a
journal batch item by item, acknowledges it and shows it in PAIR_BATCH. A STANDBY compares a check with its own COLLECTs,
stores the counters and acknowledges with the result: a difference is an OUTPUT_MISMATCH, agreement confirms the blocks. A
module that stands by keeps window results for its accesses, and an eligible one a give-up, by which it may claim. An ACTIVE
module that gets the acknowledgement of its oldest batch accepts it and shows it; of its oldest check, drops it. An overrun
notice and a force notice take effect; a module that stands by keeps an exchange boundary and a SLEEP boundary; an ACTIVE
module raises INPUT_XCHK of a cross-check notice; a JOINING module in an attempt fails it with reason 3 on a failed copy. A
requested frame is repeated on the other lane and counted; a bad CRC or a gap requests a repeat, of an FSEQ that a bad frame
leaves open; a reserved type is counted. HELLO at an ACTIVE module of a pair that has not given up and knows no partner state
is answered. The module's own STATUS carries its state, mode, eligibility, lines and class. -/
def Obligations.StraitFramesTakeEffect : Prop :=
  (∀ (i : StatusInfo) (s u : State), i.state = .active → u = setBit (setFld { s with pair := { s.pair with
      partner := some i, silent := false } } Reg.pairStatus 5 4 1) Reg.pairStatus 3 i.eligible → modState u = .safeHalt →
    u.pair.lineFault = false → bit (setFld s Reg.pairStatus 5 4 1) Reg.pairStatus 3 = i.eligible →
    exec (.straitStatus i) s = .next u) ∧
  (∀ (c : ImageContent) (s : State), standsBy s = true → exec (.straitImage c) s = .next { s with pair := { s.pair with
      silent := false
      images := s.pair.images.filter (fun x => decide (x.1 ≠ c.image.val)) ++ [(c.image.val, c.bytes, c.cycleStart, c.sampleTime)]
      slots := c.slots.foldl (fun l (t, x) => l.filter (fun y => decide (y.1 ≠ t)) ++ [(t, x)]) s.pair.slots } }) ∧
  (∀ (b : Word) (items : List JItem) (s : State), standsBy s = true → ∃ u,
    u = items.foldl mirrorItem { s with pair := { s.pair with silent := false } } ∧
    exec (.straitJournal b items) s = .next (setReg (emitOut u (.straitAck false b true)) Reg.pairBatch b)) ∧
  (∀ (c : CheckContent) (s : State), modState s = .standby → ∃ u v,
    u = c.counters.foldl (fun s (k, n) => if k < 128 then setReg s (Reg.safeConnSeq k) n else s) { s with pair := { s.pair with
      silent := false, digests := s.pair.digests.drop c.items.length } } ∧
    v = emitOut u (.straitAck true c.seq (checkDiffers c.items s.pair.digests).isNone) ∧
    (∀ i, checkDiffers c.items s.pair.digests = some i → exec (.straitCheck c) s = .next (outputMismatch i v)) ∧
    (checkDiffers c.items s.pair.digests = none → exec (.straitCheck c) s =
      .next (confirmBlocks (s.pair.digests.take c.items.length) (s.pair.digests.drop c.items.length) v))) ∧
  (∀ (seq : Word) (items : List JItem) (rest : List (Word × List JItem)) (s : State), modState s = .active →
    s.pair.batchOpen = (seq, items) :: rest → exec (.straitAck false seq true) s = .next (setReg (batchAcked items
      { s with pair := { s.pair with silent := false, batchOpen := rest } }) Reg.pairBatch seq)) ∧
  (∀ (seq : Word) (rest : List Word) (s : State), modState s = .active → s.pair.checkOpen = seq :: rest →
    exec (.straitAck true seq true) s = .next { s with pair := { s.pair with silent := false, checkOpen := rest } }) ∧
  (∀ (r : WindowResult) (s : State), standsBy s = true → exec (.straitWindowResult r) s = .next (matchResults
    { s with pair := { s.pair with silent := false, results := s.pair.results ++ [r] } })) ∧
  (∀ (n : Notice) (s u : State), u = { s with pair := { s.pair with silent := false } } →
    (∀ t h, n = .overrun t h → exec (.straitNotice n) s = .next (overrunNotice t h u)) ∧
    (∀ c h k, n = .force c h k → exec (.straitNotice n) s = .next (forceNotice c (h, k) u)) ∧
    (∀ c k, n = .inputXchk c k → modState s = .active → exec (.straitNotice n) s = .next (inputXchk c.toNat k.toNat u)) ∧
    (n = .copyFailed → modState s = .joining → 1 ≤ joinPhase s → s.pair.retryRaw = none →
      exec (.straitNotice n) s = .next (joinFailed 3 u)) ∧
    (∀ h, n = .exchange h → standsBy s = true → exec (.straitNotice n) s =
      .next { u with pair := { u.pair with exchangeHp := some h } }) ∧
    (∀ h, n = .sleep h → standsBy s = true → exec (.straitNotice n) s =
      .next { u with pair := { u.pair with sleepHp := some h }, skerry := { u.skerry with held := 0 } })) ∧
  (∀ (c : GiveUpCause) (s : State), standsBy s = true → bit s Reg.pairStatus 2 = true → exec (.straitGiveUp c) s =
    .next { s with pair := { s.pair with silent := false, give := some c } }) ∧
  (∀ (h : HelloInfo) (s u : State), u = setFld { s with pair := { s.pair with hello := some h, silent := false } }
      Reg.pairClass 31 16 h.pairClass.toNat → modState u = .active → pairBank u = true → u.pair.gaveUp = none →
    u.pair.partner = none → exec (.straitHello h) s =
      .next (emitOut (stopMirroring (endCopy u)) (.straitHello (ownHello u)))) ∧
  (∀ (fseq : Word) (l : Fin 2) (s : State), exec (.straitResend fseq l) s = .next (satAdd (emitOut
    { s with pair := { s.pair with silent := false } } (.straitRepeat fseq (1 - l.val))) Reg.pairCounts 23 16 1)) ∧
  (∀ (l : Fin 2) (fseq : Word) (s : State),
    exec (.straitFrameError l (.gap fseq)) s = .next (emitOut s (.straitResend fseq)) ∧
    exec (.straitFrameError l .reservedType) s = .next (satAdd s Reg.pairCounts 23 16 1) ∧
    ∃ x, exec (.straitFrameError l .crc) s = .next (emitOut (takeFree s).2 (.straitResend x))) ∧
  (∀ (s : State), modState s ≠ .sleep → modState s ≠ .waking → exec .statusFrameTx s = .next (emitOut s (.straitStatus
    ⟨modState s, voteMode s, bit s Reg.pairStatus 2, levelOf (mstIn s), (getReg s Reg.pairClass).extractLsb' 0 16⟩)))

/-- A joining module takes a copied journal, retained data or page of well-formed content: the page goes to the DRAM of its
rejoining lanes. Its phase goes from JOURNAL to BULK when the journal is done; an ACTIVE module of a pair with a joining
partner that has sent HELLO, its link not silent and no copy begun, then sends its journal and retained data, mirrors batches
and starts to copy its state area. 30 s after HELLO the attempt fails with reason 1; 1 s after a failed attempt a new one
begins, from TESTING. After FINAL and ELIG_CYCLES matching cycles the module is STANDBY and, where its lanes vote and no line
fault stands, eligible. In BOOT, started, its partner holding mastery, HELLO of a partner of the same class with equal banks,
application and state area starts the join; another class is refused with PAIR_CLASS_MISMATCH and MAINTENANCE; the same class
with anything else different with JOIN_FAILED reason 2 and MAINTENANCE. -/
def Obligations.JoiningTakesEffect : Prop :=
  (∀ (c : CopyContent) (s u : State), c.wellFormed = true → modState s = .joining →
    u = { s with pair := { s.pair with silent := false } } →
    (∀ r b x e h w, c = .journal r b x e h w → exec (.straitCopy c) s = .next (copyJournal r b x e h w u)) ∧
    (∀ p bytes, c = .page p bytes → exec (.straitCopy c) s = .next ((lanesIn u .rejoining).foldl (fun x l =>
      { x with dram := x.dram.set l (writeBytes (x.dram.get l) (4096 * p.toNat) bytes) }) u)) ∧
    (∀ ever invalid gen app size last log data, c = .retained ever invalid gen app size last log data → ∃ r : RetainSt,
      r.ever = ever ∧ r.invalid = invalid ∧ r.generation = gen ∧ r.appBuild = app ∧ r.size = size ∧ r.log = log ∧
      r.lastRelease = last.foldl (fun t (k, v) => tset 0 t k v) [] ∧ r.data = data.foldl (fun m (a, b) => writeByte m a b) noMem ∧
      exec (.straitCopy c) s = .next (setReg { u with retain := r } Reg.modRetainGen gen))) ∧
  (∀ s : State, modState s = .joining → joinPhase s = 2 → exec .joinJournalDone s = .next (setFld s Reg.pairJoin 2 0 3)) ∧
  (∀ (i : StatusInfo) (s u v : State), modState s = .active → pairBank s = true → s.pair.partner = some i → i.state = .joining →
    s.pair.hello.isSome = true → s.pair.mirroring = false → s.pair.silent = false → copyPhase s = 0 →
    u = emitOut s (.straitCopy (journalCopy s)) → v = emitOut u (.straitCopy (retainCopy u)) →
    exec .joinJournalDone s = .next (showDirty (setFld { v with
      pair := { v.pair with mirroring := true, delta := [], digests := [] }
      rejoin := { rejoin0 with fromPair := true, toCopy := saPages v } } Reg.pairJoin 2 0 3))) ∧
  (∀ s : State, modState s = .joining → s.pair.retryRaw = none → s.pair.joinRaw + msRaw 30000 ≤ rawNow s →
    exec .joinTimeout s = .next (joinFailed 1 s)) ∧
  (∀ (t : Nat) (s : State), modState s = .joining → s.pair.retryRaw = some t → t + msRaw 1000 ≤ rawNow s →
    exec .joinRetry s = .next (startAttempt (lanesToTesting s))) ∧
  (∀ (s u : State), modState s = .joining → joinPhase s = 6 → eligCycles s ≤ s.pair.eligCount →
    u = setFld (setModTo .standby s) Reg.pairJoin 2 0 0 → isVoting u = true → u.pair.lineFault = false →
    exec .joinComplete s = .next (setBit { u with pair := { u.pair with reason := 0 } } Reg.pairStatus 2 true)) ∧
  (∀ (h : HelloInfo) (s u : State), u = setFld { s with pair := { s.pair with hello := some h, silent := false } }
      Reg.pairClass 31 16 h.pairClass.toNat → modState u = .boot → u.chrono.startAt.isSome = true → pairBank u = true →
    partnerMaster u = true →
    (h.pairClass ≠ (ownHello u).pairClass → exec (.straitHello h) s = .next (enterMaintenance 6
      (raise Ev.pairClassMismatch 0xFF (pairDetail u) h.pairClass.toNat u))) ∧
    (h.pairClass = (ownHello u).pairClass → helloAlike u h = true →
      exec (.straitHello h) s = .next (joinStarts h (joinFromBoot u))) ∧
    (h.pairClass = (ownHello u).pairClass → helloAlike u h = false → exec (.straitHello h) s = .next (enterMaintenance 6
      (raise Ev.joinFailed 0xFF (pairDetail u) 2 (stick u Reg.pairError 7)))))

/-- CLEAR_LEVEL below YIELD writes 0 to the level and its flags (bits 4:0 of FAULT_STATUS) and raises LEVEL_CLEARED with the
old level in DETAIL_B; at YIELD or above it is refused with reason 3. In a Sound state CLEAR_COUNTS zeroes both decode counts
and changes nothing else. A FAULT_TABLE write is stored (its writable bits) where its block is at most 0x12 and, while the
Chronograph runs, it lowers, invalidates or recodes no valid entry; one that does so then is refused with reason 1, any other
with a larger block with reason 2. A FAULT_SEV_FLOOR write is stored, or refused with reason 1 where it lowers a floor while
the Chronograph runs. SCRUB_READ of a region from 0 to 11 in a powered module that does not sleep: a word that decodes CLEAN
changes nothing; one CORRECTED is counted, its data written back where the model holds them, reported and noted in the list;
one POISONED is marked as such; one UNCORRECTABLE is counted, marked, its address kept, and reported with SCRUB_UNCORRECTABLE
and its sticky bit. CORRECTION_AGE_OUT ages exactly the listed words of its region and address (ageOut). FM_SELF_FAULT raises
its event. -/
def Obligations.FaultManagerTakesEffect : Prop :=
  (∀ s : State,
    (fld s Reg.faultStatus 2 0 < 4 → exec .faultClearLevel s = .next (raise Ev.levelCleared 0xFF 0 (fld s Reg.faultStatus 2 0)
      (setFld s Reg.faultStatus 4 0 0))) ∧
    (4 ≤ fld s Reg.faultStatus 2 0 → exec .faultClearLevel s =
      .next (refuseCfg s Reg.faultCfgResult Ev.faultCfgRefused 3 Reg.faultCmd 0xFF 0))) ∧
  (∀ s : State, Sound s = true → ∃ t, exec .faultClearCounts s = .next t ∧ getReg t Reg.faultCorrCount = 0 ∧
    getReg t Reg.faultUncorrCount = 0 ∧ t = { s with regs := t.regs } ∧
    ∀ k, k ≠ Reg.faultCorrCount → k ≠ Reg.faultUncorrCount → getReg t k = getReg s k) ∧
  (∀ (k : Fin 64) (v : Word) (s : State),
    (running s = false ∨ lowersEntry (getReg s (Reg.faultTable k)) v = false → wordFld v 15 8 ≤ 0x12 →
      exec (.faultTableWrite k v) s = .next (setReg s (Reg.faultTable k) (committed s (Reg.faultTable k) v))) ∧
    (running s = true → lowersEntry (getReg s (Reg.faultTable k)) v = true → exec (.faultTableWrite k v) s =
      .next (refuseCfg s Reg.faultCfgResult Ev.faultCfgRefused 1 (Reg.faultTable k) 0xFF 0)) ∧
    (running s = false ∨ lowersEntry (getReg s (Reg.faultTable k)) v = false → 0x12 < wordFld v 15 8 → exec (.faultTableWrite k v) s =
      .next (refuseCfg s Reg.faultCfgResult Ev.faultCfgRefused 2 (Reg.faultTable k) 0xFF 0))) ∧
  (∀ (v : Word) (s : State),
    (running s = false ∨ lowersFloor (getReg s Reg.faultSevFloor) v = false →
      exec (.faultSevFloorWrite v) s = .next (setReg s Reg.faultSevFloor (committed s Reg.faultSevFloor v))) ∧
    (running s = true → lowersFloor (getReg s Reg.faultSevFloor) v = true → exec (.faultSevFloorWrite v) s =
      .next (refuseCfg s Reg.faultCfgResult Ev.faultCfgRefused 1 Reg.faultSevFloor 0xFF 0))) ∧
  (∀ (r : BitVec 4) (a : BitVec 40) (w : BitVec 160) (s : State), s.skerry.powered = true → modState s ≠ .sleep → r.toNat ≤ 11 →
    (decode160 w = .clean → exec (.scrubRead r a w) s = .next s) ∧
    (∀ p, decode160 w = .corrected p → exec (.scrubRead r a w) s = .next (noteCorrection r.toNat a.toNat
      (raise Ev.memCorrected r.toNat a.toNat p
        (writeBack r.toNat a.toNat (correctedBytes w p) (satAdd s Reg.faultCorrCount 31 0 1))))) ∧
    (decode160 w = .poisoned → exec (.scrubRead r a w) s = .next (spoilPoisoned r.toNat a.toNat s)) ∧
    (decode160 w = .uncorrectable → ∃ u, u = setReg (setReg (satAdd s Reg.faultUncorrCount 31 0 1)
        Reg.faultLastAddrLo (BitVec.ofNat 32 a.toNat)) Reg.faultLastAddrHi
        (BitVec.ofNat 32 (a.toNat / 2 ^ 32 % 256 + 256 * r.toNat + 2 ^ 31)) ∧
      exec (.scrubRead r a w) s = .next (raise Ev.scrubUncorrectable r.toNat a.toNat 0
        (stick (spoil r.toNat a.toNat u) Reg.faultError 0)))) ∧
  (∀ (r : BitVec 4) (a : BitVec 40) (s : State), exec (.correctionAgeOut r a) s = .next { s with fm := { s.fm with
    corrected := s.fm.corrected.map (fun c => if c.region = r.toNat ∧ c.addr = a.toNat then ageOut s c else c) } }) ∧
  (∀ s : State, exec .fmSelfFault s = .next (raise Ev.fmSelfFault 0xFF 0 0 s))

/-- For every 160-bit word w that decodes CLEAN, every symbol p from 0 to 19 and every error e other than 0: the word with e
added to symbol c_p decodes CORRECTED at p, and its corrected data are the data of w. The word with the poison mark (0x5A in
each of c_0 to c_3) decodes POISONED. The symbol c_p stands in bits 128 + 8p for p below 4 and in bits 8 (p - 4) for the
others. (R355 and R356 say so of the code; here it is a statement about the decoder.) -/
def Obligations.SingleSymbolErrorsAreCorrected : Prop :=
  ∀ (w : BitVec 160), decode160 w = .clean →
    (∀ (p : Fin 20) (e : Byte), e ≠ 0 →
      decode160 (w ^^^ (e.setWidth 160 <<< (if p.val < 4 then 128 + 8 * p.val else 8 * (p.val - 4)))) = .corrected p ∧
      correctedBytes (w ^^^ (e.setWidth 160 <<< (if p.val < 4 then 128 + 8 * p.val else 8 * (p.val - 4)))) p =
        (List.range 16).map (fun i => w.extractLsb' (8 * i) 8)) ∧
    decode160 (w ^^^ (0x5A5A5A5A : BitVec 160) <<< 128) = .poisoned

/-- X_PWR valid (6 V or more) starts an unpowered module (powerOn) and updates SKERRY_SUPPLY; in a powered one it updates
SKERRY_SUPPLY, and after a warning is kept for the power-down; below 6 V POWER_VALID changes nothing. The charged store is
noted while powered. A drop below 5.5 V, outside SLEEP and with no interruption running, begins one; its return above 6 V ends
it, with SUPPLY_INTERRUPTION and its length in us, or after a warning is kept. Above 160 V SUPPLY_HIGH is raised. A power-fail
warning outside SLEEP makes a pair's active module give up or stops the Chronograph (MST_OUT ALIVE), and writes Skerry's
store. After a warning POWER_DOWN leaves the unpowered module with no pending records and a reset pair state; where X_PWR has
become valid the POWER_ON start follows on such a state. Each minute powered and awake is counted, saturating, and stored;
each hour of SLEEP the store is written. A crystal fault of a powered module clears its status bit and is reported.
TCXO_SETTLED with the TCXO started sets bit 2; on the crystal the raw counter also changes source with the phase of one edge
(1,953,125 units), and a kept RATE is restored with the servo's accumulator (where it restores nothing, no RATE is kept).
Temperatures above 70 degC, and hot spots above 125 or base above 88 degC, are shown and reported. Loss of Skerry's own supply
in an unpowered module, or in a sleeping one whose supply is interrupted, invalidates time and leaves it Unpowered; DRAM,
images, log and retained data stay as they were. -/
def Obligations.SupplyAndSkerryTakeEffect : Prop :=
  (∀ (dv : BitVec 12) (s : State), 60 ≤ dv.toNat →
    (s.skerry.powered = false → exec (.powerValid dv) s = .next (noteSupply dv (powerOn s))) ∧
    (s.skerry.powered = true → s.skerry.warned = false →
      exec (.powerValid dv) s = .next (noteSupply dv s)) ∧
    (∀ u, s.skerry.powered = true → s.skerry.warned = true → u = noteSupply dv s → exec (.powerValid dv) s =
      .next { u with skerry := { u.skerry with back := some dv } })) ∧
  (∀ (dv : BitVec 12) (s : State), dv.toNat < 60 → exec (.powerValid dv) s = .next s) ∧
  (∀ s : State, s.skerry.powered = true → exec .holdUpStoreCharged s =
    .next { s with skerry := { s.skerry with charged := true } }) ∧
  (∀ (dv : BitVec 12) (s : State), s.skerry.powered = true → dv.toNat < 55 → s.skerry.interruptRaw = none →
    modState s ≠ .sleep → exec (.supplyInterruptionBegin dv) s = .next { setFld s Reg.skerrySupply 11 0 dv.toNat with
      skerry := { s.skerry with back := none, interruptRaw := some (rawNow s) } }) ∧
  (∀ (dv : BitVec 12) (t : Nat) (s u : State), s.skerry.interruptRaw = some t → s.skerry.powered = true → 60 ≤ dv.toNat →
    u = { noteSupply dv s with skerry := { s.skerry with interruptRaw := none } } →
    exec (.supplyInterruptionEnd dv) s =
      .next (if u.skerry.warned then { u with skerry := { u.skerry with back := some dv } } else raise Ev.supplyInterruption 0xFF (supplyDetail u) (usSince u t) u)) ∧
  (∀ (dv : BitVec 12) (s : State), s.skerry.powered = true → 1600 < dv.toNat →
    exec (.supplyHigh dv) s = .next (raise Ev.supplyHigh 0xFF (supplyDetail (noteSupply dv s)) dv.toNat (noteSupply dv s))) ∧
  (∀ s u : State, s.skerry.powered = true → s.skerry.warned = false → modState s ≠ .sleep →
    u = { s with skerry := { s.skerry with warned := true, back := none } } →
    (modState s = .active ∧ pairBank s = true → exec .powerFailWarning s =
      .next (nvWrite (giveUp (raiseF 4 0) .powerFail u))) ∧
    (¬(modState s = .active ∧ pairBank s = true) → exec .powerFailWarning s =
      .next (nvWrite (mstOut (stopChrono u) .alive)))) ∧
  (∀ s : State, s.skerry.powered = true → s.skerry.warned = true → s.skerry.back = none → ∃ t, exec .powerDown s = .next t ∧
    t.skerry.powered = false ∧ t.skerry.warned = false ∧ t.fm.pending = [] ∧ t.pair = pair0 ∧ t.recQ = []) ∧
  (∀ (dv : BitVec 12) (s : State), s.skerry.powered = true → s.skerry.warned = true → s.skerry.back = some dv →
    ∃ u, u.skerry.powered = false ∧ u.skerry.warned = false ∧ u.fm.pending = [] ∧ u.pair = pair0 ∧ u.recQ = [] ∧
      exec .powerDown s = .next (noteSupply dv (powerOn u))) ∧
  (∀ s : State, s.skerry.powered = true → modState s ≠ .sleep → exec .skerryMinute s = .next (nvWrite (setReg s Reg.skerryHours
    (if getReg s Reg.skerryHours = BitVec.allOnes 32 then getReg s Reg.skerryHours else getReg s Reg.skerryHours + 1)))) ∧
  (∀ s : State, s.skerry.powered = true → modState s = .sleep → exec .skerrySleepHour s = .next (nvWrite s)) ∧
  (∀ s : State, s.skerry.powered = true →
    exec .xtalFault s = .next (raise Ev.xtalFault 0xFF 0 0 (setBit s Reg.skerryStatus 0 false))) ∧
  (∀ s : State, bit s Reg.skerryStatus 1 = true → bit s Reg.skerryStatus 2 = false →
    (s.time.onCrystal = false → exec .tcxoSettled s = .next (setBit s Reg.skerryStatus 2 true)) ∧
    (leaveCrystal s = { s with time := { s.time with raw := 1953125 + s.time.raw, onCrystal := false } }) ∧
    (∀ u, u = setBit s Reg.skerryStatus 2 true → s.time.onCrystal = true → s.time.keptRate = none → exec .tcxoSettled s =
      .next (leaveCrystal u)) ∧
    (∀ u r, u = setBit s Reg.skerryStatus 2 true → s.time.onCrystal = true → s.time.keptRate = some r → exec .tcxoSettled s =
      .next (rebase r.toInt 0 { leaveCrystal u with time := { (leaveCrystal u).time with keptRate := none, acc := r.toInt } }))) ∧
  (∀ (ten : Bool) (base hot : Byte) (s u : State), s.skerry.powered = true → 70 < base.toInt → u = noteThermal base hot s →
    exec (.tempHigh ten base hot) s = .next (raise Ev.tempHigh 0xFF (supplyDetail u) (if ten then 2 else 1) u)) ∧
  (∀ (spot : Bool) (base hot : Byte) (s u : State), s.skerry.powered = true → (spot = true → 125 < hot.toInt) →
    (spot = false → 88 < base.toInt) → u = setBit (noteThermal base hot s) Reg.modThermal 17 true →
    exec (.tempCritical spot base hot) s = .next (raise Ev.tempCritical 0xFF (supplyDetail u) (if spot then 2 else 1) u)) ∧
  (∀ s : State, s.skerry.powered = false ∨ (modState s = .sleep ∧ s.skerry.interruptRaw.isSome = true) →
    ∃ t, exec .skerrySupplyLoss s = .next t ∧ t.skerry.lostSupply = true ∧
    t.skerry.timeValid = false ∧ t.skerry.powered = false ∧ t.time.onCrystal = true ∧ t.time.raw = 0 ∧ t.dram = s.dram ∧
    t.store = s.store ∧ t.recorder = s.recorder ∧ t.retain = s.retain)

/-- WAKING_DONE with a powered, charged module in WAKING enters BOOT, marks the lanes' health, powers Holm and after a wake
records its cause. In BOOT, checks open, the image checks find no set (MAINTENANCE, 1), a failing image (fall-back) or judge
the combination; with the checks passed the boot loads put an Ephemeris that passes its payload and load checks into bank 0,
the active bank. A TESTING or REJOINING lane at a step other than 5: a pass goes to the next step, with LANE_HEALTH from step
1 and zero DRAM from step 4; a failure fails the lane. Step 5 with the image checks passed: a failing image falls back in BOOT
and else fails the lane, as does a failed step without one; a TESTING lane of a module not in control has the payloads loaded
into its DRAM and becomes ready. The start gate, once every lane is ready or OFF, leads to MAINTENANCE (4) below two ready
lanes; with two and all loads done it opens, and the set-up votes begin empty. In the set-up phase MAINTENANCE is entered (5)
and START writes MOD_RESTART_INFO and the restart record, raises RESTART (and RETAIN_LOST, where a start that may be warm
finds the retained data lost), and offers the pair its HELLO; outside it they are refused with reasons 1 and 2. SLEEP is
refused with its reason, begins at once in MAINTENANCE and in ACTIVE is requested for the next boundary, told to a pair's
partner. SLEEP_ENTRY_COMPLETE of an entry enters SLEEP: engines off, MST_OUT LOW, the store written, the lowest supply
restarted, the crystal with RATE 0 and the old RATE kept; a held source then wakes at once. A wake source whose condition
holds wakes a sleeping module with its cause; while SLEEP is ahead it is held. -/
def Obligations.StartAndSleepTakeEffect : Prop :=
  (∀ (di : BitVec 48) (spd : BitVec 8) (s : State), modState s = .waking → s.skerry.powered = true → s.skerry.charged = true → ∃ u,
    u = holmPowerUp di spd (setReg (bootEntry s.restart.cause false false (setBit s Reg.skerryStatus 1 true)) Reg.laneHealth 0x777) ∧
    exec (.wakingDone di spd) s = .next (if s.restart.cause = 1 then
      raise Ev.wakeRecorded 0xFF 0 (getReg u Reg.skerryWakeCause).toNat u else u)) ∧
  (∀ s : State, modState s = .boot → s.store.checksOk = false →
    (selectBank s = none → exec .imageChecksDone s = .next (enterMaintenance 1 s)) ∧
    (∀ b, selectBank s = some b → exec .imageChecksDone s =
      .next ((setFailure s b).elim (judgeCombo b s) (fun f => fallBack f.1 f.2 s)))) ∧
  (∀ (x : Slot) (s : State), modState s = .boot → s.store.checksOk = true → s.chrono.bootLoaded = false →
    x = slotOf s (bootedSlot s 4) → payloadReason (slotOf s (bootedSlot s 3)) = 0 → payloadReason x = 0 →
    (loadChecks x.content 256 (payloadLen x)).reason = 0 → ∃ u,
    u = setBank (showLoad s (loadChecks x.content 256 (payloadLen x))) 0 (some (parseBank x.content 256)) ∧
    exec .bootLoadsDone s = .next (followPtp (showBanks (setFld
      { u with chrono := { u.chrono with bootLoaded := true } } Reg.chronoStatus 1 1 0)))) ∧
  (∀ (l : Lane) (n : Nat) (s : State), laneState s l = .testing ∨ laneState s l = .rejoining → (s.lanes.get l).testStep = n → n ≠ 0 → n ≠ 5 →
    exec (.selftestStepDone l false) s = .next (selftestFail l s) ∧
    (n ≠ 1 → n ≠ 4 → exec (.selftestStepDone l true) s =
      .next (setLane s l { s.lanes.get l with testStep := n + 1 })) ∧
    (n = 1 → exec (.selftestStepDone l true) s =
      .next (setLane (setFld s Reg.laneHealth (4 * l.idx + 2) (4 * l.idx) 7) l { s.lanes.get l with testStep := 2 })) ∧
    (n = 4 → exec (.selftestStepDone l true) s =
      .next (setLane { s with dram := s.dram.set l noMem } l { s.lanes.get l with code := [], testStep := 5 }))) ∧
  (∀ (l : Lane) (s : State), laneState s l = .testing → (s.lanes.get l).testStep = 5 → s.store.checksOk = true →
    inControl s = false → exec (.selftestStepDone l true) s = .next ((step5Failure s).elim
      (setLane (((step5Slots s).filterMap id).foldl (loadCode l) s) l
        { s.lanes.get l with code := (step5Slots s).filterMap id, testStep := 0, ready := true, step5Done := true })
      (fun f => if modState s = .boot then fallBack f.1 f.2 s else selftestFail l (reportIf f.2 f.1 s)))) ∧
  (∀ (l : Lane) (p : Bool) (s : State), laneState s l = .testing ∨ laneState s l = .rejoining → (s.lanes.get l).testStep = 5 →
    s.store.checksOk = true → exec (.selftestStepDone l p) s = .next ((step5Failure s).elim
      (if p then testsPassed l s else selftestFail l s)
      (fun f => if modState s = .boot then fallBack f.1 f.2 s else selftestFail l (reportIf f.2 f.1 s)))) ∧
  (∀ s : State, modState s = .boot → s.chrono.gateOpen = false →
    (∀ l, (s.lanes.get l).ready = true ∨ laneState s l = .off) →
    ((readyLanes s).length < 2 → exec .startGate s = .next (enterMaintenance 4 s)) ∧
    (2 ≤ (readyLanes s).length → s.store.checksOk = true → s.chrono.bootLoaded = true → ∃ t, exec .startGate s = .next t ∧
      t.chrono = { s.chrono with gateOpen := true } ∧ t.regs = (setFld s Reg.modBootInfo 4 2 (readyMask s)).regs ∧
      t.meridian.queue = ⟨[], [], []⟩ ∧ t.meridian.stalled = ⟨[], [], []⟩ ∧ t.meridian.owed = ⟨[], [], []⟩ ∧ t.lanes = s.lanes)) ∧
  (∀ s : State, setupPhase s = true → s.chrono.startAt = none →
    exec .modStartMaintenance s = .next (enterMaintenance 5 s) ∧
    (∀ u v, mayBeWarm s = false → u = setReg s Reg.modRestartInfo (restartInfo s false s.restart.rolled 0) →
      v = raise Ev.restart 0xFF 0 (getReg u Reg.modRestartInfo).toNat u →
      exec .modStart s = .next (offerHello (writeRestart false s.restart.rolled 0 v))) ∧
    (∀ u v, mayBeWarm s = true → lostReason s = 0 → u = setReg s Reg.modRestartInfo (restartInfo s true s.restart.rolled 0) →
      v = raise Ev.restart 0xFF 0 (getReg u Reg.modRestartInfo).toNat u →
      exec .modStart s = .next (offerHello (writeRestart true s.restart.rolled 0 v))) ∧
    (∀ r u v, mayBeWarm s = true → lostReason s ≠ 0 →
      r = raise Ev.retainLost 0xFF 0 (lostReason s) (if lostReason s = 4 then meetRetain s else s) →
      u = setReg r Reg.modRestartInfo (restartInfo r false s.restart.rolled (lostReason s)) →
      v = raise Ev.restart 0xFF 0 (getReg u Reg.modRestartInfo).toNat u →
      exec .modStart s = .next (offerHello (writeRestart false s.restart.rolled (lostReason s) v)))) ∧
  (∀ s : State, setupPhase s = false → exec .modStart s = .next (refuseMod 1 s) ∧
    exec .modStartMaintenance s = .next (refuseMod 2 s)) ∧
  (∀ s : State, (sleepReason s ≠ 0 → exec .modSleep s = .next (raise Ev.sleepRefused 0xFF 0 (sleepReason s) s)) ∧
    (∀ u, sleepReason s = 0 → u = { s with skerry := { s.skerry with held := 0 } } →
      (modState s = .maintenance → exec .modSleep s = .next (sleepBegin u)) ∧
      (∀ v, modState s = .active → v = { u with chrono := { u.chrono with req := { u.chrono.req with sleep := some s.time.mt } } } →
        exec .modSleep s = .next (if pairBank v then emitOut v (.straitNotice (.sleep (nextBoundary v))) else v)))) ∧
  (∀ s u v w x : State, s.skerry.entering = true →
    u = setModTo .sleep { s with skerry := { s.skerry with entering := false, held := 0, timeValid := timeValid s } } →
    v = nvWrite (mstOut (enginesOff u) .low) → w = setFld v Reg.skerrySupply 27 16 (fld v Reg.skerrySupply 11 0) →
    x = setFld (rebase 0 0 { w with time := { w.time with onCrystal := true, keptRate := some (getReg w Reg.transitRate) } })
      Reg.skerryStatus 2 1 0 →
    exec .sleepEntryComplete s = .next (if s.skerry.held % 256 = 0 then x else
      wakeUp (s.skerry.held % 256) (if s.skerry.held.testBit 1 then s.skerry.held / 256 % 32 else 0) x)) ∧
  (∀ (src : Byte) (ch : BitVec 20) (s : State), wakeSources s src ch ≠ 0 → s.skerry.powered = true →
    (sleepAhead s = true → exec (.wake src ch) s = .next { s with skerry := { s.skerry with
      held := s.skerry.held ||| (wakeSources s src ch + 256 * wakeChannel s ch) } }) ∧
    (sleepAhead s = false → modState s = .sleep → exec (.wake src ch) s = .next (wakeUp (wakeSources s src ch)
      (if (wakeSources s src ch).testBit 1 then wakeChannel s ch else 0) s)))

/-- A command of IMG_CMD written while another runs is refused with reason 1 (BUSY); else it runs on the operands that the
registers hold, sets BUSY and acquires its clock domain. IMG_CMD_COMPLETE with the domain running: the command's effect
(imgAct) stands, BUSY clears, the domain is released, IMG_RESULT shows its reason and IMG_CMD_DONE or IMG_REFUSED is raised,
and a service request that waits for it is answered; while the domain does not run it changes nothing. (That operands are
judged, and effects fall, at completion is the model's choice: assumption log 30.) The effects: OPEN of an empty slot with a
type, no slot open, room and a legal length opens it with its length as allocation; WRITE of a legal length that fits appends
the voted bytes of lane DRAM; CLOSE makes the open slot's image VALID where every check passes and erases the slot otherwise,
with the check's reason; ERASE of a slot that is neither booted nor being loaded empties it; LOAD of a VALID image whose
payload passes writes it into the lanes; SET_BOOT that no check refuses writes the bank's boot set with the other bank's
generation plus one; INFO of a slot that is not empty, its first 32 bytes readable, shows them in IMG_INFO. -/
def Obligations.ImageCommandsTakeEffect : Prop :=
  (∀ s : State, s.store.running.isSome = true →
    exec .imgOpen s = .next (imgRefuse 1 (imgArgs s).slot 1 s) ∧
    exec .imgWrite s = .next (imgRefuse 2 (imgArgs s).slot 1 s) ∧
    exec .imgClose s = .next (imgRefuse 3 (imgArgs s).slot 1 s) ∧
    exec .imgErase s = .next (imgRefuse 4 (imgArgs s).slot 1 s) ∧
    exec .imgLoad s = .next (imgRefuse 5 (imgArgs s).slot 1 s) ∧
    exec .imgSetBoot s = .next (imgRefuse 6 (imgArgs s).slot 1 s) ∧
    exec .imgInfo s = .next (imgRefuse 7 (imgArgs s).slot 1 s)) ∧
  (∀ (s : State) (r : Nat → State), s.store.running = none → (∀ k, r k = domAcquire (setBit { s with store :=
      { s.store with running := some (k, imgArgs s, false) } } Reg.imgStatus 0 true) .img) →
    exec .imgOpen s = .next (r 1) ∧
    exec .imgWrite s = .next (r 2) ∧
    exec .imgClose s = .next (r 3) ∧
    exec .imgErase s = .next (r 4) ∧
    exec .imgLoad s = .next (r 5) ∧
    exec .imgSetBoot s = .next (r 6) ∧
    exec .imgInfo s = .next (r 7)) ∧
  (∀ (cmd : Nat) (a : ImgArgs) (svc : Bool) (s u t : State) (e : ImgEnd), s.store.running = some (cmd, a, svc) →
    domReady s .img = true → e = imgAct cmd a svc s →
    u = domRelease (setBit { e.2.2 with store := { e.2.2.store with running := none } } Reg.imgStatus 0 false) .img →
    t = (if e.2.1 = 0 then raise Ev.imgCmdDone e.1 0 cmd (imgResult cmd 0 u) else imgRefuse cmd e.1 e.2.1 u) →
    exec .imgCmdComplete s = .next (t.svc.imgFrom.elim t (fun q =>
      answer q 0x40 (if e.2.1 = 0 then 0 else 2) [] { t with svc := { t.svc with imgFrom := none } }))) ∧
  (∀ s : State, s.store.running.isSome = true → domReady s .img = false → exec .imgCmdComplete s = .next s) ∧
  (∀ (s : State) (a : ImgArgs) (svc : Bool),
    ((slotOf s a.slot).state = .empty → a.typ ≠ 0 → openSlot s = none →
      (a.len + 131071) / 131072 * 131072 ≤ bankFree s (a.slot / 128) → 256 ≤ a.len → a.len ≤ 256 + largestPayload a.typ → ∃ u,
      u = setSlot a.slot { slot0 with state := .open_, typ := a.typ, alloc := a.len } s ∧
      imgAct 1 a svc s = (a.slot, 0, { u with store := { u.store with viaSvc := svc } })) ∧
    (∀ n bs v, openSlot s = some n → 0 < a.len → a.len ≤ 2 ^ 20 → (slotOf s n).written + a.len ≤ (slotOf s n).alloc →
      a.src + a.len ≤ 2 ^ 33 → voteDram 16385 a.src a.len [] [] s = (some bs, v) →
      imgAct 2 a svc s = (n, 0, appendSlot n bs v)) ∧
    (∀ n u v, openSlot s = some n → u = reportIf (closeReason s (slotOf s n)) n s →
      v = setSlot n (if closeReason s (slotOf s n) = 0 then { slotOf s n with state := .valid } else slot0) u →
      imgAct 3 a svc s = (n, closeReason s (slotOf s n), { v with store := { v.store with viaSvc := false } })) ∧
    (isBooted s a.slot = false → s.chrono.loadSlot ≠ some a.slot →
      imgAct 4 a svc s = (a.slot, 0, setSlot a.slot slot0 s)) ∧
    ((slotOf s a.slot).state = .valid → a.src + payloadLen (slotOf s a.slot) ≤ 2 ^ 33 → payloadReason (slotOf s a.slot) = 0 →
      imgAct 5 a svc s = (a.slot, 0, (if running s then receivingLanes s else imgLanes s).foldl (fun x l =>
        { x with dram := x.dram.set l (writeBytes (x.dram.get l) a.src
          (readBytes (slotOf s a.slot).content 256 (payloadLen (slotOf s a.slot)))) }) s)) ∧
    (bootSetReason s a = 0 → imgAct 6 a svc s = (a.slot, 0, { s with store := if a.bank = 0
      then { s.store with boot0 := ⟨a.bootSet, (bootSet s 1).generation + 1, true⟩ }
      else { s.store with boot1 := ⟨a.bootSet, (bootSet s (1 - a.bank)).generation + 1, true⟩ } })) ∧
    ((slotOf s a.slot).state ≠ .empty → isPoisoned (slotOf s a.slot).content 0 32 = false →
      imgAct 7 a svc s = (a.slot, 0, (List.range 8).foldl (fun x j =>
        setReg x (Reg.imgInfo j) (BitVec.ofNat 32 (imgFld (slotOf s a.slot) (4 * j) 4))) s)))

/-- While powered and awake a sample updates the live readings of supply and temperature and samples the quantities of supply,
temperatures and shocks, and of load while the Chronograph runs; unpowered it does nothing. Where no word of the quantity area
is poisoned, sampling a quantity adds one, saturating, to the bin of its value. LOG_ENTRY_WRITE of a powered module with no
clear running takes the oldest queued record: one that is no application entry is written with the next ENTRY_SEQ and the
present counts while the log has room, and dropped, counted in REC_LOSS with its sticky bit, where the full log holds nothing
that it may displace; the record of an application entry whose descriptor is started is written by the same rule and its
descriptor completes, DONE where it was written, else REFUSED with 3. An APP_ENTRY is refused for its LEN (1) or severity (2),
else started and queued. REC_CMD CLEAR starts a clear, or is refused with REC_CMD_REFUSED while one runs; when done the log
holds only the clear entry with the new, saturating clear count, histograms, extremes, per-code counters and poison are gone,
and REC_CLEARED is raised; a request on X_SVC is answered then. Where X_SVC is served REC_CLEAR starts a clear, INFO (of a log
that is not empty) answers the clear record, REC_STATUS, REC_LOSS and the lowest and highest ENTRY_SEQ, QUANT is refused
outside the area or above 1,024 bytes and else, with no word poisoned, answers as many bytes as asked for, and LOG answers at
most 32 entries from START on, none of them poisoned. -/
def Obligations.RecorderTakesEffect : Prop :=
  (∀ (dv : BitVec 12) (base hot : Byte) (x y z load : BitVec 16) (s : State),
    (s.skerry.powered = true → modState s ≠ .sleep → ∃ u v, u = noteThermal base hot (noteSupply dv s) ∧
      v = sampleQuantity 5 0 1000 z.toNat false (sampleQuantity 4 0 1000 y.toNat false (sampleQuantity 3 0 1000 x.toNat false
        (sampleQuantity 2 (-40) 12 hot.toInt true (sampleQuantity 1 (-40) 10 base.toInt true
          (sampleQuantity 0 0 100 dv.toNat true u))))) ∧
      exec (.recorderSample dv base hot x y z load) s =
        .next (if running v then sampleQuantity 6 0 625 load.toNat true v else v)) ∧
    (s.skerry.powered = false → exec (.recorderSample dv base hot x y z load) s = .next s)) ∧
  (∀ (q : Nat) (low width x : Int) (lowest : Bool) (s : State), s.recorder.poison = [] → ∃ h,
    h = tget 0 s.recorder.hist (16 * q + binOf low width x) ∧ (sampleQuantity q low width x lowest s).recorder.hist =
      tset 0 s.recorder.hist (16 * q + binOf low width x) (if h = BitVec.allOnes 32 then h else h + 1)) ∧
  (∀ (r : Record) (rest : List Record) (s : State), s.recQ = r :: rest → s.skerry.powered = true → s.recorder.clearing = none →
    isApp r = false → s.recorder.log.length < logSize → ∃ e u, e.record = r ∧ e.seq = getReg s Reg.recSeq + 1 ∧ e.app = false ∧
      e.clear = false ∧ e.minutes = getReg s Reg.skerryHours ∧ e.cycles = getReg s Reg.skerryCycles ∧ e.poison = false ∧
      u = { s with recQ := rest, recorder := { s.recorder with log := s.recorder.log ++ [e] } } ∧
      exec .logEntryWrite s = .next (showRec (setReg u Reg.recSeq e.seq))) ∧
  (∀ (r : Record) (rest : List Record) (s u : State), s.recQ = r :: rest → s.skerry.powered = true → s.recorder.clearing = none →
    isApp r = false → logSize ≤ s.recorder.log.length → victim s.recorder.log (sevCode r.sev) = none →
    u = { s with recQ := rest } →
    exec .logEntryWrite s = .next (showRec (stick (satAdd u Reg.recLoss 31 16 1) Reg.recError 1))) ∧
  (∀ (r : Record) (rest : List Record) (s u : State) (j : JRecord), s.recQ = r :: rest → s.skerry.powered = true →
    s.recorder.clearing = none → isApp r = true → u = { s with recQ := rest } → findRec u r.source r.seq = some j →
    j.state = .started → exec .logEntryWrite s = .next (showRec (finishDesc (writeEntry r true u).2 r.source r.seq
      (if (writeEntry r true u).1 then .done else .refused) (if (writeEntry r true u).1 then 0 else 3)))) ∧
  (∀ (n : Fin 64) (r : JRecord) (s z : State), startRec s n.val 6 1 = (some r, z) →
    (12 < r.desc.len.toNat → exec (.recAppEntry n) s = .next (finishDesc z n.val r.desc.seq .refused 1)) ∧
    (r.desc.len.toNat ≤ 12 → 4 < dfld r.desc.spec 15 8 →
      exec (.recAppEntry n) s = .next (finishDesc z n.val r.desc.seq .refused 2)) ∧
    (r.desc.len.toNat ≤ 12 → dfld r.desc.spec 15 8 ≤ 4 → ∃ u, u = markRec z n.val r.desc.seq .started ∧
      exec (.recAppEntry n) s = .next (showRec { u with recQ := u.recQ ++ [appRecord u n.val r.desc r.payload] }))) ∧
  (∀ s : State,
    (s.recorder.clearing = none → exec .recCmdClear s = .next (showRec { s with recorder := { s.recorder with
      clearing := some (0, none) } })) ∧
    (s.recorder.clearing.isSome = true → exec .recCmdClear s = .next (raise Ev.recCmdRefused 0xFF 0 1 s))) ∧
  (∀ (source : Nat) (s : State), s.recorder.clearing = some (source, none) → exec .recClearDone s = .next (clearAll source s)) ∧
  (∀ (source : Nat) (s : State), ∃ v e n, n = (if getReg s Reg.recClearCount = BitVec.allOnes 32 then getReg s Reg.recClearCount
      else getReg s Reg.recClearCount + 1) ∧ clearAll source s = raise Ev.recCleared 0xFF 0 n.toNat (showRec v) ∧
    v.recorder.log = [e] ∧ e.clear = true ∧ e.record.detailB = n ∧ e.record.detailA = BitVec.ofNat 64 source ∧
    v.recorder.hist = [] ∧ v.recorder.extremes = [] ∧ v.recorder.counters = [] ∧ v.recorder.poison = [] ∧
    v.recorder.clearing = none) ∧
  (∀ (source : Nat) (req : SvcReq) (s : State), s.recorder.clearing = some (source, some req) →
    exec .recClearDone s = .next (answer req 0x23 0 [] (clearAll source s))) ∧
  (∀ (req : SvcReq) (s : State), svcServed s = true → s.recorder.clearing = none → ∃ u, u = svcTouch req s ∧
    exec (.recClear req) s = .next (showRec { u with recorder := { u.recorder with clearing := some (1, some req) } })) ∧
  (∀ (req : SvcReq) (a b : LogEntry) (s u : State), svcServed s = true → u = svcTouch req s → s.recorder.log.head? = some a →
    s.recorder.log.getLast? = some b → (readClear u).2.recorder.log = s.recorder.log →
    exec (.recInfo req) s = .next (answer req 0x20 0
      ([(readClear u).1.1, (readClear u).1.2.1, (readClear u).1.2.2, getReg (showRec (readClear u).2) Reg.recStatus,
        getReg (showRec (readClear u).2) Reg.recLoss, a.seq, b.seq].flatMap (fun w => leBytes 4 w.toNat))
      (showRec (readClear u).2))) ∧
  (∀ (req : SvcReq) (s u : State), svcServed s = true → u = svcTouch req s →
    (1024 < req.count.toNat ∨ quantArea < req.start.toNat + req.count.toNat →
      exec (.recQuant req) s = .next (emitOut u (.svc req 0x21 2 0 []))) ∧
    (req.count.toNat ≤ 1024 → req.start.toNat + req.count.toNat ≤ quantArea → s.recorder.poison = [] → ∃ bs v,
      bs.length = req.count.toNat ∧ exec (.recQuant req) s = .next (emitOut v (.svc req 0x21 0 req.count.toNat bs)))) ∧
  (∀ (req : SvcReq) (s u : State) (es : List LogEntry), svcServed s = true → u = svcTouch req s →
    es = (s.recorder.log.filter (fun e => decide (wsub e.seq req.start < 2 ^ 31))).take (min 32 req.count.toNat) →
    (es.all (fun e => !e.poison)) = true →
    exec (.recLog req) s = .next (emitOut u (.svc req 0x22 0 es.length (es.flatMap entryBytes))))

/-- Where X_SVC is served: INFO answers three registers; CHALLENGE answers a NONCE (two free values) and the SALT, or STATUS 4
where access is LOCKED; OPEN in CLOSED access with METHOD 1 or 2 takes the valid NONCE and opens access on the right response,
else counts a failure; an undefined OP is answered UNKNOWN (7). For the holder of open access: CLOSE closes with reason 1 and
is answered; in MAINTENANCE SET_SECRET stores the salt and password key, or the module key, and KEY_ENROL an integrator key
under index 1 to 4; REG_READ of at most 256 registers within the blocks answers them; REG_WRITE of as many values as COUNT
says, in MAINTENANCE or within the force registers, writes them in order; IMG starts the command (1 to 7), answered when it
completes; IMG_DATA of 1 to 1,024 bytes that fit is appended to the slot opened over X_SVC; RESTART is answered and restarts
warm with cause RESET, but after a common-cause SAFE_HALT is answered STATUS 6. A requester that does not hold open access is
DENIED (5) each of these: CLOSE, SET_SECRET, KEY_ENROL, REG_READ, REG_WRITE, IMG, IMG_DATA and RESTART. -/
def Obligations.ServiceRequestsAreServed : Prop :=
  (∀ (req : SvcReq) (s u : State), svcServed s = true → u = svcTouch req s →
    exec (.svcInfo req) s = .next (answer req 1 0
      ([Reg.modHwIssue, Reg.modState, Reg.svcStatus].flatMap (fun k => leBytes 4 (getReg u k).toNat)) u) ∧
    (svcIsLocked u = true → exec (.svcChallenge req) s = .next (answer req 2 4 [] u)) ∧
    (svcIsLocked u = false → ∃ (a b : BitVec 64) (v : State), v.svc = { u.svc with nonce := some ((a ++ b : BitVec 128), rawNow u) } ∧
      exec (.svcChallenge req) s = .next (answer req 2 0 (secretBytes (a ++ b : BitVec 128) ++ secretBytes u.svc.salt) v)) ∧
    (∀ (method : Byte) (r : BitVec 256) (nonce : BitVec 128) (v : State), svcIsOpen u = false → svcIsLocked u = false →
      method = 1 ∨ method = 2 → validNonce u = some nonce → v = { u with svc := { u.svc with nonce := none } } →
      (expectedResponse u nonce method = secretBytes r → exec (.svcOpen req method r) s = .next (openSuccess req method v)) ∧
      (expectedResponse u nonce method ≠ secretBytes r → exec (.svcOpen req method r) s = .next (openFailure req v))) ∧
    (∀ op : Byte, definedOps.contains op.toNat = false → exec (.svcUnknownOp req op) s = .next (answer req op.toNat 7 [] u))) ∧
  (∀ (req : SvcReq) (s u : State), svcServed s = true → u = svcTouch req s → svcHeld u req = true →
    exec (.svcClose req) s = .next (answer req 4 0 [] (svcShut 1 u)) ∧
    (modState u = .maintenance → ∀ (salt : BitVec 128) (key : BitVec 256) (i : Byte),
      exec (.svcSetSecret req 1 salt key) s = .next (answer req 5 0 [] { u with svc := { u.svc with salt := salt, pwKey := key } }) ∧
      exec (.svcSetSecret req 2 salt key) s = .next (answer req 5 0 [] { u with svc := { u.svc with modKey := key } }) ∧
      (1 ≤ i.toNat → i.toNat ≤ 4 → exec (.svcKeyEnrol req i key) s = .next (answer req 0x42 0 []
        { u with store := { u.store with keys := tput u.store.keys i.toNat (secretBytes key) } }))) ∧
    (req.count.toNat ≤ 256 → regRange req req.count.toNat = true → exec (.svcRegRead req) s =
      .next (answerCount req 0x30 0 req.count.toNat
        ((liveRegs req.count.toNat req.start.toNat u).1.flatMap (fun v => leBytes 4 v.toNat))
        (liveRegs req.count.toNat req.start.toNat u).2)) ∧
    (∀ vs : List Word, vs.length ≤ 366 → req.count.toNat = vs.length → regRange req vs.length = true →
      modState u = .maintenance ∨ forceOnly req vs.length = true →
      exec (.svcRegWrite req vs) s = .next (answer req 0x31 0 [] (writeRegs req vs req.start.toNat u))) ∧
    (∀ (arg len cmd : Word) (b : List Word) (v : State), b.length = 7 → imgBusy u = false → 1 ≤ wordFld cmd 3 0 →
      wordFld cmd 3 0 ≤ 7 → v = imgCommand (wordFld cmd 3 0) (svcImgArgs arg len b u) true u → exec (.svcImg req arg len b cmd) s = .next { v with svc := { v.svc with imgFrom := some req } }) ∧
    (∀ (data : List Byte) (n : Nat), 1 ≤ data.length → data.length ≤ 1024 → openSlot u = some n → u.store.viaSvc = true →
      (slotOf u n).written + data.length ≤ (slotOf u n).alloc → imgBusy u = false →
      exec (.svcImgData req data) s = .next (answer req 0x41 0 [] (appendSlot n data u))) ∧
    (modState u ≠ .safeHalt ∨ u.pair.common = false →
      exec (.svcRestart req) s = .next (restartCmd false 3 (answer req 0x50 0 [] u))) ∧
    (modState u = .safeHalt → u.pair.common = true → exec (.svcRestart req) s = .next (answer req 0x50 6 [] u))) ∧
  (∀ (req : SvcReq) (s u : State), svcServed s = true → u = svcTouch req s → svcHeld u req = false →
    exec (.svcClose req) s = .next (answer req 4 5 [] u) ∧ exec (.svcRegRead req) s = .next (answer req 0x30 5 [] u) ∧
    exec (.svcRestart req) s = .next (answer req 0x50 5 [] u) ∧
    (∀ (m i : Byte) (salt : BitVec 128) (key : BitVec 256), exec (.svcSetSecret req m salt key) s = .next (answer req 5 5 [] u) ∧
      exec (.svcKeyEnrol req i key) s = .next (answer req 0x42 5 [] u)) ∧
    (∀ vs : List Word, vs.length ≤ 366 → exec (.svcRegWrite req vs) s = .next (answer req 0x31 5 [] u)) ∧
    (∀ (arg len cmd : Word) (b : List Word), b.length = 7 → exec (.svcImg req arg len b cmd) s = .next (answer req 0x40 5 [] u)) ∧
    (∀ data : List Byte, data.length ≤ 1464 → exec (.svcImgData req data) s = .next (answer req 0x41 5 [] u)))

/-- With access open, SVC_CMD CLOSE, the passed idle time and the loss of the link close it, with reasons 1, 2 and 3; without,
link loss is only noted. A link that comes up on a powered module takes the address of SVC_IP. A NONCE that is no longer valid
is dropped. In a Sound state the lockout ends when LOCK_REMAIN is 0, with access CLOSED, no failures and the other fields as
they were. A powered TAP that takes an instruction shifts out what the instruction register captured (1), and one in effect is
released first. EXTEST, CLAMP and HIGHZ then act only in MAINTENANCE with open access: SVC_STATUS shows it, outputs settle and
the scan is shown; elsewhere they raise SCAN_REFUSED with their code. With none in effect SAMPLE/PRELOAD shifts out the
captured cells and takes those shifted in, IDCODE shifts out 0x0B372C1D, BYPASS and the codes above 4 that the table does not
list only select their register, and Test-Logic-Reset selects IDCODE; with one in effect Test-Logic-Reset also releases the
pins. An unpowered module answers none of the instructions. -/
def Obligations.ServiceAccessEndsAndScansAct : Prop :=
  (∀ s : State, svcIsOpen s = true → exec .svcCmdClose s = .next (raise Ev.svcClosed 0xFF 0 1 (svcEnd s))) ∧
  (∀ s : State, svcIsOpen s = true → idleRaw s ≤ rawNow s - s.svc.lastReq →
    exec .svcIdleTimeout s = .next (raise Ev.svcClosed 0xFF 0 2 (svcEnd s))) ∧
  (∀ s u : State, u = { s with svc := { s.svc with link := false } } →
    (svcIsOpen s = true → exec .svcLinkLoss s = .next (raise Ev.svcClosed 0xFF 0 3 (svcEnd u))) ∧
    (svcIsOpen s = false → exec .svcLinkLoss s = .next u)) ∧
  (∀ s : State, s.skerry.powered = true → exec .svcLinkUp s =
    .next { s with svc := { s.svc with link := true, address := getReg s Reg.svcIp } }) ∧
  (∀ s : State, s.svc.nonce.isSome = true → validNonce s = none → exec .nonceExpiry s =
    .next { s with svc := { s.svc with nonce := none } }) ∧
  (∀ s : State, Sound s = true → svcIsLocked s = true → fld s Reg.svcStatus 17 8 = 0 → ∃ t, exec .lockoutEnd s = .next t ∧
    fld t Reg.svcStatus 1 0 = 0 ∧ fld t Reg.svcStatus 6 4 = 0 ∧ fld t Reg.svcStatus 18 7 = fld s Reg.svcStatus 18 7 ∧
    t = { s with regs := t.regs }) ∧
  (∀ (i : Fin 3) (c : Instr) (code : Byte) (s r u : State),
    (c, code) = nth (.jtagExtest, 0) [(.jtagExtest, 0), (.jtagClamp, 3), (.jtagHighz, 4)] i.val → s.skerry.powered = true →
    r = emitOut s (.shift 8 1) →
    u = (let x := if s.tap.acting.isSome then scanRelease r else r; { x with tap := { x.tap with ir := code } }) →
    (modState u = .maintenance → svcIsOpen u = true → exec c s = .next (showScan (settleOuts allOuts
      (fun s => { s with tap := { s.tap with acting := some code } }) (setBit u Reg.svcStatus 18 true)))) ∧
    (modState u ≠ .maintenance ∨ svcIsOpen u = false → exec c s = .next (raise Ev.scanRefused 0xFF 0 code.toNat u))) ∧
  (∀ (s : State) (cells : BitVec 257) (code : Byte), s.skerry.powered = false → exec .jtagExtest s = .next s ∧
    exec .jtagClamp s = .next s ∧ exec .jtagHighz s = .next s ∧ exec .jtagIdcode s = .next s ∧
    exec (.jtagSamplePreload cells) s = .next s ∧ exec (.jtagBypass code) s = .next s) ∧
  (∀ (s r : State) (cells : BitVec 257) (code : Byte), s.tap.acting = none → s.skerry.powered = true →
    r = emitOut s (.shift 8 1) →
    (∀ u v, u = { r with tap := { r.tap with ir := 1 } } → v = captureCells u → exec (.jtagSamplePreload cells) s =
      .next (emitOut { v.2 with tap := { v.2.tap with cells := cells } } (.shift 257 v.1))) ∧
    exec .jtagIdcode s = .next (emitOut { r with tap := { r.tap with ir := 2 } } (.shift 32 0x0B372C1D)) ∧
    (4 < code.toNat → exec (.jtagBypass code) s = .next { r with tap := { r.tap with ir := code } }) ∧
    exec .tapReset s = .next { s with tap := { s.tap with ir := 2 } }) ∧
  (∀ s : State, s.tap.acting.isSome = true →
    exec .tapReset s = .next (scanRelease { s with tap := { s.tap with ir := 2 } }))
end

