-- ==== Sys2Proof/Laws/Issue.lean ====
section
/-!
SUPPORT. The issue of an entry: what `issueEntry` answers where the entry issues (R42, R48).
-/

namespace Sys2Proof.Machine

/-- An entry that issues has its effect on the state in which it has issued. -/
theorem issueEntry_issues {kind : Nat} {needs : State → Entry → Needs} {i : BitVec 16} {e : Entry} {s : State}
    (h : issues kind needs i e s = true) (body : Entry → State → State) :
    issueEntry kind i needs body s = body e (issued needs i e s) := by
  simp only [issues, Bool.and_eq_true, decide_eq_true_eq, Bool.not_eq_true', Option.isNone_iff_eq_none] at h
  obtain ⟨⟨⟨⟨h1, h2⟩, h3⟩, h4⟩, h5⟩ := h
  simp only [issueEntry, h1, h2, h3, h4, h5, issued]
  simp

/-- A CRATE_XFER that issues shows nothing beside its entry's effect. -/
theorem xferNotMade_issues {i : BitVec 16} {e : Entry} {s : State} (h : issues 10 xferNeeds i e s = true) (t : State) :
    xferNotMade i s t = t := by
  simp only [issues, Bool.and_eq_true, decide_eq_true_eq, Bool.not_eq_true', Option.isNone_iff_eq_none] at h
  obtain ⟨⟨⟨⟨h1, h2⟩, h3⟩, h4⟩, h5⟩ := h
  simp [xferNotMade, h1, h5]

end Sys2Proof.Machine
end

