-- ==== Sys2Proof/Laws/Mem.lean ====
section
/-!
SUPPORT. Laws of tables and memories: a write is read back, other keys keep their value, the canonical form is kept.
-/

namespace Sys2Proof.Machine

/-! ### Tables -/

/-- A key put is read back. -/
theorem tget_tput_same {α : Type} (d v : α) (k : Nat) (t : Tab α) : tget d (tput t k v) k = v := by
  induction t with
  | nil => simp [tput, tget]
  | cons x r ih =>
    obtain ⟨k', v'⟩ := x
    simp only [tput]
    split
    · simp [tget]
    · split
      · simp [tget]
      · rename_i h1 h2
        simp [tget, Ne.symm h2, ih]

/-- A key put leaves other keys alone. -/
theorem tget_tput_other {α : Type} (d v : α) {k j : Nat} (h : j ≠ k) (t : Tab α) : tget d (tput t k v) j = tget d t j := by
  induction t with
  | nil => simp [tput, tget, Ne.symm h]
  | cons x r ih =>
    obtain ⟨k', v'⟩ := x
    simp only [tput]
    split
    · simp [tget, Ne.symm h]
    · split
      · rename_i h1 h2
        subst h2
        simp [tget, Ne.symm h]
      · simp [tget, ih]

/-- Keys of a table rise strictly. -/
def tabUp {α : Type} (t : Tab α) : Prop := (t.map (·.1)).Pairwise (· < ·)

/-- The canonical form is rising keys and no default entry. -/
theorem tabWf_iff {α : Type} [DecidableEq α] (d : Nat → α) (t : Tab α) :
    tabWf d t = true ↔ tabUp t ∧ ∀ x ∈ t, x.2 ≠ d x.1 := by
  induction t with
  | nil => simp [tabWf, tabUp]
  | cons x r ih =>
    obtain ⟨k, v⟩ := x
    cases r with
    | nil => simp [tabWf, tabUp]
    | cons y r =>
      obtain ⟨k', v'⟩ := y
      simp only [tabWf, Bool.and_eq_true, decide_eq_true_eq, ih]
      simp only [tabUp, List.map_cons, List.pairwise_cons, List.mem_cons, forall_eq_or_imp]
      constructor
      · rintro ⟨⟨h1, h2⟩, ⟨h3, h4⟩, h5⟩
        refine ⟨⟨⟨h2, fun a ha => ?_⟩, h3, h4⟩, h1, h5⟩
        have := h3 a ha
        omega
      · rintro ⟨⟨⟨h2, _⟩, h3, h4⟩, h1, h5⟩
        exact ⟨⟨h1, h2⟩, ⟨h3, h4⟩, h5⟩

/-- Entries of a table with a key put. -/
theorem mem_tput {α : Type} {t : Tab α} {k : Nat} {v : α} {x : Nat × α} (h : x ∈ tput t k v) : x = (k, v) ∨ x ∈ t := by
  induction t with
  | nil => simpa [tput] using h
  | cons y r ih =>
    obtain ⟨k', v'⟩ := y
    simp only [tput] at h
    split at h
    · simpa using h
    · split at h
      · rcases List.mem_cons.1 h with h | h
        · exact Or.inl h
        · exact Or.inr (List.mem_cons_of_mem _ h)
      · rcases List.mem_cons.1 h with h | h
        · exact Or.inr (by simp [h])
        · rcases ih h with h | h
          · exact Or.inl h
          · exact Or.inr (List.mem_cons_of_mem _ h)

/-- Putting a key keeps keys rising. -/
theorem tabUp_tput {α : Type} {t : Tab α} (h : tabUp t) (k : Nat) (v : α) : tabUp (tput t k v) := by
  induction t with
  | nil => simp [tput, tabUp]
  | cons y r ih =>
    obtain ⟨k', v'⟩ := y
    simp only [tabUp, List.map_cons, List.pairwise_cons] at h
    simp only [tput]
    split
    · rename_i h1
      simp only [tabUp, List.map_cons, List.pairwise_cons, List.mem_cons, forall_eq_or_imp]
      exact ⟨⟨h1, fun a ha => lt_trans h1 (h.1 a ha)⟩, h.1, h.2⟩
    · split
      · rename_i h1 h2
        subst h2
        simpa only [tabUp, List.map_cons, List.pairwise_cons] using h
      · rename_i h1 h2
        simp only [tabUp, List.map_cons, List.pairwise_cons]
        refine ⟨fun a ha => ?_, ih h.2⟩
        obtain ⟨x, hx, rfl⟩ := List.mem_map.1 ha
        rcases mem_tput hx with rfl | hx
        · simp only; omega
        · exact h.1 _ (List.mem_map_of_mem hx)

/-- The entries left when a key is taken out. -/
theorem tdel_sublist {α : Type} (t : Tab α) (k : Nat) : (tdel t k).Sublist t := by
  induction t with
  | nil => simp [tdel]
  | cons y r ih =>
    obtain ⟨k', v'⟩ := y
    simp only [tdel]
    split
    · exact ih.trans (List.sublist_cons_self _ _)
    · exact ih.cons_cons _

/-- The canonical form passes to fewer entries. -/
theorem tabWf_sublist {α : Type} [DecidableEq α] {d : Nat → α} {t u : Tab α} (h : tabWf d t = true) (hs : u.Sublist t) :
    tabWf d u = true := by
  rw [tabWf_iff] at *
  exact ⟨h.1.sublist (hs.map _), fun x hx => h.2 x (hs.subset hx)⟩

/-- `tset` keeps the canonical form. -/
theorem tabWf_tset {α : Type} [DecidableEq α] {d : Nat → α} {t : Tab α} (h : tabWf d t = true) (k : Nat) (v : α) :
    tabWf d (tset (d k) t k v) = true := by
  unfold tset
  split
  · exact tabWf_sublist h (tdel_sublist t k)
  · rename_i hv
    rw [tabWf_iff] at *
    refine ⟨tabUp_tput h.1 k v, fun x hx => ?_⟩
    rcases mem_tput hx with rfl | hx
    · exact hv
    · exact h.2 x hx

/-- A key taken out of a table reads the default. -/
theorem tget_tdel_same {α : Type} (d : α) (t : Tab α) (k : Nat) : tget d (tdel t k) k = d := by
  induction t with
  | nil => rfl
  | cons y r ih =>
    obtain ⟨k', v'⟩ := y
    simp only [tdel]
    split
    · exact ih
    · rename_i hk
      simp only [tget, hk, if_false, ih]

/-- Taking a key out leaves other keys alone. -/
theorem tget_tdel_other {α : Type} (d : α) {k j : Nat} (h : j ≠ k) (t : Tab α) : tget d (tdel t k) j = tget d t j := by
  induction t with
  | nil => rfl
  | cons y r ih =>
    obtain ⟨k', v'⟩ := y
    simp only [tdel]
    split
    · rename_i hk
      subst hk
      simp only [tget, Ne.symm h, if_false, ih]
    · simp only [tget, ih]

/-- A key set in a table is read back. -/
theorem tget_tset_same {α : Type} [DecidableEq α] (d v : α) (t : Tab α) (k : Nat) :
    tget d (tset d t k v) k = v := by
  unfold tset
  split
  · rename_i hv
    rw [hv]
    exact tget_tdel_same d t k
  · exact tget_tput_same d v k t

/-- Setting a key leaves other keys alone, whatever their default. -/
theorem tget_tset_other {α : Type} [DecidableEq α] (d d' v : α) {k j : Nat} (h : j ≠ k) (t : Tab α) :
    tget d' (tset d t k v) j = tget d' t j := by
  unfold tset
  split
  · exact tget_tdel_other d' h t
  · exact tget_tput_other d' v h t

/-! ### Memories -/

/-- A list of numbers is strictly rising. -/
theorem risingWf_iff (l : List Nat) : risingWf l = true ↔ l.Pairwise (· < ·) := by
  induction l with
  | nil => simp [risingWf]
  | cons a r ih =>
    cases r with
    | nil => simp [risingWf]
    | cons b r =>
      simp only [risingWf, Bool.and_eq_true, decide_eq_true_eq, ih, List.pairwise_cons, List.mem_cons, forall_eq_or_imp]
      constructor
      · rintro ⟨h, h1, h2⟩
        exact ⟨⟨h, fun x hx => lt_trans h (h1 x hx)⟩, h1, h2⟩
      · rintro ⟨⟨h, _⟩, h1, h2⟩
        exact ⟨h, h1, h2⟩

/-- Members of a list with a number put in. -/
theorem mem_risingPut {l : List Nat} {k x : Nat} (h : x ∈ risingPut l k) : x = k ∨ x ∈ l := by
  induction l with
  | nil => simpa [risingPut] using h
  | cons a r ih =>
    simp only [risingPut] at h
    split at h
    · simpa using h
    · split at h
      · exact Or.inr h
      · rcases List.mem_cons.1 h with h | h
        · exact Or.inr (by simp [h])
        · exact (ih h).imp id (List.mem_cons_of_mem _)

/-- `risingPut` keeps a list strictly rising. -/
theorem risingWf_put {l : List Nat} (h : risingWf l = true) (k : Nat) : risingWf (risingPut l k) = true := by
  rw [risingWf_iff] at *
  induction l with
  | nil => simp [risingPut]
  | cons a r ih =>
    rw [List.pairwise_cons] at h
    simp only [risingPut]
    split
    · rename_i h1
      rw [List.pairwise_cons]
      refine ⟨fun x hx => ?_, List.pairwise_cons.2 h⟩
      rcases List.mem_cons.1 hx with rfl | hx
      · exact h1
      · exact lt_trans h1 (h.1 x hx)
    · split
      · exact List.pairwise_cons.2 h
      · rename_i h1 h2
        rw [List.pairwise_cons]
        refine ⟨fun x hx => ?_, ih h.2⟩
        rcases mem_risingPut hx with rfl | hx
        · omega
        · exact h.1 x hx

/-- A part of a strictly rising list is strictly rising. -/
theorem risingWf_filter {l : List Nat} (h : risingWf l = true) (p : Nat → Bool) : risingWf (l.filter p) = true := by
  rw [risingWf_iff] at *
  exact h.filter p

/-- The three parts of the canonical form of a memory. -/
theorem memory_wf_iff (m : Mem) : Memory.wf m = true ↔
    tabWf (fun _ => (0 : Byte)) m.cells = true ∧ risingWf m.poison = true ∧ risingWf m.broken = true := by
  simp [Memory.wf, and_assoc]

/-- An empty memory has the canonical form. -/
theorem noMem_wf : Memory.wf noMem = true := by decide

/-- Writing a byte keeps the canonical form. -/
theorem writeByte_wf {m : Mem} (h : Memory.wf m = true) (a : Nat) (b : Byte) : Memory.wf (writeByte m a b) = true := by
  rw [memory_wf_iff] at *
  exact ⟨tabWf_tset h.1 a b, h.2⟩

/-- Writing bytes keeps the canonical form. -/
theorem putBytes_wf {m : Mem} (h : Memory.wf m = true) (a : Nat) (bs : List Byte) : Memory.wf (putBytes m a bs) = true := by
  induction bs generalizing m a with
  | nil => exact h
  | cons b r ih => exact ih (writeByte_wf h a b) (a + 1)

/-- Clearing poison marks keeps the canonical form. -/
theorem clearPoison_wf {m : Mem} (h : Memory.wf m = true) (a n : Nat) : Memory.wf (clearPoison m a n) = true := by
  rw [memory_wf_iff] at *
  exact ⟨h.1, risingWf_filter h.2.1 _, risingWf_filter h.2.2 _⟩

/-- Writing bytes under R356 keeps the canonical form. -/
theorem writeBytes_wf {m : Mem} (h : Memory.wf m = true) (a : Nat) (bs : List Byte) : Memory.wf (writeBytes m a bs) = true :=
  clearPoison_wf (putBytes_wf h a bs) a bs.length

/-- Putting many numbers keeps a list strictly rising. -/
theorem risingWf_puts (f : Nat → Nat) (is : List Nat) {l : List Nat} (h : risingWf l = true) :
    risingWf (is.foldl (fun p i => risingPut p (f i)) l) = true := by
  induction is generalizing l with
  | nil => exact h
  | cons i r ih => exact ih (risingWf_put h (f i))

/-- Marking words as poisoned keeps the canonical form. -/
theorem markPoison_wf {m : Mem} (h : Memory.wf m = true) (a n : Nat) : Memory.wf (markPoison m a n) = true := by
  rw [memory_wf_iff] at *
  exact ⟨h.1, risingWf_puts _ _ h.2.1, h.2.2⟩

/-- Marking a word as uncorrectable keeps the canonical form. -/
theorem markBroken_wf {m : Mem} (h : Memory.wf m = true) (a : Nat) : Memory.wf (markBroken m a) = true := by
  rw [memory_wf_iff] at *
  exact ⟨h.1, h.2.1, risingWf_put h.2.2 _⟩

/-- A byte written is read back. -/
theorem readByte_writeByte_same (m : Mem) (a : Nat) (b : Byte) : readByte (writeByte m a b) a = b :=
  tget_tset_same 0 b m.cells a

/-- Writing a byte leaves every other byte alone. -/
theorem readByte_writeByte_other (m : Mem) {a x : Nat} (h : x ≠ a) (b : Byte) : readByte (writeByte m a b) x = readByte m x :=
  tget_tset_other 0 0 b h m.cells

/-- Writing bytes leaves every byte outside them alone. -/
theorem readByte_putBytes_other (bs : List Byte) (m : Mem) {a x : Nat} (h : x < a ∨ a + bs.length ≤ x) :
    readByte (putBytes m a bs) x = readByte m x := by
  induction bs generalizing m a with
  | nil => rfl
  | cons b r ih =>
    simp only [List.length_cons] at h
    rw [putBytes, ih _ (by omega), readByte_writeByte_other _ (by omega)]

/-- Writing bytes under R356 leaves every byte outside them alone. -/
theorem readByte_writeBytes_other (bs : List Byte) (m : Mem) {a x : Nat} (h : x < a ∨ a + bs.length ≤ x) :
    readByte (writeBytes m a bs) x = readByte m x :=
  readByte_putBytes_other bs m h

/-- Bytes written are read back. -/
theorem readByte_putBytes_in (bs : List Byte) {m : Mem} (h : Memory.wf m = true) (a i : Nat) (hi : i < bs.length) :
    readByte (putBytes m a bs) (a + i) = bs[i] := by
  induction bs generalizing m a i with
  | nil => simp at hi
  | cons b r ih =>
    rw [putBytes]
    cases i with
    | zero => rw [readByte_putBytes_other _ _ (by omega)]; simpa using readByte_writeByte_same m a b
    | succ i =>
      have := ih (writeByte_wf h a b) (a + 1) i (by simpa using hi)
      simpa [Nat.add_assoc, Nat.add_comm 1] using this

/-- Bytes written under R356 are read back. -/
theorem readByte_writeBytes_in (bs : List Byte) {m : Mem} (h : Memory.wf m = true) (a i : Nat) (hi : i < bs.length) :
    readByte (writeBytes m a bs) (a + i) = bs[i] :=
  readByte_putBytes_in bs h a i hi

end Sys2Proof.Machine
end

