-- ==== Sys2Proof/Laws/Keep.lean ====
section
/-!
SUPPORT. What every operation keeps: the canonical form of registers and memories, and the queue.  One lemma per function of the
model; the lemma of a function cites those of the functions that it calls.
-/

namespace Sys2Proof.Machine

/-- The state is in canonical form (`Sound`) and its queue is `q`. -/
def Ok (q : List Instr) (s : State) : Prop := s.pending = q ∧ Sound s = true

/-- The five parts of the canonical form. -/
theorem sound_iff (s : State) : Sound s = true ↔ tabWf resetVal s.regs = true ∧ Memory.wf s.sound = true
    ∧ Memory.wf s.dram.a = true ∧ Memory.wf s.dram.b = true ∧ Memory.wf s.dram.c = true := by
  simp [Sound, and_assoc]

/-- A change of anything but queue, registers and memories keeps. -/
theorem ok_of_same {q : List Instr} {s t : State} (h : Ok q s) (h1 : t.pending = s.pending) (h2 : t.regs = s.regs)
    (h3 : t.sound = s.sound) (h4 : t.dram = s.dram) : Ok q t := by
  obtain ⟨ha, hb⟩ := h
  rw [sound_iff] at hb
  refine ⟨h1.trans ha, (sound_iff t).2 ?_⟩
  rw [h2, h3, h4]
  exact hb

/-- A state put together from the queue, registers and memories of one that is kept. -/
theorem ok_mk {q : List Instr} {s : State} (h : Ok q s)
    (snaps' : Tab RegFile) (time' : TimeSt) (ptp' : PtpSt) (meridian' : Meridian) (lanes' : PerLane LaneSt)
    (rejoin' : RejoinSt) (chrono' : ChronoSt) (jobs' : Tab JobSt) (rings' : Tab RingSt) (journal' : List
    JRecord) (journalBuildSet' : Bool) (journalSetup' : Tab RingSetup) (journalBad' : List Nat) (evq' : EvqSt) (retain' : RetainSt) (restart' :
    RestartSt) (force' : ForceSt) (net' : NetSt) (safe' : Tab SafeConn) (can' : Tab CanCh) (filters' : Tab
    CanFlt) (isth' : IsthSt) (holm' : HolmSt) (motion' : MotionSt) (fm' : FaultSt) (pair' : PairSt) (skerry' :
    SkerrySt) (store' : StoreSt) (recorder' : RecSt) (recQ' : List Record) (svc' : SvcSt) (tap' : TapSt) (out' :
    List Out) (freeCount' : Nat) :
    Ok q { s with
      snaps := snaps', time := time', ptp := ptp', meridian := meridian', lanes := lanes', rejoin := rejoin',
      chrono := chrono', jobs := jobs', rings := rings', journal := journal', journalBuildSet :=
      journalBuildSet', journalSetup := journalSetup', journalBad := journalBad', evq := evq', retain := retain', restart := restart', force :=
      force', net := net', safe := safe', can := can', filters := filters', isth := isth', holm := holm', motion
      := motion', fm := fm', pair := pair', skerry := skerry', store := store', recorder := recorder', recQ :=
      recQ', svc := svc', tap := tap', out := out', freeCount := freeCount' } :=
  ok_of_same h rfl rfl rfl rfl

/-- A fold over a list. -/
theorem ok_foldl {q : List Instr} {α : Type} {f : State → α → State} (k : ∀ s a, Ok q s → Ok q (f s a)) (l : List α) {s : State}
    (h : Ok q s) : Ok q (l.foldl f s) := by
  induction l generalizing s with
  | nil => exact h
  | cons a r ih => exact ih (k s a h)

/-- The second part of an answer. -/
theorem ok_snd {q : List Instr} {α : Type} {p : α × State} {a : α} {t : State} (hp : p = (a, t)) (h : Ok q p.2) : Ok q t := by
  rw [hp] at h
  exact h

/-- The last of three parts of an answer. -/
theorem ok_snd2 {q : List Instr} {α β : Type} {p : α × β × State} {a : α} {b : β} {t : State} (hp : p = (a, b, t))
    (h : Ok q p.2.2) : Ok q t := by
  rw [hp] at h
  exact h

/-- The first part of an answer. -/
theorem ok_fst {q : List Instr} {α : Type} {p : State × α} {a : α} {t : State} (hp : p = (t, a)) (h : Ok q p.1) : Ok q t := by
  rw [hp] at h
  exact h

/-- A fold that carries more than the state. -/
theorem ok_foldl_snd {q : List Instr} {α β : Type} {f : β × State → α → β × State}
    (k : ∀ p a, Ok q p.2 → Ok q (f p a).2) (l : List α) {p : β × State} (h : Ok q p.2) : Ok q (l.foldl f p).2 := by
  induction l generalizing p with
  | nil => exact h
  | cons a r ih => exact ih (k p a h)

/-- A register written. -/
theorem setReg_ok {q : List Instr} {s : State} (h : Ok q s) (k : Nat) (v : Word) : Ok q (setReg s k v) := by
  obtain ⟨ha, hb⟩ := h
  rw [sound_iff] at hb
  exact ⟨ha, (sound_iff _).2 ⟨tabWf_tset hb.1 k v, hb.2⟩⟩

/-- Registers dropped to their reset value, with changes beside queue, registers and memories. -/
theorem ok_regs_filter {q : List Instr} {s : State} (h : Ok q s) (p : Nat × Word → Bool)
    (snaps' : Tab RegFile) (time' : TimeSt) (ptp' : PtpSt) (meridian' : Meridian) (lanes' : PerLane LaneSt)
    (rejoin' : RejoinSt) (chrono' : ChronoSt) (jobs' : Tab JobSt) (rings' : Tab RingSt) (journal' : List
    JRecord) (journalBuildSet' : Bool) (journalSetup' : Tab RingSetup) (journalBad' : List Nat) (evq' : EvqSt) (retain' : RetainSt) (restart' :
    RestartSt) (force' : ForceSt) (net' : NetSt) (safe' : Tab SafeConn) (can' : Tab CanCh) (filters' : Tab
    CanFlt) (isth' : IsthSt) (holm' : HolmSt) (motion' : MotionSt) (fm' : FaultSt) (pair' : PairSt) (skerry' :
    SkerrySt) (store' : StoreSt) (recorder' : RecSt) (recQ' : List Record) (svc' : SvcSt) (tap' : TapSt) (out' :
    List Out) (freeCount' : Nat) :
    Ok q { s with
      regs := s.regs.filter p,
      snaps := snaps', time := time', ptp := ptp', meridian := meridian', lanes := lanes', rejoin := rejoin',
      chrono := chrono', jobs := jobs', rings := rings', journal := journal', journalBuildSet :=
      journalBuildSet', journalSetup := journalSetup', journalBad := journalBad', evq := evq', retain := retain', restart := restart', force :=
      force', net := net', safe := safe', can := can', filters := filters', isth := isth', holm := holm', motion
      := motion', fm := fm', pair := pair', skerry := skerry', store := store', recorder := recorder', recQ :=
      recQ', svc := svc', tap := tap', out := out', freeCount := freeCount' } := by
  obtain ⟨ha, hb⟩ := h
  rw [sound_iff] at hb
  exact ⟨ha, (sound_iff _).2 ⟨tabWf_sublist hb.1 List.filter_sublist, hb.2⟩⟩

/-- All memories emptied. -/
theorem ok_noMem {q : List Instr} {s : State} (h : Ok q s) : Ok q { s with dram := ⟨noMem, noMem, noMem⟩, sound := noMem } := by
  obtain ⟨ha, hb⟩ := h
  rw [sound_iff] at hb
  exact ⟨ha, (sound_iff _).2 ⟨hb.1, noMem_wf, noMem_wf, noMem_wf, noMem_wf⟩⟩

/-- Sound memory replaced by one in canonical form. -/
theorem ok_sound {q : List Instr} {s : State} (h : Ok q s) {m : Mem} (hm : Memory.wf s.sound = true → Memory.wf m = true) :
    Ok q { s with sound := m } := by
  obtain ⟨ha, hb⟩ := h
  rw [sound_iff] at hb
  exact ⟨ha, (sound_iff _).2 ⟨hb.1, hm hb.2.1, hb.2.2⟩⟩

/-- The memory of a lane in a canonical state. -/
theorem ok_dram_get {q : List Instr} {s : State} (h : Ok q s) (l : Lane) : Memory.wf (s.dram.get l) = true := by
  obtain ⟨_, hb⟩ := h
  rw [sound_iff] at hb
  cases l <;> simp [PerLane.get, hb]

/-- DRAM of a lane replaced by a memory in canonical form. -/
theorem ok_dram {q : List Instr} {s : State} (h : Ok q s) (l : Lane) {m : Mem}
    (hm : Memory.wf (s.dram.get l) = true → Memory.wf m = true) : Ok q { s with dram := s.dram.set l m } := by
  have hg := ok_dram_get h l
  obtain ⟨ha, hb⟩ := h
  rw [sound_iff] at hb
  refine ⟨ha, (sound_iff _).2 ?_⟩
  cases l <;> simp [PerLane.set, hb, hm hg]

end Sys2Proof.Machine
end

