-- ==== Sys2Proof/Laws/KeepOps.lean ====
section
/-!
SUPPORT. What the operations of Machine/Ops.lean keep: the canonical form of registers and memories, and the queue.
-/

namespace Sys2Proof.Machine

/-- `setFld` keeps. -/
theorem setFld_ok {qq : List Instr} (s : State) (k hi lo v : Nat) (hs : Ok qq s) :
    Ok qq (setFld s k hi lo v) := by
  unfold setFld
  with_reducible apply setReg_ok
  with_reducible assumption

/-- `setBit` keeps. -/
theorem setBit_ok {qq : List Instr} (s : State) (k i : Nat) (b : Bool) (hs : Ok qq s) :
    Ok qq (setBit s k i b) := by
  unfold setBit
  with_reducible apply setFld_ok
  with_reducible assumption

/-- `satAdd` keeps. -/
theorem satAdd_ok {qq : List Instr} (s : State) (k hi lo n : Nat) (hs : Ok qq s) :
    Ok qq (satAdd s k hi lo n) := by
  unfold satAdd
  with_reducible apply setFld_ok
  with_reducible assumption

/-- `set64` keeps. -/
theorem set64_ok {qq : List Instr} (s : State) (k : Nat) (v : Dword) (hs : Ok qq s) :
    Ok qq (set64 s k v) := by
  unfold set64
  with_reducible apply setReg_ok
  with_reducible apply setReg_ok
  with_reducible assumption

/-- `takeFree` keeps. -/
theorem takeFree_ok {qq : List Instr} (s : State) (hs : Ok qq s) :
    Ok qq (takeFree s).2 := by
  unfold takeFree
  dsimp only
  (with_reducible apply ok_mk; with_reducible assumption)

/-- `emitOut` keeps. -/
theorem emitOut_ok {qq : List Instr} (s : State) (o : Out) (hs : Ok qq s) :
    Ok qq (emitOut s o) := by
  unfold emitOut
  (with_reducible apply ok_mk; with_reducible assumption)

/-- `recCount` keeps. -/
theorem recCount_ok {qq : List Instr} (k : Nat) (s : State) (hs : Ok qq s) :
    Ok qq (recCount k s) := by
  unfold recCount
  extract_lets +onlyGivenNames -underBinder -merge -useContext x1
  clear_value x1
  extract_lets +onlyGivenNames -underBinder -merge -useContext x2
  clear_value x2
  (with_reducible apply ok_mk; with_reducible assumption)

/-- `putLaneState` keeps. -/
theorem putLaneState_ok {qq : List Instr} (s : State) (l : Lane) (st : LaneState) (hs : Ok qq s) :
    Ok qq (putLaneState s l st) := by
  unfold putLaneState
  with_reducible apply setFld_ok
  with_reducible assumption

/-- `showIsth` keeps. -/
theorem showIsth_ok {qq : List Instr} (s : State) (hs : Ok qq s) :
    Ok qq (showIsth s) := by
  unfold showIsth
  extract_lets +onlyGivenNames -underBinder -merge -useContext x1
  refine (?_ : Ok qq x1 → _) ?_
  on_goal 2 =>
    unfold x1
    with_reducible apply setFld_ok
    with_reducible apply setFld_ok
    with_reducible assumption
  (clear_value x1; intro hx1)
  with_reducible apply setBit_ok
  with_reducible assumption

/-- `setVotes` keeps. -/
theorem setVotes_ok {qq : List Instr} (s : State) (l : List WinVote) (hs : Ok qq s) :
    Ok qq (setVotes s l) := by
  unfold setVotes
  with_reducible apply showIsth_ok
  (with_reducible apply ok_mk; with_reducible assumption)

/-- `dropDead` keeps. -/
theorem dropDead_ok {qq : List Instr} (s : State) (hs : Ok qq s) :
    Ok qq (dropDead s) := by
  unfold dropDead
  with_reducible apply showIsth_ok
  (with_reducible apply ok_mk; with_reducible assumption)

/-- `dropTold` keeps. -/
theorem dropTold_ok {qq : List Instr} (s : State) (hs : Ok qq s) :
    Ok qq (dropTold s) := by
  unfold dropTold
  with_reducible apply dropDead_ok
  with_reducible apply setVotes_ok
  with_reducible assumption

/-- `dropAccesses` keeps. -/
theorem dropAccesses_ok {qq : List Instr} (l : Lane) (s : State) (hs : Ok qq s) :
    Ok qq (dropAccesses l s) := by
  unfold dropAccesses
  (with_reducible apply ok_mk; with_reducible assumption)

/-- `setJob` keeps. -/
theorem setJob_ok {qq : List Instr} (s : State) (t : Nat) (j : JobSt) (hs : Ok qq s) :
    Ok qq (setJob s t j) := by
  unfold setJob
  (with_reducible apply ok_mk; with_reducible assumption)

/-- `setLane` keeps. -/
theorem setLane_ok {qq : List Instr} (s : State) (l : Lane) (x : LaneSt) (hs : Ok qq s) :
    Ok qq (setLane s l x) := by
  unfold setLane
  (with_reducible apply ok_mk; with_reducible assumption)

/-- `setPending` keeps. -/
theorem setPending_ok {qq : List Instr} (s : State) (l : List Record) (hs : Ok qq s) :
    Ok qq (setPending s l) := by
  unfold setPending
  with_reducible apply setFld_ok
  with_reducible apply setFld_ok
  (with_reducible apply ok_mk; with_reducible assumption)

/-- `showOverflow` keeps. -/
theorem showOverflow_ok {qq : List Instr} (s : State) (hs : Ok qq s) :
    Ok qq (showOverflow s) := by
  unfold showOverflow
  extract_lets +onlyGivenNames -underBinder -merge -useContext x1
  refine (?_ : Ok qq x1 → _) ?_
  on_goal 2 =>
    unfold x1
    with_reducible apply setFld_ok
    with_reducible assumption
  (clear_value x1; intro hx1)
  extract_lets +onlyGivenNames -underBinder -merge -useContext x2
  refine (?_ : Ok qq x2 → _) ?_
  on_goal 2 =>
    unfold x2
    with_reducible apply setFld_ok
    with_reducible assumption
  (clear_value x2; intro hx2)
  with_reducible apply ok_foldl
  · intro a3 a4 h5
    with_reducible apply setBit_ok
    with_reducible assumption
  · with_reducible assumption

/-- `countRecord` keeps. -/
theorem countRecord_ok {qq : List Instr} (s : State) (q : Nat) (hs : Ok qq s) :
    Ok qq (countRecord s q).2 := by
  unfold countRecord
  extract_lets +onlyGivenNames -underBinder -merge -useContext x1
  clear_value x1
  dsimp only
  (with_reducible apply ok_mk; with_reducible assumption)

/-- `toCounters` keeps. -/
theorem toCounters_ok {qq : List Instr} (s : State) (q : Nat) (r : Record) (hs : Ok qq s) :
    Ok qq (toCounters s q r) := by
  unfold toCounters
  extract_lets +onlyGivenNames -underBinder -merge -useContext x1
  clear_value x1
  extract_lets +onlyGivenNames -underBinder -merge -useContext x2
  clear_value x2
  extract_lets +onlyGivenNames -underBinder -merge -useContext x3
  clear_value x3
  extract_lets +onlyGivenNames -underBinder -merge -useContext x4
  refine (?_ : Ok qq x4 → _) ?_
  on_goal 2 =>
    unfold x4
    split
    · (with_reducible apply ok_mk; with_reducible assumption)
    · (with_reducible apply ok_mk; with_reducible assumption)
  (clear_value x4; intro hx4)
  with_reducible apply showOverflow_ok
  with_reducible apply setBit_ok
  with_reducible assumption

/-- `freeEntry` keeps. -/
theorem freeEntry_ok {qq : List Instr} (r : Record) (s : State) (hs : Ok qq s) :
    Ok qq (freeEntry r s) := by
  unfold freeEntry
  split
  · split
    · with_reducible apply showIsth_ok
      (with_reducible apply ok_mk; with_reducible assumption)
    · with_reducible assumption
  · with_reducible assumption

/-- `pushPending` keeps. -/
theorem pushPending_ok {qq : List Instr} (s : State) (r : Record) (hs : Ok qq s) :
    Ok qq (pushPending s r).1 := by
  have k : ∀ (t : State) (r : Record), Ok qq t → Ok qq (freeEntry r (setBit (toCounters
      (countRecord t (routeQueue t r.code r.sev)).2 (routeQueue t r.code r.sev) r) Reg.faultError 3 true)) :=
    fun t r h => freeEntry_ok _ _ (setBit_ok _ _ _ _ (toCounters_ok _ _ _ (countRecord_ok _ _ h)))
  unfold pushPending
  split
  · exact setPending_ok _ _ hs
  · split
    · exact k _ _ hs
    · split
      · split
        · exact setPending_ok _ _ (k _ _ hs)
        · exact k _ _ hs
      · exact k _ _ hs

/-- `raiseLevel` keeps. -/
theorem raiseLevel_ok {qq : List Instr} (s : State) (code : Nat) (r : Reaction) (hs : Ok qq s) :
    Ok qq (raiseLevel s code r) := by
  unfold raiseLevel
  split
  · extract_lets +onlyGivenNames -underBinder -merge -useContext x1
    refine (?_ : Ok qq x1 → _) ?_
    on_goal 2 =>
      unfold x1
      with_reducible apply setFld_ok
      with_reducible assumption
    (clear_value x1; intro hx1)
    with_reducible apply setReg_ok
    with_reducible assumption
  · with_reducible assumption

/-- `queueRec` keeps. -/
theorem queueRec_ok {qq : List Instr} (r : Record) (s : State) (hs : Ok qq s) :
    Ok qq (queueRec r s) := by
  unfold queueRec
  extract_lets +onlyGivenNames -underBinder -merge -useContext x1
  clear_value x1
  with_reducible apply setFld_ok
  (with_reducible apply ok_mk; with_reducible assumption)

/-- `applyStatus` keeps. -/
theorem applyStatus_ok {qq : List Instr} (s : State) (rec' : Record) (hs : Ok qq s) :
    Ok qq (applyStatus s rec') := by
  unfold applyStatus
  extract_lets +onlyGivenNames -underBinder -merge -useContext x1
  clear_value x1
  extract_lets +onlyGivenNames -underBinder -merge -useContext x2
  refine (?_ : Ok qq x2 → _) ?_
  on_goal 2 =>
    unfold x2
    split
    · with_reducible apply setBit_ok
      with_reducible apply queueRec_ok
      with_reducible assumption
    · with_reducible assumption
  (clear_value x2; intro hx2)
  extract_lets +onlyGivenNames -underBinder -merge -useContext x3
  refine (?_ : Ok qq x3 → _) ?_
  on_goal 2 =>
    unfold x3
    split
    · with_reducible apply setBit_ok
      with_reducible assumption
    · with_reducible assumption
  (clear_value x3; intro hx3)
  with_reducible apply raiseLevel_ok
  with_reducible assumption

/-- `stopChrono` keeps. -/
theorem stopChrono_ok {qq : List Instr} (s : State) (hs : Ok qq s) :
    Ok qq (stopChrono s) := by
  unfold stopChrono
  split
  · with_reducible apply setBit_ok
    (with_reducible apply ok_mk; with_reducible assumption)
  · with_reducible assumption

/-- `mstOut` keeps. -/
theorem mstOut_ok {qq : List Instr} (s : State) (m : MstLevel) (hs : Ok qq s) :
    Ok qq (mstOut s m) := by
  unfold mstOut
  with_reducible apply setFld_ok
  with_reducible assumption

/-- `changeModState` keeps. -/
theorem changeModState_ok {qq : List Instr} (rz : RaiseFn) (new : ModState) (s : State) (hs : Ok qq s) (hrz : ∀ e a b c x, Ok qq x → Ok qq (rz e a b c x)) :
    Ok qq (changeModState rz new s) := by
  unfold changeModState
  extract_lets +onlyGivenNames -underBinder -merge -useContext x1
  clear_value x1
  split
  · with_reducible assumption
  · extract_lets +onlyGivenNames -underBinder -merge -useContext x2
    clear_value x2
    extract_lets +onlyGivenNames -underBinder -merge -useContext x3
    refine (?_ : Ok qq x3 → _) ?_
    on_goal 2 =>
      unfold x3
      with_reducible apply setFld_ok
      with_reducible assumption
    (clear_value x3; intro hx3)
    extract_lets +onlyGivenNames -underBinder -merge -useContext x4
    refine (?_ : Ok qq x4 → _) ?_
    on_goal 2 =>
      unfold x4
      split
      · with_reducible apply setFld_ok
        with_reducible assumption
      · with_reducible assumption
    (clear_value x4; intro hx4)
    with_reducible apply hrz
    with_reducible assumption

/-- `setChan` keeps. -/
theorem setChan_ok {qq : List Instr} (s : State) (n : Nat) (c : CanCh) (hs : Ok qq s) :
    Ok qq (setChan s n c) := by
  unfold setChan
  (with_reducible apply ok_mk; with_reducible assumption)

/-- `abortChan` keeps. -/
theorem abortChan_ok {qq : List Instr} (n : Nat) (s : State) (hs : Ok qq s) :
    Ok qq (abortChan n s) := by
  unfold abortChan
  extract_lets +onlyGivenNames -underBinder -merge -useContext x1
  clear_value x1
  split
  · with_reducible apply setFld_ok
    with_reducible apply setChan_ok
    with_reducible assumption
  · with_reducible assumption

/-- `abortCan` keeps. -/
theorem abortCan_ok {qq : List Instr} (s : State) (hs : Ok qq s) :
    Ok qq (abortCan s) := by
  unfold abortCan
  with_reducible apply ok_foldl
  · intro a1 a2 h3
    with_reducible apply abortChan_ok
    with_reducible assumption
  · with_reducible assumption

/-- `abortNet` keeps. -/
theorem abortNet_ok {qq : List Instr} (s : State) (hs : Ok qq s) :
    Ok qq (abortNet s) := by
  unfold abortNet
  extract_lets +onlyGivenNames -underBinder -merge -useContext x1
  clear_value x1
  (with_reducible apply ok_mk; with_reducible assumption)

/-- `abortIsth` keeps. -/
theorem abortIsth_ok {qq : List Instr} (s : State) (hs : Ok qq s) :
    Ok qq (abortIsth s) := by
  unfold abortIsth
  with_reducible apply showIsth_ok
  (with_reducible apply ok_mk; with_reducible assumption)

/-- `abortRec` keeps. -/
theorem abortRec_ok {qq : List Instr} (s : State) (hs : Ok qq s) :
    Ok qq (abortRec s) := by
  unfold abortRec
  extract_lets +onlyGivenNames -underBinder -merge -useContext x1
  clear_value x1
  split
  · with_reducible assumption
  · with_reducible apply setFld_ok
    (with_reducible apply ok_mk; with_reducible assumption)

/-- `abortAll` keeps. -/
theorem abortAll_ok {qq : List Instr} (s : State) (hs : Ok qq s) :
    Ok qq (abortAll s) := by
  unfold abortAll
  with_reducible apply abortRec_ok
  with_reducible apply abortIsth_ok
  with_reducible apply abortNet_ok
  with_reducible apply abortCan_ok
  with_reducible assumption

/-- `enterSafeHalt` keeps. -/
theorem enterSafeHalt_ok {qq : List Instr} (rz : RaiseFn) (s : State) (hs : Ok qq s)
    (hrz : ∀ e a b c x, Ok qq x → Ok qq (rz e a b c x)) : Ok qq (enterSafeHalt rz s) := by
  have h1 : Ok qq (if modState s = .active then abortAll s else s) := by
    split
    · exact abortAll_ok _ hs
    · exact hs
  have h2 := mstOut_ok _ .alive (stopChrono_ok _ h1)
  unfold enterSafeHalt
  dsimp only
  exact changeModState_ok rz _ _ (setBit_ok _ _ _ _ (ok_mk h2 ..)) hrz

/-- `giveUp` keeps. -/
theorem giveUp_ok {qq : List Instr} (rz : RaiseFn) (cause : GiveUpCause) (s : State) (hs : Ok qq s) (hrz : ∀ e a b c x, Ok qq x → Ok qq (rz e a b c x)) :
    Ok qq (giveUp rz cause s) := by
  unfold giveUp
  split
  · split
    · split
      · extract_lets +onlyGivenNames -underBinder -merge -useContext x1
        refine (?_ : Ok qq x1 → _) ?_
        on_goal 2 =>
          unfold x1
          with_reducible apply emitOut_ok
          with_reducible assumption
        (clear_value x1; intro hx1)
        extract_lets +onlyGivenNames -underBinder -merge -useContext x2
        refine (?_ : Ok qq x2 → _) ?_
        on_goal 2 =>
          unfold x2
          with_reducible apply mstOut_ok
          with_reducible apply stopChrono_ok
          with_reducible assumption
        (clear_value x2; intro hx2)
        extract_lets +onlyGivenNames -underBinder -merge -useContext x3
        clear_value x3
        extract_lets +onlyGivenNames -underBinder -merge -useContext x4
        refine (?_ : Ok qq x4 → _) ?_
        on_goal 2 =>
          unfold x4
          with_reducible apply recCount_ok
          (with_reducible apply ok_mk; with_reducible assumption)
        (clear_value x4; intro hx4)
        with_reducible apply hrz
        with_reducible assumption
      · with_reducible assumption
    · with_reducible apply enterSafeHalt_ok
      · with_reducible assumption
      · intro a5 a6 a7 a8 a9 h10
        with_reducible apply hrz
        with_reducible assumption
  · with_reducible assumption

/-- `applyYield` keeps. -/
theorem applyYield_ok {qq : List Instr} (rz : RaiseFn) (s : State) (hs : Ok qq s) (hrz : ∀ e a b c x, Ok qq x → Ok qq (rz e a b c x)) :
    Ok qq (applyYield rz s) := by
  unfold applyYield
  split
  · with_reducible apply giveUp_ok
    · with_reducible assumption
    · intro a1 a2 a3 a4 a5 h6
      with_reducible apply hrz
      with_reducible assumption
  · with_reducible apply enterSafeHalt_ok
    · with_reducible assumption
    · intro a7 a8 a9 a10 a11 h12
      with_reducible apply hrz
      with_reducible assumption
  · with_reducible apply enterSafeHalt_ok
    · with_reducible assumption
    · intro a13 a14 a15 a16 a17 h18
      with_reducible apply hrz
      with_reducible assumption
  · with_reducible assumption

/-- `applySafeHalt` keeps. -/
theorem applySafeHalt_ok {qq : List Instr} (rz : RaiseFn) (s : State) (hs : Ok qq s) (hrz : ∀ e a b c x, Ok qq x → Ok qq (rz e a b c x)) :
    Ok qq (applySafeHalt rz s) := by
  unfold applySafeHalt
  split
  · extract_lets +onlyGivenNames -underBinder -merge -useContext x1
    refine (?_ : Ok qq x1 → _) ?_
    on_goal 2 =>
      unfold x1
      split
      · with_reducible apply giveUp_ok
        · with_reducible assumption
        · intro a8 a9 a10 a11 a12 h13
          with_reducible apply hrz
          with_reducible assumption
      · with_reducible assumption
    (clear_value x1; intro hx1)
    with_reducible apply enterSafeHalt_ok
    · with_reducible assumption
    · intro a2 a3 a4 a5 a6 h7
      with_reducible apply hrz
      with_reducible assumption
  · with_reducible assumption

/-- `loseEligible` keeps. -/
theorem loseEligible_ok {qq : List Instr} (rz : RaiseFn) (reason : Nat) (s : State) (hs : Ok qq s) (hrz : ∀ e a b c x, Ok qq x → Ok qq (rz e a b c x)) :
    Ok qq (loseEligible rz reason s) := by
  unfold loseEligible
  extract_lets +onlyGivenNames -underBinder -merge -useContext x1
  clear_value x1
  extract_lets +onlyGivenNames -underBinder -merge -useContext x2
  clear_value x2
  extract_lets +onlyGivenNames -underBinder -merge -useContext x3
  refine (?_ : Ok qq x3 → _) ?_
  on_goal 2 =>
    unfold x3
    (with_reducible apply ok_mk; with_reducible assumption)
  (clear_value x3; intro hx3)
  split
  · extract_lets +onlyGivenNames -underBinder -merge -useContext x4
    refine (?_ : Ok qq x4 → _) ?_
    on_goal 2 =>
      unfold x4
      with_reducible apply satAdd_ok
      with_reducible apply setBit_ok
      with_reducible assumption
    (clear_value x4; intro hx4)
    with_reducible apply hrz
    with_reducible assumption
  · with_reducible assumption

/-- `updateMode` keeps. -/
theorem updateMode_ok {qq : List Instr} (rz : RaiseFn) (s : State) (hs : Ok qq s) (hrz : ∀ e a b c x, Ok qq x → Ok qq (rz e a b c x)) :
    Ok qq (updateMode rz s) := by
  unfold updateMode
  extract_lets +onlyGivenNames -underBinder -merge -useContext x1
  clear_value x1
  extract_lets +onlyGivenNames -underBinder -merge -useContext x2
  clear_value x2
  split
  · with_reducible assumption
  · extract_lets +onlyGivenNames -underBinder -merge -useContext x3
    refine (?_ : Ok qq x3 → _) ?_
    on_goal 2 =>
      unfold x3
      with_reducible apply setFld_ok
      with_reducible assumption
    (clear_value x3; intro hx3)
    extract_lets +onlyGivenNames -underBinder -merge -useContext x4
    clear_value x4
    extract_lets +onlyGivenNames -underBinder -merge -useContext x5
    refine (?_ : Ok qq x5 → _) ?_
    on_goal 2 =>
      unfold x5
      split
      · (with_reducible apply ok_mk; with_reducible assumption)
      · with_reducible assumption
    (clear_value x5; intro hx5)
    extract_lets +onlyGivenNames -underBinder -merge -useContext x6
    refine (?_ : Ok qq x6 → _) ?_
    on_goal 2 =>
      unfold x6
      with_reducible apply hrz
      with_reducible assumption
    (clear_value x6; intro hx6)
    extract_lets +onlyGivenNames -underBinder -merge -useContext x7
    refine (?_ : Ok qq x7 → _) ?_
    on_goal 2 =>
      unfold x7
      split
      · with_reducible apply loseEligible_ok
        · with_reducible assumption
        · intro a14 a15 a16 a17 a18 h19
          with_reducible apply hrz
          with_reducible assumption
      · with_reducible assumption
    (clear_value x7; intro hx7)
    split
    · with_reducible apply applyYield_ok
      · with_reducible assumption
      · intro a8 a9 a10 a11 a12 h13
        with_reducible apply hrz
        with_reducible assumption
    · with_reducible assumption

/-- `dropIrqs` keeps. -/
theorem dropIrqs_ok {qq : List Instr} (l : Lane) (s : State) (hs : Ok qq s) :
    Ok qq (dropIrqs l s) := by
  unfold dropIrqs
  with_reducible apply setLane_ok
  with_reducible assumption

/-- `enterState` keeps. -/
theorem enterState_ok {qq : List Instr} (l : Lane) (new : LaneState) (s : State) (hs : Ok qq s) :
    Ok qq (enterState l new s) := by
  unfold enterState
  extract_lets +onlyGivenNames -underBinder -merge -useContext x1
  refine (?_ : Ok qq x1 → _) ?_
  on_goal 2 =>
    unfold x1
    with_reducible apply putLaneState_ok
    with_reducible assumption
  (clear_value x1; intro hx1)
  split
  · with_reducible assumption
  · with_reducible apply dropIrqs_ok
    with_reducible assumption

/-- `changeLane` keeps. -/
theorem changeLane_ok {qq : List Instr} (rz : RaiseFn) (l : Lane) (new : LaneState) (s : State) (hs : Ok qq s) (hrz : ∀ e a b c x, Ok qq x → Ok qq (rz e a b c x)) :
    Ok qq (changeLane rz l new s) := by
  unfold changeLane
  extract_lets +onlyGivenNames -underBinder -merge -useContext x1
  clear_value x1
  split
  · with_reducible assumption
  · extract_lets +onlyGivenNames -underBinder -merge -useContext x2
    refine (?_ : Ok qq x2 → _) ?_
    on_goal 2 =>
      unfold x2
      with_reducible apply enterState_ok
      with_reducible assumption
    (clear_value x2; intro hx2)
    extract_lets +onlyGivenNames -underBinder -merge -useContext x3
    refine (?_ : Ok qq x3 → _) ?_
    on_goal 2 =>
      unfold x3
      with_reducible apply hrz
      with_reducible assumption
    (clear_value x3; intro hx3)
    with_reducible apply updateMode_ok
    · with_reducible assumption
    · intro a4 a5 a6 a7 a8 h9
      with_reducible apply hrz
      with_reducible assumption

/-- `countExclusion` keeps. -/
theorem countExclusion_ok {qq : List Instr} (l : Lane) (reason task : Nat) (s : State) (hs : Ok qq s) :
    Ok qq (countExclusion l reason task s) := by
  unfold countExclusion
  extract_lets +onlyGivenNames -underBinder -merge -useContext x1
  refine (?_ : Ok qq x1 → _) ?_
  on_goal 2 =>
    unfold x1
    with_reducible apply recCount_ok
    with_reducible apply satAdd_ok
    with_reducible assumption
  (clear_value x1; intro hx1)
  with_reducible apply setReg_ok
  with_reducible assumption

/-- `isolate` keeps. -/
theorem isolate_ok {qq : List Instr} (l : Lane) (s : State) (hs : Ok qq s) :
    Ok qq (isolate l s) := by
  unfold isolate
  extract_lets +onlyGivenNames -underBinder -merge -useContext x1
  refine (?_ : Ok qq x1 → _) ?_
  on_goal 2 =>
    unfold x1
    with_reducible apply dropAccesses_ok
    with_reducible assumption
  (clear_value x1; intro hx1)
  (with_reducible apply ok_mk; with_reducible assumption)

/-- `rejoinIdle` keeps. -/
theorem rejoinIdle_ok {qq : List Instr} (s : State) (hs : Ok qq s) :
    Ok qq (rejoinIdle s) := by
  unfold rejoinIdle
  extract_lets +onlyGivenNames -underBinder -merge -useContext x1
  refine (?_ : Ok qq x1 → _) ?_
  on_goal 2 =>
    unfold x1
    with_reducible apply setFld_ok
    with_reducible apply setFld_ok
    with_reducible apply setFld_ok
    with_reducible assumption
  (clear_value x1; intro hx1)
  with_reducible apply setFld_ok
  with_reducible assumption

/-- `toExcluded` keeps. -/
theorem toExcluded_ok {qq : List Instr} (rz : RaiseFn) (l : Lane) (reason task : Nat) (s : State) (hs : Ok qq s) (hrz : ∀ e a b c x, Ok qq x → Ok qq (rz e a b c x)) :
    Ok qq (toExcluded rz l reason task s) := by
  unfold toExcluded
  extract_lets +onlyGivenNames -underBinder -merge -useContext x1
  refine (?_ : Ok qq x1 → _) ?_
  on_goal 2 =>
    unfold x1
    with_reducible apply isolate_ok
    with_reducible apply countExclusion_ok
    with_reducible assumption
  (clear_value x1; intro hx1)
  extract_lets +onlyGivenNames -underBinder -merge -useContext x2
  clear_value x2
  extract_lets +onlyGivenNames -underBinder -merge -useContext x3
  refine (?_ : Ok qq x3 → _) ?_
  on_goal 2 =>
    unfold x3
    with_reducible apply setLane_ok
    with_reducible assumption
  (clear_value x3; intro hx3)
  with_reducible apply dropTold_ok
  with_reducible apply changeLane_ok
  · with_reducible assumption
  · intro a4 a5 a6 a7 a8 h9
    with_reducible apply hrz
    with_reducible assumption

/-- `leaveCopy` keeps. -/
theorem leaveCopy_ok {qq : List Instr} (l : Lane) (s : State) (hs : Ok qq s) :
    Ok qq (leaveCopy l s) := by
  unfold leaveCopy
  extract_lets +onlyGivenNames -underBinder -merge -useContext x1
  clear_value x1
  extract_lets +onlyGivenNames -underBinder -merge -useContext x2
  refine (?_ : Ok qq x2 → _) ?_
  on_goal 2 =>
    unfold x2
    with_reducible apply setFld_ok
    with_reducible assumption
  (clear_value x2; intro hx2)
  split
  · with_reducible apply rejoinIdle_ok
    with_reducible assumption
  · with_reducible assumption

/-- `rejoinFailed` keeps. -/
theorem rejoinFailed_ok {qq : List Instr} (rz : RaiseFn) (l : Lane) (reason : Nat) (s : State) (hs : Ok qq s) (hrz : ∀ e a b c x, Ok qq x → Ok qq (rz e a b c x)) :
    Ok qq (rejoinFailed rz l reason s) := by
  unfold rejoinFailed
  with_reducible apply leaveCopy_ok
  with_reducible apply toExcluded_ok
  · with_reducible apply hrz
    with_reducible assumption
  · intro a1 a2 a3 a4 a5 h6
    with_reducible apply hrz
    with_reducible assumption

/-- `undoExclusion` keeps. -/
theorem undoExclusion_ok {qq : List Instr} (u : ExclUndo) (s : State) (hs : Ok qq s) :
    Ok qq (undoExclusion u s) := by
  unfold undoExclusion
  extract_lets +onlyGivenNames -underBinder -merge -useContext x1
  clear_value x1
  extract_lets +onlyGivenNames -underBinder -merge -useContext x2
  clear_value x2
  extract_lets +onlyGivenNames -underBinder -merge -useContext x3
  clear_value x3
  extract_lets +onlyGivenNames -underBinder -merge -useContext x4
  clear_value x4
  extract_lets +onlyGivenNames -underBinder -merge -useContext x5
  refine (?_ : Ok qq x5 → _) ?_
  on_goal 2 =>
    unfold x5
    (with_reducible apply ok_mk; with_reducible assumption)
  (clear_value x5; intro hx5)
  extract_lets +onlyGivenNames -underBinder -merge -useContext x6
  refine (?_ : Ok qq x6 → _) ?_
  on_goal 2 =>
    unfold x6
    with_reducible apply setReg_ok
    with_reducible apply setFld_ok
    with_reducible assumption
  (clear_value x6; intro hx6)
  with_reducible apply putLaneState_ok
  with_reducible apply setLane_ok
  with_reducible assumption

/-- `excludeVoting` keeps. -/
theorem excludeVoting_ok {qq : List Instr} (rz : RaiseFn) (code : Option Nat) (ls : List Lane) (reason task : Nat) (s : State) (hs : Ok qq s) (hrz : ∀ e a b c x, Ok qq x → Ok qq (rz e a b c x)) :
    Ok qq (excludeVoting rz code ls reason task s) := by
  unfold excludeVoting
  extract_lets +onlyGivenNames -underBinder -merge -useContext x1
  clear_value x1
  extract_lets +onlyGivenNames -underBinder -merge -useContext x2
  clear_value x2
  split
  · with_reducible assumption
  · split
    · extract_lets +onlyGivenNames -underBinder -merge -useContext x3
      refine (?_ : Ok qq x3 → _) ?_
      on_goal 2 =>
        unfold x3
        with_reducible apply ok_foldl
        · intro a12 a13 h14
          with_reducible apply undoExclusion_ok
          with_reducible assumption
        · with_reducible assumption
      (clear_value x3; intro hx3)
      extract_lets +onlyGivenNames -underBinder -merge -useContext x4
      clear_value x4
      extract_lets +onlyGivenNames -underBinder -merge -useContext x5
      refine (?_ : Ok qq x5 → _) ?_
      on_goal 2 =>
        unfold x5
        with_reducible apply setFld_ok
        (with_reducible apply ok_mk; with_reducible assumption)
      (clear_value x5; intro hx5)
      split
      with_reducible apply applyYield_ok
      · with_reducible apply raiseLevel_ok
        with_reducible refine ok_snd (by assumption) ?_
        split
        · with_reducible assumption
        · split
          dsimp only
          with_reducible refine ok_snd (by assumption) ?_
          with_reducible apply takeFree_ok
          with_reducible assumption
      · intro a6 a7 a8 a9 a10 h11
        with_reducible apply hrz
        with_reducible assumption
    · extract_lets +onlyGivenNames -underBinder -merge -useContext x15
      clear_value x15
      extract_lets +onlyGivenNames -underBinder -merge -useContext x16
      refine (?_ : Ok qq x16 → _) ?_
      on_goal 2 =>
        unfold x16
        (with_reducible apply ok_mk; with_reducible assumption)
      (clear_value x16; intro hx16)
      extract_lets +onlyGivenNames -underBinder -merge -useContext x17
      refine (?_ : Ok qq x17 → _) ?_
      on_goal 2 =>
        unfold x17
        with_reducible apply ok_foldl
        · intro a29 a30 h31
          with_reducible apply toExcluded_ok
          · with_reducible assumption
          · intro a32 a33 a34 a35 a36 h37
            with_reducible apply hrz
            with_reducible assumption
        · with_reducible assumption
      (clear_value x17; intro hx17)
      extract_lets +onlyGivenNames -underBinder -merge -useContext x18
      clear_value x18
      extract_lets +onlyGivenNames -underBinder -merge -useContext x19
      clear_value x19
      split
      · with_reducible apply ok_foldl
        · intro a20 a21 h22
          with_reducible apply rejoinFailed_ok
          · with_reducible assumption
          · intro a23 a24 a25 a26 a27 h28
            with_reducible apply hrz
            with_reducible assumption
        · with_reducible assumption
      · with_reducible assumption

/-- `excludeLane` keeps. -/
theorem excludeLane_ok {qq : List Instr} (rz : RaiseFn) (code : Option Nat) (l : Lane) (reason task : Nat) (s : State) (hs : Ok qq s) (hrz : ∀ e a b c x, Ok qq x → Ok qq (rz e a b c x)) :
    Ok qq (excludeLane rz code l reason task s) := by
  unfold excludeLane
  extract_lets +onlyGivenNames -underBinder -merge -useContext x1
  split
  · with_reducible apply countExclusion_ok
    with_reducible assumption
  · split
    · extract_lets +onlyGivenNames -underBinder -merge -useContext x2
      extract_lets +onlyGivenNames -underBinder -merge -useContext x3
      refine (?_ : Ok qq x3 → _) ?_
      on_goal 2 =>
        unfold x3
        with_reducible apply excludeVoting_ok
        · with_reducible assumption
        · intro a13 a14 a15 a16 a17 h18
          with_reducible apply hrz
          with_reducible assumption
      (clear_value x3; intro hx3)
      split
      · with_reducible apply ok_foldl
        · intro a4 a5 h6
          with_reducible apply rejoinFailed_ok
          · with_reducible assumption
          · intro a7 a8 a9 a10 a11 h12
            with_reducible apply hrz
            with_reducible assumption
        · with_reducible assumption
      · with_reducible assumption
    · split
      · extract_lets +onlyGivenNames -underBinder -merge -useContext x19
        refine (?_ : Ok qq x19 → _) ?_
        on_goal 2 =>
          unfold x19
          with_reducible apply toExcluded_ok
          · with_reducible assumption
          · intro a29 a30 a31 a32 a33 h34
            with_reducible apply hrz
            with_reducible assumption
        (clear_value x19; intro hx19)
        split
        · with_reducible apply ok_foldl
          · intro a20 a21 h22
            with_reducible apply rejoinFailed_ok
            · with_reducible assumption
            · intro a23 a24 a25 a26 a27 h28
              with_reducible apply hrz
              with_reducible assumption
          · with_reducible assumption
        · with_reducible assumption
      · with_reducible assumption
    · split
      · with_reducible apply rejoinFailed_ok
        · with_reducible assumption
        · intro a35 a36 a37 a38 a39 h40
          with_reducible apply hrz
          with_reducible assumption
      · with_reducible assumption
    · with_reducible assumption

/-- `applyReaction` keeps. -/
theorem applyReaction_ok {qq : List Instr} (rz : RaiseFn) (task : Nat) (r : Record) (s : State) (hs : Ok qq s) (hrz : ∀ e a b c x, Ok qq x → Ok qq (rz e a b c x)) :
    Ok qq (applyReaction rz task r s) := by
  unfold applyReaction
  extract_lets +onlyGivenNames -underBinder -merge -useContext x1
  refine (?_ : Ok qq x1 → _) ?_
  on_goal 2 =>
    unfold x1
    with_reducible apply applyStatus_ok
    with_reducible assumption
  (clear_value x1; intro hx1)
  split
  · split
    · split
      · with_reducible apply excludeLane_ok
        · with_reducible assumption
        · intro a2 a3 a4 a5 a6 h7
          with_reducible apply hrz
          with_reducible assumption
      · split
        with_reducible apply excludeLane_ok
        · with_reducible refine ok_snd (by assumption) ?_
          with_reducible apply takeFree_ok
          with_reducible assumption
        · intro a8 a9 a10 a11 a12 h13
          with_reducible apply hrz
          with_reducible assumption
    · with_reducible assumption
  · with_reducible apply applyYield_ok
    · with_reducible assumption
    · intro a14 a15 a16 a17 a18 h19
      with_reducible apply hrz
      with_reducible assumption
  · with_reducible apply applySafeHalt_ok
    · with_reducible assumption
    · intro a20 a21 a22 a23 a24 h25
      with_reducible apply hrz
      with_reducible assumption
  · with_reducible assumption

/-- `reactTo` keeps. -/
theorem reactTo_ok {qq : List Instr} (rz : RaiseFn) (task : Nat) (r : Record) (s : State) (hs : Ok qq s) (hrz : ∀ e a b c x, Ok qq x → Ok qq (rz e a b c x)) :
    Ok qq (reactTo rz task r s) := by
  unfold reactTo
  split
  extract_lets +onlyGivenNames -underBinder -merge -useContext x1
  refine (?_ : Ok qq x1 → _) ?_
  on_goal 2 =>
    unfold x1
    with_reducible apply applyReaction_ok
    · with_reducible refine ok_fst (by assumption) ?_
      with_reducible apply pushPending_ok
      with_reducible assumption
    · intro a2 a3 a4 a5 a6 h7
      with_reducible apply hrz
      with_reducible assumption
  (clear_value x1; intro hx1)
  split
  · with_reducible apply hrz
    with_reducible assumption
  · with_reducible assumption

/-- `raiseF` keeps. -/
theorem raiseF_ok {qq : List Instr} (fuel task : Nat) (e : EvDef) (a b c : Nat) (s : State) (hs : Ok qq s) :
    Ok qq (raiseF fuel task e a b c s) := by
  induction fuel generalizing e a b c s with
  | zero => exact hs
  | succ n ih => exact reactTo_ok _ _ _ _ hs ih

/-- `raise` keeps. -/
theorem raise_ok {qq : List Instr} (e : EvDef) (src dA dB : Nat) (s : State) (hs : Ok qq s) :
    Ok qq (raise e src dA dB s) := by
  unfold raise
  with_reducible apply raiseF_ok
  with_reducible assumption

/-- `raiseAt` keeps. -/
theorem raiseAt_ok {qq : List Instr} (time : Dword) (e : EvDef) (src dA dB : Nat) (s : State) (hs : Ok qq s) :
    Ok qq (raiseAt time e src dA dB s) := by
  unfold raiseAt
  with_reducible apply reactTo_ok
  · with_reducible assumption
  · intro a1 a2 a3 a4 a5 h6
    with_reducible apply raiseF_ok
    with_reducible assumption

/-- `raiseTask` keeps. -/
theorem raiseTask_ok {qq : List Instr} (task : Nat) (e : EvDef) (src dA dB : Nat) (s : State) (hs : Ok qq s) :
    Ok qq (raiseTask task e src dA dB s) := by
  unfold raiseTask
  with_reducible apply raiseF_ok
  with_reducible assumption

/-- `raiseRecord` keeps. -/
theorem raiseRecord_ok {qq : List Instr} (e : EvDef) (src dA dB : Nat) (s : State) (hs : Ok qq s) :
    Ok qq (raiseRecord e src dA dB s) := by
  unfold raiseRecord
  extract_lets +onlyGivenNames -underBinder -merge -useContext x1
  clear_value x1
  with_reducible apply applyStatus_ok
  with_reducible apply pushPending_ok
  with_reducible assumption

/-- `raiseLanes` keeps. -/
theorem raiseLanes_ok {qq : List Instr} (task : Nat) (e : EvDef) (evs : List (Lane × Nat × Nat)) (s : State) (hs : Ok qq s) :
    Ok qq (raiseLanes task e evs s) := by
  unfold raiseLanes
  split
  · with_reducible assumption
  · with_reducible apply raiseTask_ok
    with_reducible assumption
  · extract_lets +onlyGivenNames -underBinder -merge -useContext x1
    clear_value x1
    extract_lets +onlyGivenNames -underBinder -merge -useContext x2
    refine (?_ : Ok qq x2 → _) ?_
    on_goal 2 =>
      unfold x2
      with_reducible apply ok_foldl
      · intro a24 a25 h26
        split
        with_reducible apply raiseRecord_ok
        with_reducible assumption
      · with_reducible assumption
    (clear_value x2; intro hx2)
    split
    · split
      · with_reducible apply excludeVoting_ok
        · with_reducible assumption
        · intro a3 a4 a5 a6 a7 h8
          with_reducible apply raiseF_ok
          with_reducible assumption
      · with_reducible apply ok_foldl
        · intro a9 a10 h11
          split
          with_reducible apply countExclusion_ok
          with_reducible assumption
        · with_reducible assumption
    · with_reducible apply applyYield_ok
      · with_reducible assumption
      · intro a12 a13 a14 a15 a16 h17
        with_reducible apply raiseF_ok
        with_reducible assumption
    · with_reducible apply applySafeHalt_ok
      · with_reducible assumption
      · intro a18 a19 a20 a21 a22 h23
        with_reducible apply raiseF_ok
        with_reducible assumption
    · with_reducible assumption

/-- `memUncorrectable` keeps. -/
theorem memUncorrectable_ok {qq : List Instr} (regionNo addr kind : Nat) (s : State) (hs : Ok qq s) :
    Ok qq (memUncorrectable regionNo addr kind s) := by
  unfold memUncorrectable
  extract_lets +onlyGivenNames -underBinder -merge -useContext x1
  refine (?_ : Ok qq x1 → _) ?_
  on_goal 2 =>
    unfold x1
    with_reducible apply satAdd_ok
    with_reducible assumption
  (clear_value x1; intro hx1)
  extract_lets +onlyGivenNames -underBinder -merge -useContext x2
  refine (?_ : Ok qq x2 → _) ?_
  on_goal 2 =>
    unfold x2
    with_reducible apply setReg_ok
    with_reducible assumption
  (clear_value x2; intro hx2)
  extract_lets +onlyGivenNames -underBinder -merge -useContext x3
  refine (?_ : Ok qq x3 → _) ?_
  on_goal 2 =>
    unfold x3
    with_reducible apply setReg_ok
    with_reducible assumption
  (clear_value x3; intro hx3)
  extract_lets +onlyGivenNames -underBinder -merge -useContext x4
  refine (?_ : Ok qq x4 → _) ?_
  on_goal 2 =>
    unfold x4
    with_reducible apply setBit_ok
    with_reducible assumption
  (clear_value x4; intro hx4)
  with_reducible apply raise_ok
  with_reducible assumption

/-- `meetBad` keeps. -/
theorem meetBad_ok {qq : List Instr} (m : Mem) (regionNo base a n : Nat) (s : State) (hs : Ok qq s) :
    Ok qq (meetBad m regionNo base a n s) := by
  unfold meetBad
  with_reducible apply ok_foldl
  · intro a1 a2 h3
    split
    with_reducible apply memUncorrectable_ok
    with_reducible assumption
  · with_reducible assumption

/-- `meetSound` keeps. -/
theorem meetSound_ok {qq : List Instr} (a n : Nat) (s : State) (hs : Ok qq s) :
    Ok qq (meetSound a n s) := by
  unfold meetSound
  with_reducible apply meetBad_ok
  with_reducible assumption

/-- `sharedSlot` keeps. -/
theorem sharedSlot_ok {qq : List Instr} (a n index : Nat) (s : State) (hs : Ok qq s) :
    Ok qq (sharedSlot a n index s).2 := by
  unfold sharedSlot
  split
  · with_reducible assumption
  · extract_lets +onlyGivenNames -underBinder -merge -useContext x1
    refine (?_ : Ok qq x1 → _) ?_
    on_goal 2 =>
      unfold x1
      with_reducible apply meetSound_ok
      with_reducible assumption
    (clear_value x1; intro hx1)
    dsimp only
    with_reducible apply raise_ok
    with_reducible apply setBit_ok
    with_reducible assumption

/-- `setLaneTo` keeps. -/
theorem setLaneTo_ok {qq : List Instr} (l : Lane) (new : LaneState) (s : State) (hs : Ok qq s) :
    Ok qq (setLaneTo l new s) := by
  unfold setLaneTo
  with_reducible apply changeLane_ok
  · with_reducible assumption
  · intro a1 a2 a3 a4 a5 h6
    with_reducible apply raiseF_ok
    with_reducible assumption

/-- `setModTo` keeps. -/
theorem setModTo_ok {qq : List Instr} (new : ModState) (s : State) (hs : Ok qq s) :
    Ok qq (setModTo new s) := by
  unfold setModTo
  with_reducible apply changeModState_ok
  · with_reducible assumption
  · intro a1 a2 a3 a4 a5 h6
    with_reducible apply raiseF_ok
    with_reducible assumption

end Sys2Proof.Machine
end

