-- ==== Sys2Proof/Laws/KeepOperands.lean ====
section
/-!
SUPPORT. What the operations of Machine/Operands.lean keep: the canonical form of registers and memories, and the queue.
-/

namespace Sys2Proof.Machine

/-- `occupy` keeps. -/
theorem occupy_ok {qq : List Instr} (s : State) (r : Res) (d : Nat) (hs : Ok qq s) :
    Ok qq (occupy s r d) := by
  unfold occupy
  (with_reducible apply ok_mk; with_reducible assumption)

/-- `setDom` keeps. -/
theorem setDom_ok {qq : List Instr} (s : State) (d : Domain) (x : DomainSt) (hs : Ok qq s) :
    Ok qq (setDom s d x) := by
  unfold setDom
  (with_reducible apply ok_mk; with_reducible assumption)

/-- `startDomain` keeps. -/
theorem startDomain_ok {qq : List Instr} (s : State) (d : Domain) (hs : Ok qq s) :
    Ok qq (startDomain s d) := by
  unfold startDomain
  extract_lets +onlyGivenNames -underBinder -merge -useContext x1
  clear_value x1
  split
  · with_reducible assumption
  · with_reducible apply setDom_ok
    with_reducible assumption

/-- `stopDomain` keeps. -/
theorem stopDomain_ok {qq : List Instr} (s : State) (d : Domain) (hs : Ok qq s) :
    Ok qq (stopDomain s d) := by
  unfold stopDomain
  with_reducible apply setBit_ok
  with_reducible apply setDom_ok
  with_reducible assumption

/-- `domAcquire` keeps. -/
theorem domAcquire_ok {qq : List Instr} (s : State) (d : Domain) (hs : Ok qq s) :
    Ok qq (domAcquire s d) := by
  unfold domAcquire
  extract_lets +onlyGivenNames -underBinder -merge -useContext x1
  refine (?_ : Ok qq x1 → _) ?_
  on_goal 2 =>
    unfold x1
    with_reducible apply startDomain_ok
    with_reducible assumption
  (clear_value x1; intro hx1)
  with_reducible apply setDom_ok
  with_reducible assumption

/-- `domRelease` keeps. -/
theorem domRelease_ok {qq : List Instr} (s : State) (d : Domain) (hs : Ok qq s) :
    Ok qq (domRelease s d) := by
  unfold domRelease
  with_reducible apply setDom_ok
  with_reducible assumption

/-- `noteEntryFault` keeps. -/
theorem noteEntryFault_ok {qq : List Instr} (s : State) (flag i kind : Nat) (hs : Ok qq s) :
    Ok qq (noteEntryFault s flag i kind) := by
  unfold noteEntryFault
  extract_lets +onlyGivenNames -underBinder -merge -useContext x1
  refine (?_ : Ok qq x1 → _) ?_
  on_goal 2 =>
    unfold x1
    split
    · with_reducible apply setReg_ok
      with_reducible assumption
    · with_reducible assumption
  (clear_value x1; intro hx1)
  with_reducible apply setBit_ok
  with_reducible assumption

/-- `failEntry` keeps. -/
theorem failEntry_ok {qq : List Instr} (s : State) (e : EvDef) (flag i kind detailB : Nat) (hs : Ok qq s) :
    Ok qq (failEntry s e flag i kind detailB) := by
  unfold failEntry
  extract_lets +onlyGivenNames -underBinder -merge -useContext x1
  refine (?_ : Ok qq x1 → _) ?_
  on_goal 2 =>
    unfold x1
    with_reducible apply noteEntryFault_ok
    with_reducible assumption
  (clear_value x1; intro hx1)
  with_reducible apply raise_ok
  with_reducible assumption

/-- `failPoison` keeps. -/
theorem failPoison_ok {qq : List Instr} (s : State) (i : Nat) (hs : Ok qq s) :
    Ok qq (failPoison s i) := by
  unfold failPoison
  extract_lets +onlyGivenNames -underBinder -merge -useContext x1
  refine (?_ : Ok qq x1 → _) ?_
  on_goal 2 =>
    unfold x1
    with_reducible apply noteEntryFault_ok
    with_reducible apply memUncorrectable_ok
    with_reducible assumption
  (clear_value x1; intro hx1)
  with_reducible apply raise_ok
  with_reducible assumption

/-- `passEntry` keeps. -/
theorem passEntry_ok {qq : List Instr} (s : State) (i : Nat) (hs : Ok qq s) :
    Ok qq (passEntry s i) := by
  unfold passEntry
  (with_reducible apply ok_mk; with_reducible assumption)

/-- `useDomain` keeps. -/
theorem useDomain_ok {qq : List Instr} (s : State) (n : Needs) (hs : Ok qq s) :
    Ok qq (useDomain s n) := by
  unfold useDomain
  split
  · with_reducible apply setDom_ok
    with_reducible assumption
  · with_reducible assumption

/-- `takeIssue` keeps. -/
theorem takeIssue_ok {qq : List Instr} (s : State) (n : Needs) (hs : Ok qq s) :
    Ok qq (takeIssue s n) := by
  unfold takeIssue
  with_reducible apply ok_foldl
  · intro a1 a2 h3
    split
    with_reducible apply occupy_ok
    with_reducible assumption
  · with_reducible apply useDomain_ok
    (with_reducible apply ok_mk; with_reducible assumption)

/-- `issueEntry` keeps. -/
theorem issueEntry_ok {qq : List Instr} (kind : Nat) (i : BitVec 16) (needs : State → Entry → Needs) (body : Entry → State → State)
    (s : State) (hs : Ok qq s) (hbody : ∀ a x, Ok qq x → Ok qq (body a x)) :
    Ok qq (issueEntry kind i needs body s) := by
  unfold issueEntry
  split
  · with_reducible assumption
  · split
    · with_reducible assumption
    · split
      · with_reducible apply failPoison_ok
        with_reducible apply passEntry_ok
        with_reducible assumption
      · split
        · with_reducible assumption
        · extract_lets +onlyGivenNames -underBinder -merge -useContext x1
          refine (?_ : Ok qq x1 → _) ?_
          on_goal 2 =>
            unfold x1
            with_reducible apply passEntry_ok
            with_reducible assumption
          (clear_value x1; intro hx1)
          split
          · with_reducible apply failEntry_ok
            with_reducible assumption
          · with_reducible apply hbody
            with_reducible apply takeIssue_ok
            with_reducible assumption

end Sys2Proof.Machine
end

