-- ==== Sys2Proof/Laws/KeepFlags.lean ====
section
/-!
SUPPORT. What the operations of Machine/Flags.lean keep: the canonical form of registers and memories, and the queue.
-/

namespace Sys2Proof.Machine

/-- `stick` keeps. -/
theorem stick_ok {qq : List Instr} (s : State) (k i : Nat) (hs : Ok qq s) :
    Ok qq (stick s k i) := by
  unfold stick
  with_reducible apply setBit_ok
  with_reducible assumption

/-- `clearW1C` keeps. -/
theorem clearW1C_ok {qq : List Instr} (s : State) (k : Nat) (v : Word) (hs : Ok qq s) :
    Ok qq (clearW1C s k v) := by
  unfold clearW1C
  split
  · split
    · with_reducible apply setReg_ok
      with_reducible assumption
    · with_reducible assumption
  · with_reducible assumption

/-- `showCredits` keeps. -/
theorem showCredits_ok {qq : List Instr} (s : State) (m : Nat) (hs : Ok qq s) :
    Ok qq (showCredits s m) := by
  unfold showCredits
  with_reducible apply setFld_ok
  with_reducible assumption

/-- `addDelta` keeps. -/
theorem addDelta_ok {qq : List Instr} (s : State) (i : JItem) (hs : Ok qq s) :
    Ok qq (addDelta s i) := by
  unfold addDelta
  split
  · (with_reducible apply ok_mk; with_reducible assumption)
  · with_reducible assumption

/-- `toLanes` keeps. -/
theorem toLanes_ok {qq : List Instr} (s : State) (a : Nat) (bs : List Byte) (hs : Ok qq s) :
    Ok qq (toLanes s a bs) := by
  unfold toLanes
  with_reducible apply ok_foldl
  · intro a1 a2 h3
    with_reducible refine ok_dram ?_ _ (fun hm => writeBytes_wf hm _ _)
    with_reducible assumption
  · with_reducible assumption

/-- `splitIrq` keeps. -/
theorem splitIrq_ok {qq : List Instr} (s : State) (m : Nat) (hs : Ok qq s) :
    Ok qq (splitIrq s m) := by
  unfold splitIrq
  split
  · with_reducible apply ok_foldl
    · intro a1 a2 h3
      extract_lets +onlyGivenNames -underBinder -merge -useContext x4
      clear_value x4
      extract_lets +onlyGivenNames -underBinder -merge -useContext x5
      clear_value x5
      extract_lets +onlyGivenNames -underBinder -merge -useContext x6
      refine (?_ : Ok qq x6 → _) ?_
      on_goal 2 =>
        unfold x6
        with_reducible apply setBit_ok
        with_reducible assumption
      (clear_value x6; intro hx6)
      split
      · extract_lets +onlyGivenNames -underBinder -merge -useContext x7
        clear_value x7
        with_reducible apply setLane_ok
        with_reducible assumption
      · with_reducible assumption
    · with_reducible assumption
  · with_reducible assumption

/-- `writeRecord` keeps. -/
theorem writeRecord_ok {qq : List Instr} (s : State) (m : Nat) (r : Record) (hs : Ok qq s) :
    Ok qq (writeRecord s m r) := by
  unfold writeRecord
  extract_lets +onlyGivenNames -underBinder -merge -useContext x1
  clear_value x1
  split
  · extract_lets +onlyGivenNames -underBinder -merge -useContext x2
    clear_value x2
    extract_lets +onlyGivenNames -underBinder -merge -useContext x3
    refine (?_ : Ok qq x3 → _) ?_
    on_goal 2 =>
      unfold x3
      (with_reducible apply ok_mk; with_reducible assumption)
    (clear_value x3; intro hx3)
    with_reducible apply showCredits_ok
    with_reducible apply addDelta_ok
    with_reducible assumption
  · extract_lets +onlyGivenNames -underBinder -merge -useContext x4
    refine (?_ : Ok qq x4 → _) ?_
    on_goal 2 =>
      unfold x4
      with_reducible apply toLanes_ok
      with_reducible assumption
    (clear_value x4; intro hx4)
    extract_lets +onlyGivenNames -underBinder -merge -useContext x5
    clear_value x5
    extract_lets +onlyGivenNames -underBinder -merge -useContext x6
    refine (?_ : Ok qq x6 → _) ?_
    on_goal 2 =>
      unfold x6
      (with_reducible apply ok_mk; with_reducible assumption)
    (clear_value x6; intro hx6)
    with_reducible apply splitIrq_ok
    with_reducible apply showCredits_ok
    with_reducible apply setReg_ok
    with_reducible assumption

/-- `showRecord` keeps. -/
theorem showRecord_ok {qq : List Instr} (s : State) (m : Nat) (t : Word) (r : Record) (hs : Ok qq s) :
    Ok qq (showRecord s m t r) := by
  unfold showRecord
  extract_lets +onlyGivenNames -underBinder -merge -useContext x1
  refine (?_ : Ok qq x1 → _) ?_
  on_goal 2 =>
    unfold x1
    with_reducible apply toLanes_ok
    with_reducible assumption
  (clear_value x1; intro hx1)
  with_reducible apply splitIrq_ok
  with_reducible apply showCredits_ok
  with_reducible apply setReg_ok
  with_reducible assumption

/-- `storeOverflow` keeps. -/
theorem storeOverflow_ok {qq : List Instr} (s : State) (m : Nat) (r : Record) (hs : Ok qq s) :
    Ok qq (storeOverflow s m r) := by
  unfold storeOverflow
  extract_lets +onlyGivenNames -underBinder -merge -useContext x1
  clear_value x1
  extract_lets +onlyGivenNames -underBinder -merge -useContext x2
  refine (?_ : Ok qq x2 → _) ?_
  on_goal 2 =>
    unfold x2
    (with_reducible apply ok_mk; with_reducible assumption)
  (clear_value x2; intro hx2)
  with_reducible apply addDelta_ok
  with_reducible assumption

/-- `reactPlaced` keeps. -/
theorem reactPlaced_ok {qq : List Instr} (r : Record) (s : State) (hs : Ok qq s) :
    Ok qq (reactPlaced r s) := by
  unfold reactPlaced
  with_reducible apply applyReaction_ok
  · with_reducible assumption
  · intro a1 a2 a3 a4 a5 h6
    with_reducible apply raiseF_ok
    with_reducible assumption

/-- `placeRecord` keeps. -/
theorem placeRecord_ok {qq : List Instr} (s : State) (m : Nat) (r : Record) (hs : Ok qq s) :
    Ok qq (placeRecord s m r) := by
  unfold placeRecord
  extract_lets +onlyGivenNames -underBinder -merge -useContext x1
  clear_value x1
  split
  · with_reducible apply writeRecord_ok
    with_reducible assumption
  · split
    · extract_lets +onlyGivenNames -underBinder -merge -useContext x2
      clear_value x2
      extract_lets +onlyGivenNames -underBinder -merge -useContext x3
      refine (?_ : Ok qq x3 → _) ?_
      on_goal 2 =>
        unfold x3
        with_reducible apply stick_ok
        with_reducible apply storeOverflow_ok
        with_reducible assumption
      (clear_value x3; intro hx3)
      extract_lets +onlyGivenNames -underBinder -merge -useContext x4
      clear_value x4
      extract_lets +onlyGivenNames -underBinder -merge -useContext x5
      refine (?_ : Ok qq x5 → _) ?_
      on_goal 2 =>
        unfold x5
        split
        · split
          extract_lets +onlyGivenNames -underBinder -merge -useContext x6
          clear_value x6
          with_reducible apply reactPlaced_ok
          split
          · with_reducible apply storeOverflow_ok
            with_reducible refine ok_snd (by assumption) ?_
            with_reducible apply countRecord_ok
            with_reducible assumption
          · with_reducible apply toCounters_ok
            with_reducible refine ok_snd (by assumption) ?_
            with_reducible apply countRecord_ok
            with_reducible assumption
        · with_reducible assumption
      (clear_value x5; intro hx5)
      with_reducible apply showOverflow_ok
      with_reducible assumption
    · with_reducible apply toCounters_ok
      with_reducible assumption

/-- `routeRecord` keeps. -/
theorem routeRecord_ok {qq : List Instr} (s : State) (r : Record) (hs : Ok qq s) :
    Ok qq (routeRecord s r) := by
  unfold routeRecord
  extract_lets +onlyGivenNames -underBinder -merge -useContext x1
  clear_value x1
  split
  with_reducible apply placeRecord_ok
  with_reducible refine ok_snd (by assumption) ?_
  with_reducible apply countRecord_ok
  with_reducible assumption

/-- `drainQueue` keeps. -/
theorem drainQueue_ok {qq : List Instr} (s : State) (m n : Nat) (hs : Ok qq s) : Ok qq (drainQueue s m n) := by
  induction n generalizing s with
  | zero => exact hs
  | succ n ih =>
    unfold drainQueue
    split
    · exact hs
    · split
      · exact ih _ (showOverflow_ok _ (writeRecord_ok _ _ _ (ok_mk hs ..)))
      · split
        · exact ih _ (reactPlaced_ok _ _ (showOverflow_ok _ (writeRecord_ok _ _ _ (countRecord_ok _ _ (ok_mk hs ..)))))
        · split
          · exact ih _ (reactPlaced_ok _ _ (showOverflow_ok _ (writeRecord_ok _ _ _ (countRecord_ok _ _ (ok_mk hs ..)))))
          · exact hs

/-- `refuseCfg` keeps. -/
theorem refuseCfg_ok {qq : List Instr} (s : State) (result : Nat) (e : EvDef) (reason key src dA : Nat) (hs : Ok qq s) :
    Ok qq (refuseCfg s result e reason key src dA) := by
  unfold refuseCfg
  with_reducible apply raise_ok
  with_reducible apply setReg_ok
  with_reducible assumption

end Sys2Proof.Machine
end

