-- ==== Sys2Proof/Laws/KeepBank.lean ====
section
/-!
SUPPORT. What the operations of Machine/Bank.lean keep: the canonical form of registers and memories, and the queue.
-/

namespace Sys2Proof.Machine

/-- `showLoad` keeps. -/
theorem showLoad_ok {qq : List Instr} (s : State) (r : LoadResult) (hs : Ok qq s) :
    Ok qq (showLoad s r) := by
  unfold showLoad
  extract_lets +onlyGivenNames -underBinder -merge -useContext x1
  refine (?_ : Ok qq x1 → _) ?_
  on_goal 2 =>
    unfold x1
    with_reducible apply setReg_ok
    with_reducible assumption
  (clear_value x1; intro hx1)
  with_reducible apply setReg_ok
  with_reducible assumption

/-- `showBanks` keeps. -/
theorem showBanks_ok {qq : List Instr} (s : State) (hs : Ok qq s) :
    Ok qq (showBanks s) := by
  unfold showBanks
  extract_lets +onlyGivenNames -underBinder -merge -useContext x1
  clear_value x1
  extract_lets +onlyGivenNames -underBinder -merge -useContext x2
  refine (?_ : Ok qq x2 → _) ?_
  on_goal 2 =>
    unfold x2
    with_reducible apply setReg_ok
    with_reducible assumption
  (clear_value x2; intro hx2)
  extract_lets +onlyGivenNames -underBinder -merge -useContext x3
  refine (?_ : Ok qq x3 → _) ?_
  on_goal 2 =>
    unfold x3
    with_reducible apply setReg_ok
    with_reducible apply setFld_ok
    with_reducible assumption
  (clear_value x3; intro hx3)
  extract_lets +onlyGivenNames -underBinder -merge -useContext x4
  refine (?_ : Ok qq x4 → _) ?_
  on_goal 2 =>
    unfold x4
    with_reducible apply set64_ok
    with_reducible assumption
  (clear_value x4; intro hx4)
  extract_lets +onlyGivenNames -underBinder -merge -useContext x5
  clear_value x5
  extract_lets +onlyGivenNames -underBinder -merge -useContext x6
  refine (?_ : Ok qq x6 → _) ?_
  on_goal 2 =>
    unfold x6
    with_reducible apply set64_ok
    with_reducible assumption
  (clear_value x6; intro hx6)
  with_reducible apply ok_foldl
  · intro a7 a8 h9
    extract_lets +onlyGivenNames -underBinder -merge -useContext x10
    clear_value x10
    with_reducible apply setReg_ok
    with_reducible assumption
  · with_reducible assumption

/-- `setBank` keeps. -/
theorem setBank_ok {qq : List Instr} (s : State) (n : Nat) (b : Option Bank) (hs : Ok qq s) :
    Ok qq (setBank s n b) := by
  unfold setBank
  (with_reducible apply ok_mk; with_reducible assumption)

end Sys2Proof.Machine
end

