-- ==== Sys2Proof/Laws/KeepLanes.lean ====
section
/-!
SUPPORT. What the operations of Machine/Lanes.lean keep: the canonical form of registers and memories, and the queue.
-/

namespace Sys2Proof.Machine

/-- `setAcc` keeps. -/
theorem setAcc_ok {qq : List Instr} (s : State) (l : Lane) (t : Nat) (v : Sig) (hs : Ok qq s) :
    Ok qq (setAcc s l t v) := by
  unfold setAcc
  (with_reducible apply ok_mk; with_reducible assumption)

/-- `foldCore` keeps. -/
theorem foldCore_ok {qq : List Instr} (s : State) (l : Lane) (core : Nat) (w : Sig) (hs : Ok qq s) :
    Ok qq (foldCore s l core w) := by
  unfold foldCore
  extract_lets +onlyGivenNames -underBinder -merge -useContext x1
  clear_value x1
  with_reducible apply setAcc_ok
  with_reducible assumption

/-- `setCopyPhase` keeps. -/
theorem setCopyPhase_ok {qq : List Instr} (p : Nat) (s : State) (hs : Ok qq s) :
    Ok qq (setCopyPhase p s) := by
  unfold setCopyPhase
  split
  · with_reducible apply setFld_ok
    with_reducible assumption
  · with_reducible apply setFld_ok
    with_reducible assumption

/-- `showDirty` keeps. -/
theorem showDirty_ok {qq : List Instr} (s : State) (hs : Ok qq s) :
    Ok qq (showDirty s) := by
  unfold showDirty
  extract_lets +onlyGivenNames -underBinder -merge -useContext x1
  refine (?_ : Ok qq x1 → _) ?_
  on_goal 2 =>
    unfold x1
    with_reducible apply setFld_ok
    with_reducible assumption
  (clear_value x1; intro hx1)
  split
  · with_reducible apply setFld_ok
    with_reducible assumption
  · with_reducible assumption

/-- `abortFinal` keeps. -/
theorem abortFinal_ok {qq : List Instr} (s : State) (hs : Ok qq s) :
    Ok qq (abortFinal s) := by
  unfold abortFinal
  split
  · extract_lets +onlyGivenNames -underBinder -merge -useContext x1
    refine (?_ : Ok qq x1 → _) ?_
    on_goal 2 =>
      unfold x1
      with_reducible apply setCopyPhase_ok
      with_reducible apply satAdd_ok
      with_reducible assumption
    (clear_value x1; intro hx1)
    (with_reducible apply ok_mk; with_reducible assumption)
  · with_reducible assumption

/-- `markDirty` keeps. -/
theorem markDirty_ok {qq : List Instr} (page : Nat) (s : State) (hs : Ok qq s) :
    Ok qq (markDirty page s) := by
  unfold markDirty
  split
  · extract_lets +onlyGivenNames -underBinder -merge -useContext x1
    clear_value x1
    extract_lets +onlyGivenNames -underBinder -merge -useContext x2
    clear_value x2
    extract_lets +onlyGivenNames -underBinder -merge -useContext x3
    clear_value x3
    extract_lets +onlyGivenNames -underBinder -merge -useContext x4
    refine (?_ : Ok qq x4 → _) ?_
    on_goal 2 =>
      unfold x4
      (with_reducible apply ok_mk; with_reducible assumption)
    (clear_value x4; intro hx4)
    extract_lets +onlyGivenNames -underBinder -merge -useContext x5
    refine (?_ : Ok qq x5 → _) ?_
    on_goal 2 =>
      unfold x5
      split
      · with_reducible apply abortFinal_ok
        with_reducible assumption
      · with_reducible assumption
    (clear_value x5; intro hx5)
    extract_lets +onlyGivenNames -underBinder -merge -useContext x6
    clear_value x6
    extract_lets +onlyGivenNames -underBinder -merge -useContext x7
    refine (?_ : Ok qq x7 → _) ?_
    on_goal 2 =>
      unfold x7
      split
      · (with_reducible apply ok_mk; with_reducible assumption)
      · with_reducible assumption
    (clear_value x7; intro hx7)
    with_reducible apply showDirty_ok
    with_reducible assumption
  · with_reducible assumption

/-- `coreWrites` keeps. -/
theorem coreWrites_ok {qq : List Instr} (l : Lane) (core : Nat) (w : Retire) (s : State) (hs : Ok qq s) :
    Ok qq (coreWrites l core w s) := by
  unfold coreWrites
  extract_lets +onlyGivenNames -underBinder -merge -useContext x1
  clear_value x1
  extract_lets +onlyGivenNames -underBinder -merge -useContext x2
  clear_value x2
  extract_lets +onlyGivenNames -underBinder -merge -useContext x3
  clear_value x3
  extract_lets +onlyGivenNames -underBinder -merge -useContext x4
  clear_value x4
  with_reducible apply setLane_ok
  with_reducible assumption

/-- `beginRejoin` keeps. -/
theorem beginRejoin_ok {qq : List Instr} (targets sources : List Lane) (join : Bool) (s : State) (hs : Ok qq s) :
    Ok qq (beginRejoin targets sources join s) := by
  unfold beginRejoin
  split
  · with_reducible apply ok_foldl
    · intro a1 a2 h3
      with_reducible apply rejoinFailed_ok
      · with_reducible assumption
      · intro a4 a5 a6 a7 a8 h9
        with_reducible apply raiseF_ok
        with_reducible assumption
    · with_reducible assumption
  · extract_lets +onlyGivenNames -underBinder -merge -useContext x10
    refine (?_ : Ok qq x10 → _) ?_
    on_goal 2 =>
      unfold x10
      with_reducible apply ok_foldl
      · intro a35 a36 h37
        extract_lets +onlyGivenNames -underBinder -merge -useContext x38
        clear_value x38
        with_reducible apply setLaneTo_ok
        with_reducible apply setLane_ok
        with_reducible assumption
      · with_reducible assumption
    (clear_value x10; intro hx10)
    split
    · split
      · with_reducible apply ok_foldl
        · intro a11 a12 h13
          with_reducible apply rejoinFailed_ok
          · with_reducible assumption
          · intro a14 a15 a16 a17 a18 h19
            with_reducible apply raiseF_ok
            with_reducible assumption
        · with_reducible assumption
      · extract_lets +onlyGivenNames -underBinder -merge -useContext x20
        clear_value x20
        extract_lets +onlyGivenNames -underBinder -merge -useContext x21
        refine (?_ : Ok qq x21 → _) ?_
        on_goal 2 =>
          unfold x21
          with_reducible apply setReg_ok
          with_reducible assumption
        (clear_value x21; intro hx21)
        extract_lets +onlyGivenNames -underBinder -merge -useContext x22
        refine (?_ : Ok qq x22 → _) ?_
        on_goal 2 =>
          unfold x22
          with_reducible apply setFld_ok
          with_reducible assumption
        (clear_value x22; intro hx22)
        with_reducible apply showDirty_ok
        (with_reducible apply ok_mk; with_reducible assumption)
    · split
      · with_reducible apply ok_foldl
        · intro a23 a24 h25
          with_reducible apply rejoinFailed_ok
          · with_reducible assumption
          · intro a26 a27 a28 a29 a30 h31
            with_reducible apply raiseF_ok
            with_reducible assumption
        · with_reducible assumption
      · extract_lets +onlyGivenNames -underBinder -merge -useContext x32
        clear_value x32
        extract_lets +onlyGivenNames -underBinder -merge -useContext x33
        refine (?_ : Ok qq x33 → _) ?_
        on_goal 2 =>
          unfold x33
          with_reducible apply setReg_ok
          with_reducible assumption
        (clear_value x33; intro hx33)
        extract_lets +onlyGivenNames -underBinder -merge -useContext x34
        refine (?_ : Ok qq x34 → _) ?_
        on_goal 2 =>
          unfold x34
          with_reducible apply setFld_ok
          with_reducible assumption
        (clear_value x34; intro hx34)
        with_reducible apply showDirty_ok
        (with_reducible apply ok_mk; with_reducible assumption)

/-- `joinAdvance` keeps. -/
theorem joinAdvance_ok {qq : List Instr} (s : State) (hs : Ok qq s) :
    Ok qq (joinAdvance s) := by
  unfold joinAdvance
  extract_lets +onlyGivenNames -underBinder -merge -useContext x1
  clear_value x1
  extract_lets +onlyGivenNames -underBinder -merge -useContext x2
  clear_value x2
  extract_lets +onlyGivenNames -underBinder -merge -useContext x3
  clear_value x3
  split
  · with_reducible apply beginRejoin_ok
    with_reducible assumption
  · with_reducible assumption

/-- `testEnds` keeps. -/
theorem testEnds_ok {qq : List Instr} (l : Lane) (s : State) (hs : Ok qq s) :
    Ok qq (testEnds l s) := by
  unfold testEnds
  extract_lets +onlyGivenNames -underBinder -merge -useContext x1
  clear_value x1
  split
  · extract_lets +onlyGivenNames -underBinder -merge -useContext x2
    refine (?_ : Ok qq x2 → _) ?_
    on_goal 2 =>
      unfold x2
      with_reducible apply setFld_ok
      with_reducible assumption
    (clear_value x2; intro hx2)
    split
    · with_reducible apply setFld_ok
      with_reducible assumption
    · with_reducible assumption
  · with_reducible assumption

/-- `laneOff` keeps. -/
theorem laneOff_ok {qq : List Instr} (l : Lane) (s : State) (hs : Ok qq s) :
    Ok qq (laneOff l s) := by
  unfold laneOff
  extract_lets +onlyGivenNames -underBinder -merge -useContext x1
  refine (?_ : Ok qq x1 → _) ?_
  on_goal 2 =>
    unfold x1
    split
    · with_reducible apply leaveCopy_ok
      with_reducible assumption
    · with_reducible assumption
  (clear_value x1; intro hx1)
  extract_lets +onlyGivenNames -underBinder -merge -useContext x2
  clear_value x2
  with_reducible apply joinAdvance_ok
  with_reducible apply setLaneTo_ok
  with_reducible apply testEnds_ok
  with_reducible apply setLane_ok
  with_reducible assumption

/-- `selftestFail` keeps. -/
theorem selftestFail_ok {qq : List Instr} (l : Lane) (s : State) (hs : Ok qq s) :
    Ok qq (selftestFail l s) := by
  unfold selftestFail
  with_reducible apply laneOff_ok
  with_reducible apply raise_ok
  with_reducible assumption

/-- `poisonConsumed` keeps. -/
theorem poisonConsumed_ok {qq : List Instr} (l : Lane) (addr : BitVec 40) (s : State) (hs : Ok qq s) :
    Ok qq (poisonConsumed l addr s) := by
  unfold poisonConsumed
  extract_lets +onlyGivenNames -underBinder -merge -useContext x1
  extract_lets +onlyGivenNames -underBinder -merge -useContext x2
  refine (?_ : Ok qq x2 → _) ?_
  on_goal 2 =>
    unfold x2
    with_reducible apply memUncorrectable_ok
    with_reducible assumption
  (clear_value x2; intro hx2)
  extract_lets +onlyGivenNames -underBinder -merge -useContext x3
  refine (?_ : Ok qq x3 → _) ?_
  on_goal 2 =>
    unfold x3
    with_reducible apply raise_ok
    with_reducible assumption
  (clear_value x3; intro hx3)
  split
  · with_reducible apply selftestFail_ok
    with_reducible assumption
  · with_reducible assumption

/-- `measureResponse` keeps. -/
theorem measureResponse_ok {qq : List Instr} (t : Nat) (s : State) (hs : Ok qq s) :
    Ok qq (measureResponse t s) := by
  unfold measureResponse
  extract_lets +onlyGivenNames -underBinder -merge -useContext x1
  clear_value x1
  split
  · with_reducible assumption
  · extract_lets +onlyGivenNames -underBinder -merge -useContext x2
    clear_value x2
    extract_lets +onlyGivenNames -underBinder -merge -useContext x3
    refine (?_ : Ok qq x3 → _) ?_
    on_goal 2 =>
      unfold x3
      with_reducible apply setJob_ok
      with_reducible assumption
    (clear_value x3; intro hx3)
    extract_lets +onlyGivenNames -underBinder -merge -useContext x4
    refine (?_ : Ok qq x4 → _) ?_
    on_goal 2 =>
      unfold x4
      split
      · with_reducible apply setFld_ok
        with_reducible assumption
      · with_reducible assumption
    (clear_value x4; intro hx4)
    split
    · extract_lets +onlyGivenNames -underBinder -merge -useContext x5
      clear_value x5
      extract_lets +onlyGivenNames -underBinder -merge -useContext x6
      refine (?_ : Ok qq x6 → _) ?_
      on_goal 2 =>
        unfold x6
        with_reducible apply setJob_ok
        with_reducible assumption
      (clear_value x6; intro hx6)
      with_reducible apply raiseTask_ok
      with_reducible assumption
    · with_reducible assumption

/-- `setJobLane` keeps. -/
theorem setJobLane_ok {qq : List Instr} (s : State) (t : Nat) (l : Lane) (x : JobLane) (hs : Ok qq s) :
    Ok qq (setJobLane s t l x) := by
  unfold setJobLane
  extract_lets +onlyGivenNames -underBinder -merge -useContext x1
  clear_value x1
  with_reducible apply setJob_ok
  with_reducible assumption

/-- `enterPresentation` keeps. -/
theorem enterPresentation_ok {qq : List Instr} (l : Lane) (p : Present) (s : State) (hs : Ok qq s) :
    Ok qq (enterPresentation l p s) := by
  unfold enterPresentation
  extract_lets +onlyGivenNames -underBinder -merge -useContext x1
  clear_value x1
  extract_lets +onlyGivenNames -underBinder -merge -useContext x2
  clear_value x2
  extract_lets +onlyGivenNames -underBinder -merge -useContext x3
  clear_value x3
  extract_lets +onlyGivenNames -underBinder -merge -useContext x4
  clear_value x4
  split
  · with_reducible assumption
  · split
    · split
      · with_reducible apply rejoinFailed_ok
        · with_reducible assumption
        · intro a5 a6 a7 a8 a9 h10
          with_reducible apply raiseF_ok
          with_reducible assumption
      · with_reducible apply raiseTask_ok
        with_reducible assumption
    · extract_lets +onlyGivenNames -underBinder -merge -useContext x11
      refine (?_ : Ok qq x11 → _) ?_
      on_goal 2 =>
        unfold x11
        with_reducible apply setJobLane_ok
        with_reducible assumption
      (clear_value x11; intro hx11)
      extract_lets +onlyGivenNames -underBinder -merge -useContext x12
      refine (?_ : Ok qq x12 → _) ?_
      on_goal 2 =>
        unfold x12
        split
        · with_reducible apply measureResponse_ok
          with_reducible assumption
        · with_reducible assumption
      (clear_value x12; intro hx12)
      split
      · with_reducible assumption
      · (with_reducible apply ok_mk; with_reducible assumption)

/-- `clockFault` keeps. -/
theorem clockFault_ok {qq : List Instr} (l : Lane) (dev : Word) (s : State) (hs : Ok qq s) :
    Ok qq (clockFault l dev s) := by
  unfold clockFault
  extract_lets +onlyGivenNames -underBinder -merge -useContext x1
  extract_lets +onlyGivenNames -underBinder -merge -useContext x2
  refine (?_ : Ok qq x2 → _) ?_
  on_goal 2 =>
    unfold x2
    with_reducible apply setBit_ok
    with_reducible assumption
  (clear_value x2; intro hx2)
  extract_lets +onlyGivenNames -underBinder -merge -useContext x3
  refine (?_ : Ok qq x3 → _) ?_
  on_goal 2 =>
    unfold x3
    with_reducible apply raise_ok
    with_reducible assumption
  (clear_value x3; intro hx3)
  split
  · with_reducible apply selftestFail_ok
    with_reducible assumption
  · with_reducible assumption

/-- `powerFault` keeps. -/
theorem powerFault_ok {qq : List Instr} (l : Lane) (mv : Word) (s : State) (hs : Ok qq s) :
    Ok qq (powerFault l mv s) := by
  unfold powerFault
  extract_lets +onlyGivenNames -underBinder -merge -useContext x1
  extract_lets +onlyGivenNames -underBinder -merge -useContext x2
  refine (?_ : Ok qq x2 → _) ?_
  on_goal 2 =>
    unfold x2
    with_reducible apply setBit_ok
    with_reducible assumption
  (clear_value x2; intro hx2)
  extract_lets +onlyGivenNames -underBinder -merge -useContext x3
  clear_value x3
  extract_lets +onlyGivenNames -underBinder -merge -useContext x4
  refine (?_ : Ok qq x4 → _) ?_
  on_goal 2 =>
    unfold x4
    with_reducible apply setLane_ok
    with_reducible assumption
  (clear_value x4; intro hx4)
  extract_lets +onlyGivenNames -underBinder -merge -useContext x5
  refine (?_ : Ok qq x5 → _) ?_
  on_goal 2 =>
    unfold x5
    with_reducible apply raise_ok
    with_reducible assumption
  (clear_value x5; intro hx5)
  extract_lets +onlyGivenNames -underBinder -merge -useContext x6
  refine (?_ : Ok qq x6 → _) ?_
  on_goal 2 =>
    unfold x6
    split
    · with_reducible apply selftestFail_ok
      with_reducible assumption
    · with_reducible assumption
  (clear_value x6; intro hx6)
  split
  · with_reducible apply setLaneTo_ok
    with_reducible apply setLane_ok
    with_reducible assumption
  · with_reducible assumption

/-- `showIrqs` keeps. -/
theorem showIrqs_ok {qq : List Instr} (l : Lane) (s : State) (hs : Ok qq s) :
    Ok qq (showIrqs l s) := by
  unfold showIrqs
  extract_lets +onlyGivenNames -underBinder -merge -useContext x1
  clear_value x1
  extract_lets +onlyGivenNames -underBinder -merge -useContext x2
  refine (?_ : Ok qq x2 → _) ?_
  on_goal 2 =>
    unfold x2
    with_reducible apply setFld_ok
    with_reducible assumption
  (clear_value x2; intro hx2)
  extract_lets +onlyGivenNames -underBinder -merge -useContext x3
  clear_value x3
  extract_lets +onlyGivenNames -underBinder -merge -useContext x4
  clear_value x4
  extract_lets +onlyGivenNames -underBinder -merge -useContext x5
  clear_value x5
  extract_lets +onlyGivenNames -underBinder -merge -useContext x6
  clear_value x6
  with_reducible apply setLane_ok
  with_reducible assumption

/-- `timerInterrupt` keeps. -/
theorem timerInterrupt_ok {qq : List Instr} (l : Lane) (core : Fin 4) (s : State) (hs : Ok qq s) :
    Ok qq (timerInterrupt l core s) := by
  unfold timerInterrupt
  split
  · with_reducible apply showIrqs_ok
    with_reducible assumption
  · with_reducible assumption

/-- `laneRefuse` keeps. -/
theorem laneRefuse_ok {qq : List Instr} (l : Lane) (value : Nat) (s : State) (hs : Ok qq s) :
    Ok qq (laneRefuse l value s) := by
  unfold laneRefuse
  with_reducible apply raise_ok
  with_reducible assumption

/-- `startTesting` keeps. -/
theorem startTesting_ok {qq : List Instr} (l : Lane) (s : State) (hs : Ok qq s) :
    Ok qq (startTesting l s) := by
  unfold startTesting
  extract_lets +onlyGivenNames -underBinder -merge -useContext x1
  clear_value x1
  extract_lets +onlyGivenNames -underBinder -merge -useContext x2
  refine (?_ : Ok qq x2 → _) ?_
  on_goal 2 =>
    unfold x2
    with_reducible apply setLane_ok
    with_reducible assumption
  (clear_value x2; intro hx2)
  extract_lets +onlyGivenNames -underBinder -merge -useContext x3
  refine (?_ : Ok qq x3 → _) ?_
  on_goal 2 =>
    unfold x3
    with_reducible apply setLaneTo_ok
    with_reducible assumption
  (clear_value x3; intro hx3)
  split
  · extract_lets +onlyGivenNames -underBinder -merge -useContext x4
    clear_value x4
    extract_lets +onlyGivenNames -underBinder -merge -useContext x5
    refine (?_ : Ok qq x5 → _) ?_
    on_goal 2 =>
      unfold x5
      with_reducible apply setFld_ok
      with_reducible assumption
    (clear_value x5; intro hx5)
    with_reducible apply setFld_ok
    with_reducible assumption
  · with_reducible assumption

/-- `autoRejoin` keeps. -/
theorem autoRejoin_ok {qq : List Instr} (l : Lane) (s : State) (hs : Ok qq s) :
    Ok qq (autoRejoin l s) := by
  unfold autoRejoin
  split
  · split
    · split
      · with_reducible apply startTesting_ok
        with_reducible assumption
      · extract_lets +onlyGivenNames -underBinder -merge -useContext x1
        clear_value x1
        extract_lets +onlyGivenNames -underBinder -merge -useContext x2
        refine (?_ : Ok qq x2 → _) ?_
        on_goal 2 =>
          unfold x2
          with_reducible apply setLane_ok
          with_reducible assumption
        (clear_value x2; intro hx2)
        extract_lets +onlyGivenNames -underBinder -merge -useContext x3
        refine (?_ : Ok qq x3 → _) ?_
        on_goal 2 =>
          unfold x3
          with_reducible apply raise_ok
          with_reducible assumption
        (clear_value x3; intro hx3)
        with_reducible apply setLaneTo_ok
        with_reducible assumption
    · with_reducible assumption
  · with_reducible assumption

/-- `laneExclude` keeps. -/
theorem laneExclude_ok {qq : List Instr} (l : Lane) (v : Nat) (s : State) (hs : Ok qq s) :
    Ok qq (laneExclude l v s) := by
  unfold laneExclude
  split
  · with_reducible apply excludeLane_ok
    · with_reducible assumption
    · intro a1 a2 a3 a4 a5 h6
      with_reducible apply raiseF_ok
      with_reducible assumption
  · with_reducible apply laneRefuse_ok
    with_reducible assumption

/-- `laneRejoin` keeps. -/
theorem laneRejoin_ok {qq : List Instr} (l : Lane) (v : Nat) (s : State) (hs : Ok qq s) :
    Ok qq (laneRejoin l v s) := by
  unfold laneRejoin
  split
  · with_reducible apply startTesting_ok
    with_reducible assumption
  · with_reducible apply laneRefuse_ok
    with_reducible assumption

/-- `lanePowerOff` keeps. -/
theorem lanePowerOff_ok {qq : List Instr} (l : Lane) (v : Nat) (s : State) (hs : Ok qq s) :
    Ok qq (lanePowerOff l v s) := by
  unfold lanePowerOff
  split
  · with_reducible apply laneOff_ok
    with_reducible assumption
  · with_reducible apply laneRefuse_ok
    with_reducible assumption

/-- `lanePowerOn` keeps. -/
theorem lanePowerOn_ok {qq : List Instr} (l : Lane) (v : Nat) (s : State) (hs : Ok qq s) :
    Ok qq (lanePowerOn l v s) := by
  unfold lanePowerOn
  split
  · with_reducible apply startTesting_ok
    with_reducible assumption
  · with_reducible apply laneRefuse_ok
    with_reducible assumption

/-- `modeReject` keeps. -/
theorem modeReject_ok {qq : List Instr} (reason : Nat) (s : State) (hs : Ok qq s) :
    Ok qq (modeReject reason s) := by
  unfold modeReject
  with_reducible apply raise_ok
  with_reducible assumption

/-- `modeRequest` keeps. -/
theorem modeRequest_ok {qq : List Instr} (join : Bool) (d value : Nat) (s : State) (hs : Ok qq s) :
    Ok qq (modeRequest join d value s) := by
  unfold modeRequest
  extract_lets +onlyGivenNames -underBinder -merge -useContext x1
  refine (?_ : Ok qq x1 → _) ?_
  on_goal 2 =>
    unfold x1
    with_reducible apply setReg_ok
    with_reducible assumption
  (clear_value x1; intro hx1)
  extract_lets +onlyGivenNames -underBinder -merge -useContext x2
  refine (?_ : Ok qq x2 → _) ?_
  on_goal 2 =>
    unfold x2
    with_reducible apply setBit_ok
    with_reducible assumption
  (clear_value x2; intro hx2)
  (with_reducible apply ok_mk; with_reducible assumption)

/-- `modeSplit` keeps. -/
theorem modeSplit_ok {qq : List Instr} (d : BitVec 2) (s : State) (hs : Ok qq s) :
    Ok qq (modeSplit d s) := by
  unfold modeSplit
  split
  · with_reducible apply modeReject_ok
    with_reducible assumption
  · split
    · with_reducible apply modeReject_ok
      with_reducible assumption
    · split
      · with_reducible apply modeReject_ok
        with_reducible assumption
      · with_reducible apply modeRequest_ok
        with_reducible assumption

/-- `modeJoin` keeps. -/
theorem modeJoin_ok {qq : List Instr} (s : State) (hs : Ok qq s) :
    Ok qq (modeJoin s) := by
  unfold modeJoin
  split
  · with_reducible apply modeReject_ok
    with_reducible assumption
  · split
    · with_reducible apply modeReject_ok
      with_reducible assumption
    · with_reducible apply modeRequest_ok
      with_reducible assumption

/-- `modeCancel` keeps. -/
theorem modeCancel_ok {qq : List Instr} (s : State) (hs : Ok qq s) :
    Ok qq (modeCancel s) := by
  unfold modeCancel
  extract_lets +onlyGivenNames -underBinder -merge -useContext x1
  refine (?_ : Ok qq x1 → _) ?_
  on_goal 2 =>
    unfold x1
    with_reducible apply setBit_ok
    with_reducible apply setReg_ok
    with_reducible assumption
  (clear_value x1; intro hx1)
  (with_reducible apply ok_mk; with_reducible assumption)

/-- `saLock` keeps. -/
theorem saLock_ok {qq : List Instr} (v : Word) (s : State) (hs : Ok qq s) :
    Ok qq (saLock v s) := by
  unfold saLock
  split
  · split
    · with_reducible apply raise_ok
      with_reducible assumption
    · extract_lets +onlyGivenNames -underBinder -merge -useContext x1
      clear_value x1
      with_reducible apply setFld_ok
      with_reducible apply setReg_ok
      with_reducible assumption
  · split
    · with_reducible apply raise_ok
      with_reducible assumption
    · with_reducible apply setFld_ok
      with_reducible apply setReg_ok
      with_reducible assumption

/-- `testingPassed` keeps. -/
theorem testingPassed_ok {qq : List Instr} (l : Lane) (s : State) (hs : Ok qq s) :
    Ok qq (testingPassed l s) := by
  unfold testingPassed
  split
  · with_reducible apply joinAdvance_ok
    with_reducible apply setLane_ok
    with_reducible assumption
  · split
    · extract_lets +onlyGivenNames -underBinder -merge -useContext x1
      clear_value x1
      extract_lets +onlyGivenNames -underBinder -merge -useContext x2
      refine (?_ : Ok qq x2 → _) ?_
      on_goal 2 =>
        unfold x2
        with_reducible apply setLane_ok
        (with_reducible apply ok_mk; with_reducible assumption)
      (clear_value x2; intro hx2)
      with_reducible apply setLaneTo_ok
      with_reducible assumption
    · with_reducible apply beginRejoin_ok
      with_reducible assumption

/-- `failTargets` keeps. -/
theorem failTargets_ok {qq : List Instr} (reason : Nat) (s : State) (hs : Ok qq s) :
    Ok qq (failTargets reason s) := by
  unfold failTargets
  with_reducible apply ok_foldl
  · intro a1 a2 h3
    with_reducible apply rejoinFailed_ok
    · with_reducible assumption
    · intro a4 a5 a6 a7 a8 h9
      with_reducible apply raiseF_ok
      with_reducible assumption
  · with_reducible assumption

/-- `copyFailed` keeps. -/
theorem copyFailed_ok {qq : List Instr} (s : State) (hs : Ok qq s) :
    Ok qq (copyFailed s) := by
  unfold copyFailed
  extract_lets +onlyGivenNames -underBinder -merge -useContext x1
  refine (?_ : Ok qq x1 → _) ?_
  on_goal 2 =>
    unfold x1
    with_reducible apply setBit_ok
    with_reducible apply setReg_ok
    (with_reducible apply ok_mk; with_reducible assumption)
  (clear_value x1; intro hx1)
  with_reducible apply raise_ok
  with_reducible apply emitOut_ok
  with_reducible assumption

/-- `copyPage` keeps. -/
theorem copyPage_ok {qq : List Instr} (page : Nat) (s : State) (hs : Ok qq s) :
    Ok qq (copyPage page s) := by
  unfold copyPage
  split
  · extract_lets +onlyGivenNames -underBinder -merge -useContext x1
    clear_value x1
    extract_lets +onlyGivenNames -underBinder -merge -useContext x2
    refine (?_ : Ok qq x2 → _) ?_
    on_goal 2 =>
      unfold x2
      with_reducible apply showDirty_ok
      (with_reducible apply ok_mk; with_reducible assumption)
    (clear_value x2; intro hx2)
    split
    split
    · split
      · with_reducible apply copyFailed_ok
        with_reducible assumption
      · with_reducible apply failTargets_ok
        with_reducible assumption
    · extract_lets +onlyGivenNames -underBinder -merge -useContext x3
      clear_value x3
      extract_lets +onlyGivenNames -underBinder -merge -useContext x4
      refine (?_ : Ok qq x4 → _) ?_
      on_goal 2 =>
        unfold x4
        split
        · with_reducible apply emitOut_ok
          with_reducible assumption
        · with_reducible apply ok_foldl
          · intro a5 a6 h7
            with_reducible refine ok_dram ?_ _ (fun hm => writeBytes_wf hm _ _)
            with_reducible assumption
          · with_reducible assumption
      (clear_value x4; intro hx4)
      split
      · split
        · with_reducible apply raise_ok
          with_reducible assumption
        · with_reducible apply showDirty_ok
          (with_reducible apply ok_mk; with_reducible assumption)
      · with_reducible assumption
  · with_reducible assumption

/-- `bulkDone` keeps. -/
theorem bulkDone_ok {qq : List Instr} (s : State) (hs : Ok qq s) :
    Ok qq (bulkDone s) := by
  unfold bulkDone
  split
  · with_reducible apply setFld_ok
    with_reducible assumption
  · split
    · extract_lets +onlyGivenNames -underBinder -merge -useContext x1
      refine (?_ : Ok qq x1 → _) ?_
      on_goal 2 =>
        unfold x1
        with_reducible apply setCopyPhase_ok
        with_reducible assumption
      (clear_value x1; intro hx1)
      (with_reducible apply ok_mk; with_reducible assumption)
    · with_reducible assumption

/-- `passDone` keeps. -/
theorem passDone_ok {qq : List Instr} (s : State) (hs : Ok qq s) :
    Ok qq (passDone s) := by
  unfold passDone
  split
  · extract_lets +onlyGivenNames -underBinder -merge -useContext x1
    refine (?_ : Ok qq x1 → _) ?_
    on_goal 2 =>
      unfold x1
      with_reducible apply satAdd_ok
      with_reducible assumption
    (clear_value x1; intro hx1)
    (with_reducible apply ok_mk; with_reducible assumption)
  · with_reducible assumption

/-- `signalCore` keeps. -/
theorem signalCore_ok {qq : List Instr} (t : Nat) (l : Lane) (s : State) (hs : Ok qq s) :
    Ok qq (signalCore t l s) := by
  unfold signalCore
  extract_lets +onlyGivenNames -underBinder -merge -useContext x1
  clear_value x1
  with_reducible apply setLane_ok
  with_reducible assumption

/-- `finalStart` keeps. -/
theorem finalStart_ok {qq : List Instr} (s : State) (hs : Ok qq s) :
    Ok qq (finalStart s) := by
  unfold finalStart
  split
  · with_reducible apply setFld_ok
    with_reducible assumption
  · split
    · extract_lets +onlyGivenNames -underBinder -merge -useContext x1
      refine (?_ : Ok qq x1 → _) ?_
      on_goal 2 =>
        unfold x1
        with_reducible apply setCopyPhase_ok
        with_reducible assumption
      (clear_value x1; intro hx1)
      (with_reducible apply ok_mk; with_reducible assumption)
    · with_reducible assumption

/-- `joinCounts` keeps. -/
theorem joinCounts_ok {qq : List Instr} (l : Lane) (s : State) (hs : Ok qq s) :
    Ok qq (joinCounts l s) := by
  unfold joinCounts
  extract_lets +onlyGivenNames -underBinder -merge -useContext x1
  clear_value x1
  (with_reducible apply ok_mk; with_reducible assumption)

/-- `finalDone` keeps. -/
theorem finalDone_ok {qq : List Instr} (s : State) (hs : Ok qq s) :
    Ok qq (finalDone s) := by
  unfold finalDone
  split
  · split
    extract_lets +onlyGivenNames -underBinder -merge -useContext x1
    refine (?_ : Ok qq x1 → _) ?_
    on_goal 2 =>
      unfold x1
      with_reducible apply ok_foldl
      · intro a4 a5 h6
        with_reducible apply setLaneTo_ok
        with_reducible apply isolate_ok
        with_reducible assumption
      · with_reducible refine ok_snd (by assumption) ?_
        with_reducible apply takeFree_ok
        with_reducible assumption
    (clear_value x1; intro hx1)
    extract_lets +onlyGivenNames -underBinder -merge -useContext x2
    clear_value x2
    extract_lets +onlyGivenNames -underBinder -merge -useContext x3
    refine (?_ : Ok qq x3 → _) ?_
    on_goal 2 =>
      unfold x3
      (with_reducible apply ok_mk; with_reducible assumption)
    (clear_value x3; intro hx3)
    with_reducible apply setFld_ok
    (with_reducible apply ok_mk; with_reducible assumption)
  · split
    · extract_lets +onlyGivenNames -underBinder -merge -useContext x7
      refine (?_ : Ok qq x7 → _) ?_
      on_goal 2 =>
        unfold x7
        with_reducible apply ok_foldl
        · intro a10 a11 h12
          with_reducible apply joinCounts_ok
          with_reducible apply isolate_ok
          with_reducible assumption
        · with_reducible assumption
      (clear_value x7; intro hx7)
      extract_lets +onlyGivenNames -underBinder -merge -useContext x8
      clear_value x8
      extract_lets +onlyGivenNames -underBinder -merge -useContext x9
      refine (?_ : Ok qq x9 → _) ?_
      on_goal 2 =>
        unfold x9
        (with_reducible apply ok_mk; with_reducible assumption)
      (clear_value x9; intro hx9)
      split
      · with_reducible assumption
      · with_reducible apply setCopyPhase_ok
        with_reducible assumption
    · with_reducible assumption

/-- `rejoinTimeout` keeps. -/
theorem rejoinTimeout_ok {qq : List Instr} (l : Lane) (s : State) (hs : Ok qq s) :
    Ok qq (rejoinTimeout l s) := by
  unfold rejoinTimeout
  extract_lets +onlyGivenNames -underBinder -merge -useContext x1
  clear_value x1
  split
  · with_reducible apply rejoinFailed_ok
    · with_reducible assumption
    · intro a2 a3 a4 a5 a6 h7
      with_reducible apply raiseF_ok
      with_reducible assumption
  · with_reducible assumption

/-- `rejoinDone` keeps. -/
theorem rejoinDone_ok {qq : List Instr} (l : Lane) (s : State) (hs : Ok qq s) :
    Ok qq (rejoinDone l s) := by
  unfold rejoinDone
  extract_lets +onlyGivenNames -underBinder -merge -useContext x1
  clear_value x1
  extract_lets +onlyGivenNames -underBinder -merge -useContext x2
  refine (?_ : Ok qq x2 → _) ?_
  on_goal 2 =>
    unfold x2
    with_reducible apply setLaneTo_ok
    with_reducible apply rejoinIdle_ok
    (with_reducible apply ok_mk; with_reducible assumption)
  (clear_value x2; intro hx2)
  with_reducible apply raise_ok
  with_reducible assumption

end Sys2Proof.Machine
end

