-- ==== Sys2Proof/Laws/KeepAccess.lean ====
section
/-!
SUPPORT. What the operations of Machine/Access.lean keep: the canonical form of registers and memories, and the queue.
-/

namespace Sys2Proof.Machine

/-- `coreFault` keeps. -/
theorem coreFault_ok {qq : List Instr} (l : Lane) (core : Fin 4) (store : Bool) (addr : BitVec 40) (s : State) (hs : Ok qq s) :
    Ok qq (coreFault l core store addr s) := by
  unfold coreFault
  extract_lets +onlyGivenNames -underBinder -merge -useContext x1
  clear_value x1
  with_reducible apply setLane_ok
  with_reducible assumption

/-- `accessFault` keeps. -/
theorem accessFault_ok {qq : List Instr} (l : Lane) (core : Fin 4) (addr : BitVec 40) (store excludes : Bool) (s : State) (hs : Ok qq s) :
    Ok qq (accessFault l core addr store excludes s) := by
  unfold accessFault
  extract_lets +onlyGivenNames -underBinder -merge -useContext x1
  clear_value x1
  extract_lets +onlyGivenNames -underBinder -merge -useContext x2
  clear_value x2
  with_reducible apply raise_ok
  with_reducible apply coreFault_ok
  with_reducible assumption

/-- `takeSignal` keeps. -/
theorem takeSignal_ok {qq : List Instr} (l : Lane) (core : Fin 4) (s : State) (hs : Ok qq s) :
    Ok qq (takeSignal l core s) := by
  unfold takeSignal
  extract_lets +onlyGivenNames -underBinder -merge -useContext x1
  clear_value x1
  with_reducible apply setLane_ok
  with_reducible assumption

/-- `mapAccess` keeps. -/
theorem mapAccess_ok {qq : List Instr} (l : Lane) (core : Fin 4) (addr : BitVec 40) (store : Bool) (s : State) (hs : Ok qq s) :
    Ok qq (mapAccess l core addr store s) := by
  unfold mapAccess
  split
  · split
    · with_reducible apply accessFault_ok
      with_reducible assumption
    · with_reducible assumption
  · with_reducible assumption

/-- `mramAccess` keeps. -/
theorem mramAccess_ok {qq : List Instr} (l : Lane) (core : Fin 4) (addr : BitVec 40) (store : Bool) (s : State) (hs : Ok qq s) :
    Ok qq (mramAccess l core addr store s) := by
  unfold mramAccess
  extract_lets +onlyGivenNames -underBinder -merge -useContext x1
  clear_value x1
  split
  · with_reducible assumption
  · split
    · with_reducible apply accessFault_ok
      with_reducible assumption
    · split
      · with_reducible apply accessFault_ok
        with_reducible assumption
      · split
        · with_reducible assumption
        · with_reducible apply accessFault_ok
          with_reducible assumption

end Sys2Proof.Machine
end

