-- ==== Sys2Proof/Laws/KeepJournal.lean ====
section
/-!
SUPPORT. What the operations of Machine/Journal.lean keep: the canonical form of registers and memories, and the queue.
-/

namespace Sys2Proof.Machine

/-- `showRing` keeps. -/
theorem showRing_ok {qq : List Instr} (s : State) (n : Nat) (hs : Ok qq s) :
    Ok qq (showRing s n) := by
  unfold showRing
  extract_lets +onlyGivenNames -underBinder -merge -useContext x1
  clear_value x1
  extract_lets +onlyGivenNames -underBinder -merge -useContext x2
  refine (?_ : Ok qq x2 → _) ?_
  on_goal 2 =>
    unfold x2
    with_reducible apply setFld_ok
    with_reducible assumption
  (clear_value x2; intro hx2)
  extract_lets +onlyGivenNames -underBinder -merge -useContext x3
  refine (?_ : Ok qq x3 → _) ?_
  on_goal 2 =>
    unfold x3
    split
    · with_reducible apply setFld_ok
      with_reducible assumption
    · with_reducible assumption
  (clear_value x3; intro hx3)
  extract_lets +onlyGivenNames -underBinder -merge -useContext x4
  clear_value x4
  extract_lets +onlyGivenNames -underBinder -merge -useContext x5
  refine (?_ : Ok qq x5 → _) ?_
  on_goal 2 =>
    unfold x5
    with_reducible apply setFld_ok
    with_reducible assumption
  (clear_value x5; intro hx5)
  with_reducible apply setFld_ok
  with_reducible assumption

/-- `mapRec` keeps. -/
theorem mapRec_ok {qq : List Instr} (s : State) (n : Nat) (seq : Word) (f : JRecord → JRecord) (hs : Ok qq s) :
    Ok qq (mapRec s n seq f) := by
  unfold mapRec
  (with_reducible apply ok_mk; with_reducible assumption)

/-- `markRec` keeps. -/
theorem markRec_ok {qq : List Instr} (s : State) (n : Nat) (seq : Word) (st : JState) (hs : Ok qq s) :
    Ok qq (markRec s n seq st) := by
  unfold markRec
  extract_lets +onlyGivenNames -underBinder -merge -useContext x1
  refine (?_ : Ok qq x1 → _) ?_
  on_goal 2 =>
    unfold x1
    with_reducible apply mapRec_ok
    with_reducible assumption
  (clear_value x1; intro hx1)
  split
  · with_reducible apply addDelta_ok
    with_reducible assumption
  · with_reducible assumption

/-- `completeReady` keeps. -/
theorem completeReady_ok {qq : List Instr} (n fuel : Nat) (s : State) (hs : Ok qq s) :
    Ok qq (completeReady n fuel s) := by
  induction fuel generalizing s with
  | zero => exact hs
  | succ fuel ih =>
    unfold completeReady
    split
    · split
      · extract_lets +onlyGivenNames -underBinder -merge -useContext x1
        clear_value x1
        extract_lets +onlyGivenNames -underBinder -merge -useContext x2
        refine (?_ : Ok qq x2 → _) ?_
        on_goal 2 =>
          unfold x2
          with_reducible apply placeRecord_ok
          with_reducible apply countRecord_ok
          (with_reducible apply ok_mk; with_reducible assumption)
        (clear_value x2; intro hx2)
        extract_lets +onlyGivenNames -underBinder -merge -useContext x3
        refine (?_ : Ok qq x3 → _) ?_
        on_goal 2 =>
          unfold x3
          with_reducible apply addDelta_ok
          with_reducible apply setReg_ok
          with_reducible assumption
        (clear_value x3; intro hx3)
        with_reducible apply ih
        with_reducible apply showRing_ok
        with_reducible assumption
      · with_reducible assumption
    · with_reducible assumption

/-- `finishDesc` keeps. -/
theorem finishDesc_ok {qq : List Instr} (s : State) (n : Nat) (seq : Word) (o : DescOutcome) (detailA : Nat) (hs : Ok qq s) :
    Ok qq (finishDesc s n seq o detailA) := by
  unfold finishDesc
  extract_lets +onlyGivenNames -underBinder -merge -useContext x1
  refine (?_ : Ok qq x1 → _) ?_
  on_goal 2 =>
    unfold x1
    with_reducible apply mapRec_ok
    with_reducible assumption
  (clear_value x1; intro hx1)
  with_reducible apply completeReady_ok
  with_reducible apply markRec_ok
  with_reducible assumption

/-- `readJournal` keeps. -/
theorem readJournal_ok {qq : List Instr} (n : Nat) (ids : List Word) (s : State) (hs : Ok qq s) :
    Ok qq (readJournal n ids s).2 := by
  unfold readJournal
  split
  · with_reducible assumption
  · split
    extract_lets +onlyGivenNames -underBinder -merge -useContext x1
    clear_value x1
    split
    · extract_lets +onlyGivenNames -underBinder -merge -useContext x2
      clear_value x2
      extract_lets +onlyGivenNames -underBinder -merge -useContext x3
      clear_value x3
      dsimp only
      with_reducible apply raise_ok
      with_reducible apply stick_ok
      with_reducible apply memUncorrectable_ok
      with_reducible refine ok_snd (by assumption) ?_
      with_reducible apply takeFree_ok
      with_reducible assumption
    · dsimp only
      with_reducible refine ok_snd (by assumption) ?_
      with_reducible apply takeFree_ok
      with_reducible assumption

/-- `startRec` keeps. -/
theorem startRec_ok {qq : List Instr} (s : State) (n target opcode : Nat) (hs : Ok qq s) :
    Ok qq (startRec s n target opcode).2 := by
  unfold startRec
  split
  · split
    dsimp only
    with_reducible refine ok_snd (by assumption) ?_
    with_reducible apply readJournal_ok
    with_reducible assumption
  · with_reducible assumption

end Sys2Proof.Machine
end

