-- ==== Sys2Proof/Laws/KeepCan.lean ====
section
/-!
SUPPORT. What the operations of Machine/Can.lean keep: the canonical form of registers and memories, and the queue.
-/

namespace Sys2Proof.Machine

/-- `setChState` keeps. -/
theorem setChState_ok {qq : List Instr} (s : State) (n st : Nat) (hs : Ok qq s) :
    Ok qq (setChState s n st) := by
  unfold setChState
  extract_lets +onlyGivenNames -underBinder -merge -useContext x1
  refine (?_ : Ok qq x1 → _) ?_
  on_goal 2 =>
    unfold x1
    with_reducible apply setFld_ok
    with_reducible assumption
  (clear_value x1; intro hx1)
  extract_lets +onlyGivenNames -underBinder -merge -useContext x2
  refine (?_ : Ok qq x2 → _) ?_
  on_goal 2 =>
    unfold x2
    with_reducible apply setBit_ok
    with_reducible assumption
  (clear_value x2; intro hx2)
  with_reducible apply setBit_ok
  with_reducible assumption

/-- `showListen` keeps. -/
theorem showListen_ok {qq : List Instr} (n : Nat) (s : State) (hs : Ok qq s) :
    Ok qq (showListen n s) := by
  unfold showListen
  with_reducible apply setBit_ok
  with_reducible assumption

/-- `showListenAll` keeps. -/
theorem showListenAll_ok {qq : List Instr} (s : State) (hs : Ok qq s) :
    Ok qq (showListenAll s) := by
  unfold showListenAll
  with_reducible apply ok_foldl
  · intro a1 a2 h3
    with_reducible apply showListen_ok
    with_reducible assumption
  · with_reducible assumption

/-- `setProfile` keeps. -/
theorem setProfile_ok {qq : List Instr} (n p : Nat) (s : State) (hs : Ok qq s) :
    Ok qq (setProfile n p s) := by
  unfold setProfile
  split
  · with_reducible assumption
  · with_reducible apply raise_ok
    with_reducible apply setFld_ok
    with_reducible assumption

/-- `integratedProfile` keeps. -/
theorem integratedProfile_ok {qq : List Instr} (n : Nat) (s : State) (hs : Ok qq s) :
    Ok qq (integratedProfile n s) := by
  unfold integratedProfile
  split
  · with_reducible apply setProfile_ok
    with_reducible assumption
  · split
    · with_reducible apply setProfile_ok
      with_reducible assumption
    · with_reducible assumption

/-- `loopProfile` keeps. -/
theorem loopProfile_ok {qq : List Instr} (n : Nat) (s : State) (hs : Ok qq s) :
    Ok qq (loopProfile n s) := by
  unfold loopProfile
  split
  · with_reducible apply setProfile_ok
    with_reducible assumption
  · with_reducible assumption

/-- `showTxq` keeps. -/
theorem showTxq_ok {qq : List Instr} (n : Nat) (s : State) (hs : Ok qq s) :
    Ok qq (showTxq n s) := by
  unfold showTxq
  extract_lets +onlyGivenNames -underBinder -merge -useContext x1
  refine (?_ : Ok qq x1 → _) ?_
  on_goal 2 =>
    unfold x1
    with_reducible apply setFld_ok
    with_reducible assumption
  (clear_value x1; intro hx1)
  with_reducible apply setBit_ok
  with_reducible assumption

/-- `showRingTxq` keeps. -/
theorem showRingTxq_ok {qq : List Instr} (k : Nat) (s : State) (hs : Ok qq s) :
    Ok qq (showRingTxq k s) := by
  unfold showRingTxq
  split
  · with_reducible apply showTxq_ok
    with_reducible assumption
  · with_reducible assumption

/-- `setQueue` keeps. -/
theorem setQueue_ok {qq : List Instr} (s : State) (n : Nat) (q : List TxEntry) (hs : Ok qq s) :
    Ok qq (setQueue s n q) := by
  unfold setQueue
  with_reducible apply showTxq_ok
  with_reducible apply setChan_ok
  with_reducible assumption

/-- `canDrop` keeps. -/
theorem canDrop_ok {qq : List Instr} (n reason : Nat) (f : CanFrame) (s : State) (hs : Ok qq s) :
    Ok qq (canDrop n reason f s) := by
  unfold canDrop
  extract_lets +onlyGivenNames -underBinder -merge -useContext x1
  refine (?_ : Ok qq x1 → _) ?_
  on_goal 2 =>
    unfold x1
    with_reducible apply satAdd_ok
    with_reducible assumption
  (clear_value x1; intro hx1)
  with_reducible apply raise_ok
  with_reducible apply stick_ok
  with_reducible assumption

/-- `completeRx` keeps. -/
theorem completeRx_ok {qq : List Instr} (n : Nat) (flushed : Bool) (s : State) (hs : Ok qq s) :
    Ok qq (completeRx n flushed s) := by
  unfold completeRx
  split
  · split
    · extract_lets +onlyGivenNames -underBinder -merge -useContext x1
      clear_value x1
      split
      extract_lets +onlyGivenNames -underBinder -merge -useContext x2
      clear_value x2
      with_reducible apply finishDesc_ok
      with_reducible apply setChan_ok
      with_reducible refine ok_snd (by assumption) ?_
      split
      · with_reducible assumption
      · split
        dsimp only
        with_reducible refine ok_snd (by assumption) ?_
        with_reducible apply takeFree_ok
        with_reducible assumption
    · with_reducible assumption
  · with_reducible assumption

/-- `toRxRing` keeps. -/
theorem toRxRing_ok {qq : List Instr} (n : Nat) (f : CanFrame) (sof : Dword) (s : State) (hs : Ok qq s) :
    Ok qq (toRxRing n f sof s) := by
  unfold toRxRing
  extract_lets +onlyGivenNames -underBinder -merge -useContext x1
  clear_value x1
  extract_lets +onlyGivenNames -underBinder -merge -useContext x2
  clear_value x2
  extract_lets +onlyGivenNames -underBinder -merge -useContext x3
  refine (?_ : Ok qq x3 → _) ?_
  on_goal 2 =>
    unfold x3
    split
    · with_reducible apply completeRx_ok
      with_reducible assumption
    · with_reducible assumption
  (clear_value x3; intro hx3)
  split
  · split
    · extract_lets +onlyGivenNames -underBinder -merge -useContext x4
      clear_value x4
      split
      split
      · with_reducible apply canDrop_ok
        with_reducible refine ok_snd (by assumption) ?_
        split
        · with_reducible apply readJournal_ok
          with_reducible assumption
        · with_reducible assumption
      · extract_lets +onlyGivenNames -underBinder -merge -useContext x5
        refine (?_ : Ok qq x5 → _) ?_
        on_goal 2 =>
          unfold x5
          with_reducible apply toLanes_ok
          with_reducible refine ok_snd (by assumption) ?_
          split
          · with_reducible apply readJournal_ok
            with_reducible assumption
          · with_reducible assumption
        (clear_value x5; intro hx5)
        with_reducible apply setChan_ok
        with_reducible assumption
    · split
      · with_reducible assumption
      · with_reducible apply canDrop_ok
        with_reducible assumption
  · split
    · with_reducible assumption
    · with_reducible apply canDrop_ok
      with_reducible assumption

/-- `flushRx` keeps. -/
theorem flushRx_ok {qq : List Instr} (s : State) (hs : Ok qq s) :
    Ok qq (flushRx s) := by
  unfold flushRx
  with_reducible apply ok_foldl
  · intro a1 a2 h3
    split
    · with_reducible apply completeRx_ok
      with_reducible assumption
    · with_reducible assumption
  · with_reducible assumption

/-- `setFlt` keeps. -/
theorem setFlt_ok {qq : List Instr} (s : State) (k : Nat) (x : CanFlt) (hs : Ok qq s) :
    Ok qq (setFlt s k x) := by
  unfold setFlt
  (with_reducible apply ok_mk; with_reducible assumption)

/-- `toMirror` keeps. -/
theorem toMirror_ok {qq : List Instr} (k : Nat) (half : Bool) (f : CanFrame) (sof : Dword) (s : State) (hs : Ok qq s) :
    Ok qq (toMirror k half f sof s) := by
  unfold toMirror
  split
  · with_reducible refine ok_sound ?_ (fun hm => writeBytes_wf hm _ _)
    with_reducible assumption
  · with_reducible assumption

/-- `toImage` keeps. -/
theorem toImage_ok {qq : List Instr} (n k : Nat) (f : CanFrame) (sof : Dword) (s : State) (hs : Ok qq s) :
    Ok qq (toImage n k f sof s) := by
  unfold toImage
  split
  · with_reducible apply canDrop_ok
    with_reducible assumption
  · extract_lets +onlyGivenNames -underBinder -merge -useContext x1
    clear_value x1
    with_reducible apply toMirror_ok
    with_reducible apply setFlt_ok
    with_reducible assumption

/-- `toTunnels` keeps. -/
theorem toTunnels_ok {qq : List Instr} (n : Nat) (f : CanFrame) (time : Dword) (s : State) (hs : Ok qq s) :
    Ok qq (toTunnels n f time s) := by
  unfold toTunnels
  with_reducible apply ok_foldl
  · intro a1 a2 h3
    extract_lets +onlyGivenNames -underBinder -merge -useContext x4
    clear_value x4
    split
    · extract_lets +onlyGivenNames -underBinder -merge -useContext x5
      clear_value x5
      (with_reducible apply ok_mk; with_reducible assumption)
    · with_reducible assumption
  · with_reducible assumption

/-- `filterFrame` keeps. -/
theorem filterFrame_ok {qq : List Instr} (n : Nat) (f : CanFrame) (sof : Dword) (s : State) (hs : Ok qq s) :
    Ok qq (filterFrame n f sof s) := by
  unfold filterFrame
  split
  · extract_lets +onlyGivenNames -underBinder -merge -useContext x1
    clear_value x1
    extract_lets +onlyGivenNames -underBinder -merge -useContext x2
    refine (?_ : Ok qq x2 → _) ?_
    on_goal 2 =>
      unfold x2
      split
      · with_reducible apply toImage_ok
        with_reducible assumption
      · with_reducible assumption
    (clear_value x2; intro hx2)
    extract_lets +onlyGivenNames -underBinder -merge -useContext x3
    refine (?_ : Ok qq x3 → _) ?_
    on_goal 2 =>
      unfold x3
      split
      · with_reducible apply toRxRing_ok
        with_reducible assumption
      · with_reducible assumption
    (clear_value x3; intro hx3)
    split
    · with_reducible apply toTunnels_ok
      with_reducible assumption
    · with_reducible assumption
  · split
    · with_reducible apply toRxRing_ok
      with_reducible assumption
    · with_reducible apply canDrop_ok
      with_reducible assumption

/-- `refForeign` keeps. -/
theorem refForeign_ok {qq : List Instr} (n : Nat) (f : CanFrame) (s : State) (hs : Ok qq s) :
    Ok qq (refForeign n f s) := by
  unfold refForeign
  extract_lets +onlyGivenNames -underBinder -merge -useContext x1
  clear_value x1
  extract_lets +onlyGivenNames -underBinder -merge -useContext x2
  clear_value x2
  split
  · with_reducible apply raise_ok
    with_reducible apply stick_ok
    with_reducible assumption
  · with_reducible assumption

/-- `seenFrame` keeps. -/
theorem seenFrame_ok {qq : List Instr} (n : Nat) (f : CanFrame) (sof : Dword) (s : State) (hs : Ok qq s) :
    Ok qq (seenFrame n f sof s) := by
  unfold seenFrame
  split
  · split
    · with_reducible apply mapRec_ok
      with_reducible assumption
    · with_reducible assumption
  · with_reducible assumption

/-- `busOff` keeps. -/
theorem busOff_ok {qq : List Instr} (n cause : Nat) (s : State) (hs : Ok qq s) :
    Ok qq (busOff n cause s) := by
  unfold busOff
  extract_lets +onlyGivenNames -underBinder -merge -useContext x1
  clear_value x1
  extract_lets +onlyGivenNames -underBinder -merge -useContext x2
  clear_value x2
  extract_lets +onlyGivenNames -underBinder -merge -useContext x3
  clear_value x3
  extract_lets +onlyGivenNames -underBinder -merge -useContext x4
  clear_value x4
  extract_lets +onlyGivenNames -underBinder -merge -useContext x5
  clear_value x5
  extract_lets +onlyGivenNames -underBinder -merge -useContext x6
  refine (?_ : Ok qq x6 → _) ?_
  on_goal 2 =>
    unfold x6
    with_reducible apply setChan_ok
    with_reducible assumption
  (clear_value x6; intro hx6)
  extract_lets +onlyGivenNames -underBinder -merge -useContext x7
  refine (?_ : Ok qq x7 → _) ?_
  on_goal 2 =>
    unfold x7
    split
    · with_reducible apply setFld_ok
      with_reducible assumption
    · with_reducible assumption
  (clear_value x7; intro hx7)
  extract_lets +onlyGivenNames -underBinder -merge -useContext x8
  refine (?_ : Ok qq x8 → _) ?_
  on_goal 2 =>
    unfold x8
    with_reducible apply ok_foldl
    · intro a12 a13 h14
      split
      with_reducible apply finishDesc_ok
      with_reducible assumption
    · with_reducible assumption
  (clear_value x8; intro hx8)
  extract_lets +onlyGivenNames -underBinder -merge -useContext x9
  refine (?_ : Ok qq x9 → _) ?_
  on_goal 2 =>
    unfold x9
    with_reducible apply showTxq_ok
    with_reducible apply setChState_ok
    with_reducible assumption
  (clear_value x9; intro hx9)
  extract_lets +onlyGivenNames -underBinder -merge -useContext x10
  refine (?_ : Ok qq x10 → _) ?_
  on_goal 2 =>
    unfold x10
    with_reducible apply stick_ok
    with_reducible apply satAdd_ok
    with_reducible assumption
  (clear_value x10; intro hx10)
  extract_lets +onlyGivenNames -underBinder -merge -useContext x11
  refine (?_ : Ok qq x11 → _) ?_
  on_goal 2 =>
    unfold x11
    with_reducible apply raise_ok
    with_reducible assumption
  (clear_value x11; intro hx11)
  with_reducible apply setProfile_ok
  with_reducible assumption

/-- `errorState` keeps. -/
theorem errorState_ok {qq : List Instr} (n oldTec oldRec cause : Nat) (s : State) (hs : Ok qq s) :
    Ok qq (errorState n oldTec oldRec cause s) := by
  unfold errorState
  extract_lets +onlyGivenNames -underBinder -merge -useContext x1
  refine (?_ : Ok qq x1 → _) ?_
  on_goal 2 =>
    unfold x1
    with_reducible apply setBit_ok
    with_reducible assumption
  (clear_value x1; intro hx1)
  extract_lets +onlyGivenNames -underBinder -merge -useContext x2
  refine (?_ : Ok qq x2 → _) ?_
  on_goal 2 =>
    unfold x2
    split
    · with_reducible apply raise_ok
      with_reducible assumption
    · with_reducible assumption
  (clear_value x2; intro hx2)
  split
  · with_reducible apply busOff_ok
    with_reducible assumption
  · split
    · split
      · extract_lets +onlyGivenNames -underBinder -merge -useContext x3
        refine (?_ : Ok qq x3 → _) ?_
        on_goal 2 =>
          unfold x3
          with_reducible apply stick_ok
          with_reducible apply satAdd_ok
          with_reducible apply setChState_ok
          with_reducible assumption
        (clear_value x3; intro hx3)
        with_reducible apply raise_ok
        with_reducible assumption
      · with_reducible assumption
    · split
      · with_reducible apply raise_ok
        with_reducible apply setChState_ok
        with_reducible assumption
      · with_reducible assumption

/-- `setCounters` keeps. -/
theorem setCounters_ok {qq : List Instr} (n newTec newRec cause : Nat) (s : State) (hs : Ok qq s) :
    Ok qq (setCounters n newTec newRec cause s) := by
  unfold setCounters
  extract_lets +onlyGivenNames -underBinder -merge -useContext x1
  clear_value x1
  extract_lets +onlyGivenNames -underBinder -merge -useContext x2
  clear_value x2
  extract_lets +onlyGivenNames -underBinder -merge -useContext x3
  refine (?_ : Ok qq x3 → _) ?_
  on_goal 2 =>
    unfold x3
    with_reducible apply setFld_ok
    with_reducible apply setFld_ok
    with_reducible assumption
  (clear_value x3; intro hx3)
  with_reducible apply errorState_ok
  with_reducible assumption

/-- `noteCanErr` keeps. -/
theorem noteCanErr_ok {qq : List Instr} (n : Nat) (e : CanErr) (dataPhase own : Bool) (s : State) (hs : Ok qq s) :
    Ok qq (noteCanErr n e dataPhase own s) := by
  unfold noteCanErr
  extract_lets +onlyGivenNames -underBinder -merge -useContext x1
  refine (?_ : Ok qq x1 → _) ?_
  on_goal 2 =>
    unfold x1
    with_reducible apply setFld_ok
    with_reducible assumption
  (clear_value x1; intro hx1)
  extract_lets +onlyGivenNames -underBinder -merge -useContext x2
  refine (?_ : Ok qq x2 → _) ?_
  on_goal 2 =>
    unfold x2
    with_reducible apply setBit_ok
    with_reducible apply setBit_ok
    with_reducible assumption
  (clear_value x2; intro hx2)
  with_reducible apply recCount_ok
  with_reducible apply satAdd_ok
  with_reducible assumption

/-- `rxGood` keeps. -/
theorem rxGood_ok {qq : List Instr} (n : Nat) (s : State) (hs : Ok qq s) :
    Ok qq (rxGood n s) := by
  unfold rxGood
  split
  · with_reducible assumption
  · split
    · with_reducible apply setCounters_ok
      with_reducible assumption
    · split
      with_reducible apply setCounters_ok
      with_reducible refine ok_snd (by assumption) ?_
      with_reducible apply takeFree_ok
      with_reducible assumption

/-- `rxError` keeps. -/
theorem rxError_ok {qq : List Instr} (n : Nat) (e : CanErr) (dataPhase heavy : Bool) (s : State) (hs : Ok qq s) :
    Ok qq (rxError n e dataPhase heavy s) := by
  unfold rxError
  split
  · extract_lets +onlyGivenNames -underBinder -merge -useContext x1
    refine (?_ : Ok qq x1 → _) ?_
    on_goal 2 =>
      unfold x1
      with_reducible apply noteCanErr_ok
      with_reducible assumption
    (clear_value x1; intro hx1)
    split
    · with_reducible assumption
    · with_reducible apply setCounters_ok
      with_reducible assumption
  · with_reducible assumption

/-- `frameRx` keeps. -/
theorem frameRx_ok {qq : List Instr} (n : Nat) (f : CanFrame) (sofNs : Word) (s : State) (hs : Ok qq s) :
    Ok qq (frameRx n f sofNs s) := by
  unfold frameRx
  split
  · with_reducible assumption
  · split
    · split
      · with_reducible apply setChState_ok
        with_reducible assumption
      · with_reducible apply rxError_ok
        with_reducible assumption
    · extract_lets +onlyGivenNames -underBinder -merge -useContext x1
      clear_value x1
      with_reducible apply filterFrame_ok
      with_reducible apply seenFrame_ok
      with_reducible apply refForeign_ok
      with_reducible apply rxGood_ok
      with_reducible assumption

/-- `txFrame` keeps. -/
theorem txFrame_ok {qq : List Instr} (k : Nat) (s : State) (hs : Ok qq s) :
    Ok qq (txFrame k s) := by
  unfold txFrame
  split
  · with_reducible refine ok_snd (by assumption) ?_
    with_reducible apply startRec_ok
    with_reducible assumption
  · extract_lets +onlyGivenNames -underBinder -merge -useContext x1
    clear_value x1
    extract_lets +onlyGivenNames -underBinder -merge -useContext x2
    clear_value x2
    split
    · with_reducible apply showTxq_ok
      with_reducible apply finishDesc_ok
      with_reducible refine ok_snd (by assumption) ?_
      with_reducible apply startRec_ok
      with_reducible assumption
    · split
      · with_reducible refine ok_snd (by assumption) ?_
        with_reducible apply startRec_ok
        with_reducible assumption
      · extract_lets +onlyGivenNames -underBinder -merge -useContext x3
        clear_value x3
        extract_lets +onlyGivenNames -underBinder -merge -useContext x4
        refine (?_ : Ok qq x4 → _) ?_
        on_goal 2 =>
          unfold x4
          with_reducible apply markRec_ok
          with_reducible refine ok_snd (by assumption) ?_
          with_reducible apply startRec_ok
          with_reducible assumption
        (clear_value x4; intro hx4)
        with_reducible apply setQueue_ok
        with_reducible assumption

/-- `rxBuffer` keeps. -/
theorem rxBuffer_ok {qq : List Instr} (k : Nat) (s : State) (hs : Ok qq s) :
    Ok qq (rxBuffer k s) := by
  unfold rxBuffer
  split
  · split
    · with_reducible apply finishDesc_ok
      with_reducible refine ok_snd (by assumption) ?_
      with_reducible apply startRec_ok
      with_reducible assumption
    · with_reducible refine ok_snd (by assumption) ?_
      with_reducible apply startRec_ok
      with_reducible assumption
  · with_reducible refine ok_snd (by assumption) ?_
    with_reducible apply startRec_ok
    with_reducible assumption

/-- `txAttempt` keeps. -/
theorem txAttempt_ok {qq : List Instr} (n delay : Nat) (s : State) (hs : Ok qq s) :
    Ok qq (txAttempt n delay s) := by
  unfold txAttempt
  extract_lets +onlyGivenNames -underBinder -merge -useContext x1
  clear_value x1
  split
  · split
    · extract_lets +onlyGivenNames -underBinder -merge -useContext x2
      clear_value x2
      extract_lets +onlyGivenNames -underBinder -merge -useContext x3
      clear_value x3
      split
      with_reducible apply setChan_ok
      with_reducible assumption
    · with_reducible assumption
  · with_reducible assumption

/-- `beginSuspend` keeps. -/
theorem beginSuspend_ok {qq : List Instr} (n : Nat) (passive : Bool) (s : State) (hs : Ok qq s) :
    Ok qq (beginSuspend n passive s) := by
  unfold beginSuspend
  with_reducible apply setChan_ok
  with_reducible assumption

/-- `txCommit` keeps. -/
theorem txCommit_ok {qq : List Instr} (n : Nat) (s : State) (hs : Ok qq s) :
    Ok qq (txCommit n s) := by
  unfold txCommit
  split
  · with_reducible assumption
  · extract_lets +onlyGivenNames -underBinder -merge -useContext x1
    clear_value x1
    extract_lets +onlyGivenNames -underBinder -merge -useContext x2
    clear_value x2
    extract_lets +onlyGivenNames -underBinder -merge -useContext x3
    refine (?_ : Ok qq x3 → _) ?_
    on_goal 2 =>
      unfold x3
      with_reducible apply setQueue_ok
      with_reducible assumption
    (clear_value x3; intro hx3)
    extract_lets +onlyGivenNames -underBinder -merge -useContext x4
    refine (?_ : Ok qq x4 → _) ?_
    on_goal 2 =>
      unfold x4
      with_reducible apply setFld_ok
      with_reducible assumption
    (clear_value x4; intro hx4)
    extract_lets +onlyGivenNames -underBinder -merge -useContext x5
    refine (?_ : Ok qq x5 → _) ?_
    on_goal 2 =>
      unfold x5
      split
      · with_reducible apply finishDesc_ok
        with_reducible assumption
      · with_reducible apply setChan_ok
        with_reducible assumption
      · with_reducible assumption
    (clear_value x5; intro hx5)
    extract_lets +onlyGivenNames -underBinder -merge -useContext x6
    refine (?_ : Ok qq x6 → _) ?_
    on_goal 2 =>
      unfold x6
      split
      · with_reducible apply setCounters_ok
        with_reducible assumption
      · with_reducible assumption
    (clear_value x6; intro hx6)
    extract_lets +onlyGivenNames -underBinder -merge -useContext x7
    refine (?_ : Ok qq x7 → _) ?_
    on_goal 2 =>
      unfold x7
      with_reducible apply beginSuspend_ok
      with_reducible assumption
    (clear_value x7; intro hx7)
    with_reducible apply loopProfile_ok
    split
    · with_reducible apply filterFrame_ok
      with_reducible assumption
    · with_reducible apply emitOut_ok
      with_reducible assumption

/-- `endAttempt` keeps. -/
theorem endAttempt_ok {qq : List Instr} (n cause : Nat) (e : TxEntry) (rest : List TxEntry) (s : State) (hs : Ok qq s) :
    Ok qq (endAttempt n cause e rest s) := by
  unfold endAttempt
  split
  · split
    · with_reducible apply finishDesc_ok
      with_reducible apply setQueue_ok
      with_reducible assumption
    · split
      · with_reducible apply finishDesc_ok
        with_reducible apply setQueue_ok
        with_reducible assumption
      · with_reducible apply setChan_ok
        with_reducible assumption
  · with_reducible apply setChan_ok
    with_reducible assumption

/-- `clashRun` keeps. -/
theorem clashRun_ok {qq : List Instr} (n : Nat) (f : CanFrame) (late : Bool) (s : State) (hs : Ok qq s) :
    Ok qq (clashRun n f late s) := by
  unfold clashRun
  extract_lets +onlyGivenNames -underBinder -merge -useContext x1
  clear_value x1
  split
  · extract_lets +onlyGivenNames -underBinder -merge -useContext x2
    refine (?_ : Ok qq x2 → _) ?_
    on_goal 2 =>
      unfold x2
      with_reducible apply setFld_ok
      with_reducible assumption
    (clear_value x2; intro hx2)
    extract_lets +onlyGivenNames -underBinder -merge -useContext x3
    refine (?_ : Ok qq x3 → _) ?_
    on_goal 2 =>
      unfold x3
      with_reducible apply stick_ok
      with_reducible apply satAdd_ok
      with_reducible assumption
    (clear_value x3; intro hx3)
    with_reducible apply raise_ok
    with_reducible assumption
  · with_reducible apply setFld_ok
    with_reducible assumption

/-- `txFlagError` keeps. -/
theorem txFlagError_ok {qq : List Instr} (n : Nat) (bitError : Bool) (s : State) (hs : Ok qq s) :
    Ok qq (txFlagError n bitError s) := by
  unfold txFlagError
  split
  · extract_lets +onlyGivenNames -underBinder -merge -useContext x1
    refine (?_ : Ok qq x1 → _) ?_
    on_goal 2 =>
      unfold x1
      split
      · with_reducible apply noteCanErr_ok
        with_reducible assumption
      · with_reducible assumption
    (clear_value x1; intro hx1)
    with_reducible apply setCounters_ok
    with_reducible assumption
  · with_reducible assumption

/-- `txError` keeps. -/
theorem txError_ok {qq : List Instr} (n : Nat) (why : CanEnd) (s : State) (hs : Ok qq s) :
    Ok qq (txError n why s) := by
  unfold txError
  split
  · with_reducible apply txFlagError_ok
    with_reducible assumption
  · with_reducible assumption
  · with_reducible assumption
  · with_reducible apply loopProfile_ok
    with_reducible apply endAttempt_ok
    with_reducible apply clashRun_ok
    with_reducible assumption
  · extract_lets +onlyGivenNames -underBinder -merge -useContext x1
    clear_value x1
    extract_lets +onlyGivenNames -underBinder -merge -useContext x2
    clear_value x2
    extract_lets +onlyGivenNames -underBinder -merge -useContext x3
    refine (?_ : Ok qq x3 → _) ?_
    on_goal 2 =>
      unfold x3
      with_reducible apply noteCanErr_ok
      with_reducible assumption
    (clear_value x3; intro hx3)
    extract_lets +onlyGivenNames -underBinder -merge -useContext x4
    refine (?_ : Ok qq x4 → _) ?_
    on_goal 2 =>
      unfold x4
      with_reducible apply clashRun_ok
      with_reducible assumption
    (clear_value x4; intro hx4)
    extract_lets +onlyGivenNames -underBinder -merge -useContext x5
    refine (?_ : Ok qq x5 → _) ?_
    on_goal 2 =>
      unfold x5
      with_reducible apply endAttempt_ok
      with_reducible assumption
    (clear_value x5; intro hx5)
    extract_lets +onlyGivenNames -underBinder -merge -useContext x6
    refine (?_ : Ok qq x6 → _) ?_
    on_goal 2 =>
      unfold x6
      split
      · with_reducible assumption
      · with_reducible apply setCounters_ok
        with_reducible assumption
    (clear_value x6; intro hx6)
    with_reducible apply loopProfile_ok
    with_reducible apply beginSuspend_ok
    with_reducible assumption

/-- `suspendEnd` keeps. -/
theorem suspendEnd_ok {qq : List Instr} (n delay : Nat) (s : State) (hs : Ok qq s) :
    Ok qq (suspendEnd n delay s) := by
  unfold suspendEnd
  split
  · with_reducible apply txAttempt_ok
    with_reducible apply setChan_ok
    with_reducible assumption
  · with_reducible assumption

/-- `deadlineExpiry` keeps. -/
theorem deadlineExpiry_ok {qq : List Instr} (n : Nat) (s : State) (hs : Ok qq s) :
    Ok qq (deadlineExpiry n s) := by
  unfold deadlineExpiry
  split
  · split
    · with_reducible apply finishDesc_ok
      with_reducible apply setQueue_ok
      with_reducible assumption
    · with_reducible assumption
  · split
    · split
      · with_reducible apply showTxq_ok
        with_reducible apply finishDesc_ok
        with_reducible assumption
      · with_reducible assumption
    · with_reducible assumption

/-- `recoveryStart` keeps. -/
theorem recoveryStart_ok {qq : List Instr} (n : Nat) (s : State) (hs : Ok qq s) :
    Ok qq (recoveryStart n s) := by
  unfold recoveryStart
  split
  · with_reducible apply setChState_ok
    with_reducible assumption
  · with_reducible assumption

/-- `refuseCan` keeps. -/
theorem refuseCan_ok {qq : List Instr} (n reason key : Nat) (s : State) (hs : Ok qq s) :
    Ok qq (refuseCan n reason key s) := by
  unfold refuseCan
  with_reducible apply refuseCfg_ok
  with_reducible assumption

/-- `cmdRecover` keeps. -/
theorem cmdRecover_ok {qq : List Instr} (n : Nat) (s : State) (hs : Ok qq s) :
    Ok qq (cmdRecover n s) := by
  unfold cmdRecover
  split
  · split
    · with_reducible apply setChan_ok
      with_reducible assumption
    · with_reducible apply setChState_ok
      with_reducible assumption
  · with_reducible apply refuseCan_ok
    with_reducible assumption

/-- `recoveryDone` keeps. -/
theorem recoveryDone_ok {qq : List Instr} (n : Nat) (s : State) (hs : Ok qq s) :
    Ok qq (recoveryDone n s) := by
  unfold recoveryDone
  split
  · extract_lets +onlyGivenNames -underBinder -merge -useContext x1
    clear_value x1
    extract_lets +onlyGivenNames -underBinder -merge -useContext x2
    refine (?_ : Ok qq x2 → _) ?_
    on_goal 2 =>
      unfold x2
      with_reducible apply setFld_ok
      with_reducible apply setFld_ok
      with_reducible assumption
    (clear_value x2; intro hx2)
    extract_lets +onlyGivenNames -underBinder -merge -useContext x3
    refine (?_ : Ok qq x3 → _) ?_
    on_goal 2 =>
      unfold x3
      with_reducible apply setChState_ok
      with_reducible apply setBit_ok
      with_reducible assumption
    (clear_value x3; intro hx3)
    extract_lets +onlyGivenNames -underBinder -merge -useContext x4
    clear_value x4
    extract_lets +onlyGivenNames -underBinder -merge -useContext x5
    refine (?_ : Ok qq x5 → _) ?_
    on_goal 2 =>
      unfold x5
      with_reducible apply showListen_ok
      with_reducible apply setChan_ok
      with_reducible assumption
    (clear_value x5; intro hx5)
    with_reducible apply integratedProfile_ok
    with_reducible apply raise_ok
    with_reducible assumption
  · with_reducible assumption

/-- `integration` keeps. -/
theorem integration_ok {qq : List Instr} (n : Nat) (s : State) (hs : Ok qq s) :
    Ok qq (integration n s) := by
  unfold integration
  split
  · extract_lets +onlyGivenNames -underBinder -merge -useContext x1
    clear_value x1
    extract_lets +onlyGivenNames -underBinder -merge -useContext x2
    refine (?_ : Ok qq x2 → _) ?_
    on_goal 2 =>
      unfold x2
      with_reducible apply setChan_ok
      with_reducible assumption
    (clear_value x2; intro hx2)
    split
    · extract_lets +onlyGivenNames -underBinder -merge -useContext x3
      refine (?_ : Ok qq x3 → _) ?_
      on_goal 2 =>
        unfold x3
        split
        · with_reducible apply setChState_ok
          with_reducible assumption
        · with_reducible assumption
      (clear_value x3; intro hx3)
      with_reducible apply showListen_ok
      with_reducible apply integratedProfile_ok
      with_reducible assumption
    · with_reducible apply showListen_ok
      with_reducible assumption
  · with_reducible assumption

/-- `canClear` keeps. -/
theorem canClear_ok {qq : List Instr} (n : Nat) (s : State) (hs : Ok qq s) :
    Ok qq (canClear n s) := by
  unfold canClear
  with_reducible apply setFld_ok
  with_reducible apply setReg_ok
  with_reducible assumption

/-- `supplyFault` keeps. -/
theorem supplyFault_ok {qq : List Instr} (g : Nat) (s : State) (hs : Ok qq s) :
    Ok qq (supplyFault g s) := by
  unfold supplyFault
  split
  · extract_lets +onlyGivenNames -underBinder -merge -useContext x1
    refine (?_ : Ok qq x1 → _) ?_
    on_goal 2 =>
      unfold x1
      with_reducible apply stick_ok
      with_reducible apply setBit_ok
      with_reducible assumption
    (clear_value x1; intro hx1)
    extract_lets +onlyGivenNames -underBinder -merge -useContext x2
    refine (?_ : Ok qq x2 → _) ?_
    on_goal 2 =>
      unfold x2
      with_reducible apply raise_ok
      with_reducible assumption
    (clear_value x2; intro hx2)
    with_reducible apply ok_foldl
    · intro a3 a4 h5
      extract_lets +onlyGivenNames -underBinder -merge -useContext x6
      refine (?_ : Ok qq x6 → _) ?_
      on_goal 2 =>
        unfold x6
        split
        · with_reducible assumption
        · split
          · with_reducible apply setChState_ok
            with_reducible assumption
          · with_reducible apply busOff_ok
            with_reducible assumption
      (clear_value x6; intro hx6)
      with_reducible apply setChan_ok
      with_reducible assumption
    · with_reducible assumption
  · with_reducible assumption

/-- `supplyReturn` keeps. -/
theorem supplyReturn_ok {qq : List Instr} (g : Nat) (s : State) (hs : Ok qq s) :
    Ok qq (supplyReturn g s) := by
  unfold supplyReturn
  extract_lets +onlyGivenNames -underBinder -merge -useContext x1
  refine (?_ : Ok qq x1 → _) ?_
  on_goal 2 =>
    unfold x1
    with_reducible apply setBit_ok
    with_reducible assumption
  (clear_value x1; intro hx1)
  with_reducible apply ok_foldl
  · intro a2 a3 h4
    split
    · extract_lets +onlyGivenNames -underBinder -merge -useContext x5
      clear_value x5
      extract_lets +onlyGivenNames -underBinder -merge -useContext x6
      clear_value x6
      extract_lets +onlyGivenNames -underBinder -merge -useContext x7
      refine (?_ : Ok qq x7 → _) ?_
      on_goal 2 =>
        unfold x7
        with_reducible apply setChan_ok
        with_reducible assumption
      (clear_value x7; intro hx7)
      split
      · with_reducible apply setChState_ok
        with_reducible assumption
      · with_reducible assumption
    · with_reducible assumption
  · with_reducible assumption

/-- `writeChCfg` keeps. -/
theorem writeChCfg_ok {qq : List Instr} (n : Nat) (v : Word) (s : State) (hs : Ok qq s) :
    Ok qq (writeChCfg n v s) := by
  unfold writeChCfg
  extract_lets +onlyGivenNames -underBinder -merge -useContext x1
  clear_value x1
  extract_lets +onlyGivenNames -underBinder -merge -useContext x2
  clear_value x2
  extract_lets +onlyGivenNames -underBinder -merge -useContext x3
  extract_lets +onlyGivenNames -underBinder -merge -useContext x4
  extract_lets +onlyGivenNames -underBinder -merge -useContext x5
  split
  · with_reducible apply refuseCan_ok
    with_reducible assumption
  · split
    · with_reducible apply loopProfile_ok
      with_reducible apply showListen_ok
      with_reducible apply setReg_ok
      with_reducible assumption
    · split
      · split
        · with_reducible apply refuseCan_ok
          with_reducible assumption
        · extract_lets +onlyGivenNames -underBinder -merge -useContext x6
          refine (?_ : Ok qq x6 → _) ?_
          on_goal 2 =>
            unfold x6
            with_reducible apply setQueue_ok
            with_reducible apply setReg_ok
            with_reducible assumption
          (clear_value x6; intro hx6)
          with_reducible apply showListen_ok
          with_reducible apply setChState_ok
          with_reducible apply setChan_ok
          with_reducible assumption
      · split
        · extract_lets +onlyGivenNames -underBinder -merge -useContext x7
          clear_value x7
          split
          · with_reducible apply refuseCan_ok
            with_reducible assumption
          · extract_lets +onlyGivenNames -underBinder -merge -useContext x8
            refine (?_ : Ok qq x8 → _) ?_
            on_goal 2 =>
              unfold x8
              with_reducible apply setReg_ok
              with_reducible assumption
            (clear_value x8; intro hx8)
            extract_lets +onlyGivenNames -underBinder -merge -useContext x9
            refine (?_ : Ok qq x9 → _) ?_
            on_goal 2 =>
              unfold x9
              with_reducible apply setFld_ok
              with_reducible apply setFld_ok
              with_reducible assumption
            (clear_value x9; intro hx9)
            extract_lets +onlyGivenNames -underBinder -merge -useContext x10
            refine (?_ : Ok qq x10 → _) ?_
            on_goal 2 =>
              unfold x10
              with_reducible apply setProfile_ok
              with_reducible apply setChState_ok
              with_reducible apply setBit_ok
              with_reducible assumption
            (clear_value x10; intro hx10)
            with_reducible apply showListen_ok
            split
            · with_reducible apply busOff_ok
              with_reducible assumption
            · with_reducible assumption
        · with_reducible apply setReg_ok
          with_reducible assumption

/-- `writeFltCfg` keeps. -/
theorem writeFltCfg_ok {qq : List Instr} (k : Nat) (v : Word) (s : State) (hs : Ok qq s) :
    Ok qq (writeFltCfg k v s) := by
  unfold writeFltCfg
  extract_lets +onlyGivenNames -underBinder -merge -useContext x1
  clear_value x1
  extract_lets +onlyGivenNames -underBinder -merge -useContext x2
  clear_value x2
  extract_lets +onlyGivenNames -underBinder -merge -useContext x3
  clear_value x3
  split
  · split
    · with_reducible apply refuseCan_ok
      with_reducible assumption
    · split
      · with_reducible apply refuseCan_ok
        with_reducible assumption
      · extract_lets +onlyGivenNames -underBinder -merge -useContext x4
        refine (?_ : Ok qq x4 → _) ?_
        on_goal 2 =>
          unfold x4
          split
          · with_reducible assumption
          · with_reducible apply setFlt_ok
            with_reducible assumption
        (clear_value x4; intro hx4)
        with_reducible apply setReg_ok
        with_reducible assumption
  · with_reducible apply setReg_ok
    with_reducible assumption

/-- `slotInvalid` keeps. -/
theorem slotInvalid_ok {qq : List Instr} (n why : Nat) (s : State) (hs : Ok qq s) :
    Ok qq (slotInvalid n why s) := by
  unfold slotInvalid
  with_reducible apply raise_ok
  with_reducible apply stick_ok
  with_reducible assumption

/-- `loadReserved` keeps. -/
theorem loadReserved_ok {qq : List Instr} (n : Nat) (f : CanFrame) (src : CanSrc) (s : State) (hs : Ok qq s) :
    Ok qq (loadReserved n f src s) := by
  unfold loadReserved
  extract_lets +onlyGivenNames -underBinder -merge -useContext x1
  clear_value x1
  extract_lets +onlyGivenNames -underBinder -merge -useContext x2
  clear_value x2
  split
  · extract_lets +onlyGivenNames -underBinder -merge -useContext x3
    clear_value x3
    extract_lets +onlyGivenNames -underBinder -merge -useContext x4
    clear_value x4
    extract_lets +onlyGivenNames -underBinder -merge -useContext x5
    clear_value x5
    split
    · extract_lets +onlyGivenNames -underBinder -merge -useContext x6
      refine (?_ : Ok qq x6 → _) ?_
      on_goal 2 =>
        unfold x6
        with_reducible apply setQueue_ok
        with_reducible apply setChan_ok
        with_reducible assumption
      (clear_value x6; intro hx6)
      with_reducible apply raise_ok
      with_reducible apply stick_ok
      with_reducible assumption
    · with_reducible apply setQueue_ok
      with_reducible apply setChan_ok
      with_reducible assumption
  · with_reducible apply setQueue_ok
    with_reducible assumption

/-- `canSlotBody` keeps. -/
theorem canSlotBody_ok {qq : List Instr} (e : Entry) (s : State) (hs : Ok qq s) :
    Ok qq (canSlotBody e s) := by
  unfold canSlotBody
  extract_lets +onlyGivenNames -underBinder -merge -useContext x1
  clear_value x1
  extract_lets +onlyGivenNames -underBinder -merge -useContext x2
  clear_value x2
  split
  · with_reducible assumption
  · split
    · with_reducible apply slotInvalid_ok
      with_reducible assumption
    · split
      extract_lets +onlyGivenNames -underBinder -merge -useContext x3
      clear_value x3
      split
      · with_reducible assumption
      · split
        · with_reducible apply slotInvalid_ok
          with_reducible apply meetSound_ok
          with_reducible assumption
        · split
          · with_reducible assumption
          · split
            · with_reducible apply slotInvalid_ok
              with_reducible assumption
            · with_reducible apply loadReserved_ok
              with_reducible assumption

/-- `referenceBody` keeps. -/
theorem referenceBody_ok {qq : List Instr} (e : Entry) (s : State) (hs : Ok qq s) :
    Ok qq (referenceBody e s) := by
  unfold referenceBody
  extract_lets +onlyGivenNames -underBinder -merge -useContext x1
  clear_value x1
  split
  · with_reducible assumption
  · extract_lets +onlyGivenNames -underBinder -merge -useContext x2
    clear_value x2
    extract_lets +onlyGivenNames -underBinder -merge -useContext x3
    clear_value x3
    extract_lets +onlyGivenNames -underBinder -merge -useContext x4
    refine (?_ : Ok qq x4 → _) ?_
    on_goal 2 =>
      unfold x4
      split
      · with_reducible apply setChan_ok
        with_reducible assumption
      · with_reducible assumption
    (clear_value x4; intro hx4)
    extract_lets +onlyGivenNames -underBinder -merge -useContext x5
    clear_value x5
    extract_lets +onlyGivenNames -underBinder -merge -useContext x6
    clear_value x6
    extract_lets +onlyGivenNames -underBinder -merge -useContext x7
    refine (?_ : Ok qq x7 → _) ?_
    on_goal 2 =>
      unfold x7
      with_reducible apply loadReserved_ok
      with_reducible assumption
    (clear_value x7; intro hx7)
    with_reducible apply setChan_ok
    with_reducible assumption

/-- `sampleFilter` keeps. -/
theorem sampleFilter_ok {qq : List Instr} (k : Nat) (s : State) (hs : Ok qq s) :
    Ok qq (sampleFilter k s) := by
  unfold sampleFilter
  extract_lets +onlyGivenNames -underBinder -merge -useContext x1
  clear_value x1
  extract_lets +onlyGivenNames -underBinder -merge -useContext x2
  clear_value x2
  extract_lets +onlyGivenNames -underBinder -merge -useContext x3
  clear_value x3
  extract_lets +onlyGivenNames -underBinder -merge -useContext x4
  clear_value x4
  split
  extract_lets +onlyGivenNames -underBinder -merge -useContext x5
  clear_value x5
  extract_lets +onlyGivenNames -underBinder -merge -useContext x6
  clear_value x6
  extract_lets +onlyGivenNames -underBinder -merge -useContext x7
  clear_value x7
  split
  extract_lets +onlyGivenNames -underBinder -merge -useContext x8
  clear_value x8
  extract_lets +onlyGivenNames -underBinder -merge -useContext x9
  extract_lets +onlyGivenNames -underBinder -merge -useContext x10
  clear_value x10
  extract_lets +onlyGivenNames -underBinder -merge -useContext x11
  clear_value x11
  split
  extract_lets +onlyGivenNames -underBinder -merge -useContext x12
  refine (?_ : Ok qq x12 → _) ?_
  on_goal 2 =>
    unfold x12
    with_reducible refine ok_sound ?_ (fun hm => writeBytes_wf hm _ _)
    with_reducible refine ok_snd (by assumption) ?_
    split
    · with_reducible apply sharedSlot_ok
      with_reducible assumption
    · with_reducible assumption
  (clear_value x12; intro hx12)
  extract_lets +onlyGivenNames -underBinder -merge -useContext x13
  refine (?_ : Ok qq x13 → _) ?_
  on_goal 2 =>
    unfold x13
    with_reducible apply setFlt_ok
    with_reducible assumption
  (clear_value x13; intro hx13)
  split
  · with_reducible apply raise_ok
    with_reducible assumption
  · with_reducible apply raise_ok
    with_reducible apply stick_ok
    with_reducible assumption
  · with_reducible assumption

/-- `sampleCan` keeps. -/
theorem sampleCan_ok {qq : List Instr} (img : Nat) (s : State) (hs : Ok qq s) :
    Ok qq (sampleCan img s) := by
  unfold sampleCan
  with_reducible apply ok_foldl
  · intro a1 a2 h3
    with_reducible apply sampleFilter_ok
    with_reducible assumption
  · with_reducible assumption

end Sys2Proof.Machine
end

