-- ==== Sys2Proof/Laws/KeepSafe.lean ====
section
/-!
SUPPORT. What the operations of Machine/Safe.lean keep: the canonical form of registers and memories, and the queue.
-/

namespace Sys2Proof.Machine

/-- `setConn` keeps. -/
theorem setConn_ok {qq : List Instr} (s : State) (c : Nat) (x : SafeConn) (hs : Ok qq s) :
    Ok qq (setConn s c x) := by
  unfold setConn
  (with_reducible apply ok_mk; with_reducible assumption)

/-- `setConnState` keeps. -/
theorem setConnState_ok {qq : List Instr} (c st : Nat) (s : State) (hs : Ok qq s) :
    Ok qq (setConnState c st s) := by
  unfold setConnState
  extract_lets +onlyGivenNames -underBinder -merge -useContext x1
  refine (?_ : Ok qq x1 → _) ?_
  on_goal 2 =>
    unfold x1
    with_reducible apply setFld_ok
    with_reducible assumption
  (clear_value x1; intro hx1)
  extract_lets +onlyGivenNames -underBinder -merge -useContext x2
  refine (?_ : Ok qq x2 → _) ?_
  on_goal 2 =>
    unfold x2
    with_reducible apply setFld_ok
    with_reducible assumption
  (clear_value x2; intro hx2)
  with_reducible apply setFld_ok
  with_reducible apply setFld_ok
  with_reducible assumption

/-- `sendContainer` keeps. -/
theorem sendContainer_ok {qq : List Instr} (c : Nat) (payload : List Byte) (s : State) (hs : Ok qq s) :
    Ok qq (sendContainer c payload s).2 := by
  unfold sendContainer
  extract_lets +onlyGivenNames -underBinder -merge -useContext x1
  clear_value x1
  extract_lets +onlyGivenNames -underBinder -merge -useContext x2
  refine (?_ : Ok qq x2 → _) ?_
  on_goal 2 =>
    unfold x2
    with_reducible apply setReg_ok
    with_reducible assumption
  (clear_value x2; intro hx2)
  with_reducible assumption

/-- `rejectEvent` keeps. -/
theorem rejectEvent_ok {qq : List Instr} (c : Nat) (e : EvDef) (dA dB : Nat) (s : State) (hs : Ok qq s) :
    Ok qq (rejectEvent c e dA dB s) := by
  unfold rejectEvent
  extract_lets +onlyGivenNames -underBinder -merge -useContext x1
  clear_value x1
  extract_lets +onlyGivenNames -underBinder -merge -useContext x2
  clear_value x2
  split
  · with_reducible apply raise_ok
    with_reducible apply setConn_ok
    with_reducible assumption
  · with_reducible assumption

/-- `noteReject` keeps. -/
theorem noteReject_ok {qq : List Instr} (c code : Nat) (s : State) (hs : Ok qq s) :
    Ok qq (noteReject c code s) := by
  unfold noteReject
  extract_lets +onlyGivenNames -underBinder -merge -useContext x1
  refine (?_ : Ok qq x1 → _) ?_
  on_goal 2 =>
    unfold x1
    with_reducible apply setFld_ok
    with_reducible assumption
  (clear_value x1; intro hx1)
  extract_lets +onlyGivenNames -underBinder -merge -useContext x2
  refine (?_ : Ok qq x2 → _) ?_
  on_goal 2 =>
    unfold x2
    with_reducible apply satAdd_ok
    with_reducible assumption
  (clear_value x2; intro hx2)
  split
  · with_reducible apply stick_ok
    with_reducible assumption
  · with_reducible apply stick_ok
    with_reducible assumption
  · with_reducible apply stick_ok
    with_reducible assumption
  · with_reducible apply stick_ok
    with_reducible assumption
  · with_reducible apply stick_ok
    with_reducible assumption
  · with_reducible assumption

/-- `updateRef` keeps. -/
theorem updateRef_ok {qq : List Instr} (c : Nat) (e : Int) (l : Word) (s : State) (hs : Ok qq s) :
    Ok qq (updateRef c e l s) := by
  unfold updateRef
  extract_lets +onlyGivenNames -underBinder -merge -useContext x1
  clear_value x1
  extract_lets +onlyGivenNames -underBinder -merge -useContext x2
  clear_value x2
  extract_lets +onlyGivenNames -underBinder -merge -useContext x3
  clear_value x3
  with_reducible apply setConn_ok
  with_reducible apply setReg_ok
  with_reducible assumption

/-- `safeTimeout` keeps. -/
theorem safeTimeout_ok {qq : List Instr} (c : Nat) (s : State) (hs : Ok qq s) :
    Ok qq (safeTimeout c s) := by
  unfold safeTimeout
  extract_lets +onlyGivenNames -underBinder -merge -useContext x1
  clear_value x1
  extract_lets +onlyGivenNames -underBinder -merge -useContext x2
  clear_value x2
  split
  · with_reducible apply raise_ok
    with_reducible apply stick_ok
    with_reducible apply setConnState_ok
    with_reducible assumption
  · with_reducible assumption

/-- `acceptCopy` keeps. -/
theorem acceptCopy_ok {qq : List Instr} (c : Nat) (t : Trailer) (e : Int) (l : Word) (s : State) (hs : Ok qq s) :
    Ok qq (acceptCopy c t e l s).2 := by
  unfold acceptCopy
  extract_lets +onlyGivenNames -underBinder -merge -useContext x1
  clear_value x1
  extract_lets +onlyGivenNames -underBinder -merge -useContext x2
  refine (?_ : Ok qq x2 → _) ?_
  on_goal 2 =>
    unfold x2
    with_reducible apply updateRef_ok
    with_reducible assumption
  (clear_value x2; intro hx2)
  extract_lets +onlyGivenNames -underBinder -merge -useContext x3
  refine (?_ : Ok qq x3 → _) ?_
  on_goal 2 =>
    unfold x3
    with_reducible apply setReg_ok
    with_reducible assumption
  (clear_value x3; intro hx3)
  extract_lets +onlyGivenNames -underBinder -merge -useContext x4
  clear_value x4
  extract_lets +onlyGivenNames -underBinder -merge -useContext x5
  refine (?_ : Ok qq x5 → _) ?_
  on_goal 2 =>
    unfold x5
    with_reducible apply setConn_ok
    with_reducible assumption
  (clear_value x5; intro hx5)
  split
  · dsimp only
    with_reducible apply setConnState_ok
    with_reducible assumption
  · extract_lets +onlyGivenNames -underBinder -merge -useContext x6
    clear_value x6
    extract_lets +onlyGivenNames -underBinder -merge -useContext x7
    clear_value x7
    extract_lets +onlyGivenNames -underBinder -merge -useContext x8
    refine (?_ : Ok qq x8 → _) ?_
    on_goal 2 =>
      unfold x8
      with_reducible apply setBit_ok
      with_reducible apply setBit_ok
      with_reducible assumption
    (clear_value x8; intro hx8)
    extract_lets +onlyGivenNames -underBinder -merge -useContext x9
    refine (?_ : Ok qq x9 → _) ?_
    on_goal 2 =>
      unfold x9
      split
      · with_reducible apply raise_ok
        with_reducible apply setConnState_ok
        with_reducible assumption
      · with_reducible assumption
    (clear_value x9; intro hx9)
    dsimp only
    split
    · with_reducible apply raise_ok
      with_reducible assumption
    · with_reducible assumption

/-- `toWait` keeps. -/
theorem toWait_ok {qq : List Instr} (c : Nat) (s : State) (hs : Ok qq s) :
    Ok qq (toWait c s) := by
  unfold toWait
  split
  · with_reducible assumption
  · with_reducible apply setConnState_ok
    with_reducible assumption

/-- `checkCopy` keeps. -/
theorem checkCopy_ok {qq : List Instr} (c : Nat) (bs : List Byte) (rxTime : Dword) (s : State) (hs : Ok qq s) :
    Ok qq (checkCopy c bs rxTime s).2.2 := by
  unfold checkCopy
  split
  extract_lets +onlyGivenNames -underBinder -merge -useContext x1
  clear_value x1
  extract_lets +onlyGivenNames -underBinder -merge -useContext x2
  clear_value x2
  extract_lets +onlyGivenNames -underBinder -merge -useContext x3
  clear_value x3
  extract_lets +onlyGivenNames -underBinder -merge -useContext x4
  clear_value x4
  extract_lets +onlyGivenNames -underBinder -merge -useContext x5
  clear_value x5
  extract_lets +onlyGivenNames -underBinder -merge -useContext x6
  clear_value x6
  split
  · dsimp only
    with_reducible apply rejectEvent_ok
    with_reducible apply noteReject_ok
    with_reducible assumption
  · split
    · dsimp only
      with_reducible apply rejectEvent_ok
      with_reducible apply noteReject_ok
      with_reducible assumption
    · split
      · dsimp only
        with_reducible apply rejectEvent_ok
        with_reducible apply setConnState_ok
        with_reducible apply noteReject_ok
        with_reducible assumption
      · split
        · dsimp only
          with_reducible apply noteReject_ok
          with_reducible assumption
        · split
          · dsimp only
            with_reducible apply rejectEvent_ok
            with_reducible apply toWait_ok
            with_reducible apply noteReject_ok
            with_reducible assumption
          · split
            · dsimp only
              with_reducible apply rejectEvent_ok
              with_reducible apply noteReject_ok
              with_reducible assumption
            · split
              · with_reducible assumption
              · split
                dsimp only
                with_reducible refine ok_snd (by assumption) ?_
                with_reducible apply acceptCopy_ok
                with_reducible assumption

/-- `sampleSafe` keeps. -/
theorem sampleSafe_ok {qq : List Instr} (f : Nat) (copy : Option (List Byte × Dword)) (s : State) (hs : Ok qq s) :
    Ok qq (sampleSafe f copy s).2 := by
  unfold sampleSafe
  split
  · with_reducible assumption
  · extract_lets +onlyGivenNames -underBinder -merge -useContext x1
    clear_value x1
    split
    extract_lets +onlyGivenNames -underBinder -merge -useContext x2
    refine (?_ : Ok qq x2 → _) ?_
    on_goal 2 =>
      unfold x2
      split
      · with_reducible refine ok_snd2 (by assumption) ?_
        split
        · split
          · with_reducible assumption
          · with_reducible apply checkCopy_ok
            with_reducible assumption
        · with_reducible assumption
      · with_reducible apply safeTimeout_ok
        with_reducible refine ok_snd2 (by assumption) ?_
        split
        · split
          · with_reducible assumption
          · with_reducible apply checkCopy_ok
            with_reducible assumption
        · with_reducible assumption
    (clear_value x2; intro hx2)
    with_reducible assumption

/-- `safeTakeover` keeps. -/
theorem safeTakeover_ok {qq : List Instr} (s : State) (hs : Ok qq s) :
    Ok qq (safeTakeover s) := by
  unfold safeTakeover
  with_reducible apply ok_foldl
  · intro a1 a2 h3
    split
    · extract_lets +onlyGivenNames -underBinder -merge -useContext x4
      clear_value x4
      with_reducible apply raise_ok
      with_reducible apply setReg_ok
      with_reducible assumption
    · with_reducible assumption
  · with_reducible assumption

/-- `safeStart` keeps. -/
theorem safeStart_ok {qq : List Instr} (s : State) (hs : Ok qq s) :
    Ok qq (safeStart s) := by
  unfold safeStart
  with_reducible apply ok_foldl
  · intro a1 a2 h3
    split
    · with_reducible assumption
    · with_reducible apply setReg_ok
      with_reducible apply setConnState_ok
      with_reducible apply setBit_ok
      with_reducible assumption
  · with_reducible assumption

/-- `refuseSafe` keeps. -/
theorem refuseSafe_ok {qq : List Instr} (c reason : Nat) (s : State) (hs : Ok qq s) :
    Ok qq (refuseSafe c reason s) := by
  unfold refuseSafe
  extract_lets +onlyGivenNames -underBinder -merge -useContext x1
  refine (?_ : Ok qq x1 → _) ?_
  on_goal 2 =>
    unfold x1
    with_reducible apply setReg_ok
    with_reducible assumption
  (clear_value x1; intro hx1)
  with_reducible apply raise_ok
  with_reducible assumption

/-- `writeConnCfg` keeps. -/
theorem writeConnCfg_ok {qq : List Instr} (c : Nat) (v : Word) (s : State) (hs : Ok qq s) :
    Ok qq (writeConnCfg c v s) := by
  unfold writeConnCfg
  extract_lets +onlyGivenNames -underBinder -merge -useContext x1
  clear_value x1
  extract_lets +onlyGivenNames -underBinder -merge -useContext x2
  clear_value x2
  split
  · extract_lets +onlyGivenNames -underBinder -merge -useContext x3
    clear_value x3
    split
    · with_reducible apply refuseSafe_ok
      with_reducible assumption
    · extract_lets +onlyGivenNames -underBinder -merge -useContext x4
      clear_value x4
      split
      · with_reducible apply setReg_ok
        with_reducible assumption
      · with_reducible apply setConnState_ok
        with_reducible apply setReg_ok
        with_reducible assumption
  · with_reducible apply setConnState_ok
    with_reducible apply setReg_ok
    with_reducible assumption

/-- `resetFault` keeps. -/
theorem resetFault_ok {qq : List Instr} (c : Nat) (s : State) (hs : Ok qq s) :
    Ok qq (resetFault c s) := by
  unfold resetFault
  split
  · with_reducible apply setConnState_ok
    with_reducible assumption
  · with_reducible apply refuseSafe_ok
    with_reducible assumption

/-- `safeClear` keeps. -/
theorem safeClear_ok {qq : List Instr} (s : State) (hs : Ok qq s) :
    Ok qq (safeClear s) := by
  unfold safeClear
  with_reducible apply ok_foldl
  · intro a1 a2 h3
    with_reducible apply setFld_ok
    with_reducible assumption
  · with_reducible assumption

end Sys2Proof.Machine
end

