-- ==== Sys2Proof/Laws/KeepIsth.lean ====
section
/-!
SUPPORT. What the operations of Machine/Isth.lean keep: the canonical form of registers and memories, and the queue.
-/

namespace Sys2Proof.Machine

/-- `applyRule` keeps. -/
theorem applyRule_ok {qq : List Instr} (k off : Nat) (bs : List Byte) (s : State) (hs : Ok qq s) :
    Ok qq (applyRule k off bs s).2 := by
  unfold applyRule
  split
  dsimp only
  with_reducible refine ok_snd (by assumption) ?_
  split
  · with_reducible apply takeFree_ok
    with_reducible assumption
  · with_reducible assumption

/-- `mapVote` keeps. -/
theorem mapVote_ok {qq : List Instr} (s : State) (order : Nat) (f : WinVote → WinVote) (hs : Ok qq s) :
    Ok qq (mapVote s order f) := by
  unfold mapVote
  with_reducible apply setVotes_ok
  with_reducible assumption

/-- `noteCause` keeps. -/
theorem noteCause_ok {qq : List Instr} (w : Nat) (c : WinCause) (s : State) (hs : Ok qq s) :
    Ok qq (noteCause w c s) := by
  unfold noteCause
  with_reducible apply setFld_ok
  with_reducible assumption

/-- `discardBlock` keeps. -/
theorem discardBlock_ok {qq : List Instr} (p : Prefetch) (s : State) (hs : Ok qq s) :
    Ok qq (discardBlock p s) := by
  unfold discardBlock
  extract_lets +onlyGivenNames -underBinder -merge -useContext x1
  clear_value x1
  extract_lets +onlyGivenNames -underBinder -merge -useContext x2
  clear_value x2
  extract_lets +onlyGivenNames -underBinder -merge -useContext x3
  clear_value x3
  extract_lets +onlyGivenNames -underBinder -merge -useContext x4
  refine (?_ : Ok qq x4 → _) ?_
  on_goal 2 =>
    unfold x4
    with_reducible apply showIsth_ok
    (with_reducible apply ok_mk; with_reducible assumption)
  (clear_value x4; intro hx4)
  split
  · with_reducible assumption
  · extract_lets +onlyGivenNames -underBinder -merge -useContext x5
    refine (?_ : Ok qq x5 → _) ?_
    on_goal 2 =>
      unfold x5
      with_reducible apply satAdd_ok
      with_reducible assumption
    (clear_value x5; intro hx5)
    split
    · with_reducible apply raise_ok
      with_reducible apply stick_ok
      with_reducible assumption
    · with_reducible assumption

/-- `discardOverlap` keeps. -/
theorem discardOverlap_ok {qq : List Instr} (addr n : Nat) (s : State) (hs : Ok qq s) :
    Ok qq (discardOverlap addr n s) := by
  unfold discardOverlap
  with_reducible apply ok_foldl
  · intro a1 a2 h3
    with_reducible apply discardBlock_ok
    with_reducible assumption
  · with_reducible assumption

/-- `freeSlot` keeps. -/
theorem freeSlot_ok {qq : List Instr} {s t : State} (hs : Ok qq s) (h : freeSlot s = some t) : Ok qq t := by
  unfold freeSlot at h
  split at h
  · cases h
    exact hs
  · rw [Option.map_eq_some_iff] at h
    obtain ⟨p, _, rfl⟩ := h
    exact discardBlock_ok _ _ hs

/-- `answerCore` keeps. -/
theorem answerCore_ok {qq : List Instr} (c a : WinAcc) (cause : WinCause) (value : Dword) (s : State) (hs : Ok qq s) :
    Ok qq (answerCore c a cause value s) := by
  unfold answerCore
  split
  · with_reducible apply coreFault_ok
    with_reducible assumption
  · split
    · with_reducible assumption
    · extract_lets +onlyGivenNames -underBinder -merge -useContext x1
      clear_value x1
      with_reducible apply setLane_ok
      with_reducible assumption

/-- `tell` keeps. -/
theorem tell_ok {qq : List Instr} (order : Nat) (s : State) (hs : Ok qq s) :
    Ok qq (tell order s) := by
  unfold tell
  split
  · with_reducible assumption
  · split
    · extract_lets +onlyGivenNames -underBinder -merge -useContext x1
      refine (?_ : Ok qq x1 → _) ?_
      on_goal 2 =>
        unfold x1
        with_reducible apply ok_foldl
        · intro a2 a3 h4
          split
          · with_reducible assumption
          · with_reducible apply answerCore_ok
            with_reducible assumption
        · with_reducible assumption
      (clear_value x1; intro hx1)
      with_reducible apply mapVote_ok
      with_reducible assumption
    · with_reducible assumption

/-- `complete` keeps. -/
theorem complete_ok {qq : List Instr} (order : Nat) (cause : WinCause) (value : Dword) (s : State) (hs : Ok qq s) :
    Ok qq (complete order cause value s) := by
  unfold complete
  split
  · with_reducible assumption
  · split
    · split
      extract_lets +onlyGivenNames -underBinder -merge -useContext x1
      refine (?_ : Ok qq x1 → _) ?_
      on_goal 2 =>
        unfold x1
        with_reducible apply mapVote_ok
        with_reducible assumption
      (clear_value x1; intro hx1)
      extract_lets +onlyGivenNames -underBinder -merge -useContext x2
      refine (?_ : Ok qq x2 → _) ?_
      on_goal 2 =>
        unfold x2
        split
        · with_reducible apply domRelease_ok
          with_reducible assumption
        · with_reducible assumption
      (clear_value x2; intro hx2)
      extract_lets +onlyGivenNames -underBinder -merge -useContext x3
      refine (?_ : Ok qq x3 → _) ?_
      on_goal 2 =>
        unfold x3
        split
        · with_reducible assumption
        · with_reducible apply raise_ok
          with_reducible apply noteCause_ok
          with_reducible apply stick_ok
          with_reducible assumption
      (clear_value x3; intro hx3)
      extract_lets +onlyGivenNames -underBinder -merge -useContext x4
      refine (?_ : Ok qq x4 → _) ?_
      on_goal 2 =>
        unfold x4
        split
        · with_reducible apply emitOut_ok
          with_reducible assumption
        · with_reducible assumption
      (clear_value x4; intro hx4)
      with_reducible apply dropTold_ok
      with_reducible apply tell_ok
      with_reducible assumption
    · with_reducible assumption

/-- `serveBlock` keeps. -/
theorem serveBlock_ok {qq : List Instr} (order : Nat) (p : Prefetch) (s : State) (hs : Ok qq s) :
    Ok qq (serveBlock order p s) := by
  unfold serveBlock
  split
  · with_reducible assumption
  · split
    extract_lets +onlyGivenNames -underBinder -merge -useContext x1
    clear_value x1
    extract_lets +onlyGivenNames -underBinder -merge -useContext x2
    clear_value x2
    extract_lets +onlyGivenNames -underBinder -merge -useContext x3
    clear_value x3
    extract_lets +onlyGivenNames -underBinder -merge -useContext x4
    clear_value x4
    extract_lets +onlyGivenNames -underBinder -merge -useContext x5
    clear_value x5
    extract_lets +onlyGivenNames -underBinder -merge -useContext x6
    clear_value x6
    extract_lets +onlyGivenNames -underBinder -merge -useContext x7
    refine (?_ : Ok qq x7 → _) ?_
    on_goal 2 =>
      unfold x7
      (with_reducible apply ok_mk; with_reducible assumption)
    (clear_value x7; intro hx7)
    extract_lets +onlyGivenNames -underBinder -merge -useContext x8
    refine (?_ : Ok qq x8 → _) ?_
    on_goal 2 =>
      unfold x8
      with_reducible apply mapVote_ok
      with_reducible assumption
    (clear_value x8; intro hx8)
    with_reducible apply complete_ok
    with_reducible assumption

/-- `takePosted` keeps. -/
theorem takePosted_ok {qq : List Instr} (v : WinVote) (c : WinAcc) (s : State) (hs : Ok qq s) :
    Ok qq (takePosted v c s).2 := by
  unfold takePosted
  split
  · with_reducible assumption
  · split
    extract_lets +onlyGivenNames -underBinder -merge -useContext x1
    clear_value x1
    extract_lets +onlyGivenNames -underBinder -merge -useContext x2
    clear_value x2
    extract_lets +onlyGivenNames -underBinder -merge -useContext x3
    clear_value x3
    extract_lets +onlyGivenNames -underBinder -merge -useContext x4
    clear_value x4
    extract_lets +onlyGivenNames -underBinder -merge -useContext x5
    refine (?_ : Ok qq x5 → _) ?_
    on_goal 2 =>
      unfold x5
      with_reducible apply setReg_ok
      with_reducible assumption
    (clear_value x5; intro hx5)
    dsimp only
    with_reducible apply domAcquire_ok
    with_reducible apply showIsth_ok
    (with_reducible apply ok_mk; with_reducible assumption)

/-- `startAccess` keeps. -/
theorem startAccess_ok {qq : List Instr} (order : Nat) (s : State) (hs : Ok qq s) :
    Ok qq (startAccess order s) := by
  unfold startAccess
  split
  · with_reducible assumption
  · split
    · split
      extract_lets +onlyGivenNames -underBinder -merge -useContext x1
      clear_value x1
      split
      · with_reducible assumption
      · split
        · with_reducible apply complete_ok
          with_reducible assumption
        · split
          · with_reducible apply complete_ok
            with_reducible assumption
          · split
            · split
              · split
                split
                · with_reducible apply complete_ok
                  with_reducible refine ok_snd (by assumption) ?_
                  with_reducible apply takePosted_ok
                  with_reducible assumption
                · with_reducible refine ok_snd (by assumption) ?_
                  with_reducible apply takePosted_ok
                  with_reducible assumption
              · with_reducible assumption
            · split
              · with_reducible assumption
              · split
                · with_reducible apply serveBlock_ok
                  with_reducible assumption
                · split
                  · with_reducible apply mapVote_ok
                    with_reducible refine freeSlot_ok ?_ (by assumption)
                    with_reducible assumption
                  · with_reducible assumption
    · with_reducible assumption

/-- `formVote` keeps. -/
theorem formVote_ok {qq : List Instr} (order : Nat) (c : WinAcc) (s : State) (hs : Ok qq s) :
    Ok qq (formVote order c s) := by
  unfold formVote
  extract_lets +onlyGivenNames -underBinder -merge -useContext x1
  clear_value x1
  extract_lets +onlyGivenNames -underBinder -merge -useContext x2
  clear_value x2
  extract_lets +onlyGivenNames -underBinder -merge -useContext x3
  clear_value x3
  extract_lets +onlyGivenNames -underBinder -merge -useContext x4
  refine (?_ : Ok qq x4 → _) ?_
  on_goal 2 =>
    unfold x4
    split
    · (with_reducible apply ok_mk; with_reducible assumption)
    · with_reducible assumption
  (clear_value x4; intro hx4)
  extract_lets +onlyGivenNames -underBinder -merge -useContext x5
  refine (?_ : Ok qq x5 → _) ?_
  on_goal 2 =>
    unfold x5
    with_reducible apply mapVote_ok
    with_reducible assumption
  (clear_value x5; intro hx5)
  split
  extract_lets +onlyGivenNames -underBinder -merge -useContext x6
  refine (?_ : Ok qq x6 → _) ?_
  on_goal 2 =>
    unfold x6
    split
    · with_reducible assumption
    · with_reducible apply domAcquire_ok
      with_reducible assumption
  (clear_value x6; intro hx6)
  extract_lets +onlyGivenNames -underBinder -merge -useContext x7
  refine (?_ : Ok qq x7 → _) ?_
  on_goal 2 =>
    unfold x7
    split
    · with_reducible apply discardOverlap_ok
      with_reducible assumption
    · with_reducible assumption
  (clear_value x7; intro hx7)
  with_reducible apply startAccess_ok
  with_reducible assumption

/-- `retryWaiting` keeps. -/
theorem retryWaiting_ok {qq : List Instr} (s : State) (hs : Ok qq s) :
    Ok qq (retryWaiting s) := by
  unfold retryWaiting
  with_reducible apply ok_foldl
  · intro a1 a2 h3
    split
    · with_reducible apply startAccess_ok
      with_reducible assumption
    · with_reducible assumption
  · with_reducible assumption

/-- `winMinority` keeps. -/
theorem winMinority_ok {qq : List Instr} (a : WinAcc) (s : State) (hs : Ok qq s) :
    Ok qq (winMinority a s) := by
  unfold winMinority
  with_reducible apply raise_ok
  with_reducible apply stick_ok
  with_reducible assumption

/-- `winNoMajority` keeps. -/
theorem winNoMajority_ok {qq : List Instr} (order : Nat) (a : WinAcc) (s : State) (hs : Ok qq s) :
    Ok qq (winNoMajority order a s) := by
  unfold winNoMajority
  extract_lets +onlyGivenNames -underBinder -merge -useContext x1
  refine (?_ : Ok qq x1 → _) ?_
  on_goal 2 =>
    unfold x1
    with_reducible apply mapVote_ok
    with_reducible assumption
  (clear_value x1; intro hx1)
  with_reducible apply raise_ok
  with_reducible apply stick_ok
  with_reducible assumption

/-- `accessDiffers` keeps. -/
theorem accessDiffers_ok {qq : List Instr} (a : WinAcc) (s : State) (hs : Ok qq s) :
    Ok qq (accessDiffers a s) := by
  unfold accessDiffers
  split
  · with_reducible apply winMinority_ok
    with_reducible assumption
  · split
    · with_reducible apply rejoinFailed_ok
      · with_reducible assumption
      · intro a1 a2 a3 a4 a5 h6
        with_reducible apply raiseF_ok
        with_reducible assumption
    · with_reducible assumption

/-- `openVote` keeps. -/
theorem openVote_ok {qq : List Instr} (k : Nat) (a : WinAcc) (s : State) (hs : Ok qq s) :
    Ok qq (openVote k a s) := by
  unfold openVote
  extract_lets +onlyGivenNames -underBinder -merge -useContext x1
  clear_value x1
  with_reducible apply setVotes_ok
  (with_reducible apply ok_mk; with_reducible assumption)

/-- `joinVote` keeps. -/
theorem joinVote_ok {qq : List Instr} (a : WinAcc) (s : State) (hs : Ok qq s) :
    Ok qq (joinVote a s) := by
  unfold joinVote
  extract_lets +onlyGivenNames -underBinder -merge -useContext x1
  clear_value x1
  extract_lets +onlyGivenNames -underBinder -merge -useContext x2
  clear_value x2
  extract_lets +onlyGivenNames -underBinder -merge -useContext x3
  refine (?_ : Ok qq x3 → _) ?_
  on_goal 2 =>
    unfold x3
    (with_reducible apply ok_mk; with_reducible assumption)
  (clear_value x3; intro hx3)
  split
  · with_reducible apply openVote_ok
    with_reducible assumption
  · extract_lets +onlyGivenNames -underBinder -merge -useContext x4
    clear_value x4
    extract_lets +onlyGivenNames -underBinder -merge -useContext x5
    clear_value x5
    extract_lets +onlyGivenNames -underBinder -merge -useContext x6
    refine (?_ : Ok qq x6 → _) ?_
    on_goal 2 =>
      unfold x6
      with_reducible apply mapVote_ok
      with_reducible assumption
    (clear_value x6; intro hx6)
    split
    · with_reducible assumption
    · split
      · extract_lets +onlyGivenNames -underBinder -merge -useContext x7
        refine (?_ : Ok qq x7 → _) ?_
        on_goal 2 =>
          unfold x7
          split
          · with_reducible assumption
          · with_reducible apply winMinority_ok
            with_reducible assumption
        (clear_value x7; intro hx7)
        with_reducible apply dropTold_ok
        with_reducible apply tell_ok
        with_reducible assumption
      · split
        · extract_lets +onlyGivenNames -underBinder -merge -useContext x8
          refine (?_ : Ok qq x8 → _) ?_
          on_goal 2 =>
            unfold x8
            with_reducible apply formVote_ok
            with_reducible assumption
          (clear_value x8; intro hx8)
          with_reducible apply ok_foldl
          · intro a9 a10 h11
            with_reducible apply accessDiffers_ok
            with_reducible assumption
          · with_reducible assumption
        · split
          · with_reducible apply winNoMajority_ok
            with_reducible assumption
          · with_reducible assumption

/-- `observeAccess` keeps. -/
theorem observeAccess_ok {qq : List Instr} (a : WinAcc) (s : State) (hs : Ok qq s) :
    Ok qq (observeAccess a s) := by
  unfold observeAccess
  extract_lets +onlyGivenNames -underBinder -merge -useContext x1
  clear_value x1
  extract_lets +onlyGivenNames -underBinder -merge -useContext x2
  clear_value x2
  extract_lets +onlyGivenNames -underBinder -merge -useContext x3
  refine (?_ : Ok qq x3 → _) ?_
  on_goal 2 =>
    unfold x3
    (with_reducible apply ok_mk; with_reducible assumption)
  (clear_value x3; intro hx3)
  split
  · split
    · split
      · with_reducible apply dropTold_ok
        with_reducible apply tell_ok
        with_reducible apply mapVote_ok
        with_reducible assumption
      · with_reducible apply rejoinFailed_ok
        · with_reducible assumption
        · intro a4 a5 a6 a7 a8 h9
          with_reducible apply raiseF_ok
          with_reducible assumption
    · with_reducible apply mapVote_ok
      with_reducible assumption
  · with_reducible apply openVote_ok
    with_reducible assumption

/-- `windowAccess` keeps. -/
theorem windowAccess_ok {qq : List Instr} (l : Lane) (core : Fin 4) (kind : WinKind) (addr : BitVec 40) (size : BitVec 2) (data : Dword) (s : State) (hs : Ok qq s) :
    Ok qq (windowAccess l core kind addr size data s) := by
  unfold windowAccess
  split
  extract_lets +onlyGivenNames -underBinder -merge -useContext x1
  clear_value x1
  split
  · with_reducible assumption
  · split
    · with_reducible apply accessFault_ok
      with_reducible assumption
    · split
      · with_reducible apply retryWaiting_ok
        with_reducible apply joinVote_ok
        with_reducible assumption
      · split
        · with_reducible apply retryWaiting_ok
          with_reducible apply observeAccess_ok
          with_reducible assumption
        · with_reducible assumption
      · extract_lets +onlyGivenNames -underBinder -merge -useContext x2
        clear_value x2
        extract_lets +onlyGivenNames -underBinder -merge -useContext x3
        clear_value x3
        extract_lets +onlyGivenNames -underBinder -merge -useContext x4
        refine (?_ : Ok qq x4 → _) ?_
        on_goal 2 =>
          unfold x4
          with_reducible apply setVotes_ok
          (with_reducible apply ok_mk; with_reducible assumption)
        (clear_value x4; intro hx4)
        with_reducible apply formVote_ok
        with_reducible assumption
      · with_reducible assumption

/-- `winVoteClose` keeps. -/
theorem winVoteClose_ok {qq : List Instr} (s : State) (hs : Ok qq s) :
    Ok qq (winVoteClose s) := by
  unfold winVoteClose
  split
  · with_reducible assumption
  · extract_lets +onlyGivenNames -underBinder -merge -useContext x2
    clear_value x2
    split
    · split
      extract_lets +onlyGivenNames -underBinder -merge -useContext x3
      refine (?_ : Ok qq x3 → _) ?_
      on_goal 2 =>
        unfold x3
        with_reducible apply mapVote_ok
        with_reducible assumption
      (clear_value x3; intro hx3)
      extract_lets +onlyGivenNames -underBinder -merge -useContext x4
      refine (?_ : Ok qq x4 → _) ?_
      on_goal 2 =>
        unfold x4
        with_reducible apply raiseLanes_ok
        with_reducible assumption
      (clear_value x4; intro hx4)
      with_reducible apply dropTold_ok
      with_reducible apply ok_foldl
      · intro a5 a6 h7
        with_reducible apply rejoinFailed_ok
        · with_reducible assumption
        · intro a8 a9 a10 a11 a12 h13
          with_reducible apply raiseF_ok
          with_reducible assumption
      · with_reducible assumption
    · with_reducible apply winNoMajority_ok
      with_reducible assumption
    · with_reducible assumption

/-- `winTimeout` keeps. -/
theorem winTimeout_ok {qq : List Instr} (s : State) (hs : Ok qq s) :
    Ok qq (winTimeout s) := by
  unfold winTimeout
  split
  · split
    · with_reducible assumption
    · extract_lets +onlyGivenNames -underBinder -merge -useContext x1
      clear_value x1
      extract_lets +onlyGivenNames -underBinder -merge -useContext x2
      refine (?_ : Ok qq x2 → _) ?_
      on_goal 2 =>
        unfold x2
        (with_reducible apply ok_mk; with_reducible assumption)
      (clear_value x2; intro hx2)
      with_reducible apply retryWaiting_ok
      with_reducible apply complete_ok
      with_reducible assumption
  · with_reducible assumption

/-- `fenceComplete` keeps. -/
theorem fenceComplete_ok {qq : List Instr} (s : State) (hs : Ok qq s) :
    Ok qq (fenceComplete s) := by
  unfold fenceComplete
  split
  · split
    · with_reducible assumption
    · extract_lets +onlyGivenNames -underBinder -merge -useContext x1
      clear_value x1
      extract_lets +onlyGivenNames -underBinder -merge -useContext x2
      clear_value x2
      extract_lets +onlyGivenNames -underBinder -merge -useContext x3
      clear_value x3
      extract_lets +onlyGivenNames -underBinder -merge -useContext x4
      clear_value x4
      extract_lets +onlyGivenNames -underBinder -merge -useContext x5
      clear_value x5
      extract_lets +onlyGivenNames -underBinder -merge -useContext x6
      refine (?_ : Ok qq x6 → _) ?_
      on_goal 2 =>
        unfold x6
        (with_reducible apply ok_mk; with_reducible assumption)
      (clear_value x6; intro hx6)
      with_reducible apply complete_ok
      with_reducible assumption
  · with_reducible assumption

/-- `setXfer` keeps. -/
theorem setXfer_ok {qq : List Instr} (s : State) (i : Nat) (x : XferSt) (hs : Ok qq s) :
    Ok qq (setXfer s i x) := by
  unfold setXfer
  (with_reducible apply ok_mk; with_reducible assumption)

/-- `xferFail` keeps. -/
theorem xferFail_ok {qq : List Instr} (i : Nat) (cause : WinCause) (s : State) (hs : Ok qq s) :
    Ok qq (xferFail i cause s) := by
  unfold xferFail
  extract_lets +onlyGivenNames -underBinder -merge -useContext x1
  clear_value x1
  extract_lets +onlyGivenNames -underBinder -merge -useContext x2
  clear_value x2
  extract_lets +onlyGivenNames -underBinder -merge -useContext x3
  refine (?_ : Ok qq x3 → _) ?_
  on_goal 2 =>
    unfold x3
    with_reducible apply setXfer_ok
    with_reducible assumption
  (clear_value x3; intro hx3)
  split
  · extract_lets +onlyGivenNames -underBinder -merge -useContext x4
    refine (?_ : Ok qq x4 → _) ?_
    on_goal 2 =>
      unfold x4
      with_reducible apply setReg_ok
      with_reducible assumption
    (clear_value x4; intro hx4)
    split
    · with_reducible assumption
    · with_reducible apply raise_ok
      with_reducible apply noteCause_ok
      with_reducible apply stick_ok
      with_reducible assumption
  · split
    · with_reducible assumption
    · with_reducible apply noteCause_ok
      with_reducible assumption

/-- `xferDone` keeps. -/
theorem xferDone_ok {qq : List Instr} (i : Nat) (ws : List (BitVec 16)) (s : State) (hs : Ok qq s) :
    Ok qq (xferDone i ws s) := by
  unfold xferDone
  split
  · with_reducible apply setReg_ok
    with_reducible assumption
  · split
    extract_lets +onlyGivenNames -underBinder -merge -useContext x1
    clear_value x1
    extract_lets +onlyGivenNames -underBinder -merge -useContext x2
    refine (?_ : Ok qq x2 → _) ?_
    on_goal 2 =>
      unfold x2
      split
      · with_reducible refine ok_sound ?_ (fun hm => writeBytes_wf hm _ _)
        with_reducible refine ok_snd (by assumption) ?_
        with_reducible apply applyRule_ok
        with_reducible assumption
      · with_reducible refine ok_snd (by assumption) ?_
        with_reducible apply applyRule_ok
        with_reducible assumption
    (clear_value x2; intro hx2)
    with_reducible apply setXfer_ok
    with_reducible assumption

/-- `xferBody` keeps. -/
theorem xferBody_ok {qq : List Instr} (e : Entry) (s : State) (hs : Ok qq s) :
    Ok qq (xferBody e s) := by
  unfold xferBody
  extract_lets +onlyGivenNames -underBinder -merge -useContext x1
  clear_value x1
  split
  · with_reducible assumption
  · split
    · with_reducible apply raise_ok
      with_reducible apply stick_ok
      with_reducible assumption
    · split
      · with_reducible apply xferFail_ok
        with_reducible assumption
      · split
        · with_reducible apply xferFail_ok
          with_reducible assumption
        · (with_reducible apply ok_mk; with_reducible assumption)

/-- `xferNotMade` keeps. -/
theorem xferNotMade_ok {qq : List Instr} (i : BitVec 16) (s t : State) (ht : Ok qq t) :
    Ok qq (xferNotMade i s t) := by
  unfold xferNotMade
  split
  · extract_lets
    split
    · exact setReg_ok ht _ _
    · exact ht
  · exact ht

/-- `setRings` keeps. -/
theorem setRings_ok {qq : List Instr} (s : State) (l : List RingXfer) (hs : Ok qq s) :
    Ok qq (setRings s l) := by
  unfold setRings
  (with_reducible apply ok_mk; with_reducible assumption)

/-- `endRing` keeps. -/
theorem endRing_ok {qq : List Instr} (x : RingXfer) (cause : WinCause) (s : State) (hs : Ok qq s) :
    Ok qq (endRing x cause s) := by
  unfold endRing
  split
  · extract_lets +onlyGivenNames -underBinder -merge -useContext x1
    refine (?_ : Ok qq x1 → _) ?_
    on_goal 2 =>
      unfold x1
      with_reducible apply domRelease_ok
      with_reducible apply setRings_ok
      with_reducible assumption
    (clear_value x1; intro hx1)
    extract_lets +onlyGivenNames -underBinder -merge -useContext x2
    refine (?_ : Ok qq x2 → _) ?_
    on_goal 2 =>
      unfold x2
      split
      · split
        with_reducible apply toLanes_ok
        with_reducible refine ok_snd (by assumption) ?_
        with_reducible apply applyRule_ok
        with_reducible assumption
      · with_reducible assumption
    (clear_value x2; intro hx2)
    extract_lets +onlyGivenNames -underBinder -merge -useContext x3
    refine (?_ : Ok qq x3 → _) ?_
    on_goal 2 =>
      unfold x3
      split
      · with_reducible assumption
      · with_reducible apply noteCause_ok
        with_reducible assumption
    (clear_value x3; intro hx3)
    with_reducible apply finishDesc_ok
    with_reducible assumption
  · with_reducible assumption

/-- `ringStart` keeps. -/
theorem ringStart_ok {qq : List Instr} (op k : Nat) (s : State) (hs : Ok qq s) :
    Ok qq (ringStart op k s) := by
  unfold ringStart
  split
  · with_reducible assumption
  · split
    · with_reducible refine ok_snd (by assumption) ?_
      with_reducible apply startRec_ok
      with_reducible assumption
    · extract_lets +onlyGivenNames -underBinder -merge -useContext x1
      clear_value x1
      split
      · with_reducible apply finishDesc_ok
        with_reducible refine ok_snd (by assumption) ?_
        with_reducible apply startRec_ok
        with_reducible assumption
      · extract_lets +onlyGivenNames -underBinder -merge -useContext x2
        clear_value x2
        extract_lets +onlyGivenNames -underBinder -merge -useContext x3
        clear_value x3
        extract_lets +onlyGivenNames -underBinder -merge -useContext x4
        clear_value x4
        extract_lets +onlyGivenNames -underBinder -merge -useContext x5
        refine (?_ : Ok qq x5 → _) ?_
        on_goal 2 =>
          unfold x5
          with_reducible apply domAcquire_ok
          with_reducible apply markRec_ok
          with_reducible refine ok_snd (by assumption) ?_
          with_reducible apply startRec_ok
          with_reducible assumption
        (clear_value x5; intro hx5)
        with_reducible apply setRings_ok
        with_reducible assumption

/-- `blockDone` keeps. -/
theorem blockDone_ok {qq : List Instr} (x : RingXfer) (got : List (BitVec 16)) (s : State) (hs : Ok qq s) :
    Ok qq (blockDone x got s) := by
  unfold blockDone
  split
  · extract_lets +onlyGivenNames -underBinder -merge -useContext x1
    clear_value x1
    extract_lets +onlyGivenNames -underBinder -merge -useContext x2
    clear_value x2
    extract_lets +onlyGivenNames -underBinder -merge -useContext x3
    refine (?_ : Ok qq x3 → _) ?_
    on_goal 2 =>
      unfold x3
      with_reducible apply setRings_ok
      with_reducible assumption
    (clear_value x3; intro hx3)
    extract_lets +onlyGivenNames -underBinder -merge -useContext x4
    refine (?_ : Ok qq x4 → _) ?_
    on_goal 2 =>
      unfold x4
      with_reducible apply mapRec_ok
      with_reducible assumption
    (clear_value x4; intro hx4)
    split
    · with_reducible apply endRing_ok
      with_reducible assumption
    · with_reducible assumption
  · with_reducible assumption

/-- `startOp` keeps. -/
theorem startOp_ok {qq : List Instr} (o : BusOp) (s : State) (hs : Ok qq s) :
    Ok qq (startOp o s) := by
  unfold startOp
  with_reducible apply emitOut_ok
  (with_reducible apply ok_mk; with_reducible assumption)

/-- `settle` keeps. -/
theorem settle_ok {qq : List Instr} (o : BusOp) (cause : WinCause) (s : State) (hs : Ok qq s) :
    Ok qq (settle o cause s) := by
  unfold settle
  split
  · split
    · split
      · with_reducible assumption
      · split
        · split
          extract_lets +onlyGivenNames -underBinder -merge -useContext x1
          clear_value x1
          split
          · with_reducible apply complete_ok
            with_reducible assumption
          · split
            · extract_lets +onlyGivenNames -underBinder -merge -useContext x2
              clear_value x2
              extract_lets +onlyGivenNames -underBinder -merge -useContext x3
              clear_value x3
              extract_lets +onlyGivenNames -underBinder -merge -useContext x4
              refine (?_ : Ok qq x4 → _) ?_
              on_goal 2 =>
                unfold x4
                (with_reducible apply ok_mk; with_reducible assumption)
              (clear_value x4; intro hx4)
              with_reducible apply serveBlock_ok
              with_reducible assumption
            · extract_lets +onlyGivenNames -underBinder -merge -useContext x5
              clear_value x5
              with_reducible apply complete_ok
              with_reducible assumption
        · with_reducible assumption
    · with_reducible assumption
  · split
    · extract_lets +onlyGivenNames -underBinder -merge -useContext x6
      refine (?_ : Ok qq x6 → _) ?_
      on_goal 2 =>
        unfold x6
        with_reducible apply domRelease_ok
        with_reducible assumption
      (clear_value x6; intro hx6)
      split
      · with_reducible apply showIsth_ok
        (with_reducible apply ok_mk; with_reducible assumption)
      · extract_lets +onlyGivenNames -underBinder -merge -useContext x7
        clear_value x7
        extract_lets +onlyGivenNames -underBinder -merge -useContext x8
        refine (?_ : Ok qq x8 → _) ?_
        on_goal 2 =>
          unfold x8
          (with_reducible apply ok_mk; with_reducible assumption)
        (clear_value x8; intro hx8)
        extract_lets +onlyGivenNames -underBinder -merge -useContext x9
        clear_value x9
        extract_lets +onlyGivenNames -underBinder -merge -useContext x10
        clear_value x10
        extract_lets +onlyGivenNames -underBinder -merge -useContext x11
        clear_value x11
        extract_lets +onlyGivenNames -underBinder -merge -useContext x12
        clear_value x12
        extract_lets +onlyGivenNames -underBinder -merge -useContext x13
        refine (?_ : Ok qq x13 → _) ?_
        on_goal 2 =>
          unfold x13
          (with_reducible apply ok_mk; with_reducible assumption)
        (clear_value x13; intro hx13)
        extract_lets +onlyGivenNames -underBinder -merge -useContext x14
        refine (?_ : Ok qq x14 → _) ?_
        on_goal 2 =>
          unfold x14
          with_reducible apply setReg_ok
          with_reducible assumption
        (clear_value x14; intro hx14)
        extract_lets +onlyGivenNames -underBinder -merge -useContext x15
        refine (?_ : Ok qq x15 → _) ?_
        on_goal 2 =>
          unfold x15
          split
          · with_reducible assumption
          · with_reducible apply stick_ok
            with_reducible apply setReg_ok
            with_reducible assumption
        (clear_value x15; intro hx15)
        with_reducible apply raise_ok
        with_reducible apply noteCause_ok
        with_reducible assumption
    · with_reducible assumption
  · split
    · with_reducible apply xferDone_ok
      with_reducible assumption
    · with_reducible apply xferFail_ok
      with_reducible assumption
  · split
    · split
      · with_reducible apply blockDone_ok
        with_reducible assumption
      · with_reducible apply endRing_ok
        with_reducible assumption
    · with_reducible assumption

/-- `settled` keeps. -/
theorem settled_ok {qq : List Instr} (o : BusOp) (cause : WinCause) (s : State) (hs : Ok qq s) :
    Ok qq (settled o cause s) := by
  unfold settled
  with_reducible apply retryWaiting_ok
  with_reducible apply settle_ok
  with_reducible assumption

/-- `startXfer` keeps. -/
theorem startXfer_ok {qq : List Instr} (i : Nat) (s : State) (hs : Ok qq s) :
    Ok qq (startXfer i s) := by
  unfold startXfer
  extract_lets +onlyGivenNames -underBinder -merge -useContext x1
  clear_value x1
  extract_lets +onlyGivenNames -underBinder -merge -useContext x2
  clear_value x2
  split
  · with_reducible apply xferFail_ok
    with_reducible assumption
  · split
    · with_reducible apply xferFail_ok
      with_reducible assumption
    · split
      · extract_lets +onlyGivenNames -underBinder -merge -useContext x3
        clear_value x3
        split
        · with_reducible apply xferFail_ok
          with_reducible apply meetSound_ok
          with_reducible assumption
        · split
          with_reducible apply startOp_ok
          with_reducible apply discardOverlap_ok
          with_reducible refine ok_snd (by assumption) ?_
          with_reducible apply applyRule_ok
          with_reducible assumption
      · with_reducible apply startOp_ok
        with_reducible assumption

/-- `startOther` keeps. -/
theorem startOther_ok {qq : List Instr} (o : BusOp) (s : State) (hs : Ok qq s) :
    Ok qq (startOther o s) := by
  unfold startOther
  split
  · with_reducible apply settled_ok
    with_reducible assumption
  · split
    · with_reducible apply settled_ok
      with_reducible assumption
    · extract_lets +onlyGivenNames -underBinder -merge -useContext x1
      refine (?_ : Ok qq x1 → _) ?_
      on_goal 2 =>
        unfold x1
        split
        · split
          · with_reducible apply discardOverlap_ok
            with_reducible assumption
          · with_reducible assumption
        · with_reducible assumption
      (clear_value x1; intro hx1)
      with_reducible apply startOp_ok
      with_reducible assumption

/-- `busStart` keeps. -/
theorem busStart_ok {qq : List Instr} (s : State) (hs : Ok qq s) :
    Ok qq (busStart s) := by
  unfold busStart
  extract_lets +onlyGivenNames -underBinder -merge -useContext x1
  refine (?_ : Ok qq x1 → _) ?_
  on_goal 2 =>
    unfold x1
    with_reducible apply retryWaiting_ok
    with_reducible assumption
  (clear_value x1; intro hx1)
  split
  · with_reducible assumption
  · split
    · with_reducible apply startXfer_ok
      (with_reducible apply ok_mk; with_reducible assumption)
    · split
      · with_reducible assumption
      · extract_lets +onlyGivenNames -underBinder -merge -useContext x2
        clear_value x2
        extract_lets +onlyGivenNames -underBinder -merge -useContext x3
        clear_value x3
        split
        · with_reducible apply startOther_ok
          with_reducible assumption
        · with_reducible apply startOther_ok
          with_reducible assumption
        · extract_lets +onlyGivenNames -underBinder -merge -useContext x4
          clear_value x4
          extract_lets +onlyGivenNames -underBinder -merge -useContext x5
          clear_value x5
          extract_lets +onlyGivenNames -underBinder -merge -useContext x6
          refine (?_ : Ok qq x6 → _) ?_
          on_goal 2 =>
            unfold x6
            (with_reducible apply ok_mk; with_reducible assumption)
          (clear_value x6; intro hx6)
          with_reducible apply startOther_ok
          with_reducible assumption
        · with_reducible assumption

/-- `countTimeout` keeps. -/
theorem countTimeout_ok {qq : List Instr} (w : Nat) (s : State) (hs : Ok qq s) :
    Ok qq (countTimeout w s) := by
  unfold countTimeout
  extract_lets +onlyGivenNames -underBinder -merge -useContext x1
  clear_value x1
  extract_lets +onlyGivenNames -underBinder -merge -useContext x2
  refine (?_ : Ok qq x2 → _) ?_
  on_goal 2 =>
    unfold x2
    with_reducible apply setFld_ok
    with_reducible assumption
  (clear_value x2; intro hx2)
  split
  · with_reducible apply raise_ok
    with_reducible apply stick_ok
    with_reducible apply setBit_ok
    with_reducible assumption
  · with_reducible assumption

/-- `busEnd` keeps. -/
theorem busEnd_ok {qq : List Instr} (ws : List (BitVec 16)) (ended : BusAck) (s : State) (hs : Ok qq s) :
    Ok qq (busEnd ws ended s) := by
  unfold busEnd
  split
  · with_reducible assumption
  · extract_lets +onlyGivenNames -underBinder -merge -useContext x1
    clear_value x1
    split
    · with_reducible assumption
    · extract_lets +onlyGivenNames -underBinder -merge -useContext x2
      clear_value x2
      extract_lets +onlyGivenNames -underBinder -merge -useContext x3
      refine (?_ : Ok qq x3 → _) ?_
      on_goal 2 =>
        unfold x3
        (with_reducible apply ok_mk; with_reducible assumption)
      (clear_value x3; intro hx3)
      extract_lets +onlyGivenNames -underBinder -merge -useContext x4
      refine (?_ : Ok qq x4 → _) ?_
      on_goal 2 =>
        unfold x4
        with_reducible apply setFld_ok
        with_reducible assumption
      (clear_value x4; intro hx4)
      split
      · with_reducible apply settled_ok
        with_reducible assumption
      · with_reducible apply settled_ok
        with_reducible apply satAdd_ok
        with_reducible assumption
      · extract_lets +onlyGivenNames -underBinder -merge -useContext x5
        refine (?_ : Ok qq x5 → _) ?_
        on_goal 2 =>
          unfold x5
          with_reducible apply satAdd_ok
          with_reducible assumption
        (clear_value x5; intro hx5)
        split
        · extract_lets +onlyGivenNames -underBinder -merge -useContext x6
          clear_value x6
          extract_lets +onlyGivenNames -underBinder -merge -useContext x7
          clear_value x7
          (with_reducible apply ok_mk; with_reducible assumption)
        · with_reducible apply settled_ok
          with_reducible assumption

/-- `busTimedOut` keeps. -/
theorem busTimedOut_ok {qq : List Instr} (s : State) (hs : Ok qq s) :
    Ok qq (busTimedOut s) := by
  unfold busTimedOut
  split
  · with_reducible assumption
  · split
    · with_reducible assumption
    · extract_lets +onlyGivenNames -underBinder -merge -useContext x1
      clear_value x1
      extract_lets +onlyGivenNames -underBinder -merge -useContext x2
      refine (?_ : Ok qq x2 → _) ?_
      on_goal 2 =>
        unfold x2
        with_reducible apply satAdd_ok
        (with_reducible apply ok_mk; with_reducible assumption)
      (clear_value x2; intro hx2)
      with_reducible apply settled_ok
      with_reducible apply countTimeout_ok
      with_reducible assumption

/-- `crateRetry` keeps. -/
theorem crateRetry_ok {qq : List Instr} (s : State) (hs : Ok qq s) :
    Ok qq (crateRetry s) := by
  unfold crateRetry
  split
  · with_reducible assumption
  · split
    · extract_lets +onlyGivenNames -underBinder -merge -useContext x1
      clear_value x1
      extract_lets +onlyGivenNames -underBinder -merge -useContext x2
      refine (?_ : Ok qq x2 → _) ?_
      on_goal 2 =>
        unfold x2
        (with_reducible apply ok_mk; with_reducible assumption)
      (clear_value x2; intro hx2)
      split
      · split
        · with_reducible apply settled_ok
          with_reducible assumption
        · split
          · with_reducible apply settled_ok
            with_reducible assumption
          · with_reducible apply startOp_ok
            with_reducible assumption
      · with_reducible apply startOther_ok
        with_reducible assumption
    · with_reducible assumption

/-- `holdExpiry` keeps. -/
theorem holdExpiry_ok {qq : List Instr} (s : State) (hs : Ok qq s) :
    Ok qq (holdExpiry s) := by
  unfold holdExpiry
  split
  · with_reducible apply retryWaiting_ok
    with_reducible apply discardBlock_ok
    with_reducible assumption
  · with_reducible assumption

/-- `freeFailed` keeps. -/
theorem freeFailed_ok {qq : List Instr} (r : Record) (s : State) (hs : Ok qq s) :
    Ok qq (freeFailed r s) := by
  unfold freeFailed
  split
  · with_reducible apply retryWaiting_ok
    with_reducible apply freeEntry_ok
    with_reducible assumption
  · with_reducible assumption

/-- `crateInt` keeps. -/
theorem crateInt_ok {qq : List Instr} (line : Nat) (s : State) (hs : Ok qq s) :
    Ok qq (crateInt line s) := by
  unfold crateInt
  extract_lets +onlyGivenNames -underBinder -merge -useContext x1
  refine (?_ : Ok qq x1 → _) ?_
  on_goal 2 =>
    unfold x1
    with_reducible apply setBit_ok
    with_reducible assumption
  (clear_value x1; intro hx1)
  split
  · extract_lets +onlyGivenNames -underBinder -merge -useContext x2
    clear_value x2
    with_reducible apply setBit_ok
    (with_reducible apply ok_mk; with_reducible assumption)
  · with_reducible assumption

/-- `crateIntRecord` keeps. -/
theorem crateIntRecord_ok {qq : List Instr} (s : State) (hs : Ok qq s) :
    Ok qq (crateIntRecord s) := by
  unfold crateIntRecord
  split
  · with_reducible apply raise_ok
    (with_reducible apply ok_mk; with_reducible assumption)
  · with_reducible assumption

/-- `isthArm` keeps. -/
theorem isthArm_ok {qq : List Instr} (lines : Byte) (s : State) (hs : Ok qq s) :
    Ok qq (isthArm lines s) := by
  unfold isthArm
  extract_lets +onlyGivenNames -underBinder -merge -useContext x1
  clear_value x1
  extract_lets +onlyGivenNames -underBinder -merge -useContext x2
  clear_value x2
  extract_lets +onlyGivenNames -underBinder -merge -useContext x3
  refine (?_ : Ok qq x3 → _) ?_
  on_goal 2 =>
    unfold x3
    with_reducible apply setFld_ok
    with_reducible assumption
  (clear_value x3; intro hx3)
  with_reducible apply setFld_ok
  with_reducible assumption

/-- `writeIntCfg` keeps. -/
theorem writeIntCfg_ok {qq : List Instr} (v : Word) (s : State) (hs : Ok qq s) :
    Ok qq (writeIntCfg v s) := by
  unfold writeIntCfg
  extract_lets +onlyGivenNames -underBinder -merge -useContext x1
  clear_value x1
  extract_lets +onlyGivenNames -underBinder -merge -useContext x2
  clear_value x2
  extract_lets +onlyGivenNames -underBinder -merge -useContext x3
  clear_value x3
  with_reducible apply setFld_ok
  with_reducible apply setReg_ok
  with_reducible assumption

/-- `refuseIsth` keeps. -/
theorem refuseIsth_ok {qq : List Instr} (reason key : Nat) (s : State) (hs : Ok qq s) :
    Ok qq (refuseIsth reason key s) := by
  unfold refuseIsth
  split
  with_reducible apply refuseCfg_ok
  with_reducible assumption

/-- `revive` keeps. -/
theorem revive_ok {qq : List Instr} (w : Nat) (s : State) (hs : Ok qq s) :
    Ok qq (revive w s) := by
  unfold revive
  extract_lets +onlyGivenNames -underBinder -merge -useContext x1
  refine (?_ : Ok qq x1 → _) ?_
  on_goal 2 =>
    unfold x1
    with_reducible apply setFld_ok
    with_reducible apply setBit_ok
    with_reducible assumption
  (clear_value x1; intro hx1)
  with_reducible apply raise_ok
  with_reducible assumption

/-- `crateReset` keeps. -/
theorem crateReset_ok {qq : List Instr} (s : State) (hs : Ok qq s) :
    Ok qq (crateReset s) := by
  unfold crateReset
  split
  · with_reducible apply emitOut_ok
    (with_reducible apply ok_mk; with_reducible assumption)
  · with_reducible apply refuseIsth_ok
    with_reducible assumption

/-- `crateResetEnd` keeps. -/
theorem crateResetEnd_ok {qq : List Instr} (s : State) (hs : Ok qq s) :
    Ok qq (crateResetEnd s) := by
  unfold crateResetEnd
  split
  · split
    · with_reducible apply emitOut_ok
      (with_reducible apply ok_mk; with_reducible assumption)
    · with_reducible assumption
  · with_reducible assumption

/-- `isthClear` keeps. -/
theorem isthClear_ok {qq : List Instr} (s : State) (hs : Ok qq s) :
    Ok qq (isthClear s) := by
  unfold isthClear
  with_reducible apply setReg_ok
  with_reducible assumption

/-- `writeWinCfg` keeps. -/
theorem writeWinCfg_ok {qq : List Instr} (w : Nat) (v : Word) (s : State) (hs : Ok qq s) :
    Ok qq (writeWinCfg w v s) := by
  unfold writeWinCfg
  extract_lets +onlyGivenNames -underBinder -merge -useContext x1
  clear_value x1
  extract_lets +onlyGivenNames -underBinder -merge -useContext x2
  clear_value x2
  extract_lets +onlyGivenNames -underBinder -merge -useContext x3
  clear_value x3
  extract_lets +onlyGivenNames -underBinder -merge -useContext x4
  clear_value x4
  split
  · split
    · with_reducible apply refuseIsth_ok
      with_reducible assumption
    · split
      · with_reducible apply refuseIsth_ok
        with_reducible assumption
      · split
        · with_reducible apply refuseIsth_ok
          with_reducible assumption
        · split
          · with_reducible apply refuseIsth_ok
            with_reducible assumption
          · with_reducible apply setReg_ok
            with_reducible assumption
  · with_reducible apply setReg_ok
    with_reducible assumption

/-- `writeXferCtl` keeps. -/
theorem writeXferCtl_ok {qq : List Instr} (i : Nat) (v : Word) (s : State) (hs : Ok qq s) :
    Ok qq (writeXferCtl i v s) := by
  unfold writeXferCtl
  extract_lets +onlyGivenNames -underBinder -merge -useContext x1
  clear_value x1
  extract_lets +onlyGivenNames -underBinder -merge -useContext x2
  clear_value x2
  extract_lets +onlyGivenNames -underBinder -merge -useContext x3
  clear_value x3
  extract_lets +onlyGivenNames -underBinder -merge -useContext x4
  clear_value x4
  extract_lets +onlyGivenNames -underBinder -merge -useContext x5
  clear_value x5
  split
  · with_reducible apply refuseIsth_ok
    with_reducible assumption
  · split
    · with_reducible apply setReg_ok
      with_reducible assumption
    · split
      · with_reducible apply refuseIsth_ok
        with_reducible assumption
      · split
        · split
          · with_reducible apply setReg_ok
            with_reducible assumption
          · with_reducible apply refuseIsth_ok
            with_reducible assumption
        · split
          · with_reducible apply setReg_ok
            with_reducible apply setXfer_ok
            with_reducible assumption
          · with_reducible apply refuseIsth_ok
            with_reducible assumption

/-- `sampleXfer` keeps. -/
theorem sampleXfer_ok {qq : List Instr} (i : Nat) (s : State) (hs : Ok qq s) :
    Ok qq (sampleXfer i s) := by
  unfold sampleXfer
  extract_lets +onlyGivenNames -underBinder -merge -useContext x1
  clear_value x1
  split
  extract_lets +onlyGivenNames -underBinder -merge -useContext x2
  clear_value x2
  extract_lets +onlyGivenNames -underBinder -merge -useContext x3
  clear_value x3
  extract_lets +onlyGivenNames -underBinder -merge -useContext x4
  clear_value x4
  extract_lets +onlyGivenNames -underBinder -merge -useContext x5
  clear_value x5
  extract_lets +onlyGivenNames -underBinder -merge -useContext x6
  clear_value x6
  extract_lets +onlyGivenNames -underBinder -merge -useContext x7
  clear_value x7
  extract_lets +onlyGivenNames -underBinder -merge -useContext x8
  clear_value x8
  extract_lets +onlyGivenNames -underBinder -merge -useContext x9
  clear_value x9
  split
  extract_lets +onlyGivenNames -underBinder -merge -useContext x10
  clear_value x10
  extract_lets +onlyGivenNames -underBinder -merge -useContext x11
  clear_value x11
  extract_lets +onlyGivenNames -underBinder -merge -useContext x12
  clear_value x12
  extract_lets +onlyGivenNames -underBinder -merge -useContext x13
  refine (?_ : Ok qq x13 → _) ?_
  on_goal 2 =>
    unfold x13
    with_reducible refine ok_sound ?_ (fun hm => writeBytes_wf hm _ _)
    with_reducible refine ok_snd (by assumption) ?_
    split
    · with_reducible apply sharedSlot_ok
      with_reducible assumption
    · with_reducible assumption
  (clear_value x13; intro hx13)
  extract_lets +onlyGivenNames -underBinder -merge -useContext x14
  refine (?_ : Ok qq x14 → _) ?_
  on_goal 2 =>
    unfold x14
    with_reducible apply setReg_ok
    with_reducible assumption
  (clear_value x14; intro hx14)
  extract_lets +onlyGivenNames -underBinder -merge -useContext x15
  clear_value x15
  with_reducible apply setXfer_ok
  with_reducible assumption

/-- `sampleCrate` keeps. -/
theorem sampleCrate_ok {qq : List Instr} (img : Nat) (s : State) (hs : Ok qq s) :
    Ok qq (sampleCrate img s) := by
  unfold sampleCrate
  with_reducible apply ok_foldl
  · intro a1 a2 h3
    with_reducible apply sampleXfer_ok
    with_reducible assumption
  · with_reducible assumption

/-- `monitorRing` keeps. -/
theorem monitorRing_ok {qq : List Instr} (addr : Nat) (bs : List Byte) (s : State) (hs : Ok qq s) :
    Ok qq (monitorRing addr bs s) := by
  unfold monitorRing
  split
  · extract_lets +onlyGivenNames -underBinder -merge -useContext x1
    clear_value x1
    extract_lets +onlyGivenNames -underBinder -merge -useContext x2
    clear_value x2
    with_reducible apply mapRec_ok
    with_reducible assumption
  · with_reducible assumption

/-- `monitorReads` keeps. -/
theorem monitorReads_ok {qq : List Instr} (addr : Nat) (ws : List (BitVec 16)) (s : State) (hs : Ok qq s) :
    Ok qq (monitorReads addr ws s) := by
  unfold monitorReads
  with_reducible apply ok_foldl
  · intro a1 a2 h3
    with_reducible apply xferDone_ok
    with_reducible assumption
  · with_reducible assumption

/-- `monitorCycle` keeps. -/
theorem monitorCycle_ok {qq : List Instr} (write : Bool) (addr : BitVec 24) (ws : List (BitVec 16)) (ended : BusAck) (s : State) (hs : Ok qq s) :
    Ok qq (monitorCycle write addr ws ended s) := by
  unfold monitorCycle
  split
  · with_reducible assumption
  · split
    · extract_lets +onlyGivenNames -underBinder -merge -useContext x1
      clear_value x1
      extract_lets +onlyGivenNames -underBinder -merge -useContext x2
      refine (?_ : Ok qq x2 → _) ?_
      on_goal 2 =>
        unfold x2
        (with_reducible apply ok_mk; with_reducible assumption)
      (clear_value x2; intro hx2)
      split
      · with_reducible apply monitorRing_ok
        with_reducible assumption
      · with_reducible assumption
    · split
      · with_reducible apply monitorReads_ok
        with_reducible assumption
      · with_reducible assumption

/-- `takeoverIsth` keeps. -/
theorem takeoverIsth_ok {qq : List Instr} (s : State) (hs : Ok qq s) :
    Ok qq (takeoverIsth s) := by
  unfold takeoverIsth
  extract_lets +onlyGivenNames -underBinder -merge -useContext x1
  refine (?_ : Ok qq x1 → _) ?_
  on_goal 2 =>
    unfold x1
    with_reducible apply ok_foldl
    · intro a2 a3 h4
      split
      · split
        · with_reducible apply complete_ok
          with_reducible apply domAcquire_ok
          with_reducible assumption
        · extract_lets +onlyGivenNames -underBinder -merge -useContext x5
          refine (?_ : Ok qq x5 → _) ?_
          on_goal 2 =>
            unfold x5
            with_reducible apply mapVote_ok
            with_reducible assumption
          (clear_value x5; intro hx5)
          split
          · with_reducible assumption
          · with_reducible apply domAcquire_ok
            with_reducible assumption
      · with_reducible assumption
    · with_reducible assumption
  (clear_value x1; intro hx1)
  with_reducible apply showIsth_ok
  with_reducible apply retryWaiting_ok
  (with_reducible apply ok_mk; with_reducible assumption)

end Sys2Proof.Machine
end

