-- ==== Sys2Proof/Laws/KeepHolm.lean ====
section
/-!
SUPPORT. What the operations of Machine/Holm.lean keep: the canonical form of registers and memories, and the queue.
-/

namespace Sys2Proof.Machine

/-- `setDin` keeps. -/
theorem setDin_ok {qq : List Instr} (s : State) (n : Nat) (x : HolmIn) (hs : Ok qq s) :
    Ok qq (setDin s n x) := by
  unfold setDin
  (with_reducible apply ok_mk; with_reducible assumption)

/-- `setDout` keeps. -/
theorem setDout_ok {qq : List Instr} (s : State) (n : Nat) (x : HolmOut) (hs : Ok qq s) :
    Ok qq (setDout s n x) := by
  unfold setDout
  (with_reducible apply ok_mk; with_reducible assumption)

/-- `setGroup` keeps. -/
theorem setGroup_ok {qq : List Instr} (s : State) (c : Nat) (x : HolmGroup) (hs : Ok qq s) :
    Ok qq (setGroup s c x) := by
  unfold setGroup
  (with_reducible apply ok_mk; with_reducible assumption)

/-- `setSupplyOk` keeps. -/
theorem setSupplyOk_ok {qq : List Instr} (c : Nat) (b : Bool) (s : State) (hs : Ok qq s) :
    Ok qq (setSupplyOk c b s) := by
  unfold setSupplyOk
  with_reducible apply setBit_ok
  with_reducible apply setBit_ok
  with_reducible assumption

/-- `putSwitch` keeps. -/
theorem putSwitch_ok {qq : List Instr} (n : Nat) (s : State) (hs : Ok qq s) :
    Ok qq (putSwitch n s) := by
  unfold putSwitch
  extract_lets +onlyGivenNames -underBinder -merge -useContext x1
  clear_value x1
  split
  · with_reducible assumption
  · with_reducible apply setBit_ok
    with_reducible apply setBit_ok
    with_reducible assumption

/-- `showSwitch` keeps. -/
theorem showSwitch_ok {qq : List Instr} (n : Nat) (s : State) (hs : Ok qq s) :
    Ok qq (showSwitch n s) := by
  unfold showSwitch
  with_reducible apply putSwitch_ok
  split
  · with_reducible apply recCount_ok
    with_reducible assumption
  · with_reducible assumption

/-- `settleOut` keeps. -/
theorem settleOut_ok {qq : List Instr} (n : Nat) (before : Bool) (s : State) (hs : Ok qq s) :
    Ok qq (settleOut n before s) := by
  unfold settleOut
  extract_lets +onlyGivenNames -underBinder -merge -useContext x1
  clear_value x1
  extract_lets +onlyGivenNames -underBinder -merge -useContext x2
  refine (?_ : Ok qq x2 → _) ?_
  on_goal 2 =>
    unfold x2
    split
    · with_reducible assumption
    · with_reducible apply setDout_ok
      with_reducible assumption
  (clear_value x2; intro hx2)
  with_reducible apply showSwitch_ok
  with_reducible assumption

/-- `settleOuts` keeps. -/
theorem settleOuts_ok {qq : List Instr} (ns : List Nat) (f : State → State) (s : State) (hs : Ok qq s) (hf : ∀ x, Ok qq x → Ok qq (f x)) :
    Ok qq (settleOuts ns f s) := by
  unfold settleOuts
  extract_lets +onlyGivenNames -underBinder -merge -useContext x1
  clear_value x1
  with_reducible apply ok_foldl
  · intro a2 a3 h4
    split
    with_reducible apply settleOut_ok
    with_reducible assumption
  · with_reducible apply hf
    with_reducible assumption

/-- `endPulseIfOff` keeps. -/
theorem endPulseIfOff_ok {qq : List Instr} (n : Nat) (s : State) (hs : Ok qq s) :
    Ok qq (endPulseIfOff n s) := by
  unfold endPulseIfOff
  split
  · with_reducible apply setDout_ok
    with_reducible assumption
  · with_reducible assumption

/-- `setDiLevel` keeps. -/
theorem setDiLevel_ok {qq : List Instr} (n : Nat) (b : Bool) (s : State) (hs : Ok qq s) :
    Ok qq (setDiLevel n b s) := by
  unfold setDiLevel
  split
  · with_reducible apply setBit_ok
    with_reducible assumption
  · with_reducible apply setBit_ok
    with_reducible assumption

/-- `resetRefused` keeps. -/
theorem resetRefused_ok {qq : List Instr} (reason : Nat) (s : State) (hs : Ok qq s) :
    Ok qq (resetRefused reason s) := by
  unfold resetRefused
  with_reducible apply raise_ok
  with_reducible apply stick_ok
  with_reducible assumption

/-- `resetInput` keeps. -/
theorem resetInput_ok {qq : List Instr} (level : Bool) (time : Dword) (s : State) (hs : Ok qq s) :
    Ok qq (resetInput level time s) := by
  unfold resetInput
  split
  · (with_reducible apply ok_mk; with_reducible assumption)
  · split
    · with_reducible assumption
    · extract_lets +onlyGivenNames -underBinder -merge -useContext x1
      clear_value x1
      extract_lets +onlyGivenNames -underBinder -merge -useContext x2
      refine (?_ : Ok qq x2 → _) ?_
      on_goal 2 =>
        unfold x2
        (with_reducible apply ok_mk; with_reducible assumption)
      (clear_value x2; intro hx2)
      extract_lets +onlyGivenNames -underBinder -merge -useContext x3
      clear_value x3
      extract_lets +onlyGivenNames -underBinder -merge -useContext x4
      clear_value x4
      split
      · with_reducible apply setBit_ok
        with_reducible assumption
      · split
        · with_reducible apply resetRefused_ok
          with_reducible assumption
        · split
          · with_reducible apply resetRefused_ok
            with_reducible assumption
          · (with_reducible apply ok_mk; with_reducible assumption)

/-- `acceptDi` keeps. -/
theorem acceptDi_ok {qq : List Instr} (n : Nat) (s : State) (hs : Ok qq s) :
    Ok qq (acceptDi n s) := by
  unfold acceptDi
  extract_lets +onlyGivenNames -underBinder -merge -useContext x1
  clear_value x1
  extract_lets +onlyGivenNames -underBinder -merge -useContext x2
  clear_value x2
  extract_lets +onlyGivenNames -underBinder -merge -useContext x3
  clear_value x3
  extract_lets +onlyGivenNames -underBinder -merge -useContext x4
  clear_value x4
  extract_lets +onlyGivenNames -underBinder -merge -useContext x5
  refine (?_ : Ok qq x5 → _) ?_
  on_goal 2 =>
    unfold x5
    with_reducible apply setDiLevel_ok
    with_reducible apply setDin_ok
    with_reducible assumption
  (clear_value x5; intro hx5)
  extract_lets +onlyGivenNames -underBinder -merge -useContext x6
  refine (?_ : Ok qq x6 → _) ?_
  on_goal 2 =>
    unfold x6
    split
    · with_reducible apply resetInput_ok
      with_reducible assumption
    · with_reducible assumption
  (clear_value x6; intro hx6)
  split
  · split
    · with_reducible apply raiseAt_ok
      with_reducible assumption
    · with_reducible assumption
  · split
    · with_reducible apply raiseAt_ok
      with_reducible assumption
    · with_reducible assumption

/-- `diRaw` keeps. -/
theorem diRaw_ok {qq : List Instr} (n : Nat) (dv : BitVec 12) (s : State) (hs : Ok qq s) :
    Ok qq (diRaw n dv s) := by
  unfold diRaw
  extract_lets +onlyGivenNames -underBinder -merge -useContext x1
  clear_value x1
  extract_lets +onlyGivenNames -underBinder -merge -useContext x2
  refine (?_ : Ok qq x2 → _) ?_
  on_goal 2 =>
    unfold x2
    with_reducible apply setDin_ok
    with_reducible assumption
  (clear_value x2; intro hx2)
  split
  · with_reducible assumption
  · split
    split
    extract_lets +onlyGivenNames -underBinder -merge -useContext x3
    clear_value x3
    split
    · with_reducible refine ok_snd (by assumption) ?_
      split
      · with_reducible assumption
      · split
        · with_reducible assumption
        · split
          dsimp only
          with_reducible refine ok_snd (by assumption) ?_
          with_reducible apply takeFree_ok
          with_reducible assumption
    · extract_lets +onlyGivenNames -underBinder -merge -useContext x4
      clear_value x4
      extract_lets +onlyGivenNames -underBinder -merge -useContext x5
      refine (?_ : Ok qq x5 → _) ?_
      on_goal 2 =>
        unfold x5
        with_reducible apply setDin_ok
        with_reducible refine ok_snd (by assumption) ?_
        split
        · with_reducible assumption
        · split
          · with_reducible assumption
          · split
            dsimp only
            with_reducible refine ok_snd (by assumption) ?_
            with_reducible apply takeFree_ok
            with_reducible assumption
      (clear_value x5; intro hx5)
      split
      · with_reducible apply acceptDi_ok
        with_reducible assumption
      · with_reducible assumption

/-- `diFilter` keeps. -/
theorem diFilter_ok {qq : List Instr} (n : Nat) (s : State) (hs : Ok qq s) :
    Ok qq (diFilter n s) := by
  unfold diFilter
  extract_lets +onlyGivenNames -underBinder -merge -useContext x1
  clear_value x1
  split
  · with_reducible apply acceptDi_ok
    with_reducible assumption
  · with_reducible assumption

/-- `badRefresh` keeps. -/
theorem badRefresh_ok {qq : List Instr} (c : Nat) (s : State) (hs : Ok qq s) :
    Ok qq (badRefresh c s) := by
  unfold badRefresh
  extract_lets +onlyGivenNames -underBinder -merge -useContext x1
  refine (?_ : Ok qq x1 → _) ?_
  on_goal 2 =>
    unfold x1
    with_reducible apply stick_ok
    with_reducible apply satAdd_ok
    with_reducible assumption
  (clear_value x1; intro hx1)
  extract_lets +onlyGivenNames -underBinder -merge -useContext x2
  clear_value x2
  extract_lets +onlyGivenNames -underBinder -merge -useContext x3
  clear_value x3
  split
  · with_reducible apply raise_ok
    with_reducible apply setGroup_ok
    with_reducible assumption
  · with_reducible assumption

/-- `acceptRefresh` keeps. -/
theorem acceptRefresh_ok {qq : List Instr} (c values : Nat) (sq : Bool) (s : State) (hs : Ok qq s) :
    Ok qq (acceptRefresh c values sq s) := by
  unfold acceptRefresh
  extract_lets +onlyGivenNames -underBinder -merge -useContext x1
  refine (?_ : Ok qq x1 → _) ?_
  on_goal 2 =>
    unfold x1
    with_reducible apply settleOuts_ok
    · with_reducible assumption
    · intro a2 h3
      extract_lets +onlyGivenNames -underBinder -merge -useContext x4
      clear_value x4
      extract_lets +onlyGivenNames -underBinder -merge -useContext x5
      refine (?_ : Ok qq x5 → _) ?_
      on_goal 2 =>
        unfold x5
        with_reducible apply setGroup_ok
        with_reducible assumption
      (clear_value x5; intro hx5)
      extract_lets +onlyGivenNames -underBinder -merge -useContext x6
      refine (?_ : Ok qq x6 → _) ?_
      on_goal 2 =>
        unfold x6
        with_reducible apply setFld_ok
        with_reducible assumption
      (clear_value x6; intro hx6)
      with_reducible apply ok_foldl
      · intro a7 a8 h9
        with_reducible apply endPulseIfOff_ok
        with_reducible apply setDout_ok
        with_reducible assumption
      · with_reducible assumption
  (clear_value x1; intro hx1)
  with_reducible assumption

/-- `refreshRx` keeps. -/
theorem refreshRx_ok {qq : List Instr} (c : Nat) (crcOk : Bool) (s : State) (hs : Ok qq s) :
    Ok qq (refreshRx c crcOk s) := by
  unfold refreshRx
  extract_lets +onlyGivenNames -underBinder -merge -useContext x1
  clear_value x1
  split
  · with_reducible assumption
  · extract_lets +onlyGivenNames -underBinder -merge -useContext x2
    refine (?_ : Ok qq x2 → _) ?_
    on_goal 2 =>
      unfold x2
      with_reducible apply setGroup_ok
      with_reducible assumption
    (clear_value x2; intro hx2)
    split
    · with_reducible assumption
    · split
      · with_reducible apply acceptRefresh_ok
        with_reducible assumption
      · with_reducible apply badRefresh_ok
        with_reducible assumption

/-- `silence` keeps. -/
theorem silence_ok {qq : List Instr} (c : Nat) (s : State) (hs : Ok qq s) :
    Ok qq (silence c s) := by
  unfold silence
  extract_lets +onlyGivenNames -underBinder -merge -useContext x1
  clear_value x1
  split
  · extract_lets +onlyGivenNames -underBinder -merge -useContext x2
    refine (?_ : Ok qq x2 → _) ?_
    on_goal 2 =>
      unfold x2
      with_reducible apply settleOuts_ok
      · with_reducible assumption
      · intro a3 h4
        with_reducible apply setFld_ok
        with_reducible assumption
    (clear_value x2; intro hx2)
    with_reducible apply raise_ok
    with_reducible apply stick_ok
    with_reducible assumption
  · with_reducible assumption

/-- `groupToIdle` keeps. -/
theorem groupToIdle_ok {qq : List Instr} (c : Nat) (s : State) (hs : Ok qq s) :
    Ok qq (groupToIdle c s) := by
  unfold groupToIdle
  split
  · with_reducible apply settleOuts_ok
    · with_reducible assumption
    · intro a1 h2
      with_reducible apply setFld_ok
      with_reducible assumption
  · with_reducible assumption

/-- `holmChronoStart` keeps. -/
theorem holmChronoStart_ok {qq : List Instr} (s : State) (hs : Ok qq s) :
    Ok qq (holmChronoStart s) := by
  unfold holmChronoStart
  with_reducible apply ok_foldl
  · intro a1 a2 h3
    with_reducible apply groupToIdle_ok
    with_reducible assumption
  · with_reducible assumption

/-- `fieldLoss` keeps. -/
theorem fieldLoss_ok {qq : List Instr} (c : Nat) (dv : BitVec 12) (s : State) (hs : Ok qq s) :
    Ok qq (fieldLoss c dv s) := by
  unfold fieldLoss
  split
  split
  · extract_lets +onlyGivenNames -underBinder -merge -useContext x1
    refine (?_ : Ok qq x1 → _) ?_
    on_goal 2 =>
      unfold x1
      with_reducible apply setFld_ok
      with_reducible apply setSupplyOk_ok
      with_reducible assumption
    (clear_value x1; intro hx1)
    with_reducible apply raise_ok
    with_reducible apply stick_ok
    with_reducible assumption
  · with_reducible assumption

/-- `fieldReturn` keeps. -/
theorem fieldReturn_ok {qq : List Instr} (c : Nat) (dv : BitVec 12) (s : State) (hs : Ok qq s) :
    Ok qq (fieldReturn c dv s) := by
  unfold fieldReturn
  split
  split
  · with_reducible apply setFld_ok
    with_reducible apply setSupplyOk_ok
    with_reducible assumption
  · with_reducible assumption

/-- `islandFault` keeps. -/
theorem islandFault_ok {qq : List Instr} (cause : Nat) (s : State) (hs : Ok qq s) :
    Ok qq (islandFault cause s) := by
  unfold islandFault
  split
  · extract_lets +onlyGivenNames -underBinder -merge -useContext x1
    refine (?_ : Ok qq x1 → _) ?_
    on_goal 2 =>
      unfold x1
      with_reducible apply setBit_ok
      with_reducible assumption
    (clear_value x1; intro hx1)
    extract_lets +onlyGivenNames -underBinder -merge -useContext x2
    refine (?_ : Ok qq x2 → _) ?_
    on_goal 2 =>
      unfold x2
      with_reducible apply ok_foldl
      · intro a3 a4 h5
        with_reducible apply showSwitch_ok
        with_reducible apply setDout_ok
        with_reducible assumption
      · with_reducible assumption
    (clear_value x2; intro hx2)
    with_reducible apply raise_ok
    with_reducible apply stick_ok
    with_reducible assumption
  · with_reducible assumption

/-- `demagPulse` keeps. -/
theorem demagPulse_ok {qq : List Instr} (n : Nat) (mj : Nat) (s : State) (hs : Ok qq s) :
    Ok qq (demagPulse n mj s) := by
  unfold demagPulse
  split
  · with_reducible assumption
  · extract_lets +onlyGivenNames -underBinder -merge -useContext x1
    clear_value x1
    extract_lets +onlyGivenNames -underBinder -merge -useContext x2
    refine (?_ : Ok qq x2 → _) ?_
    on_goal 2 =>
      unfold x2
      with_reducible apply setFld_ok
      with_reducible assumption
    (clear_value x2; intro hx2)
    extract_lets +onlyGivenNames -underBinder -merge -useContext x3
    clear_value x3
    extract_lets +onlyGivenNames -underBinder -merge -useContext x4
    clear_value x4
    extract_lets +onlyGivenNames -underBinder -merge -useContext x5
    refine (?_ : Ok qq x5 → _) ?_
    on_goal 2 =>
      unfold x5
      (with_reducible apply ok_mk; with_reducible assumption)
    (clear_value x5; intro hx5)
    extract_lets +onlyGivenNames -underBinder -merge -useContext x6
    clear_value x6
    extract_lets +onlyGivenNames -underBinder -merge -useContext x7
    refine (?_ : Ok qq x7 → _) ?_
    on_goal 2 =>
      unfold x7
      split
      · with_reducible apply raise_ok
        with_reducible apply stick_ok
        with_reducible assumption
      · with_reducible assumption
    (clear_value x7; intro hx7)
    split
    · with_reducible apply raise_ok
      with_reducible apply stick_ok
      with_reducible assumption
    · with_reducible assumption

/-- `latchFault` keeps. -/
theorem latchFault_ok {qq : List Instr} (n : Nat) (cause : DoCause) (s : State) (hs : Ok qq s) :
    Ok qq (latchFault n cause s) := by
  unfold latchFault
  extract_lets +onlyGivenNames -underBinder -merge -useContext x1
  refine (?_ : Ok qq x1 → _) ?_
  on_goal 2 =>
    unfold x1
    with_reducible apply setFld_ok
    with_reducible assumption
  (clear_value x1; intro hx1)
  extract_lets +onlyGivenNames -underBinder -merge -useContext x2
  refine (?_ : Ok qq x2 → _) ?_
  on_goal 2 =>
    unfold x2
    with_reducible apply setBit_ok
    with_reducible assumption
  (clear_value x2; intro hx2)
  extract_lets +onlyGivenNames -underBinder -merge -useContext x3
  clear_value x3
  extract_lets +onlyGivenNames -underBinder -merge -useContext x4
  refine (?_ : Ok qq x4 → _) ?_
  on_goal 2 =>
    unfold x4
    with_reducible apply showSwitch_ok
    with_reducible apply setDout_ok
    with_reducible assumption
  (clear_value x4; intro hx4)
  extract_lets +onlyGivenNames -underBinder -merge -useContext x5
  refine (?_ : Ok qq x5 → _) ?_
  on_goal 2 =>
    unfold x5
    split
    · with_reducible apply setBit_ok
      with_reducible assumption
    · with_reducible apply setBit_ok
      with_reducible assumption
    · with_reducible apply setBit_ok
      with_reducible assumption
    · with_reducible assumption
  (clear_value x5; intro hx5)
  extract_lets +onlyGivenNames -underBinder -merge -useContext x6
  clear_value x6
  extract_lets +onlyGivenNames -underBinder -merge -useContext x7
  clear_value x7
  extract_lets +onlyGivenNames -underBinder -merge -useContext x8
  clear_value x8
  with_reducible apply raise_ok
  with_reducible apply stick_ok
  with_reducible assumption

/-- `faultDetect` keeps. -/
theorem faultDetect_ok {qq : List Instr} (n : Nat) (cause : DoCause) (s : State) (hs : Ok qq s) :
    Ok qq (faultDetect n cause s) := by
  unfold faultDetect
  split
  · with_reducible apply latchFault_ok
    with_reducible assumption
  · with_reducible assumption

/-- `openLoad` keeps. -/
theorem openLoad_ok {qq : List Instr} (n microamps : Nat) (s : State) (hs : Ok qq s) :
    Ok qq (openLoad n microamps s) := by
  unfold openLoad
  split
  · with_reducible apply raise_ok
    with_reducible apply setDout_ok
    with_reducible assumption
  · with_reducible assumption

/-- `offStart` keeps. -/
theorem offStart_ok {qq : List Instr} (n : Nat) (s : State) (hs : Ok qq s) :
    Ok qq (offStart n s) := by
  unfold offStart
  split
  · with_reducible apply showSwitch_ok
    with_reducible apply setDout_ok
    with_reducible assumption
  · with_reducible assumption

/-- `offEnd` keeps. -/
theorem offEnd_ok {qq : List Instr} (n : Nat) (readback : Bool) (s : State) (hs : Ok qq s) :
    Ok qq (offEnd n readback s) := by
  unfold offEnd
  split
  · split
    · split
      · with_reducible apply latchFault_ok
        with_reducible assumption
      · with_reducible apply putSwitch_ok
        with_reducible apply setDout_ok
        with_reducible assumption
    · with_reducible assumption
  · with_reducible assumption

/-- `refuseHolm` keeps. -/
theorem refuseHolm_ok {qq : List Instr} (reason key : Nat) (s : State) (hs : Ok qq s) :
    Ok qq (refuseHolm reason key s) := by
  unfold refuseHolm
  with_reducible apply refuseCfg_ok
  with_reducible assumption

/-- `holmRearm` keeps. -/
theorem holmRearm_ok {qq : List Instr} (c : Nat) (s : State) (hs : Ok qq s) :
    Ok qq (holmRearm c s) := by
  unfold holmRearm
  split
  · with_reducible apply groupToIdle_ok
    with_reducible assumption
  · with_reducible apply refuseHolm_ok
    with_reducible assumption

/-- `holmClearFault` keeps. -/
theorem holmClearFault_ok {qq : List Instr} (n : Nat) (s : State) (hs : Ok qq s) :
    Ok qq (holmClearFault n s) := by
  unfold holmClearFault
  split
  · with_reducible apply settleOuts_ok
    · with_reducible assumption
    · intro a1 h2
      extract_lets +onlyGivenNames -underBinder -merge -useContext x3
      refine (?_ : Ok qq x3 → _) ?_
      on_goal 2 =>
        unfold x3
        with_reducible apply setBit_ok
        with_reducible apply setFld_ok
        with_reducible assumption
      (clear_value x3; intro hx3)
      split
      · with_reducible apply setDout_ok
        with_reducible assumption
      · with_reducible assumption
  · with_reducible apply refuseHolm_ok
    with_reducible assumption

/-- `writeConnCfgHolm` keeps. -/
theorem writeConnCfgHolm_ok {qq : List Instr} (c : Nat) (v : Word) (s : State) (hs : Ok qq s) :
    Ok qq (writeConnCfgHolm c v s) := by
  unfold writeConnCfgHolm
  extract_lets +onlyGivenNames -underBinder -merge -useContext x1
  clear_value x1
  split
  · with_reducible apply refuseHolm_ok
    with_reducible assumption
  · split
    · with_reducible apply refuseHolm_ok
      with_reducible assumption
    · with_reducible apply setReg_ok
      with_reducible assumption

/-- `writeDoCfg` keeps. -/
theorem writeDoCfg_ok {qq : List Instr} (n : Nat) (v : Word) (s : State) (hs : Ok qq s) :
    Ok qq (writeDoCfg n v s) := by
  unfold writeDoCfg
  extract_lets +onlyGivenNames -underBinder -merge -useContext x1
  clear_value x1
  split
  · with_reducible apply refuseHolm_ok
    with_reducible assumption
  · with_reducible apply settleOuts_ok
    · with_reducible assumption
    · intro a2 h3
      with_reducible apply setReg_ok
      with_reducible assumption

/-- `writeDriveSrc` keeps. -/
theorem writeDriveSrc_ok {qq : List Instr} (v : Word) (s : State) (hs : Ok qq s) :
    Ok qq (writeDriveSrc v s) := by
  unfold writeDriveSrc
  split
  · with_reducible apply setReg_ok
    with_reducible assumption
  · with_reducible apply refuseHolm_ok
    with_reducible assumption

/-- `writeHolmMap` keeps. -/
theorem writeHolmMap_ok {qq : List Instr} (i : Nat) (v : Word) (s : State) (hs : Ok qq s) :
    Ok qq (writeHolmMap i v s) := by
  unfold writeHolmMap
  extract_lets +onlyGivenNames -underBinder -merge -useContext x1
  clear_value x1
  split
  · with_reducible apply refuseHolm_ok
    with_reducible assumption
  · with_reducible apply setReg_ok
    with_reducible assumption

/-- `sendRefresh` keeps. -/
theorem sendRefresh_ok {qq : List Instr} (c : Nat) (word : Word) (s : State) (hs : Ok qq s) :
    Ok qq (sendRefresh c word s) := by
  unfold sendRefresh
  extract_lets +onlyGivenNames -underBinder -merge -useContext x1
  clear_value x1
  extract_lets +onlyGivenNames -underBinder -merge -useContext x2
  clear_value x2
  extract_lets +onlyGivenNames -underBinder -merge -useContext x3
  clear_value x3
  extract_lets +onlyGivenNames -underBinder -merge -useContext x4
  clear_value x4
  with_reducible apply setGroup_ok
  with_reducible assumption

/-- `sendSelection` keeps. -/
theorem sendSelection_ok {qq : List Instr} (s : State) (hs : Ok qq s) :
    Ok qq (sendSelection s) := by
  unfold sendSelection
  split
  · extract_lets +onlyGivenNames -underBinder -merge -useContext x1
    clear_value x1
    split
    · with_reducible apply meetSound_ok
      with_reducible assumption
    · extract_lets +onlyGivenNames -underBinder -merge -useContext x2
      clear_value x2
      (with_reducible apply ok_mk; with_reducible assumption)
  · with_reducible assumption

/-- `driveBody` keeps. -/
theorem driveBody_ok {qq : List Instr} (e : Entry) (s : State) (hs : Ok qq s) :
    Ok qq (driveBody e s) := by
  unfold driveBody
  split
  · with_reducible assumption
  · extract_lets +onlyGivenNames -underBinder -merge -useContext x1
    clear_value x1
    extract_lets +onlyGivenNames -underBinder -merge -useContext x2
    clear_value x2
    extract_lets +onlyGivenNames -underBinder -merge -useContext x3
    clear_value x3
    split
    · with_reducible assumption
    · extract_lets +onlyGivenNames -underBinder -merge -useContext x4
      clear_value x4
      extract_lets +onlyGivenNames -underBinder -merge -useContext x5
      refine (?_ : Ok qq x5 → _) ?_
      on_goal 2 =>
        unfold x5
        split
        · with_reducible apply raise_ok
          with_reducible apply stick_ok
          with_reducible apply meetSound_ok
          with_reducible assumption
        · with_reducible apply ok_foldl
          · intro a6 a7 h8
            with_reducible apply sendRefresh_ok
            with_reducible assumption
          · with_reducible assumption
      (clear_value x5; intro hx5)
      split
      · with_reducible apply sendSelection_ok
        with_reducible assumption
      · with_reducible assumption

/-- `putMapped` keeps. -/
theorem putMapped_ok {qq : List Instr} (map img : Nat) (bs : List Byte) (s : State) (hs : Ok qq s) :
    Ok qq (putMapped map img bs s) := by
  unfold putMapped
  extract_lets +onlyGivenNames -underBinder -merge -useContext x1
  clear_value x1
  split
  · with_reducible refine ok_sound ?_ (fun hm => writeBytes_wf hm _ _)
    with_reducible assumption
  · with_reducible assumption

/-- `sampleDi` keeps. -/
theorem sampleDi_ok {qq : List Instr} (img : Nat) (s : State) (hs : Ok qq s) :
    Ok qq (sampleDi img s) := by
  unfold sampleDi
  with_reducible apply putMapped_ok
  with_reducible assumption

end Sys2Proof.Machine
end

