-- ==== Sys2Proof/Laws/KeepMotion.lean ====
section
/-!
SUPPORT. What the operations of Machine/Motion.lean keep: the canonical form of registers and memories, and the queue.
-/

namespace Sys2Proof.Machine

/-- `setSensor` keeps. -/
theorem setSensor_ok {qq : List Instr} (s : State) (i : Nat) (x : Sensor) (hs : Ok qq s) :
    Ok qq (setSensor s i x) := by
  unfold setSensor
  (with_reducible apply ok_mk; with_reducible assumption)

/-- `sensorFault` keeps. -/
theorem sensorFault_ok {qq : List Instr} (i why : Nat) (s : State) (hs : Ok qq s) :
    Ok qq (sensorFault i why s) := by
  unfold sensorFault
  split
  · extract_lets +onlyGivenNames -underBinder -merge -useContext x1
    refine (?_ : Ok qq x1 → _) ?_
    on_goal 2 =>
      unfold x1
      with_reducible apply setFld_ok
      with_reducible apply setBit_ok
      with_reducible assumption
    (clear_value x1; intro hx1)
    extract_lets +onlyGivenNames -underBinder -merge -useContext x2
    refine (?_ : Ok qq x2 → _) ?_
    on_goal 2 =>
      unfold x2
      with_reducible apply setBit_ok
      with_reducible assumption
    (clear_value x2; intro hx2)
    with_reducible apply raise_ok
    with_reducible apply stick_ok
    with_reducible assumption
  · with_reducible assumption

/-- `positionStep` keeps. -/
theorem positionStep_ok {qq : List Instr} (i : Nat) (a b : Bool) (s : State) (hs : Ok qq s) :
    Ok qq (positionStep i a b s) := by
  unfold positionStep
  extract_lets +onlyGivenNames -underBinder -merge -useContext x1
  clear_value x1
  split
  · with_reducible assumption
  · extract_lets +onlyGivenNames -underBinder -merge -useContext x2
    clear_value x2
    extract_lets +onlyGivenNames -underBinder -merge -useContext x3
    clear_value x3
    extract_lets +onlyGivenNames -underBinder -merge -useContext x4
    clear_value x4
    extract_lets +onlyGivenNames -underBinder -merge -useContext x5
    clear_value x5
    extract_lets +onlyGivenNames -underBinder -merge -useContext x6
    clear_value x6
    extract_lets +onlyGivenNames -underBinder -merge -useContext x7
    refine (?_ : Ok qq x7 → _) ?_
    on_goal 2 =>
      unfold x7
      with_reducible apply setSensor_ok
      with_reducible assumption
    (clear_value x7; intro hx7)
    extract_lets +onlyGivenNames -underBinder -merge -useContext x8
    refine (?_ : Ok qq x8 → _) ?_
    on_goal 2 =>
      unfold x8
      with_reducible apply setReg_ok
      with_reducible assumption
    (clear_value x8; intro hx8)
    split
    · with_reducible apply sensorFault_ok
      with_reducible assumption
    · with_reducible assumption

/-- `quadError` keeps. -/
theorem quadError_ok {qq : List Instr} (i : Nat) (s : State) (hs : Ok qq s) :
    Ok qq (quadError i s) := by
  unfold quadError
  split
  · with_reducible assumption
  · extract_lets +onlyGivenNames -underBinder -merge -useContext x1
    clear_value x1
    extract_lets +onlyGivenNames -underBinder -merge -useContext x2
    clear_value x2
    extract_lets +onlyGivenNames -underBinder -merge -useContext x3
    refine (?_ : Ok qq x3 → _) ?_
    on_goal 2 =>
      unfold x3
      with_reducible apply setSensor_ok
      with_reducible assumption
    (clear_value x3; intro hx3)
    extract_lets +onlyGivenNames -underBinder -merge -useContext x4
    refine (?_ : Ok qq x4 → _) ?_
    on_goal 2 =>
      unfold x4
      with_reducible apply satAdd_ok
      with_reducible assumption
    (clear_value x4; intro hx4)
    split
    · with_reducible apply sensorFault_ok
      with_reducible assumption
    · with_reducible assumption

/-- `applyGates` keeps. -/
theorem applyGates_ok {qq : List Instr} (s : State) (hs : Ok qq s) :
    Ok qq (applyGates s) := by
  unfold applyGates
  extract_lets +onlyGivenNames -underBinder -merge -useContext x1
  clear_value x1
  extract_lets +onlyGivenNames -underBinder -merge -useContext x2
  clear_value x2
  with_reducible apply settleOuts_ok
  · with_reducible assumption
  · intro a3 h4
    with_reducible apply ok_foldl
    · intro a5 a6 h7
      extract_lets +onlyGivenNames -underBinder -merge -useContext x8
      clear_value x8
      split
      · with_reducible assumption
      · with_reducible apply endPulseIfOff_ok
        with_reducible apply setDout_ok
        with_reducible assumption
    · with_reducible assumption

/-- `deriveResults` keeps. -/
theorem deriveResults_ok {qq : List Instr} (s : State) (hs : Ok qq s) :
    Ok qq (deriveResults s) := by
  unfold deriveResults
  extract_lets +onlyGivenNames -underBinder -merge -useContext x1
  clear_value x1
  extract_lets +onlyGivenNames -underBinder -merge -useContext x2
  clear_value x2
  extract_lets +onlyGivenNames -underBinder -merge -useContext x3
  clear_value x3
  extract_lets +onlyGivenNames -underBinder -merge -useContext x4
  clear_value x4
  extract_lets +onlyGivenNames -underBinder -merge -useContext x5
  clear_value x5
  extract_lets +onlyGivenNames -underBinder -merge -useContext x6
  clear_value x6
  extract_lets +onlyGivenNames -underBinder -merge -useContext x7
  refine (?_ : Ok qq x7 → _) ?_
  on_goal 2 =>
    unfold x7
    with_reducible apply setReg_ok
    with_reducible assumption
  (clear_value x7; intro hx7)
  extract_lets +onlyGivenNames -underBinder -merge -useContext x8
  refine (?_ : Ok qq x8 → _) ?_
  on_goal 2 =>
    unfold x8
    with_reducible apply setReg_ok
    with_reducible assumption
  (clear_value x8; intro hx8)
  extract_lets +onlyGivenNames -underBinder -merge -useContext x9
  refine (?_ : Ok qq x9 → _) ?_
  on_goal 2 =>
    unfold x9
    with_reducible apply setBit_ok
    with_reducible apply setBit_ok
    with_reducible assumption
  (clear_value x9; intro hx9)
  extract_lets +onlyGivenNames -underBinder -merge -useContext x10
  refine (?_ : Ok qq x10 → _) ?_
  on_goal 2 =>
    unfold x10
    with_reducible apply setBit_ok
    with_reducible assumption
  (clear_value x10; intro hx10)
  extract_lets +onlyGivenNames -underBinder -merge -useContext x11
  refine (?_ : Ok qq x11 → _) ?_
  on_goal 2 =>
    unfold x11
    with_reducible apply setFld_ok
    with_reducible assumption
  (clear_value x11; intro hx11)
  extract_lets +onlyGivenNames -underBinder -merge -useContext x12
  clear_value x12
  extract_lets +onlyGivenNames -underBinder -merge -useContext x13
  clear_value x13
  extract_lets +onlyGivenNames -underBinder -merge -useContext x14
  refine (?_ : Ok qq x14 → _) ?_
  on_goal 2 =>
    unfold x14
    (with_reducible apply ok_mk; with_reducible assumption)
  (clear_value x14; intro hx14)
  extract_lets +onlyGivenNames -underBinder -merge -useContext x15
  refine (?_ : Ok qq x15 → _) ?_
  on_goal 2 =>
    unfold x15
    split
    · with_reducible assumption
    · with_reducible apply raise_ok
      with_reducible assumption
  (clear_value x15; intro hx15)
  with_reducible apply applyGates_ok
  with_reducible assumption

/-- `takeSelection` keeps. -/
theorem takeSelection_ok {qq : List Instr} (s : State) (hs : Ok qq s) :
    Ok qq (takeSelection s) := by
  unfold takeSelection
  extract_lets +onlyGivenNames -underBinder -merge -useContext x1
  clear_value x1
  extract_lets +onlyGivenNames -underBinder -merge -useContext x2
  refine (?_ : Ok qq x2 → _) ?_
  on_goal 2 =>
    unfold x2
    with_reducible apply setBit_ok
    with_reducible apply setFld_ok
    with_reducible assumption
  (clear_value x2; intro hx2)
  with_reducible apply setReg_ok
  with_reducible assumption

/-- `motionTick` keeps. -/
theorem motionTick_ok {qq : List Instr} (s : State) (hs : Ok qq s) :
    Ok qq (motionTick s) := by
  unfold motionTick
  extract_lets +onlyGivenNames -underBinder -merge -useContext x1
  clear_value x1
  split
  · with_reducible assumption
  · extract_lets +onlyGivenNames -underBinder -merge -useContext x2
    clear_value x2
    extract_lets +onlyGivenNames -underBinder -merge -useContext x3
    refine (?_ : Ok qq x3 → _) ?_
    on_goal 2 =>
      unfold x3
      (with_reducible apply ok_mk; with_reducible assumption)
    (clear_value x3; intro hx3)
    split
    · extract_lets +onlyGivenNames -underBinder -merge -useContext x4
      clear_value x4
      extract_lets +onlyGivenNames -underBinder -merge -useContext x5
      refine (?_ : Ok qq x5 → _) ?_
      on_goal 2 =>
        unfold x5
        with_reducible apply takeSelection_ok
        with_reducible assumption
      (clear_value x5; intro hx5)
      extract_lets +onlyGivenNames -underBinder -merge -useContext x6
      refine (?_ : Ok qq x6 → _) ?_
      on_goal 2 =>
        unfold x6
        with_reducible apply ok_foldl
        · intro a10 a11 h12
          extract_lets +onlyGivenNames -underBinder -merge -useContext x13
          refine (?_ : Ok qq x13 → _) ?_
          on_goal 2 =>
            unfold x13
            with_reducible apply setReg_ok
            with_reducible assumption
          (clear_value x13; intro hx13)
          with_reducible apply setBit_ok
          with_reducible assumption
        · with_reducible assumption
      (clear_value x6; intro hx6)
      extract_lets +onlyGivenNames -underBinder -merge -useContext x7
      refine (?_ : Ok qq x7 → _) ?_
      on_goal 2 =>
        unfold x7
        (with_reducible apply ok_mk; with_reducible assumption)
      (clear_value x7; intro hx7)
      extract_lets +onlyGivenNames -underBinder -merge -useContext x8
      clear_value x8
      extract_lets +onlyGivenNames -underBinder -merge -useContext x9
      refine (?_ : Ok qq x9 → _) ?_
      on_goal 2 =>
        unfold x9
        (with_reducible apply ok_mk; with_reducible assumption)
      (clear_value x9; intro hx9)
      with_reducible apply deriveResults_ok
      with_reducible assumption
    · with_reducible apply deriveResults_ok
      with_reducible assumption

/-- `plausFault` keeps. -/
theorem plausFault_ok {qq : List Instr} (a b : Nat) (s : State) (hs : Ok qq s) :
    Ok qq (plausFault a b s) := by
  unfold plausFault
  extract_lets +onlyGivenNames -underBinder -merge -useContext x1
  clear_value x1
  extract_lets +onlyGivenNames -underBinder -merge -useContext x2
  clear_value x2
  extract_lets +onlyGivenNames -underBinder -merge -useContext x3
  clear_value x3
  split
  · extract_lets +onlyGivenNames -underBinder -merge -useContext x4
    clear_value x4
    extract_lets +onlyGivenNames -underBinder -merge -useContext x5
    refine (?_ : Ok qq x5 → _) ?_
    on_goal 2 =>
      unfold x5
      with_reducible apply stick_ok
      with_reducible apply setBit_ok
      with_reducible assumption
    (clear_value x5; intro hx5)
    with_reducible apply deriveResults_ok
    with_reducible apply raise_ok
    with_reducible assumption
  · with_reducible assumption

/-- `slsViolation` keeps. -/
theorem slsViolation_ok {qq : List Instr} (s : State) (hs : Ok qq s) :
    Ok qq (slsViolation s) := by
  unfold slsViolation
  split
  · split
    · extract_lets +onlyGivenNames -underBinder -merge -useContext x1
      refine (?_ : Ok qq x1 → _) ?_
      on_goal 2 =>
        unfold x1
        with_reducible apply stick_ok
        with_reducible apply setBit_ok
        with_reducible assumption
      (clear_value x1; intro hx1)
      with_reducible apply applyGates_ok
      with_reducible apply raise_ok
      with_reducible assumption
    · with_reducible assumption
  · with_reducible assumption

/-- `selectionRx` keeps. -/
theorem selectionRx_ok {qq : List Instr} (crcOk : Bool) (s : State) (hs : Ok qq s) :
    Ok qq (selectionRx crcOk s) := by
  unfold selectionRx
  split
  · with_reducible assumption
  · extract_lets +onlyGivenNames -underBinder -merge -useContext x1
    clear_value x1
    extract_lets +onlyGivenNames -underBinder -merge -useContext x2
    refine (?_ : Ok qq x2 → _) ?_
    on_goal 2 =>
      unfold x2
      (with_reducible apply ok_mk; with_reducible assumption)
    (clear_value x2; intro hx2)
    split
    · (with_reducible apply ok_mk; with_reducible assumption)
    · with_reducible assumption

/-- `selDefault` keeps. -/
theorem selDefault_ok {qq : List Instr} (s : State) (hs : Ok qq s) :
    Ok qq (selDefault s) := by
  unfold selDefault
  extract_lets +onlyGivenNames -underBinder -merge -useContext x1
  clear_value x1
  extract_lets +onlyGivenNames -underBinder -merge -useContext x2
  clear_value x2
  split
  · extract_lets +onlyGivenNames -underBinder -merge -useContext x3
    clear_value x3
    extract_lets +onlyGivenNames -underBinder -merge -useContext x4
    refine (?_ : Ok qq x4 → _) ?_
    on_goal 2 =>
      unfold x4
      with_reducible apply takeSelection_ok
      (with_reducible apply ok_mk; with_reducible assumption)
    (clear_value x4; intro hx4)
    with_reducible apply raise_ok
    with_reducible apply stick_ok
    with_reducible assumption
  · with_reducible assumption

/-- `clearLatches` keeps. -/
theorem clearLatches_ok {qq : List Instr} (s : State) (hs : Ok qq s) :
    Ok qq (clearLatches s) := by
  unfold clearLatches
  with_reducible apply ok_foldl
  · intro a1 a2 h3
    extract_lets +onlyGivenNames -underBinder -merge -useContext x4
    refine (?_ : Ok qq x4 → _) ?_
    on_goal 2 =>
      unfold x4
      with_reducible apply setFld_ok
      with_reducible apply setBit_ok
      with_reducible assumption
    (clear_value x4; intro hx4)
    with_reducible apply setSensor_ok
    with_reducible apply setBit_ok
    with_reducible assumption
  · with_reducible apply setBit_ok
    with_reducible apply setBit_ok
    with_reducible assumption

/-- `resetJudge` keeps. -/
theorem resetJudge_ok {qq : List Instr} (s : State) (hs : Ok qq s) :
    Ok qq (resetJudge s) := by
  unfold resetJudge
  extract_lets +onlyGivenNames -underBinder -merge -useContext x1
  clear_value x1
  split
  · split
    · extract_lets +onlyGivenNames -underBinder -merge -useContext x2
      clear_value x2
      extract_lets +onlyGivenNames -underBinder -merge -useContext x3
      refine (?_ : Ok qq x3 → _) ?_
      on_goal 2 =>
        unfold x3
        (with_reducible apply ok_mk; with_reducible assumption)
      (clear_value x3; intro hx3)
      split
      · with_reducible apply resetRefused_ok
        with_reducible assumption
      · extract_lets +onlyGivenNames -underBinder -merge -useContext x4
        refine (?_ : Ok qq x4 → _) ?_
        on_goal 2 =>
          unfold x4
          split
          · with_reducible apply clearLatches_ok
            with_reducible assumption
          · with_reducible assumption
        (clear_value x4; intro hx4)
        extract_lets +onlyGivenNames -underBinder -merge -useContext x5
        clear_value x5
        extract_lets +onlyGivenNames -underBinder -merge -useContext x6
        refine (?_ : Ok qq x6 → _) ?_
        on_goal 2 =>
          unfold x6
          (with_reducible apply ok_mk; with_reducible assumption)
        (clear_value x6; intro hx6)
        with_reducible apply deriveResults_ok
        with_reducible apply raise_ok
        with_reducible assumption
    · with_reducible assumption
  · with_reducible assumption

/-- `resetJammed` keeps. -/
theorem resetJammed_ok {qq : List Instr} (s : State) (hs : Ok qq s) :
    Ok qq (resetJammed s) := by
  unfold resetJammed
  split
  · extract_lets +onlyGivenNames -underBinder -merge -useContext x1
    clear_value x1
    extract_lets +onlyGivenNames -underBinder -merge -useContext x2
    clear_value x2
    split
    · extract_lets +onlyGivenNames -underBinder -merge -useContext x3
      clear_value x3
      extract_lets +onlyGivenNames -underBinder -merge -useContext x4
      refine (?_ : Ok qq x4 → _) ?_
      on_goal 2 =>
        unfold x4
        with_reducible apply stick_ok
        with_reducible apply setBit_ok
        with_reducible assumption
      (clear_value x4; intro hx4)
      with_reducible apply raise_ok
      with_reducible assumption
    · with_reducible assumption
  · with_reducible assumption

/-- `refuseMotion` keeps. -/
theorem refuseMotion_ok {qq : List Instr} (reason key : Nat) (s : State) (hs : Ok qq s) :
    Ok qq (refuseMotion reason key s) := by
  unfold refuseMotion
  with_reducible apply refuseCfg_ok
  with_reducible assumption

/-- `motionStart` keeps. -/
theorem motionStart_ok {qq : List Instr} (s : State) (hs : Ok qq s) :
    Ok qq (motionStart s) := by
  unfold motionStart
  extract_lets +onlyGivenNames -underBinder -merge -useContext x1
  clear_value x1
  extract_lets +onlyGivenNames -underBinder -merge -useContext x2
  clear_value x2
  with_reducible apply takeSelection_ok
  (with_reducible apply ok_mk; with_reducible assumption)

/-- `writeMotionCfg` keeps. -/
theorem writeMotionCfg_ok {qq : List Instr} (v : Word) (s : State) (hs : Ok qq s) :
    Ok qq (writeMotionCfg v s) := by
  unfold writeMotionCfg
  extract_lets +onlyGivenNames -underBinder -merge -useContext x1
  clear_value x1
  extract_lets +onlyGivenNames -underBinder -merge -useContext x2
  clear_value x2
  split
  · split
    · split
      · with_reducible assumption
      · with_reducible apply refuseMotion_ok
        with_reducible assumption
    · split
      · with_reducible apply setReg_ok
        with_reducible assumption
      · with_reducible apply refuseMotion_ok
        with_reducible assumption
  · split
    · split
      · with_reducible apply refuseMotion_ok
        with_reducible assumption
      · with_reducible apply motionStart_ok
        with_reducible apply setReg_ok
        with_reducible assumption
    · with_reducible apply setReg_ok
      with_reducible assumption

/-- `writeMotion` keeps. -/
theorem writeMotion_ok {qq : List Instr} (k : Nat) (v : Word) (s : State) (hs : Ok qq s) :
    Ok qq (writeMotion k v s) := by
  unfold writeMotion
  split
  · split
    · with_reducible assumption
    · with_reducible apply refuseMotion_ok
      with_reducible assumption
  · with_reducible apply setReg_ok
    with_reducible assumption

/-- `sampleSpd` keeps. -/
theorem sampleSpd_ok {qq : List Instr} (img : Nat) (s : State) (hs : Ok qq s) :
    Ok qq (sampleSpd img s) := by
  unfold sampleSpd
  with_reducible apply putMapped_ok
  with_reducible assumption

/-- `sampleMotion` keeps. -/
theorem sampleMotion_ok {qq : List Instr} (img : Nat) (s : State) (hs : Ok qq s) :
    Ok qq (sampleMotion img s) := by
  unfold sampleMotion
  split
  · extract_lets +onlyGivenNames -underBinder -merge -useContext x1
    clear_value x1
    extract_lets +onlyGivenNames -underBinder -merge -useContext x2
    clear_value x2
    extract_lets +onlyGivenNames -underBinder -merge -useContext x3
    refine (?_ : Ok qq x3 → _) ?_
    on_goal 2 =>
      unfold x3
      split
      · (with_reducible apply ok_mk; with_reducible assumption)
      · with_reducible assumption
    (clear_value x3; intro hx3)
    with_reducible apply putMapped_ok
    (with_reducible apply ok_mk; with_reducible assumption)
  · with_reducible assumption

/-- `holmPowerUp` keeps. -/
theorem holmPowerUp_ok {qq : List Instr} (di : BitVec 48) (spd : BitVec 8) (s : State) (hs : Ok qq s) :
    Ok qq (holmPowerUp di spd s) := by
  unfold holmPowerUp
  extract_lets +onlyGivenNames -underBinder -merge -useContext x1
  clear_value x1
  extract_lets +onlyGivenNames -underBinder -merge -useContext x2
  refine (?_ : Ok qq x2 → _) ?_
  on_goal 2 =>
    unfold x2
    (with_reducible apply ok_mk; with_reducible assumption)
  (clear_value x2; intro hx2)
  extract_lets +onlyGivenNames -underBinder -merge -useContext x3
  refine (?_ : Ok qq x3 → _) ?_
  on_goal 2 =>
    unfold x3
    with_reducible apply ok_foldl
    · intro a30 a31 h32
      split
      · with_reducible apply setDin_ok
        with_reducible assumption
      · with_reducible assumption
    · with_reducible assumption
  (clear_value x3; intro hx3)
  extract_lets +onlyGivenNames -underBinder -merge -useContext x4
  refine (?_ : Ok qq x4 → _) ?_
  on_goal 2 =>
    unfold x4
    with_reducible apply setReg_ok
    with_reducible assumption
  (clear_value x4; intro hx4)
  extract_lets +onlyGivenNames -underBinder -merge -useContext x5
  refine (?_ : Ok qq x5 → _) ?_
  on_goal 2 =>
    unfold x5
    with_reducible apply setReg_ok
    with_reducible apply setReg_ok
    with_reducible assumption
  (clear_value x5; intro hx5)
  extract_lets +onlyGivenNames -underBinder -merge -useContext x6
  refine (?_ : Ok qq x6 → _) ?_
  on_goal 2 =>
    unfold x6
    with_reducible apply setReg_ok
    with_reducible apply setReg_ok
    with_reducible assumption
  (clear_value x6; intro hx6)
  extract_lets +onlyGivenNames -underBinder -merge -useContext x7
  refine (?_ : Ok qq x7 → _) ?_
  on_goal 2 =>
    unfold x7
    with_reducible apply ok_foldl
    · intro a27 a28 h29
      with_reducible apply setReg_ok
      with_reducible assumption
    · with_reducible assumption
  (clear_value x7; intro hx7)
  extract_lets +onlyGivenNames -underBinder -merge -useContext x8
  refine (?_ : Ok qq x8 → _) ?_
  on_goal 2 =>
    unfold x8
    with_reducible apply ok_foldl
    · intro a24 a25 h26
      with_reducible apply setReg_ok
      with_reducible assumption
    · with_reducible assumption
  (clear_value x8; intro hx8)
  extract_lets +onlyGivenNames -underBinder -merge -useContext x9
  clear_value x9
  extract_lets +onlyGivenNames -underBinder -merge -useContext x10
  refine (?_ : Ok qq x10 → _) ?_
  on_goal 2 =>
    unfold x10
    (with_reducible apply ok_mk; with_reducible assumption)
  (clear_value x10; intro hx10)
  extract_lets +onlyGivenNames -underBinder -merge -useContext x11
  refine (?_ : Ok qq x11 → _) ?_
  on_goal 2 =>
    unfold x11
    with_reducible apply ok_foldl
    · intro a18 a19 h20
      extract_lets +onlyGivenNames -underBinder -merge -useContext x21
      clear_value x21
      extract_lets +onlyGivenNames -underBinder -merge -useContext x22
      refine (?_ : Ok qq x22 → _) ?_
      on_goal 2 =>
        unfold x22
        with_reducible apply setSensor_ok
        with_reducible assumption
      (clear_value x22; intro hx22)
      extract_lets +onlyGivenNames -underBinder -merge -useContext x23
      refine (?_ : Ok qq x23 → _) ?_
      on_goal 2 =>
        unfold x23
        with_reducible apply setReg_ok
        with_reducible apply setReg_ok
        with_reducible assumption
      (clear_value x23; intro hx23)
      with_reducible apply setReg_ok
      with_reducible assumption
    · with_reducible assumption
  (clear_value x11; intro hx11)
  extract_lets +onlyGivenNames -underBinder -merge -useContext x12
  refine (?_ : Ok qq x12 → _) ?_
  on_goal 2 =>
    unfold x12
    with_reducible apply setReg_ok
    with_reducible assumption
  (clear_value x12; intro hx12)
  extract_lets +onlyGivenNames -underBinder -merge -useContext x13
  refine (?_ : Ok qq x13 → _) ?_
  on_goal 2 =>
    unfold x13
    with_reducible apply setReg_ok
    with_reducible apply setReg_ok
    with_reducible assumption
  (clear_value x13; intro hx13)
  extract_lets +onlyGivenNames -underBinder -merge -useContext x14
  refine (?_ : Ok qq x14 → _) ?_
  on_goal 2 =>
    unfold x14
    with_reducible apply ok_foldl
    · intro a15 a16 h17
      with_reducible apply showSwitch_ok
      with_reducible assumption
    · with_reducible assumption
  (clear_value x14; intro hx14)
  split
  · with_reducible apply motionStart_ok
    with_reducible assumption
  · with_reducible assumption

/-- `holmPowerDown` keeps. -/
theorem holmPowerDown_ok {qq : List Instr} (s : State) (hs : Ok qq s) :
    Ok qq (holmPowerDown s) := by
  unfold holmPowerDown
  extract_lets +onlyGivenNames -underBinder -merge -useContext x1
  clear_value x1
  extract_lets +onlyGivenNames -underBinder -merge -useContext x2
  refine (?_ : Ok qq x2 → _) ?_
  on_goal 2 =>
    unfold x2
    (with_reducible apply ok_mk; with_reducible assumption)
  (clear_value x2; intro hx2)
  extract_lets +onlyGivenNames -underBinder -merge -useContext x3
  refine (?_ : Ok qq x3 → _) ?_
  on_goal 2 =>
    unfold x3
    with_reducible apply setReg_ok
    with_reducible apply setReg_ok
    with_reducible assumption
  (clear_value x3; intro hx3)
  extract_lets +onlyGivenNames -underBinder -merge -useContext x4
  refine (?_ : Ok qq x4 → _) ?_
  on_goal 2 =>
    unfold x4
    with_reducible apply ok_foldl
    · intro a8 a9 h10
      with_reducible apply setReg_ok
      with_reducible assumption
    · with_reducible assumption
  (clear_value x4; intro hx4)
  with_reducible apply ok_foldl
  · intro a5 a6 h7
    with_reducible apply setReg_ok
    with_reducible assumption
  · with_reducible assumption

end Sys2Proof.Machine
end

