-- ==== Sys2Proof/Laws/KeepTransit.lean ====
section
/-!
SUPPORT. What the operations of Machine/Transit.lean keep: the canonical form of registers and memories, and the queue.
-/

namespace Sys2Proof.Machine

/-- `txDiscard` keeps. -/
theorem txDiscard_ok {qq : List Instr} (p : Nat) (s : State) (hs : Ok qq s) :
    Ok qq (txDiscard p s) := by
  unfold txDiscard
  with_reducible apply satAdd_ok
  with_reducible assumption

/-- `toEgress` keeps. -/
theorem toEgress_ok {qq : List Instr} (p pcp : Nat) (f : EthFrame) (s : State) (hs : Ok qq s) :
    Ok qq (toEgress p pcp f s) := by
  unfold toEgress
  split
  · (with_reducible apply ok_mk; with_reducible assumption)
  · with_reducible apply txDiscard_ok
    with_reducible assumption

/-- `sendPtp` keeps. -/
theorem sendPtp_ok {qq : List Instr} (p pcp : Nat) (m : PtpMsg) (s : State) (hs : Ok qq s) :
    Ok qq (sendPtp p pcp m s) := by
  unfold sendPtp
  split
  · with_reducible apply toEgress_ok
    with_reducible assumption
  · with_reducible apply emitOut_ok
    with_reducible assumption

/-- `rebase` keeps. -/
theorem rebase_ok {qq : List Instr} (newRate step : Int) (s : State) (hs : Ok qq s) :
    Ok qq (rebase newRate step s) := by
  unfold rebase
  extract_lets +onlyGivenNames -underBinder -merge -useContext x1
  clear_value x1
  extract_lets +onlyGivenNames -underBinder -merge -useContext x2
  clear_value x2
  extract_lets +onlyGivenNames -underBinder -merge -useContext x3
  refine (?_ : Ok qq x3 → _) ?_
  on_goal 2 =>
    unfold x3
    with_reducible apply set64_ok
    with_reducible assumption
  (clear_value x3; intro hx3)
  extract_lets +onlyGivenNames -underBinder -merge -useContext x4
  refine (?_ : Ok qq x4 → _) ?_
  on_goal 2 =>
    unfold x4
    with_reducible apply set64_ok
    with_reducible assumption
  (clear_value x4; intro hx4)
  extract_lets +onlyGivenNames -underBinder -merge -useContext x5
  refine (?_ : Ok qq x5 → _) ?_
  on_goal 2 =>
    unfold x5
    with_reducible apply setReg_ok
    with_reducible assumption
  (clear_value x5; intro hx5)
  with_reducible apply setReg_ok
  with_reducible assumption

/-- `setSync` keeps. -/
theorem setSync_ok {qq : List Instr} (n : Nat) (s : State) (hs : Ok qq s) :
    Ok qq (setSync n s) := by
  unfold setSync
  with_reducible apply setFld_ok
  (with_reducible apply ok_mk; with_reducible assumption)

/-- `servo` keeps. -/
theorem servo_ok {qq : List Instr} (port : Nat) (o : Int) (s : State) (hs : Ok qq s) :
    Ok qq (servo port o s) := by
  unfold servo
  extract_lets +onlyGivenNames -underBinder -merge -useContext x1
  clear_value x1
  extract_lets +onlyGivenNames -underBinder -merge -useContext x2
  clear_value x2
  extract_lets +onlyGivenNames -underBinder -merge -useContext x3
  clear_value x3
  extract_lets +onlyGivenNames -underBinder -merge -useContext x4
  clear_value x4
  extract_lets +onlyGivenNames -underBinder -merge -useContext x5
  clear_value x5
  extract_lets +onlyGivenNames -underBinder -merge -useContext x6
  clear_value x6
  extract_lets +onlyGivenNames -underBinder -merge -useContext x7
  refine (?_ : Ok qq x7 → _) ?_
  on_goal 2 =>
    unfold x7
    with_reducible apply rebase_ok
    (with_reducible apply ok_mk; with_reducible assumption)
  (clear_value x7; intro hx7)
  extract_lets +onlyGivenNames -underBinder -merge -useContext x8
  clear_value x8
  extract_lets +onlyGivenNames -underBinder -merge -useContext x9
  clear_value x9
  extract_lets +onlyGivenNames -underBinder -merge -useContext x10
  clear_value x10
  extract_lets +onlyGivenNames -underBinder -merge -useContext x11
  refine (?_ : Ok qq x11 → _) ?_
  on_goal 2 =>
    unfold x11
    (with_reducible apply ok_mk; with_reducible assumption)
  (clear_value x11; intro hx11)
  extract_lets +onlyGivenNames -underBinder -merge -useContext x12
  refine (?_ : Ok qq x12 → _) ?_
  on_goal 2 =>
    unfold x12
    split
    · with_reducible apply raise_ok
      with_reducible assumption
    · with_reducible assumption
  (clear_value x12; intro hx12)
  extract_lets +onlyGivenNames -underBinder -merge -useContext x13
  clear_value x13
  split
  · extract_lets +onlyGivenNames -underBinder -merge -useContext x14
    refine (?_ : Ok qq x14 → _) ?_
    on_goal 2 =>
      unfold x14
      with_reducible apply stick_ok
      with_reducible assumption
    (clear_value x14; intro hx14)
    split
    · with_reducible assumption
    · with_reducible apply raise_ok
      (with_reducible apply ok_mk; with_reducible assumption)
  · with_reducible assumption

/-- `markValid` keeps. -/
theorem markValid_ok {qq : List Instr} (s : State) (hs : Ok qq s) :
    Ok qq (markValid s) := by
  unfold markValid
  with_reducible apply setBit_ok
  with_reducible apply setBit_ok
  with_reducible assumption

/-- `stepTime` keeps. -/
theorem stepTime_ok {qq : List Instr} (port : Nat) (o : Int) (s : State) (hs : Ok qq s) :
    Ok qq (stepTime port o s) := by
  unfold stepTime
  extract_lets +onlyGivenNames -underBinder -merge -useContext x1
  refine (?_ : Ok qq x1 → _) ?_
  on_goal 2 =>
    unfold x1
    with_reducible apply rebase_ok
    with_reducible assumption
  (clear_value x1; intro hx1)
  extract_lets +onlyGivenNames -underBinder -merge -useContext x2
  clear_value x2
  extract_lets +onlyGivenNames -underBinder -merge -useContext x3
  refine (?_ : Ok qq x3 → _) ?_
  on_goal 2 =>
    unfold x3
    (with_reducible apply ok_mk; with_reducible assumption)
  (clear_value x3; intro hx3)
  extract_lets +onlyGivenNames -underBinder -merge -useContext x4
  refine (?_ : Ok qq x4 → _) ?_
  on_goal 2 =>
    unfold x4
    with_reducible apply markValid_ok
    with_reducible apply setBit_ok
    with_reducible assumption
  (clear_value x4; intro hx4)
  extract_lets +onlyGivenNames -underBinder -merge -useContext x5
  refine (?_ : Ok qq x5 → _) ?_
  on_goal 2 =>
    unfold x5
    with_reducible apply set64_ok
    with_reducible assumption
  (clear_value x5; intro hx5)
  with_reducible apply raise_ok
  with_reducible assumption

/-- `syncTransition` keeps. -/
theorem syncTransition_ok {qq : List Instr} (port : Nat) (o : Int) (s : State) (hs : Ok qq s) :
    Ok qq (syncTransition port o s) := by
  unfold syncTransition
  extract_lets +onlyGivenNames -underBinder -merge -useContext x1
  clear_value x1
  split
  · with_reducible apply setSync_ok
    with_reducible assumption
  · with_reducible apply setSync_ok
    with_reducible assumption
  · extract_lets +onlyGivenNames -underBinder -merge -useContext x2
    clear_value x2
    extract_lets +onlyGivenNames -underBinder -merge -useContext x3
    clear_value x3
    extract_lets +onlyGivenNames -underBinder -merge -useContext x4
    refine (?_ : Ok qq x4 → _) ?_
    on_goal 2 =>
      unfold x4
      (with_reducible apply ok_mk; with_reducible assumption)
    (clear_value x4; intro hx4)
    split
    · extract_lets +onlyGivenNames -underBinder -merge -useContext x5
      refine (?_ : Ok qq x5 → _) ?_
      on_goal 2 =>
        unfold x5
        with_reducible apply setSync_ok
        with_reducible assumption
      (clear_value x5; intro hx5)
      extract_lets +onlyGivenNames -underBinder -merge -useContext x6
      refine (?_ : Ok qq x6 → _) ?_
      on_goal 2 =>
        unfold x6
        split
        · with_reducible assumption
        · with_reducible apply markValid_ok
          with_reducible assumption
      (clear_value x6; intro hx6)
      with_reducible apply raise_ok
      with_reducible assumption
    · with_reducible assumption
  · extract_lets +onlyGivenNames -underBinder -merge -useContext x7
    clear_value x7
    extract_lets +onlyGivenNames -underBinder -merge -useContext x8
    clear_value x8
    extract_lets +onlyGivenNames -underBinder -merge -useContext x9
    refine (?_ : Ok qq x9 → _) ?_
    on_goal 2 =>
      unfold x9
      (with_reducible apply ok_mk; with_reducible assumption)
    (clear_value x9; intro hx9)
    split
    · with_reducible apply raise_ok
      with_reducible apply setSync_ok
      with_reducible assumption
    · with_reducible assumption

/-- `measure` keeps. -/
theorem measure_ok {qq : List Instr} (port : Nat) (o : Int) (s : State) (hs : Ok qq s) :
    Ok qq (measure port o s) := by
  unfold measure
  extract_lets +onlyGivenNames -underBinder -merge -useContext x1
  clear_value x1
  extract_lets +onlyGivenNames -underBinder -merge -useContext x2
  refine (?_ : Ok qq x2 → _) ?_
  on_goal 2 =>
    unfold x2
    with_reducible apply setReg_ok
    with_reducible assumption
  (clear_value x2; intro hx2)
  split
  · with_reducible assumption
  · extract_lets +onlyGivenNames -underBinder -merge -useContext x3
    clear_value x3
    extract_lets +onlyGivenNames -underBinder -merge -useContext x4
    refine (?_ : Ok qq x4 → _) ?_
    on_goal 2 =>
      unfold x4
      (with_reducible apply ok_mk; with_reducible assumption)
    (clear_value x4; intro hx4)
    extract_lets +onlyGivenNames -underBinder -merge -useContext x5
    refine (?_ : Ok qq x5 → _) ?_
    on_goal 2 =>
      unfold x5
      with_reducible apply syncTransition_ok
      with_reducible assumption
    (clear_value x5; intro hx5)
    split
    · with_reducible apply stepTime_ok
      with_reducible assumption
    · with_reducible apply servo_ok
      with_reducible assumption

/-- `syncLost` keeps. -/
theorem syncLost_ok {qq : List Instr} (s : State) (hs : Ok qq s) :
    Ok qq (syncLost s) := by
  unfold syncLost
  extract_lets +onlyGivenNames -underBinder -merge -useContext x1
  clear_value x1
  split
  · extract_lets +onlyGivenNames -underBinder -merge -useContext x2
    refine (?_ : Ok qq x2 → _) ?_
    on_goal 2 =>
      unfold x2
      with_reducible apply stick_ok
      with_reducible apply setSync_ok
      with_reducible assumption
    (clear_value x2; intro hx2)
    with_reducible apply raise_ok
    with_reducible assumption
  · with_reducible assumption

/-- `startTransit` keeps. -/
theorem startTransit_ok {qq : List Instr} (s : State) (hs : Ok qq s) :
    Ok qq (startTransit s) := by
  unfold startTransit
  extract_lets +onlyGivenNames -underBinder -merge -useContext x1
  refine (?_ : Ok qq x1 → _) ?_
  on_goal 2 =>
    unfold x1
    with_reducible apply setBit_ok
    with_reducible apply setSync_ok
    with_reducible assumption
  (clear_value x1; intro hx1)
  (with_reducible apply ok_mk; with_reducible assumption)

/-- `setPtpPort` keeps. -/
theorem setPtpPort_ok {qq : List Instr} (s : State) (p : Nat) (x : PtpPort) (hs : Ok qq s) :
    Ok qq (setPtpPort s p x) := by
  unfold setPtpPort
  (with_reducible apply ok_mk; with_reducible assumption)

/-- `setPortState` keeps. -/
theorem setPortState_ok {qq : List Instr} (s : State) (cp n : Nat) (hs : Ok qq s) :
    Ok qq (setPortState s cp n) := by
  unfold setPortState
  split
  · with_reducible apply setFld_ok
    with_reducible assumption
  · with_reducible apply setFld_ok
    with_reducible assumption

/-- `decidePort` keeps. -/
theorem decidePort_ok {qq : List Instr} (best : Option (PortId × DataSet)) (cp : Nat) (s : State) (hs : Ok qq s) :
    Ok qq (decidePort best cp s) := by
  unfold decidePort
  split
  · with_reducible apply setPortState_ok
    with_reducible assumption
  · extract_lets +onlyGivenNames -underBinder -merge -useContext x1
    clear_value x1
    extract_lets +onlyGivenNames -underBinder -merge -useContext x2
    clear_value x2
    split
    · with_reducible apply setPortState_ok
      with_reducible assumption
    · split
      · with_reducible apply setPortState_ok
        with_reducible assumption
      · split
        · with_reducible apply setPortState_ok
          with_reducible assumption
        · split
          · with_reducible apply setPortState_ok
            with_reducible assumption
          · with_reducible apply setPortState_ok
            with_reducible assumption

/-- `showReference` keeps. -/
theorem showReference_ok {qq : List Instr} (s : State) (hs : Ok qq s) :
    Ok qq (showReference s) := by
  unfold showReference
  extract_lets +onlyGivenNames -underBinder -merge -useContext x1
  clear_value x1
  extract_lets +onlyGivenNames -underBinder -merge -useContext x2
  clear_value x2
  with_reducible apply setFld_ok
  with_reducible apply setFld_ok
  with_reducible assumption

/-- `bestMaster` keeps. -/
theorem bestMaster_ok {qq : List Instr} (s : State) (hs : Ok qq s) :
    Ok qq (bestMaster s) := by
  unfold bestMaster
  extract_lets +onlyGivenNames -underBinder -merge -useContext x1
  clear_value x1
  extract_lets +onlyGivenNames -underBinder -merge -useContext x2
  clear_value x2
  extract_lets +onlyGivenNames -underBinder -merge -useContext x3
  refine (?_ : Ok qq x3 → _) ?_
  on_goal 2 =>
    unfold x3
    with_reducible apply showReference_ok
    with_reducible apply decidePort_ok
    with_reducible apply decidePort_ok
    with_reducible assumption
  (clear_value x3; intro hx3)
  extract_lets +onlyGivenNames -underBinder -merge -useContext x4
  clear_value x4
  extract_lets +onlyGivenNames -underBinder -merge -useContext x5
  clear_value x5
  split
  · with_reducible assumption
  · extract_lets +onlyGivenNames -underBinder -merge -useContext x6
    clear_value x6
    extract_lets +onlyGivenNames -underBinder -merge -useContext x7
    refine (?_ : Ok qq x7 → _) ?_
    on_goal 2 =>
      unfold x7
      (with_reducible apply ok_mk; with_reducible assumption)
    (clear_value x7; intro hx7)
    split
    · extract_lets +onlyGivenNames -underBinder -merge -useContext x8
      clear_value x8
      with_reducible apply raise_ok
      with_reducible assumption
    · with_reducible assumption

/-- `showPdelays` keeps. -/
theorem showPdelays_ok {qq : List Instr} (s : State) (hs : Ok qq s) :
    Ok qq (showPdelays s) := by
  unfold showPdelays
  split
  · with_reducible assumption
  · with_reducible apply setFld_ok
    with_reducible assumption

/-- `dropPdelay` keeps. -/
theorem dropPdelay_ok {qq : List Instr} (p : Nat) (s : State) (hs : Ok qq s) :
    Ok qq (dropPdelay p s) := by
  unfold dropPdelay
  with_reducible apply showPdelays_ok
  with_reducible apply setPtpPort_ok
  with_reducible assumption

/-- `followPtp` keeps. -/
theorem followPtp_ok {qq : List Instr} (s : State) (hs : Ok qq s) :
    Ok qq (followPtp s) := by
  unfold followPtp
  extract_lets +onlyGivenNames -underBinder -merge -useContext x1
  refine (?_ : Ok qq x1 → _) ?_
  on_goal 2 =>
    unfold x1
    with_reducible apply ok_foldl
    · intro a2 a3 h4
      split
      · with_reducible apply setPtpPort_ok
        with_reducible apply setPortState_ok
        with_reducible assumption
      · split
        · with_reducible apply setPortState_ok
          with_reducible apply setPtpPort_ok
          with_reducible assumption
        · with_reducible assumption
    · with_reducible assumption
  (clear_value x1; intro hx1)
  with_reducible apply bestMaster_ok
  with_reducible apply showPdelays_ok
  with_reducible assumption

/-- `setTsq` keeps. -/
theorem setTsq_ok {qq : List Instr} (s : State) (q : List TsqEntry) (hs : Ok qq s) :
    Ok qq (setTsq s q) := by
  unfold setTsq
  with_reducible apply setFld_ok
  (with_reducible apply ok_mk; with_reducible assumption)

/-- `takeStamp` keeps. -/
theorem takeStamp_ok {qq : List Instr} (s : State) (port dom mtype seq : Nat) (hs : Ok qq s) :
    Ok qq (takeStamp s port dom mtype seq).2 := by
  unfold takeStamp
  split
  · dsimp only
    with_reducible apply setTsq_ok
    with_reducible assumption
  · with_reducible assumption

/-- `showDelay` keeps. -/
theorem showDelay_ok {qq : List Instr} (d : Int) (s : State) (hs : Ok qq s) :
    Ok qq (showDelay d s) := by
  unfold showDelay
  with_reducible apply setReg_ok
  with_reducible assumption

/-- `setDelay` keeps. -/
theorem setDelay_ok {qq : List Instr} (s : State) (p : Nat) (d : Int) (hs : Ok qq s) :
    Ok qq (setDelay s p d) := by
  unfold setDelay
  extract_lets +onlyGivenNames -underBinder -merge -useContext x1
  clear_value x1
  extract_lets +onlyGivenNames -underBinder -merge -useContext x2
  refine (?_ : Ok qq x2 → _) ?_
  on_goal 2 =>
    unfold x2
    with_reducible apply setPtpPort_ok
    with_reducible assumption
  (clear_value x2; intro hx2)
  extract_lets +onlyGivenNames -underBinder -merge -useContext x3
  refine (?_ : Ok qq x3 → _) ?_
  on_goal 2 =>
    unfold x3
    split
    · with_reducible apply showDelay_ok
      with_reducible assumption
    · with_reducible assumption
  (clear_value x3; intro hx3)
  split
  · with_reducible apply setBit_ok
    with_reducible assumption
  · with_reducible assumption

/-- `followUpRx` keeps. -/
theorem followUpRx_ok {qq : List Instr} (ext cp : Nat) (m : PtpMsg) (s : State) (hs : Ok qq s) :
    Ok qq (followUpRx ext cp m s) := by
  unfold followUpRx
  extract_lets +onlyGivenNames -underBinder -merge -useContext x1
  clear_value x1
  split
  · split
    · extract_lets +onlyGivenNames -underBinder -merge -useContext x2
      clear_value x2
      extract_lets +onlyGivenNames -underBinder -merge -useContext x3
      refine (?_ : Ok qq x3 → _) ?_
      on_goal 2 =>
        unfold x3
        with_reducible apply setPtpPort_ok
        with_reducible assumption
      (clear_value x3; intro hx3)
      split
      · extract_lets +onlyGivenNames -underBinder -merge -useContext x4
        refine (?_ : Ok qq x4 → _) ?_
        on_goal 2 =>
          unfold x4
          with_reducible apply setPortState_ok
          with_reducible apply showDelay_ok
          with_reducible assumption
        (clear_value x4; intro hx4)
        split
        · with_reducible apply measure_ok
          with_reducible assumption
        · with_reducible assumption
      · with_reducible assumption
    · with_reducible assumption
  · with_reducible assumption

/-- `delayRespRx` keeps. -/
theorem delayRespRx_ok {qq : List Instr} (cp : Nat) (m : PtpMsg) (s : State) (hs : Ok qq s) :
    Ok qq (delayRespRx cp m s) := by
  unfold delayRespRx
  extract_lets +onlyGivenNames -underBinder -merge -useContext x1
  clear_value x1
  split
  · split
    · split
      extract_lets +onlyGivenNames -underBinder -merge -useContext x2
      clear_value x2
      extract_lets +onlyGivenNames -underBinder -merge -useContext x3
      refine (?_ : Ok qq x3 → _) ?_
      on_goal 2 =>
        unfold x3
        with_reducible apply setPtpPort_ok
        with_reducible refine ok_snd (by assumption) ?_
        with_reducible apply takeStamp_ok
        with_reducible assumption
      (clear_value x3; intro hx3)
      split
      · with_reducible apply setDelay_ok
        with_reducible assumption
      · with_reducible assumption
    · with_reducible assumption
  · with_reducible assumption

/-- `pdelayRx` keeps. -/
theorem pdelayRx_ok {qq : List Instr} (ext : Nat) (m : PtpMsg) (s : State) (hs : Ok qq s) :
    Ok qq (pdelayRx ext m s) := by
  unfold pdelayRx
  extract_lets +onlyGivenNames -underBinder -merge -useContext x1
  clear_value x1
  split
  · split
    · split
      extract_lets +onlyGivenNames -underBinder -merge -useContext x2
      clear_value x2
      extract_lets +onlyGivenNames -underBinder -merge -useContext x3
      refine (?_ : Ok qq x3 → _) ?_
      on_goal 2 =>
        unfold x3
        with_reducible apply setPtpPort_ok
        with_reducible refine ok_snd (by assumption) ?_
        with_reducible apply takeStamp_ok
        with_reducible assumption
      (clear_value x3; intro hx3)
      split
      · with_reducible apply setDelay_ok
        with_reducible assumption
      · with_reducible assumption
    · with_reducible assumption
  · with_reducible assumption

/-- `ptpRx` keeps. -/
theorem ptpRx_ok {qq : List Instr} (ext : Nat) (m : PtpMsg) (s : State) (hs : Ok qq s) :
    Ok qq (ptpRx ext m s) := by
  unfold ptpRx
  extract_lets +onlyGivenNames -underBinder -merge -useContext x1
  clear_value x1
  split
  · with_reducible assumption
  · extract_lets +onlyGivenNames -underBinder -merge -useContext x2
    clear_value x2
    extract_lets +onlyGivenNames -underBinder -merge -useContext x3
    clear_value x3
    split
    · split
      · with_reducible apply setPtpPort_ok
        with_reducible assumption
      · with_reducible assumption
    · split
      · with_reducible apply followUpRx_ok
        with_reducible assumption
      · with_reducible assumption
    · split
      · extract_lets +onlyGivenNames -underBinder -merge -useContext x4
        clear_value x4
        extract_lets +onlyGivenNames -underBinder -merge -useContext x5
        clear_value x5
        extract_lets +onlyGivenNames -underBinder -merge -useContext x6
        clear_value x6
        with_reducible apply bestMaster_ok
        with_reducible apply setPtpPort_ok
        with_reducible assumption
      · with_reducible assumption
    · split
      · with_reducible apply setPtpPort_ok
        with_reducible assumption
      · with_reducible assumption
    · split
      · with_reducible apply delayRespRx_ok
        with_reducible assumption
      · with_reducible assumption
    · split
      · with_reducible apply setPtpPort_ok
        with_reducible assumption
      · with_reducible assumption
    · split
      · with_reducible apply setPtpPort_ok
        with_reducible assumption
      · with_reducible assumption
    · split
      · with_reducible apply pdelayRx_ok
        with_reducible assumption
      · with_reducible assumption
    · with_reducible assumption
    · with_reducible assumption

/-- `announceLost` keeps. -/
theorem announceLost_ok {qq : List Instr} (cp : Nat) (s : State) (hs : Ok qq s) :
    Ok qq (announceLost cp s) := by
  unfold announceLost
  split
  · with_reducible apply bestMaster_ok
    with_reducible apply setPtpPort_ok
    with_reducible assumption
  · with_reducible assumption

/-- `noteSent` keeps. -/
theorem noteSent_ok {qq : List Instr} (s : State) (p : Nat) (k : PtpKind) (hs : Ok qq s) :
    Ok qq (noteSent s p k) := by
  unfold noteSent
  extract_lets +onlyGivenNames -underBinder -merge -useContext x1
  clear_value x1
  with_reducible apply setPtpPort_ok
  with_reducible assumption

/-- `sendDue` keeps. -/
theorem sendDue_ok {qq : List Instr} (p : Nat) (k : PtpKind) (s : State) (hs : Ok qq s) :
    Ok qq (sendDue p k s) := by
  unfold sendDue
  extract_lets +onlyGivenNames -underBinder -merge -useContext x1
  clear_value x1
  split
  · extract_lets +onlyGivenNames -underBinder -merge -useContext x2
    clear_value x2
    split
    · with_reducible apply sendPtp_ok
      with_reducible apply setPtpPort_ok
      with_reducible assumption
    · extract_lets +onlyGivenNames -underBinder -merge -useContext x3
      refine (?_ : Ok qq x3 → _) ?_
      on_goal 2 =>
        unfold x3
        with_reducible apply setPtpPort_ok
        with_reducible assumption
      (clear_value x3; intro hx3)
      with_reducible apply sendPtp_ok
      with_reducible assumption
    · split
      split
      · with_reducible apply sendPtp_ok
        with_reducible apply setPtpPort_ok
        with_reducible refine ok_snd (by assumption) ?_
        with_reducible apply takeStamp_ok
        with_reducible assumption
      · with_reducible refine ok_snd (by assumption) ?_
        with_reducible apply takeStamp_ok
        with_reducible assumption
    · with_reducible assumption
  · with_reducible assumption

/-- `ptpTx` keeps. -/
theorem ptpTx_ok {qq : List Instr} (p : Nat) (k : PtpKind) (s : State) (hs : Ok qq s) :
    Ok qq (ptpTx p k s) := by
  unfold ptpTx
  extract_lets +onlyGivenNames -underBinder -merge -useContext x1
  clear_value x1
  extract_lets +onlyGivenNames -underBinder -merge -useContext x2
  clear_value x2
  extract_lets +onlyGivenNames -underBinder -merge -useContext x3
  clear_value x3
  split
  · split
    · extract_lets +onlyGivenNames -underBinder -merge -useContext x4
      refine (?_ : Ok qq x4 → _) ?_
      on_goal 2 =>
        unfold x4
        with_reducible apply noteSent_ok
        with_reducible apply setPtpPort_ok
        with_reducible assumption
      (clear_value x4; intro hx4)
      with_reducible apply sendPtp_ok
      with_reducible assumption
    · with_reducible assumption
  · split
    · extract_lets +onlyGivenNames -underBinder -merge -useContext x5
      refine (?_ : Ok qq x5 → _) ?_
      on_goal 2 =>
        unfold x5
        with_reducible apply noteSent_ok
        with_reducible apply setPtpPort_ok
        with_reducible assumption
      (clear_value x5; intro hx5)
      with_reducible apply sendPtp_ok
      with_reducible assumption
    · with_reducible assumption
  · split
    · split
      split
      · with_reducible apply sendPtp_ok
        with_reducible apply setPtpPort_ok
        with_reducible refine ok_snd (by assumption) ?_
        with_reducible apply takeStamp_ok
        with_reducible assumption
      · with_reducible refine ok_snd (by assumption) ?_
        with_reducible apply takeStamp_ok
        with_reducible assumption
    · with_reducible assumption
  · split
    · extract_lets +onlyGivenNames -underBinder -merge -useContext x6
      refine (?_ : Ok qq x6 → _) ?_
      on_goal 2 =>
        unfold x6
        with_reducible apply noteSent_ok
        with_reducible apply setPtpPort_ok
        with_reducible assumption
      (clear_value x6; intro hx6)
      with_reducible apply sendPtp_ok
      with_reducible assumption
    · with_reducible assumption
  · split
    · extract_lets +onlyGivenNames -underBinder -merge -useContext x7
      refine (?_ : Ok qq x7 → _) ?_
      on_goal 2 =>
        unfold x7
        with_reducible apply noteSent_ok
        with_reducible apply setPtpPort_ok
        with_reducible assumption
      (clear_value x7; intro hx7)
      with_reducible apply sendPtp_ok
      with_reducible assumption
    · with_reducible assumption
  · with_reducible apply sendDue_ok
    with_reducible assumption
  · with_reducible apply sendDue_ok
    with_reducible assumption
  · with_reducible apply sendDue_ok
    with_reducible assumption
  · with_reducible assumption
  · with_reducible assumption

/-- `residenceOf` keeps. -/
theorem residenceOf_ok {qq : List Instr} {src : PortId} {m : PtpMsg} {inp outp mtype : Nat} {s t : State}
    {i : Int} (hs : Ok qq s) (h : residenceOf src m inp outp mtype s = some (i, t)) : Ok qq t := by
  unfold residenceOf at h
  simp only at h
  split at h
  · rename_i e _
    split at h
    · simp only [Option.some.injEq, Prod.mk.injEq] at h
      obtain ⟨_, rfl⟩ := h
      exact ok_mk (takeStamp_ok _ _ _ _ _ hs) ..
    · cases h
  · cases h

/-- `noteForward` keeps. -/
theorem noteForward_ok {qq : List Instr} (inp outp : Nat) (m : PtpMsg) (s : State) (hs : Ok qq s) :
    Ok qq (noteForward inp outp m s) := by
  unfold noteForward
  extract_lets +onlyGivenNames -underBinder -merge -useContext x1
  clear_value x1
  extract_lets +onlyGivenNames -underBinder -merge -useContext x2
  clear_value x2
  with_reducible apply sendPtp_ok
  split
  · (with_reducible apply ok_mk; with_reducible assumption)
  · with_reducible assumption

/-- `forwardPtp` keeps. -/
theorem forwardPtp_ok {qq : List Instr} (inp outp : Nat) (m : PtpMsg) (s : State) (hs : Ok qq s) :
    Ok qq (forwardPtp inp outp m s) := by
  unfold forwardPtp
  extract_lets +onlyGivenNames -underBinder -merge -useContext x1
  refine (?_ : (∀ c0 c1, Ok qq c1 → Ok qq (x1 c0 c1)) → _) ?_
  on_goal 2 =>
    unfold x1
    intro a3 a4 h5
    with_reducible apply sendPtp_ok
    with_reducible assumption
  clear_value x1
  intro hx1
  split
  · with_reducible assumption
  · split
    · with_reducible apply hx1
      with_reducible assumption
    · split
      · split
        · with_reducible apply noteForward_ok
          with_reducible assumption
        · with_reducible apply hx1
          with_reducible assumption
      · with_reducible apply noteForward_ok
        with_reducible assumption
      · split
        · extract_lets +onlyGivenNames -underBinder -merge -useContext x2
          clear_value x2
          with_reducible apply hx1
          with_reducible refine residenceOf_ok ?_ (by assumption)
          with_reducible assumption
        · with_reducible assumption
      · split
        · with_reducible apply hx1
          with_reducible refine residenceOf_ok ?_ (by assumption)
          with_reducible assumption
        · with_reducible assumption
      · split
        · with_reducible assumption
        · with_reducible apply hx1
          with_reducible assumption
      · split
        · with_reducible assumption
        · with_reducible apply hx1
          with_reducible assumption
      · split
        · with_reducible assumption
        · with_reducible apply hx1
          with_reducible assumption
      · with_reducible apply hx1
        with_reducible assumption
      · with_reducible apply hx1
        with_reducible assumption
      · with_reducible apply hx1
        with_reducible assumption

/-- `stampDropped` keeps. -/
theorem stampDropped_ok {qq : List Instr} (p dom mtype seq : Nat) (s : State) (hs : Ok qq s) :
    Ok qq (stampDropped p dom mtype seq s) := by
  unfold stampDropped
  extract_lets +onlyGivenNames -underBinder -merge -useContext x1
  clear_value x1
  extract_lets +onlyGivenNames -underBinder -merge -useContext x2
  clear_value x2
  extract_lets +onlyGivenNames -underBinder -merge -useContext x3
  clear_value x3
  extract_lets +onlyGivenNames -underBinder -merge -useContext x4
  clear_value x4
  split
  · with_reducible apply setPtpPort_ok
    with_reducible assumption
  · split
    · with_reducible apply setPtpPort_ok
      with_reducible assumption
    · extract_lets +onlyGivenNames -underBinder -merge -useContext x5
      clear_value x5
      split
      · (with_reducible apply ok_mk; with_reducible assumption)
      · with_reducible assumption

/-- `enqueueStamp` keeps. -/
theorem enqueueStamp_ok {qq : List Instr} (p dom mtype seq : Nat) (s : State) (hs : Ok qq s) :
    Ok qq (enqueueStamp p dom mtype seq s) := by
  unfold enqueueStamp
  split
  · with_reducible apply setTsq_ok
    with_reducible assumption
  · extract_lets +onlyGivenNames -underBinder -merge -useContext x1
    refine (?_ : Ok qq x1 → _) ?_
    on_goal 2 =>
      unfold x1
      with_reducible apply stick_ok
      with_reducible apply satAdd_ok
      with_reducible assumption
    (clear_value x1; intro hx1)
    extract_lets +onlyGivenNames -underBinder -merge -useContext x2
    refine (?_ : Ok qq x2 → _) ?_
    on_goal 2 =>
      unfold x2
      with_reducible apply stampDropped_ok
      with_reducible assumption
    (clear_value x2; intro hx2)
    extract_lets +onlyGivenNames -underBinder -merge -useContext x3
    clear_value x3
    split
    · with_reducible assumption
    · extract_lets +onlyGivenNames -underBinder -merge -useContext x4
      clear_value x4
      extract_lets +onlyGivenNames -underBinder -merge -useContext x5
      refine (?_ : Ok qq x5 → _) ?_
      on_goal 2 =>
        unfold x5
        (with_reducible apply ok_mk; with_reducible assumption)
      (clear_value x5; intro hx5)
      with_reducible apply raise_ok
      with_reducible assumption

/-- `expireStamp` keeps. -/
theorem expireStamp_ok {qq : List Instr} (s : State) (hs : Ok qq s) :
    Ok qq (expireStamp s) := by
  unfold expireStamp
  split
  · with_reducible apply satAdd_ok
    with_reducible apply setTsq_ok
    with_reducible assumption
  · with_reducible assumption

/-- `capture` keeps. -/
theorem capture_ok {qq : List Instr} (s : State) (hs : Ok qq s) :
    Ok qq (capture s) := by
  unfold capture
  extract_lets +onlyGivenNames -underBinder -merge -useContext x1
  clear_value x1
  extract_lets +onlyGivenNames -underBinder -merge -useContext x2
  clear_value x2
  extract_lets +onlyGivenNames -underBinder -merge -useContext x3
  refine (?_ : Ok qq x3 → _) ?_
  on_goal 2 =>
    unfold x3
    with_reducible apply set64_ok
    with_reducible assumption
  (clear_value x3; intro hx3)
  extract_lets +onlyGivenNames -underBinder -merge -useContext x4
  refine (?_ : Ok qq x4 → _) ?_
  on_goal 2 =>
    unfold x4
    with_reducible apply set64_ok
    with_reducible assumption
  (clear_value x4; intro hx4)
  with_reducible apply setReg_ok
  with_reducible assumption

/-- `clearTsqCounts` keeps. -/
theorem clearTsqCounts_ok {qq : List Instr} (s : State) (hs : Ok qq s) :
    Ok qq (clearTsqCounts s) := by
  unfold clearTsqCounts
  with_reducible apply setFld_ok
  with_reducible apply setFld_ok
  with_reducible assumption

/-- `pulseOut` keeps. -/
theorem pulseOut_ok {qq : List Instr} (s : State) (hs : Ok qq s) :
    Ok qq (pulseOut s) := by
  unfold pulseOut
  extract_lets +onlyGivenNames -underBinder -merge -useContext x1
  clear_value x1
  split
  · with_reducible apply emitOut_ok
    (with_reducible apply ok_mk; with_reducible assumption)
  · with_reducible assumption

/-- `pulseFall` keeps. -/
theorem pulseFall_ok {qq : List Instr} (s : State) (hs : Ok qq s) :
    Ok qq (pulseFall s) := by
  unfold pulseFall
  split
  · with_reducible apply emitOut_ok
    (with_reducible apply ok_mk; with_reducible assumption)
  · with_reducible assumption

/-- `pulseIn` keeps. -/
theorem pulseIn_ok {qq : List Instr} (rising : Bool) (width : Nat) (s : State) (hs : Ok qq s) :
    Ok qq (pulseIn rising width s) := by
  unfold pulseIn
  extract_lets +onlyGivenNames -underBinder -merge -useContext x1
  extract_lets +onlyGivenNames -underBinder -merge -useContext x2
  clear_value x2
  split
  · extract_lets +onlyGivenNames -underBinder -merge -useContext x3
    clear_value x3
    extract_lets +onlyGivenNames -underBinder -merge -useContext x4
    refine (?_ : Ok qq x4 → _) ?_
    on_goal 2 =>
      unfold x4
      with_reducible apply set64_ok
      with_reducible assumption
    (clear_value x4; intro hx4)
    extract_lets +onlyGivenNames -underBinder -merge -useContext x5
    clear_value x5
    extract_lets +onlyGivenNames -underBinder -merge -useContext x6
    refine (?_ : Ok qq x6 → _) ?_
    on_goal 2 =>
      unfold x6
      (with_reducible apply ok_mk; with_reducible assumption)
    (clear_value x6; intro hx6)
    split
    · with_reducible apply measure_ok
      with_reducible assumption
    · with_reducible assumption
  · with_reducible assumption

/-- `pulseMissing` keeps. -/
theorem pulseMissing_ok {qq : List Instr} (s : State) (hs : Ok qq s) :
    Ok qq (pulseMissing s) := by
  unfold pulseMissing
  extract_lets +onlyGivenNames -underBinder -merge -useContext x1
  clear_value x1
  split
  · extract_lets +onlyGivenNames -underBinder -merge -useContext x2
    clear_value x2
    extract_lets +onlyGivenNames -underBinder -merge -useContext x3
    refine (?_ : Ok qq x3 → _) ?_
    on_goal 2 =>
      unfold x3
      with_reducible apply stick_ok
      (with_reducible apply ok_mk; with_reducible assumption)
    (clear_value x3; intro hx3)
    with_reducible apply raise_ok
    with_reducible assumption
  · with_reducible assumption

/-- `transitOff` keeps. -/
theorem transitOff_ok {qq : List Instr} (s : State) (hs : Ok qq s) :
    Ok qq (transitOff s) := by
  unfold transitOff
  extract_lets +onlyGivenNames -underBinder -merge -useContext x1
  refine (?_ : Ok qq x1 → _) ?_
  on_goal 2 =>
    unfold x1
    with_reducible apply ok_foldl
    · intro a4 a5 h6
      with_reducible apply setReg_ok
      with_reducible assumption
    · with_reducible assumption
  (clear_value x1; intro hx1)
  extract_lets +onlyGivenNames -underBinder -merge -useContext x2
  refine (?_ : Ok qq x2 → _) ?_
  on_goal 2 =>
    unfold x2
    with_reducible apply setFld_ok
    with_reducible assumption
  (clear_value x2; intro hx2)
  extract_lets +onlyGivenNames -underBinder -merge -useContext x3
  refine (?_ : Ok qq x3 → _) ?_
  on_goal 2 =>
    unfold x3
    with_reducible apply setFld_ok
    with_reducible assumption
  (clear_value x3; intro hx3)
  (with_reducible apply ok_mk; with_reducible assumption)

end Sys2Proof.Machine
end

