-- ==== Sys2Proof/Laws/KeepNet.lean ====
section
/-!
SUPPORT. What the operations of Machine/Net.lean keep: the canonical form of registers and memories, and the queue.
-/

namespace Sys2Proof.Machine

/-- `learn` keeps. -/
theorem learn_ok {qq : List Instr} (p : Nat) (m : BitVec 48) (s : State) (hs : Ok qq s) :
    Ok qq (learn p m s) := by
  unfold learn
  extract_lets +onlyGivenNames -underBinder -merge -useContext x1
  clear_value x1
  extract_lets +onlyGivenNames -underBinder -merge -useContext x2
  clear_value x2
  split
  · with_reducible assumption
  · split
    · with_reducible assumption
    · (with_reducible apply ok_mk; with_reducible assumption)

/-- `forward` keeps. -/
theorem forward_ok {qq : List Instr} (p : Nat) (f : EthFrame) (at_ : Dword) (s : State) (hs : Ok qq s) :
    Ok qq (forward p f at_ s) := by
  unfold forward
  extract_lets +onlyGivenNames -underBinder -merge -useContext x1
  clear_value x1
  split
  split
  · with_reducible assumption
  · extract_lets +onlyGivenNames -underBinder -merge -useContext x2
    clear_value x2
    extract_lets +onlyGivenNames -underBinder -merge -useContext x3
    clear_value x3
    extract_lets +onlyGivenNames -underBinder -merge -useContext x4
    clear_value x4
    with_reducible apply ok_foldl
    · intro a5 a6 h7
      split
      · with_reducible apply toEgress_ok
        with_reducible assumption
      · (with_reducible apply ok_mk; with_reducible assumption)
    · with_reducible assumption

/-- `switchRx` keeps. -/
theorem switchRx_ok {qq : List Instr} (p : Nat) (f : EthFrame) (s : State) (hs : Ok qq s) :
    Ok qq (switchRx p f s) := by
  unfold switchRx
  split
  · with_reducible assumption
  · split
    · with_reducible assumption
    · with_reducible apply learn_ok
      with_reducible assumption
    · extract_lets +onlyGivenNames -underBinder -merge -useContext x1
      clear_value x1
      with_reducible apply forward_ok
      with_reducible apply learn_ok
      with_reducible assumption

/-- `egressStart` keeps. -/
theorem egressStart_ok {qq : List Instr} (p : Nat) (s : State) (hs : Ok qq s) :
    Ok qq (egressStart p s) := by
  unfold egressStart
  split
  · split
    · split
      · extract_lets +onlyGivenNames -underBinder -merge -useContext x1
        clear_value x1
        with_reducible apply emitOut_ok
        (with_reducible apply ok_mk; with_reducible assumption)
      · with_reducible assumption
    · with_reducible assumption
  · with_reducible assumption

/-- `macAge` keeps. -/
theorem macAge_ok {qq : List Instr} (plane : Nat) (m : BitVec 48) (s : State) (hs : Ok qq s) :
    Ok qq (macAge plane m s) := by
  unfold macAge
  (with_reducible apply ok_mk; with_reducible assumption)

/-- `engineSend` keeps. -/
theorem engineSend_ok {qq : List Instr} (plane : Nat) (f : EthFrame) (s : State) (hs : Ok qq s) :
    Ok qq (engineSend plane f s) := by
  unfold engineSend
  with_reducible apply forward_ok
  with_reducible apply learn_ok
  with_reducible assumption

/-- `putArp` keeps. -/
theorem putArp_ok {qq : List Instr} (e : ArpEntry) (s : State) (hs : Ok qq s) :
    Ok qq (putArp e s) := by
  unfold putArp
  extract_lets +onlyGivenNames -underBinder -merge -useContext x1
  clear_value x1
  extract_lets +onlyGivenNames -underBinder -merge -useContext x2
  clear_value x2
  extract_lets +onlyGivenNames -underBinder -merge -useContext x3
  clear_value x3
  (with_reducible apply ok_mk; with_reducible assumption)

/-- `resolve` keeps. -/
theorem resolve_ok {qq : List Instr} (plane : Nat) (ip : Word) (s : State) (hs : Ok qq s) :
    Ok qq (resolve plane ip s).2 := by
  unfold resolve
  split
  · with_reducible assumption
  · split
    · with_reducible assumption
    · split
      · dsimp only
        with_reducible apply engineSend_ok
        with_reducible apply putArp_ok
        with_reducible assumption
      · with_reducible assumption
    · dsimp only
      with_reducible apply engineSend_ok
      with_reducible apply putArp_ok
      with_reducible assumption

/-- `arpRefresh` keeps. -/
theorem arpRefresh_ok {qq : List Instr} (plane : Nat) (ip : Word) (s : State) (hs : Ok qq s) :
    Ok qq (arpRefresh plane ip s) := by
  unfold arpRefresh
  split
  · split
    · with_reducible assumption
    · split
      · (with_reducible apply ok_mk; with_reducible assumption)
      · with_reducible apply engineSend_ok
        with_reducible apply putArp_ok
        with_reducible assumption
  · with_reducible assumption

/-- `linkChange` keeps. -/
theorem linkChange_ok {qq : List Instr} (p : Nat) (l : LinkLevel) (s : State) (hs : Ok qq s) :
    Ok qq (linkChange p l s) := by
  unfold linkChange
  extract_lets +onlyGivenNames -underBinder -merge -useContext x1
  clear_value x1
  extract_lets +onlyGivenNames -underBinder -merge -useContext x2
  clear_value x2
  extract_lets +onlyGivenNames -underBinder -merge -useContext x3
  clear_value x3
  split
  · with_reducible assumption
  · extract_lets +onlyGivenNames -underBinder -merge -useContext x4
    refine (?_ : Ok qq x4 → _) ?_
    on_goal 2 =>
      unfold x4
      with_reducible apply setBit_ok
      with_reducible apply setBit_ok
      with_reducible assumption
    (clear_value x4; intro hx4)
    extract_lets +onlyGivenNames -underBinder -merge -useContext x5
    refine (?_ : Ok qq x5 → _) ?_
    on_goal 2 =>
      unfold x5
      with_reducible apply setBit_ok
      with_reducible apply setBit_ok
      with_reducible assumption
    (clear_value x5; intro hx5)
    extract_lets +onlyGivenNames -underBinder -merge -useContext x6
    refine (?_ : Ok qq x6 → _) ?_
    on_goal 2 =>
      unfold x6
      with_reducible apply satAdd_ok
      with_reducible assumption
    (clear_value x6; intro hx6)
    extract_lets +onlyGivenNames -underBinder -merge -useContext x7
    refine (?_ : Ok qq x7 → _) ?_
    on_goal 2 =>
      unfold x7
      split
      · with_reducible assumption
      · with_reducible apply dropPdelay_ok
        with_reducible apply stick_ok
        with_reducible assumption
    (clear_value x7; intro hx7)
    extract_lets +onlyGivenNames -underBinder -merge -useContext x8
    refine (?_ : Ok qq x8 → _) ?_
    on_goal 2 =>
      unfold x8
      with_reducible apply raise_ok
      with_reducible assumption
    (clear_value x8; intro hx8)
    extract_lets +onlyGivenNames -underBinder -merge -useContext x9
    clear_value x9
    split
    · with_reducible apply engineSend_ok
      with_reducible assumption
    · with_reducible assumption

/-- `setFlow` keeps. -/
theorem setFlow_ok {qq : List Instr} (s : State) (f : Nat) (x : FlowSt) (hs : Ok qq s) :
    Ok qq (setFlow s f x) := by
  unfold setFlow
  (with_reducible apply ok_mk; with_reducible assumption)

/-- `flowUnresolved` keeps. -/
theorem flowUnresolved_ok {qq : List Instr} (f plane : Nat) (s : State) (hs : Ok qq s) :
    Ok qq (flowUnresolved f plane s) := by
  unfold flowUnresolved
  extract_lets +onlyGivenNames -underBinder -merge -useContext x1
  clear_value x1
  extract_lets +onlyGivenNames -underBinder -merge -useContext x2
  clear_value x2
  extract_lets +onlyGivenNames -underBinder -merge -useContext x3
  refine (?_ : Ok qq x3 → _) ?_
  on_goal 2 =>
    unfold x3
    with_reducible apply setFlow_ok
    with_reducible assumption
  (clear_value x3; intro hx3)
  split
  · with_reducible apply raise_ok
    with_reducible apply stick_ok
    with_reducible assumption
  · with_reducible assumption

/-- `resolveFlow` keeps. -/
theorem resolveFlow_ok {qq : List Instr} (f : Nat) (planes : List Nat) (s : State) (hs : Ok qq s) :
    Ok qq (resolveFlow f planes s).2 := by
  unfold resolveFlow
  with_reducible apply ok_foldl_snd
  · intro a1 a2 h3
    split
    split
    · with_reducible assumption
    · split
      split
      · extract_lets +onlyGivenNames -underBinder -merge -useContext x4
        clear_value x4
        dsimp only
        with_reducible apply setFlow_ok
        with_reducible refine ok_snd (by assumption) ?_
        with_reducible apply resolve_ok
        with_reducible assumption
      · dsimp only
        with_reducible apply flowUnresolved_ok
        with_reducible refine ok_snd (by assumption) ?_
        with_reducible apply resolve_ok
        with_reducible assumption
  · with_reducible assumption

/-- `emitPoison` keeps. -/
theorem emitPoison_ok {qq : List Instr} (f block : Nat) (s : State) (hs : Ok qq s) :
    Ok qq (emitPoison f block s) := by
  unfold emitPoison
  extract_lets +onlyGivenNames -underBinder -merge -useContext x1
  refine (?_ : Ok qq x1 → _) ?_
  on_goal 2 =>
    unfold x1
    with_reducible apply meetSound_ok
    with_reducible assumption
  (clear_value x1; intro hx1)
  with_reducible apply raise_ok
  with_reducible apply stick_ok
  with_reducible assumption

/-- `sendPorts` keeps. -/
theorem sendPorts_ok {qq : List Instr} (f plane : Nat) (fr : EthFrame) (s : State) (hs : Ok qq s) :
    Ok qq (sendPorts f plane fr s) := by
  unfold sendPorts
  with_reducible apply ok_foldl
  · intro a1 a2 h3
    split
    · with_reducible apply emitOut_ok
      with_reducible assumption
    · with_reducible apply txDiscard_ok
      with_reducible assumption
  · with_reducible assumption

/-- `emitBody` keeps. -/
theorem emitBody_ok {qq : List Instr} (e : Entry) (s : State) (hs : Ok qq s) :
    Ok qq (emitBody e s) := by
  unfold emitBody
  extract_lets +onlyGivenNames -underBinder -merge -useContext x1
  clear_value x1
  split
  · with_reducible assumption
  · split
    · with_reducible apply raise_ok
      with_reducible apply stick_ok
      with_reducible assumption
    · split
      · with_reducible assumption
      · extract_lets +onlyGivenNames -underBinder -merge -useContext x2
        clear_value x2
        extract_lets +onlyGivenNames -underBinder -merge -useContext x3
        clear_value x3
        split
        · with_reducible assumption
        · split
          · with_reducible apply emitPoison_ok
            with_reducible assumption
          · extract_lets +onlyGivenNames -underBinder -merge -useContext x4
            clear_value x4
            extract_lets +onlyGivenNames -underBinder -merge -useContext x5
            clear_value x5
            extract_lets +onlyGivenNames -underBinder -merge -useContext x6
            clear_value x6
            split
            · with_reducible apply raise_ok
              with_reducible apply stick_ok
              with_reducible assumption
            · split
              split
              · with_reducible refine ok_snd (by assumption) ?_
                with_reducible apply resolveFlow_ok
                with_reducible assumption
              · split
                extract_lets +onlyGivenNames -underBinder -merge -useContext x7
                refine (?_ : Ok qq x7 → _) ?_
                on_goal 2 =>
                  unfold x7
                  with_reducible apply setReg_ok
                  with_reducible refine ok_snd (by assumption) ?_
                  split
                  · extract_lets +onlyGivenNames -underBinder -merge -useContext x12
                    clear_value x12
                    split
                    dsimp only
                    with_reducible refine ok_snd (by assumption) ?_
                    with_reducible apply sendContainer_ok
                    with_reducible refine ok_snd (by assumption) ?_
                    with_reducible apply resolveFlow_ok
                    with_reducible assumption
                  · dsimp only
                    with_reducible refine ok_snd (by assumption) ?_
                    with_reducible apply resolveFlow_ok
                    with_reducible assumption
                (clear_value x7; intro hx7)
                with_reducible apply ok_foldl
                · intro a8 a9 h10
                  split
                  extract_lets +onlyGivenNames -underBinder -merge -useContext x11
                  clear_value x11
                  with_reducible apply sendPorts_ok
                  with_reducible assumption
                · with_reducible assumption

/-- `pullRx` keeps. -/
theorem pullRx_ok {qq : List Instr} (plane : Nat) (src : Word) (t : Telegram) (s : State) (hs : Ok qq s) :
    Ok qq (pullRx plane src t s) := by
  unfold pullRx
  split
  · split
    · with_reducible assumption
    · with_reducible apply setFlow_ok
      with_reducible assumption
  · with_reducible apply satAdd_ok
    with_reducible assumption

/-- `pullReply` keeps. -/
theorem pullReply_ok {qq : List Instr} (f : Nat) (s : State) (hs : Ok qq s) :
    Ok qq (pullReply f s) := by
  unfold pullReply
  split
  · with_reducible assumption
  · extract_lets +onlyGivenNames -underBinder -merge -useContext x1
    clear_value x1
    extract_lets +onlyGivenNames -underBinder -merge -useContext x2
    refine (?_ : Ok qq x2 → _) ?_
    on_goal 2 =>
      unfold x2
      with_reducible apply setFlow_ok
      with_reducible assumption
    (clear_value x2; intro hx2)
    split
    · with_reducible assumption
    · split
      · with_reducible apply emitPoison_ok
        with_reducible assumption
      · extract_lets +onlyGivenNames -underBinder -merge -useContext x3
        clear_value x3
        split
        split
        · with_reducible apply flowUnresolved_ok
          with_reducible refine ok_snd (by assumption) ?_
          with_reducible apply resolve_ok
          with_reducible assumption
        · extract_lets +onlyGivenNames -underBinder -merge -useContext x4
          clear_value x4
          extract_lets +onlyGivenNames -underBinder -merge -useContext x5
          clear_value x5
          extract_lets +onlyGivenNames -underBinder -merge -useContext x6
          refine (?_ : Ok qq x6 → _) ?_
          on_goal 2 =>
            unfold x6
            with_reducible apply setFlow_ok
            with_reducible refine ok_snd (by assumption) ?_
            with_reducible apply resolve_ok
            with_reducible assumption
          (clear_value x6; intro hx6)
          extract_lets +onlyGivenNames -underBinder -merge -useContext x7
          refine (?_ : Ok qq x7 → _) ?_
          on_goal 2 =>
            unfold x7
            with_reducible apply setReg_ok
            with_reducible assumption
          (clear_value x7; intro hx7)
          extract_lets +onlyGivenNames -underBinder -merge -useContext x8
          clear_value x8
          extract_lets +onlyGivenNames -underBinder -merge -useContext x9
          clear_value x9
          with_reducible apply engineSend_ok
          with_reducible assumption

/-- `storeCopy` keeps. -/
theorem storeCopy_ok {qq : List Instr} (f plane : Nat) (t : Telegram) (at_ : Dword) (s : State) (hs : Ok qq s) :
    Ok qq (storeCopy f plane t at_ s) := by
  have k : ∀ n u, Ok qq u → Ok qq (storeCopy.putSlot f plane t at_ n u) := by
    intro n u hu
    unfold storeCopy.putSlot
    exact setFlow_ok _ _ _ (ok_sound hu (fun hm => writeBytes_wf hm _ _))
  unfold storeCopy
  dsimp only
  split
  · split
    · exact hs
    · exact k _ _ hs
  · exact k _ _ hs

/-- `pdRx` keeps. -/
theorem pdRx_ok {qq : List Instr} (plane : Nat) (src : Word) (t : Telegram) (at_ : Dword) (s : State) (hs : Ok qq s) :
    Ok qq (pdRx plane src t at_ s) := by
  unfold pdRx
  split
  · with_reducible apply satAdd_ok
    with_reducible assumption
  · split
    · with_reducible apply pullRx_ok
      with_reducible assumption
    · extract_lets +onlyGivenNames -underBinder -merge -useContext x1
      clear_value x1
      split
      · with_reducible apply storeCopy_ok
        with_reducible assumption
      · split
        · with_reducible apply satAdd_ok
          with_reducible assumption
        · with_reducible apply satAdd_ok
          with_reducible assumption

/-- `trySend` keeps. -/
theorem trySend_ok {qq : List Instr} (op : Nat) (r : JRecord) (x : MdSend) (s : State) (hs : Ok qq s) :
    Ok qq (trySend op r x s).2 := by
  unfold trySend
  extract_lets +onlyGivenNames -underBinder -merge -useContext x1
  clear_value x1
  extract_lets +onlyGivenNames -underBinder -merge -useContext x2
  clear_value x2
  extract_lets +onlyGivenNames -underBinder -merge -useContext x3
  clear_value x3
  with_reducible apply ok_foldl_snd
  · intro a4 a5 h6
    split
    split
    · extract_lets +onlyGivenNames -underBinder -merge -useContext x7
      clear_value x7
      dsimp only
      with_reducible apply engineSend_ok
      with_reducible assumption
    · extract_lets +onlyGivenNames -underBinder -merge -useContext x8
      clear_value x8
      split
      split
      · dsimp only
        with_reducible refine ok_snd (by assumption) ?_
        with_reducible apply resolve_ok
        with_reducible assumption
      · extract_lets +onlyGivenNames -underBinder -merge -useContext x9
        clear_value x9
        dsimp only
        with_reducible apply engineSend_ok
        with_reducible refine ok_snd (by assumption) ?_
        with_reducible apply resolve_ok
        with_reducible assumption
  · with_reducible assumption

/-- `setSends` keeps. -/
theorem setSends_ok {qq : List Instr} (s : State) (l : List MdSend) (hs : Ok qq s) :
    Ok qq (setSends s l) := by
  unfold setSends
  (with_reducible apply ok_mk; with_reducible assumption)

/-- `mdSend` keeps. -/
theorem mdSend_ok {qq : List Instr} (op k : Nat) (s : State) (hs : Ok qq s) :
    Ok qq (mdSend op k s) := by
  unfold mdSend
  split
  · with_reducible refine ok_snd (by assumption) ?_
    with_reducible apply startRec_ok
    with_reducible assumption
  · extract_lets +onlyGivenNames -underBinder -merge -useContext x1
    clear_value x1
    extract_lets +onlyGivenNames -underBinder -merge -useContext x2
    extract_lets +onlyGivenNames -underBinder -merge -useContext x3
    clear_value x3
    extract_lets +onlyGivenNames -underBinder -merge -useContext x4
    clear_value x4
    extract_lets +onlyGivenNames -underBinder -merge -useContext x5
    split
    · with_reducible apply finishDesc_ok
      with_reducible refine ok_snd (by assumption) ?_
      with_reducible apply startRec_ok
      with_reducible assumption
    · split
      · with_reducible apply finishDesc_ok
        with_reducible refine ok_snd (by assumption) ?_
        with_reducible apply startRec_ok
        with_reducible assumption
      · split
        · with_reducible refine ok_snd (by assumption) ?_
          with_reducible apply startRec_ok
          with_reducible assumption
        · extract_lets +onlyGivenNames -underBinder -merge -useContext x6
          refine (?_ : Ok qq x6 → _) ?_
          on_goal 2 =>
            unfold x6
            with_reducible apply markRec_ok
            with_reducible refine ok_snd (by assumption) ?_
            with_reducible apply startRec_ok
            with_reducible assumption
          (clear_value x6; intro hx6)
          extract_lets +onlyGivenNames -underBinder -merge -useContext x7
          clear_value x7
          extract_lets +onlyGivenNames -underBinder -merge -useContext x8
          refine (?_ : Ok qq x8 → _) ?_
          on_goal 2 =>
            unfold x8
            split
            · (with_reducible apply ok_mk; with_reducible assumption)
            · with_reducible assumption
          (clear_value x8; intro hx8)
          split
          with_reducible apply setSends_ok
          with_reducible refine ok_snd (by assumption) ?_
          with_reducible apply trySend_ok
          with_reducible assumption

/-- `mdCommit` keeps. -/
theorem mdCommit_ok {qq : List Instr} (k : Nat) (s : State) (hs : Ok qq s) :
    Ok qq (mdCommit k s) := by
  unfold mdCommit
  split
  · with_reducible apply finishDesc_ok
    with_reducible apply setSends_ok
    with_reducible assumption
  · with_reducible assumption

/-- `mdUnresolved` keeps. -/
theorem mdUnresolved_ok {qq : List Instr} (k : Nat) (s : State) (hs : Ok qq s) :
    Ok qq (mdUnresolved k s) := by
  unfold mdUnresolved
  split
  · with_reducible apply finishDesc_ok
    with_reducible apply setSends_ok
    with_reducible assumption
  · with_reducible assumption

/-- `mdReplyTimeout` keeps. -/
theorem mdReplyTimeout_ok {qq : List Instr} (session : BitVec 128) (s : State) (hs : Ok qq s) :
    Ok qq (mdReplyTimeout session s) := by
  unfold mdReplyTimeout
  split
  · with_reducible apply raise_ok
    (with_reducible apply ok_mk; with_reducible assumption)
  · with_reducible assumption

/-- `netRxBuffer` keeps. -/
theorem netRxBuffer_ok {qq : List Instr} (k : Nat) (s : State) (hs : Ok qq s) :
    Ok qq (netRxBuffer k s) := by
  unfold netRxBuffer
  split
  · split
    · with_reducible apply finishDesc_ok
      with_reducible refine ok_snd (by assumption) ?_
      with_reducible apply startRec_ok
      with_reducible assumption
    · with_reducible refine ok_snd (by assumption) ?_
      with_reducible apply startRec_ok
      with_reducible assumption
  · with_reducible refine ok_snd (by assumption) ?_
    with_reducible apply startRec_ok
    with_reducible assumption

/-- `rxDropped` keeps. -/
theorem rxDropped_ok {qq : List Instr} (unknown : Bool) (s : State) (hs : Ok qq s) :
    Ok qq (rxDropped unknown s) := by
  unfold rxDropped
  extract_lets +onlyGivenNames -underBinder -merge -useContext x1
  refine (?_ : Ok qq x1 → _) ?_
  on_goal 2 =>
    unfold x1
    split
    · with_reducible apply satAdd_ok
      with_reducible assumption
    · with_reducible apply satAdd_ok
      with_reducible assumption
  (clear_value x1; intro hx1)
  with_reducible apply raise_ok
  with_reducible assumption

/-- `deliverRx` keeps. -/
theorem deliverRx_ok {qq : List Instr} (ring : Nat) (enabled : Bool) (bs : List Byte) (low : Nat) (at_ : Dword) (s : State) (hs : Ok qq s) :
    Ok qq (deliverRx ring enabled bs low at_ s).2 := by
  unfold deliverRx
  split
  · with_reducible assumption
  · split
    · dsimp only
      with_reducible apply rxDropped_ok
      with_reducible assumption
    · split
      · split
        split
        · dsimp only
          with_reducible apply rxDropped_ok
          with_reducible refine ok_snd (by assumption) ?_
          with_reducible apply readJournal_ok
          with_reducible assumption
        · extract_lets +onlyGivenNames -underBinder -merge -useContext x1
          refine (?_ : Ok qq x1 → _) ?_
          on_goal 2 =>
            unfold x1
            with_reducible apply toLanes_ok
            with_reducible refine ok_snd (by assumption) ?_
            with_reducible apply readJournal_ok
            with_reducible assumption
          (clear_value x1; intro hx1)
          dsimp only
          with_reducible apply finishDesc_ok
          with_reducible assumption
      · dsimp only
        with_reducible apply rxDropped_ok
        with_reducible assumption

/-- `rawRx` keeps. -/
theorem rawRx_ok {qq : List Instr} (plane : Nat) (f : EthFrame) (reply : Bool) (at_ : Dword) (s : State) (hs : Ok qq s) :
    Ok qq (rawRx plane f reply at_ s) := by
  unfold rawRx
  extract_lets +onlyGivenNames -underBinder -merge -useContext x1
  clear_value x1
  with_reducible apply deliverRx_ok
  with_reducible assumption

/-- `mdRx` keeps. -/
theorem mdRx_ok {qq : List Instr} (plane : Nat) (src : Word) (sport : BitVec 16) (t : Telegram) (f : EthFrame) (at_ : Dword) (s : State) (hs : Ok qq s) :
    Ok qq (mdRx plane src sport t f at_ s) := by
  unfold mdRx
  split
  · with_reducible apply satAdd_ok
    with_reducible assumption
  · split
    · with_reducible apply satAdd_ok
      with_reducible assumption
    · extract_lets +onlyGivenNames -underBinder -merge -useContext x1
      extract_lets +onlyGivenNames -underBinder -merge -useContext x2
      clear_value x2
      extract_lets +onlyGivenNames -underBinder -merge -useContext x3
      refine (?_ : Ok qq x3 → _) ?_
      on_goal 2 =>
        unfold x3
        split
        · (with_reducible apply ok_mk; with_reducible assumption)
        · with_reducible assumption
      (clear_value x3; intro hx3)
      split
      · with_reducible apply rawRx_ok
        with_reducible assumption
      · extract_lets +onlyGivenNames -underBinder -merge -useContext x4
        clear_value x4
        extract_lets +onlyGivenNames -underBinder -merge -useContext x5
        clear_value x5
        split
        split
        · with_reducible apply ok_mk
          with_reducible refine ok_snd (by assumption) ?_
          with_reducible apply deliverRx_ok
          with_reducible assumption
        · with_reducible refine ok_snd (by assumption) ?_
          with_reducible apply deliverRx_ok
          with_reducible assumption

/-- `tunDrop` keeps. -/
theorem tunDrop_ok {qq : List Instr} (k n : Nat) (s : State) (hs : Ok qq s) :
    Ok qq (tunDrop k n s) := by
  unfold tunDrop
  extract_lets +onlyGivenNames -underBinder -merge -useContext x1
  clear_value x1
  extract_lets +onlyGivenNames -underBinder -merge -useContext x2
  clear_value x2
  extract_lets +onlyGivenNames -underBinder -merge -useContext x3
  clear_value x3
  extract_lets +onlyGivenNames -underBinder -merge -useContext x4
  clear_value x4
  extract_lets +onlyGivenNames -underBinder -merge -useContext x5
  clear_value x5
  extract_lets +onlyGivenNames -underBinder -merge -useContext x6
  refine (?_ : Ok qq x6 → _) ?_
  on_goal 2 =>
    unfold x6
    with_reducible apply stick_ok
    (with_reducible apply ok_mk; with_reducible assumption)
  (clear_value x6; intro hx6)
  split
  · with_reducible apply raise_ok
    with_reducible assumption
  · with_reducible assumption

/-- `tunnelRx` keeps. -/
theorem tunnelRx_ok {qq : List Instr} (m : TunnelMsg) (s : State) (hs : Ok qq s) :
    Ok qq (tunnelRx m s) := by
  unfold tunnelRx
  extract_lets +onlyGivenNames -underBinder -merge -useContext x1
  clear_value x1
  extract_lets +onlyGivenNames -underBinder -merge -useContext x2
  clear_value x2
  extract_lets +onlyGivenNames -underBinder -merge -useContext x3
  clear_value x3
  split
  · split
    · with_reducible assumption
    · with_reducible apply ok_foldl
      · intro a4 a5 h6
        split
        split
        · with_reducible apply setQueue_ok
          with_reducible assumption
        · with_reducible apply tunDrop_ok
          with_reducible assumption
      · with_reducible assumption
  · with_reducible apply satAdd_ok
    with_reducible assumption

/-- `tunnelSend` keeps. -/
theorem tunnelSend_ok {qq : List Instr} (k : Nat) (s : State) (hs : Ok qq s) :
    Ok qq (tunnelSend k s) := by
  unfold tunnelSend
  extract_lets +onlyGivenNames -underBinder -merge -useContext x1
  clear_value x1
  extract_lets +onlyGivenNames -underBinder -merge -useContext x2
  clear_value x2
  extract_lets +onlyGivenNames -underBinder -merge -useContext x3
  clear_value x3
  split
  · with_reducible assumption
  · extract_lets +onlyGivenNames -underBinder -merge -useContext x4
    clear_value x4
    extract_lets +onlyGivenNames -underBinder -merge -useContext x5
    clear_value x5
    extract_lets +onlyGivenNames -underBinder -merge -useContext x6
    extract_lets +onlyGivenNames -underBinder -merge -useContext x7
    clear_value x7
    extract_lets +onlyGivenNames -underBinder -merge -useContext x8
    clear_value x8
    extract_lets +onlyGivenNames -underBinder -merge -useContext x9
    clear_value x9
    extract_lets +onlyGivenNames -underBinder -merge -useContext x10
    refine (?_ : Ok qq x10 → _) ?_
    on_goal 2 =>
      unfold x10
      (with_reducible apply ok_mk; with_reducible assumption)
    (clear_value x10; intro hx10)
    split
    · extract_lets +onlyGivenNames -underBinder -merge -useContext x11
      clear_value x11
      with_reducible apply ok_foldl
      · intro a12 a13 h14
        extract_lets +onlyGivenNames -underBinder -merge -useContext x15
        clear_value x15
        split
        split
        · with_reducible apply engineSend_ok
          with_reducible refine ok_snd (by assumption) ?_
          with_reducible apply resolve_ok
          with_reducible assumption
        · with_reducible refine ok_snd (by assumption) ?_
          with_reducible apply resolve_ok
          with_reducible assumption
      · with_reducible assumption
    · with_reducible assumption

/-- `retrySends` keeps. -/
theorem retrySends_ok {qq : List Instr} (s : State) (hs : Ok qq s) :
    Ok qq (retrySends s) := by
  unfold retrySends
  with_reducible apply ok_foldl
  · intro a1 a2 h3
    split
    · with_reducible assumption
    · split
      · split
        with_reducible apply setSends_ok
        with_reducible refine ok_snd (by assumption) ?_
        with_reducible apply trySend_ok
        with_reducible assumption
      · with_reducible assumption
  · with_reducible assumption

/-- `arpRx` keeps. -/
theorem arpRx_ok {qq : List Instr} (plane : Nat) (request : Bool) (mac : BitVec 48) (sender target : Word) (s : State) (hs : Ok qq s) :
    Ok qq (arpRx plane request mac sender target s) := by
  unfold arpRx
  extract_lets +onlyGivenNames -underBinder -merge -useContext x1
  refine (?_ : Ok qq x1 → _) ?_
  on_goal 2 =>
    unfold x1
    split
    · with_reducible apply retrySends_ok
      with_reducible apply putArp_ok
      with_reducible assumption
    · with_reducible assumption
  (clear_value x1; intro hx1)
  split
  · with_reducible apply engineSend_ok
    with_reducible assumption
  · with_reducible assumption

/-- `classify` keeps. -/
theorem classify_ok {qq : List Instr} (plane : Nat) (f : EthFrame) (at_ : Dword) (s : State) (hs : Ok qq s) :
    Ok qq (classify plane f at_ s) := by
  unfold classify
  generalize f.body = b
  cases b <;> dsimp only
  · with_reducible assumption
  · with_reducible assumption
  · split
    · with_reducible apply satAdd_ok
      with_reducible assumption
    · split
      · split
        · with_reducible apply rawRx_ok
          with_reducible assumption
        · with_reducible assumption
      · with_reducible apply arpRx_ok
        with_reducible assumption
  · split
    · with_reducible apply satAdd_ok
      with_reducible assumption
    · split
      · split
        · with_reducible apply rawRx_ok
          with_reducible assumption
        · with_reducible assumption
      · with_reducible apply satAdd_ok
        with_reducible assumption
  · split
    · with_reducible apply satAdd_ok
      with_reducible assumption
    · split
      · split
        · with_reducible apply rawRx_ok
          with_reducible assumption
        · with_reducible assumption
      · split
        · split
          · with_reducible apply satAdd_ok
            with_reducible assumption
          · split
            · with_reducible apply pdRx_ok
              with_reducible assumption
            · with_reducible apply pdRx_ok
              with_reducible assumption
            · with_reducible apply pdRx_ok
              with_reducible assumption
            · split
              · with_reducible apply satAdd_ok
                with_reducible assumption
              · with_reducible apply rawRx_ok
                with_reducible assumption
            · split
              · with_reducible apply satAdd_ok
                with_reducible assumption
              · with_reducible apply rawRx_ok
                with_reducible assumption
            · with_reducible apply satAdd_ok
              with_reducible assumption
        · split
          · split
            · with_reducible apply satAdd_ok
              with_reducible assumption
            · split
              · with_reducible apply satAdd_ok
                with_reducible assumption
              · with_reducible apply satAdd_ok
                with_reducible assumption
              · with_reducible apply satAdd_ok
                with_reducible assumption
              · with_reducible apply mdRx_ok
                with_reducible assumption
          · split
            · with_reducible apply satAdd_ok
              with_reducible assumption
            · split
              · with_reducible apply rawRx_ok
                with_reducible assumption
              · with_reducible assumption
  · split
    · with_reducible apply satAdd_ok
      with_reducible assumption
    · split
      · split
        · with_reducible apply rawRx_ok
          with_reducible assumption
        · with_reducible assumption
      · split
        · with_reducible apply satAdd_ok
          with_reducible assumption
        · split
          · with_reducible apply tunnelRx_ok
            with_reducible assumption
          · split
            · with_reducible apply rawRx_ok
              with_reducible assumption
            · with_reducible assumption
  · split
    · with_reducible apply satAdd_ok
      with_reducible assumption
    · split
      · split
        · with_reducible apply rawRx_ok
          with_reducible assumption
        · with_reducible assumption
      · split
        · with_reducible apply rawRx_ok
          with_reducible assumption
        · with_reducible assumption

/-- `frameReceive` keeps. -/
theorem frameReceive_ok {qq : List Instr} (plane : Nat) (s : State) (hs : Ok qq s) :
    Ok qq (frameReceive plane s) := by
  unfold frameReceive
  split
  · with_reducible apply classify_ok
    (with_reducible apply ok_mk; with_reducible assumption)
  · with_reducible assumption

/-- `sampleFlow` keeps. -/
theorem sampleFlow_ok {qq : List Instr} (f : Nat) (s : State) (hs : Ok qq s) :
    Ok qq (sampleFlow f s) := by
  unfold sampleFlow
  extract_lets +onlyGivenNames -underBinder -merge -useContext x1
  clear_value x1
  extract_lets +onlyGivenNames -underBinder -merge -useContext x2
  clear_value x2
  extract_lets +onlyGivenNames -underBinder -merge -useContext x3
  refine (?_ : Ok qq x3 → _) ?_
  on_goal 2 =>
    unfold x3
    with_reducible apply ok_foldl
    · intro a31 a32 h33
      split
      · extract_lets +onlyGivenNames -underBinder -merge -useContext x34
        refine (?_ : Ok qq x34 → _) ?_
        on_goal 2 =>
          unfold x34
          with_reducible apply ok_foldl
          · intro a35 a36 h37
            split
            · with_reducible apply meetSound_ok
              with_reducible assumption
            · with_reducible assumption
          · with_reducible assumption
        (clear_value x34; intro hx34)
        with_reducible apply raise_ok
        with_reducible apply stick_ok
        with_reducible assumption
      · with_reducible assumption
    · with_reducible assumption
  (clear_value x3; intro hx3)
  extract_lets +onlyGivenNames -underBinder -merge -useContext x4
  clear_value x4
  extract_lets +onlyGivenNames -underBinder -merge -useContext x5
  clear_value x5
  extract_lets +onlyGivenNames -underBinder -merge -useContext x6
  clear_value x6
  extract_lets +onlyGivenNames -underBinder -merge -useContext x7
  clear_value x7
  extract_lets +onlyGivenNames -underBinder -merge -useContext x8
  clear_value x8
  extract_lets +onlyGivenNames -underBinder -merge -useContext x9
  clear_value x9
  extract_lets +onlyGivenNames -underBinder -merge -useContext x10
  refine (?_ : Ok qq x10 → _) ?_
  on_goal 2 =>
    unfold x10
    with_reducible apply setFlow_ok
    with_reducible assumption
  (clear_value x10; intro hx10)
  split
  extract_lets +onlyGivenNames -underBinder -merge -useContext x11
  clear_value x11
  extract_lets +onlyGivenNames -underBinder -merge -useContext x12
  clear_value x12
  extract_lets +onlyGivenNames -underBinder -merge -useContext x13
  clear_value x13
  extract_lets +onlyGivenNames -underBinder -merge -useContext x14
  clear_value x14
  split
  extract_lets +onlyGivenNames -underBinder -merge -useContext x15
  split
  split
  extract_lets +onlyGivenNames -underBinder -merge -useContext x16
  clear_value x16
  extract_lets +onlyGivenNames -underBinder -merge -useContext x17
  clear_value x17
  extract_lets +onlyGivenNames -underBinder -merge -useContext x18
  clear_value x18
  extract_lets +onlyGivenNames -underBinder -merge -useContext x19
  clear_value x19
  extract_lets +onlyGivenNames -underBinder -merge -useContext x20
  clear_value x20
  extract_lets +onlyGivenNames -underBinder -merge -useContext x21
  clear_value x21
  split
  extract_lets +onlyGivenNames -underBinder -merge -useContext x22
  refine (?_ : Ok qq x22 → _) ?_
  on_goal 2 =>
    unfold x22
    with_reducible refine ok_sound ?_ (fun hm => writeBytes_wf hm _ _)
    with_reducible refine ok_snd (by assumption) ?_
    split
    · with_reducible apply sampleSafe_ok
      with_reducible assumption
    · with_reducible assumption
  (clear_value x22; intro hx22)
  extract_lets +onlyGivenNames -underBinder -merge -useContext x23
  clear_value x23
  extract_lets +onlyGivenNames -underBinder -merge -useContext x24
  refine (?_ : Ok qq x24 → _) ?_
  on_goal 2 =>
    unfold x24
    with_reducible apply setFlow_ok
    with_reducible assumption
  (clear_value x24; intro hx24)
  extract_lets +onlyGivenNames -underBinder -merge -useContext x25
  refine (?_ : Ok qq x25 → _) ?_
  on_goal 2 =>
    unfold x25
    with_reducible apply setReg_ok
    with_reducible assumption
  (clear_value x25; intro hx25)
  extract_lets +onlyGivenNames -underBinder -merge -useContext x26
  refine (?_ : Ok qq x26 → _) ?_
  on_goal 2 =>
    unfold x26
    split
    · with_reducible apply setReg_ok
      with_reducible assumption
    · with_reducible assumption
  (clear_value x26; intro hx26)
  extract_lets +onlyGivenNames -underBinder -merge -useContext x27
  refine (?_ : Ok qq x27 → _) ?_
  on_goal 2 =>
    unfold x27
    split
    · with_reducible apply raise_ok
      with_reducible apply stick_ok
      with_reducible assumption
    · with_reducible assumption
  (clear_value x27; intro hx27)
  extract_lets +onlyGivenNames -underBinder -merge -useContext x28
  refine (?_ : Ok qq x28 → _) ?_
  on_goal 2 =>
    unfold x28
    split
    · with_reducible apply raise_ok
      with_reducible apply stick_ok
      with_reducible assumption
    · with_reducible assumption
  (clear_value x28; intro hx28)
  extract_lets +onlyGivenNames -underBinder -merge -useContext x29
  refine (?_ : Ok qq x29 → _) ?_
  on_goal 2 =>
    unfold x29
    split
    · with_reducible apply raise_ok
      with_reducible assumption
    · with_reducible assumption
  (clear_value x29; intro hx29)
  extract_lets +onlyGivenNames -underBinder -merge -useContext x30
  refine (?_ : Ok qq x30 → _) ?_
  on_goal 2 =>
    unfold x30
    split
    · with_reducible apply raise_ok
      with_reducible apply stick_ok
      with_reducible assumption
    · with_reducible assumption
  (clear_value x30; intro hx30)
  split
  · with_reducible apply raise_ok
    with_reducible apply stick_ok
    with_reducible assumption
  · with_reducible assumption

/-- `sampleFlows` keeps. -/
theorem sampleFlows_ok {qq : List Instr} (img : Nat) (s : State) (hs : Ok qq s) :
    Ok qq (sampleFlows img s) := by
  unfold sampleFlows
  with_reducible apply ok_foldl
  · intro a1 a2 h3
    with_reducible apply sampleFlow_ok
    with_reducible assumption
  · with_reducible assumption

/-- `netOff` keeps. -/
theorem netOff_ok {qq : List Instr} (s : State) (hs : Ok qq s) :
    Ok qq (netOff s) := by
  unfold netOff
  with_reducible apply setReg_ok
  with_reducible apply ok_foldl
  · intro a1 a2 h3
    with_reducible apply setReg_ok
    with_reducible assumption
  · with_reducible assumption

/-- `netClear` keeps. -/
theorem netClear_ok {qq : List Instr} (s : State) (hs : Ok qq s) :
    Ok qq (netClear s) := by
  unfold netClear
  extract_lets +onlyGivenNames -underBinder -merge -useContext x1
  refine (?_ : Ok qq x1 → _) ?_
  on_goal 2 =>
    unfold x1
    with_reducible apply setReg_ok
    with_reducible apply setReg_ok
    with_reducible assumption
  (clear_value x1; intro hx1)
  with_reducible apply ok_foldl
  · intro a2 a3 h4
    with_reducible apply setFld_ok
    with_reducible assumption
  · with_reducible assumption

/-- `arpFlush` keeps. -/
theorem arpFlush_ok {qq : List Instr} (s : State) (hs : Ok qq s) :
    Ok qq (arpFlush s) := by
  unfold arpFlush
  (with_reducible apply ok_mk; with_reducible assumption)

/-- `refuseNet` keeps. -/
theorem refuseNet_ok {qq : List Instr} (reason key : Nat) (s : State) (hs : Ok qq s) :
    Ok qq (refuseNet reason key s) := by
  unfold refuseNet
  split
  · extract_lets +onlyGivenNames -underBinder -merge -useContext x1
    clear_value x1
    with_reducible apply refuseCfg_ok
    with_reducible assumption
  · split
    · with_reducible apply refuseCfg_ok
      with_reducible assumption
    · with_reducible apply refuseCfg_ok
      with_reducible assumption

/-- `writeFlowCfg` keeps. -/
theorem writeFlowCfg_ok {qq : List Instr} (f : Nat) (v : Word) (s : State) (hs : Ok qq s) :
    Ok qq (writeFlowCfg f v s) := by
  unfold writeFlowCfg
  extract_lets +onlyGivenNames -underBinder -merge -useContext x1
  clear_value x1
  extract_lets +onlyGivenNames -underBinder -merge -useContext x2
  clear_value x2
  extract_lets +onlyGivenNames -underBinder -merge -useContext x3
  clear_value x3
  split
  · with_reducible apply refuseNet_ok
    with_reducible assumption
  · split
    · split
      · with_reducible apply refuseNet_ok
        with_reducible assumption
      · with_reducible apply setReg_ok
        with_reducible assumption
    · split
      · extract_lets +onlyGivenNames -underBinder -merge -useContext x4
        clear_value x4
        split
        · with_reducible apply refuseNet_ok
          with_reducible assumption
        · with_reducible apply setReg_ok
          with_reducible apply setReg_ok
          with_reducible apply setFlow_ok
          with_reducible assumption
      · with_reducible apply setReg_ok
        with_reducible assumption

/-- `writeTunCfg` keeps. -/
theorem writeTunCfg_ok {qq : List Instr} (k : Nat) (v : Word) (s : State) (hs : Ok qq s) :
    Ok qq (writeTunCfg k v s) := by
  unfold writeTunCfg
  extract_lets +onlyGivenNames -underBinder -merge -useContext x1
  clear_value x1
  split
  · with_reducible apply refuseNet_ok
    with_reducible assumption
  · extract_lets +onlyGivenNames -underBinder -merge -useContext x2
    refine (?_ : Ok qq x2 → _) ?_
    on_goal 2 =>
      unfold x2
      with_reducible apply setReg_ok
      with_reducible assumption
    (clear_value x2; intro hx2)
    split
    · with_reducible assumption
    · (with_reducible apply ok_mk; with_reducible assumption)

/-- `writeRxRoute` keeps. -/
theorem writeRxRoute_ok {qq : List Instr} (v : Word) (s : State) (hs : Ok qq s) :
    Ok qq (writeRxRoute v s) := by
  unfold writeRxRoute
  split
  · with_reducible apply refuseNet_ok
    with_reducible assumption
  · with_reducible apply setReg_ok
    with_reducible assumption

end Sys2Proof.Machine
end

