-- ==== Sys2Proof/Laws/KeepPairOps.lean ====
section
/-!
SUPPORT. What the operations of Machine/PairOps.lean keep: the canonical form of registers and memories, and the queue.
-/

namespace Sys2Proof.Machine

/-- `startAttempt` keeps. -/
theorem startAttempt_ok {qq : List Instr} (s : State) (hs : Ok qq s) :
    Ok qq (startAttempt s) := by
  unfold startAttempt
  extract_lets +onlyGivenNames -underBinder -merge -useContext x1
  clear_value x1
  extract_lets +onlyGivenNames -underBinder -merge -useContext x2
  refine (?_ : Ok qq x2 → _) ?_
  on_goal 2 =>
    unfold x2
    with_reducible apply setReg_ok
    with_reducible assumption
  (clear_value x2; intro hx2)
  extract_lets +onlyGivenNames -underBinder -merge -useContext x3
  clear_value x3
  extract_lets +onlyGivenNames -underBinder -merge -useContext x4
  refine (?_ : Ok qq x4 → _) ?_
  on_goal 2 =>
    unfold x4
    (with_reducible apply ok_mk; with_reducible assumption)
  (clear_value x4; intro hx4)
  with_reducible apply emitOut_ok
  with_reducible assumption

/-- `lanesToTesting` keeps. -/
theorem lanesToTesting_ok {qq : List Instr} (s : State) (hs : Ok qq s) :
    Ok qq (lanesToTesting s) := by
  unfold lanesToTesting
  extract_lets +onlyGivenNames -underBinder -merge -useContext x1
  refine (?_ : Ok qq x1 → _) ?_
  on_goal 2 =>
    unfold x1
    with_reducible apply setVotes_ok
    with_reducible assumption
  (clear_value x1; intro hx1)
  with_reducible apply ok_foldl
  · intro a2 a3 h4
    split
    · with_reducible apply startTesting_ok
      with_reducible apply isolate_ok
      with_reducible assumption
    · with_reducible assumption
  · with_reducible assumption

/-- `enterJoining` keeps. -/
theorem enterJoining_ok {qq : List Instr} (s : State) (hs : Ok qq s) :
    Ok qq (enterJoining s) := by
  unfold enterJoining
  extract_lets +onlyGivenNames -underBinder -merge -useContext x1
  refine (?_ : Ok qq x1 → _) ?_
  on_goal 2 =>
    unfold x1
    with_reducible apply rejoinIdle_ok
    with_reducible apply stopChrono_ok
    with_reducible assumption
  (clear_value x1; intro hx1)
  extract_lets +onlyGivenNames -underBinder -merge -useContext x2
  refine (?_ : Ok qq x2 → _) ?_
  on_goal 2 =>
    unfold x2
    with_reducible apply setModTo_ok
    with_reducible assumption
  (clear_value x2; intro hx2)
  with_reducible apply startAttempt_ok
  with_reducible apply setReg_ok
  with_reducible apply lanesToTesting_ok
  with_reducible assumption

/-- `enterMaintenance` keeps. -/
theorem enterMaintenance_ok {qq : List Instr} (reason : Nat) (s : State) (hs : Ok qq s) :
    Ok qq (enterMaintenance reason s) := by
  unfold enterMaintenance
  extract_lets +onlyGivenNames -underBinder -merge -useContext x1
  refine (?_ : Ok qq x1 → _) ?_
  on_goal 2 =>
    unfold x1
    with_reducible apply setModTo_ok
    with_reducible apply setFld_ok
    with_reducible apply stopChrono_ok
    with_reducible assumption
  (clear_value x1; intro hx1)
  with_reducible apply raise_ok
  with_reducible assumption

/-- `joinFailed` keeps. -/
theorem joinFailed_ok {qq : List Instr} (reason : Nat) (s : State) (hs : Ok qq s) :
    Ok qq (joinFailed reason s) := by
  unfold joinFailed
  extract_lets +onlyGivenNames -underBinder -merge -useContext x1
  refine (?_ : Ok qq x1 → _) ?_
  on_goal 2 =>
    unfold x1
    with_reducible apply raise_ok
    with_reducible apply stick_ok
    with_reducible assumption
  (clear_value x1; intro hx1)
  extract_lets +onlyGivenNames -underBinder -merge -useContext x2
  refine (?_ : Ok qq x2 → _) ?_
  on_goal 2 =>
    unfold x2
    with_reducible apply setFld_ok
    with_reducible apply stopChrono_ok
    with_reducible assumption
  (clear_value x2; intro hx2)
  split
  · (with_reducible apply ok_mk; with_reducible assumption)
  · with_reducible apply enterMaintenance_ok
    with_reducible assumption

/-- `standbyFault` keeps. -/
theorem standbyFault_ok {qq : List Instr} (reason : Nat) (s : State) (hs : Ok qq s) :
    Ok qq (standbyFault reason s) := by
  unfold standbyFault
  split
  · extract_lets +onlyGivenNames -underBinder -merge -useContext x1
    refine (?_ : Ok qq x1 → _) ?_
    on_goal 2 =>
      unfold x1
      with_reducible apply loseEligible_ok
      · with_reducible assumption
      · intro a2 a3 a4 a5 a6 h7
        with_reducible apply raiseF_ok
        with_reducible assumption
    (clear_value x1; intro hx1)
    split
    · with_reducible apply enterJoining_ok
      with_reducible assumption
    · with_reducible assumption
  · split
    · split
      · with_reducible apply joinFailed_ok
        with_reducible assumption
      · (with_reducible apply ok_mk; with_reducible assumption)
    · with_reducible assumption
  · with_reducible assumption

/-- `mirrorMissing` keeps. -/
theorem mirrorMissing_ok {qq : List Instr} (content : Nat) (s : State) (hs : Ok qq s) :
    Ok qq (mirrorMissing content s) := by
  unfold mirrorMissing
  split
  · with_reducible apply standbyFault_ok
    with_reducible apply raise_ok
    with_reducible apply stick_ok
    with_reducible assumption
  · with_reducible assumption

/-- `commonCause` keeps. -/
theorem commonCause_ok {qq : List Instr} (t : Nat) (h : Word) (s : State) (hs : Ok qq s) :
    Ok qq (commonCause t h s) := by
  unfold commonCause
  extract_lets +onlyGivenNames -underBinder -merge -useContext x1
  refine (?_ : Ok qq x1 → _) ?_
  on_goal 2 =>
    unfold x1
    with_reducible apply setReg_ok
    with_reducible assumption
  (clear_value x1; intro hx1)
  with_reducible apply raiseTask_ok
  (with_reducible apply ok_mk; with_reducible assumption)

/-- `noteOverrun` keeps. -/
theorem noteOverrun_ok {qq : List Instr} (t : Fin 48) (s : State) (hs : Ok qq s) :
    Ok qq (noteOverrun t s) := by
  unfold noteOverrun
  split
  · extract_lets +onlyGivenNames -underBinder -merge -useContext x1
    clear_value x1
    extract_lets +onlyGivenNames -underBinder -merge -useContext x2
    clear_value x2
    extract_lets +onlyGivenNames -underBinder -merge -useContext x3
    refine (?_ : Ok qq x3 → _) ?_
    on_goal 2 =>
      unfold x3
      with_reducible apply emitOut_ok
      (with_reducible apply ok_mk; with_reducible assumption)
    (clear_value x3; intro hx3)
    split
    · with_reducible apply commonCause_ok
      with_reducible assumption
    · with_reducible assumption
  · with_reducible assumption

/-- `overrunNotice` keeps. -/
theorem overrunNotice_ok {qq : List Instr} (t : Fin 48) (h : Word) (s : State) (hs : Ok qq s) :
    Ok qq (overrunNotice t h s) := by
  unfold overrunNotice
  extract_lets +onlyGivenNames -underBinder -merge -useContext x1
  refine (?_ : Ok qq x1 → _) ?_
  on_goal 2 =>
    unfold x1
    with_reducible apply setReg_ok
    with_reducible assumption
  (clear_value x1; intro hx1)
  extract_lets +onlyGivenNames -underBinder -merge -useContext x2
  clear_value x2
  extract_lets +onlyGivenNames -underBinder -merge -useContext x3
  refine (?_ : Ok qq x3 → _) ?_
  on_goal 2 =>
    unfold x3
    (with_reducible apply ok_mk; with_reducible assumption)
  (clear_value x3; intro hx3)
  split
  · with_reducible apply commonCause_ok
    with_reducible assumption
  · with_reducible apply raiseTask_ok
    with_reducible assumption

/-- `dropNotices` keeps. -/
theorem dropNotices_ok {qq : List Instr} (h : Word) (s : State) (hs : Ok qq s) :
    Ok qq (dropNotices h s) := by
  unfold dropNotices
  extract_lets +onlyGivenNames -underBinder -merge -useContext x1
  clear_value x1
  extract_lets +onlyGivenNames -underBinder -merge -useContext x2
  clear_value x2
  extract_lets +onlyGivenNames -underBinder -merge -useContext x3
  refine (?_ : Ok qq x3 → _) ?_
  on_goal 2 =>
    unfold x3
    (with_reducible apply ok_mk; with_reducible assumption)
  (clear_value x3; intro hx3)
  split
  · with_reducible apply setBit_ok
    with_reducible assumption
  · with_reducible assumption

/-- `forgetNotices` keeps. -/
theorem forgetNotices_ok {qq : List Instr} (s : State) (hs : Ok qq s) :
    Ok qq (forgetNotices s) := by
  unfold forgetNotices
  with_reducible apply setBit_ok
  (with_reducible apply ok_mk; with_reducible assumption)

/-- `acceptRec` keeps. -/
theorem acceptRec_ok {qq : List Instr} (n : Nat) (seq : Word) (s : State) (hs : Ok qq s) :
    Ok qq (acceptRec n seq s) := by
  unfold acceptRec
  split
  · with_reducible apply showRingTxq_ok
    with_reducible apply showRing_ok
    with_reducible apply setReg_ok
    with_reducible apply markRec_ok
    with_reducible assumption
  · with_reducible assumption

/-- `stopMirroring` keeps. -/
theorem stopMirroring_ok {qq : List Instr} (s : State) (hs : Ok qq s) :
    Ok qq (stopMirroring s) := by
  unfold stopMirroring
  extract_lets +onlyGivenNames -underBinder -merge -useContext x1
  clear_value x1
  extract_lets +onlyGivenNames -underBinder -merge -useContext x2
  refine (?_ : Ok qq x2 → _) ?_
  on_goal 2 =>
    unfold x2
    (with_reducible apply ok_mk; with_reducible assumption)
  (clear_value x2; intro hx2)
  extract_lets +onlyGivenNames -underBinder -merge -useContext x3
  refine (?_ : Ok qq x3 → _) ?_
  on_goal 2 =>
    unfold x3
    with_reducible apply ok_foldl
    · intro a10 a11 h12
      with_reducible apply acceptRec_ok
      with_reducible assumption
    · with_reducible assumption
  (clear_value x3; intro hx3)
  with_reducible apply ok_foldl
  · intro a4 a5 h6
    with_reducible apply ok_foldl
    · intro a7 a8 h9
      split
      with_reducible apply showRecord_ok
      with_reducible assumption
    · with_reducible assumption
  · with_reducible assumption

/-- `batchAcked` keeps. -/
theorem batchAcked_ok {qq : List Instr} (items : List JItem) (s : State) (hs : Ok qq s) :
    Ok qq (batchAcked items s) := by
  unfold batchAcked
  with_reducible apply ok_foldl
  · intro a1 a2 h3
    split
    · split
      · split
        · with_reducible apply acceptRec_ok
          with_reducible assumption
        · with_reducible assumption
      · with_reducible assumption
    · split
      · with_reducible apply showRecord_ok
        with_reducible assumption
      · with_reducible assumption
    · with_reducible assumption
  · with_reducible assumption

/-- `showWithhold` keeps. -/
theorem showWithhold_ok {qq : List Instr} (s : State) (hs : Ok qq s) :
    Ok qq (showWithhold s) := by
  unfold showWithhold
  with_reducible apply setBit_ok
  with_reducible assumption

/-- `writeConfirm` keeps. -/
theorem writeConfirm_ok {qq : List Instr} (confirmed : Bool) (blocks : List Nat) (s : State) (hs : Ok qq s) :
    Ok qq (writeConfirm confirmed blocks s) := by
  unfold writeConfirm
  extract_lets +onlyGivenNames -underBinder -merge -useContext x1
  clear_value x1
  with_reducible apply showWithhold_ok
  (with_reducible apply ok_mk; with_reducible assumption)

/-- `noteDigest` keeps. -/
theorem noteDigest_ok {qq : List Instr} (index : Nat) (wrote : Bool) (blocks : List Nat) (s : State) (hs : Ok qq s) :
    Ok qq (noteDigest index wrote blocks s) := by
  unfold noteDigest
  split
  · extract_lets +onlyGivenNames -underBinder -merge -useContext x1
    clear_value x1
    (with_reducible apply ok_mk; with_reducible assumption)
  · with_reducible assumption

/-- `outputMismatch` keeps. -/
theorem outputMismatch_ok {qq : List Instr} (index : Nat) (s : State) (hs : Ok qq s) :
    Ok qq (outputMismatch index s) := by
  unfold outputMismatch
  with_reducible apply standbyFault_ok
  with_reducible apply raise_ok
  with_reducible apply stick_ok
  with_reducible assumption

/-- `checkOverdue` keeps. -/
theorem checkOverdue_ok {qq : List Instr} (s : State) (hs : Ok qq s) :
    Ok qq (checkOverdue s) := by
  unfold checkOverdue
  split
  · with_reducible apply mirrorMissing_ok
    (with_reducible apply ok_mk; with_reducible assumption)
  · with_reducible assumption

/-- `inputXchk` keeps. -/
theorem inputXchk_ok {qq : List Instr} (chan kind : Nat) (s : State) (hs : Ok qq s) :
    Ok qq (inputXchk chan kind s) := by
  unfold inputXchk
  extract_lets +onlyGivenNames -underBinder -merge -useContext x1
  refine (?_ : Ok qq x1 → _) ?_
  on_goal 2 =>
    unfold x1
    with_reducible apply satAdd_ok
    with_reducible apply stick_ok
    with_reducible assumption
  (clear_value x1; intro hx1)
  with_reducible apply raise_ok
  with_reducible assumption

/-- `standbyXchk` keeps. -/
theorem standbyXchk_ok {qq : List Instr} (chan kind : Nat) (s : State) (hs : Ok qq s) :
    Ok qq (standbyXchk chan kind s) := by
  unfold standbyXchk
  extract_lets +onlyGivenNames -underBinder -merge -useContext x1
  refine (?_ : Ok qq x1 → _) ?_
  on_goal 2 =>
    unfold x1
    with_reducible apply emitOut_ok
    with_reducible apply inputXchk_ok
    with_reducible assumption
  (clear_value x1; intro hx1)
  split
  · with_reducible apply standbyFault_ok
    with_reducible assumption
  · with_reducible assumption

/-- `crossCheck` keeps. -/
theorem crossCheck_ok {qq : List Instr} (img : Nat) (s : State) (hs : Ok qq s) :
    Ok qq (crossCheck img s) := by
  unfold crossCheck
  split
  · split
    · split
      extract_lets +onlyGivenNames -underBinder -merge -useContext x1
      clear_value x1
      extract_lets +onlyGivenNames -underBinder -merge -useContext x2
      clear_value x2
      extract_lets +onlyGivenNames -underBinder -merge -useContext x3
      clear_value x3
      extract_lets +onlyGivenNames -underBinder -merge -useContext x4
      clear_value x4
      extract_lets +onlyGivenNames -underBinder -merge -useContext x5
      clear_value x5
      extract_lets +onlyGivenNames -underBinder -merge -useContext x6
      clear_value x6
      extract_lets +onlyGivenNames -underBinder -merge -useContext x7
      clear_value x7
      extract_lets +onlyGivenNames -underBinder -merge -useContext x8
      refine (?_ : Ok qq x8 → _) ?_
      on_goal 2 =>
        unfold x8
        (with_reducible apply ok_mk; with_reducible assumption)
      (clear_value x8; intro hx8)
      with_reducible apply ok_foldl
      · intro a9 a10 h11
        with_reducible apply standbyXchk_ok
        with_reducible assumption
      · with_reducible assumption
    · with_reducible assumption
  · with_reducible assumption

end Sys2Proof.Machine
end

