-- ==== Sys2Proof/Laws/KeepTasks.lean ====
section
/-!
SUPPORT. What the operations of Machine/Tasks.lean keep: the canonical form of registers and memories, and the queue.
-/

namespace Sys2Proof.Machine

/-- `yieldForTask` keeps. -/
theorem yieldForTask_ok {qq : List Instr} (t : Nat) (e : EvDef) (detailB : Nat) (s : State) (hs : Ok qq s) :
    Ok qq (yieldForTask t e detailB s) := by
  unfold yieldForTask
  extract_lets +onlyGivenNames -underBinder -merge -useContext x1
  clear_value x1
  extract_lets +onlyGivenNames -underBinder -merge -useContext x2
  clear_value x2
  extract_lets +onlyGivenNames -underBinder -merge -useContext x3
  refine (?_ : Ok qq x3 → _) ?_
  on_goal 2 =>
    unfold x3
    with_reducible apply raiseRecord_ok
    with_reducible assumption
  (clear_value x3; intro hx3)
  split
  · with_reducible apply applySafeHalt_ok
    · with_reducible assumption
    · intro a4 a5 a6 a7 a8 h9
      with_reducible apply raiseF_ok
      with_reducible assumption
  · split
    · with_reducible apply standbyFault_ok
      with_reducible assumption
    · with_reducible apply applyYield_ok
      · with_reducible assumption
      · intro a10 a11 a12 a13 a14 h15
        with_reducible apply raiseF_ok
        with_reducible assumption

/-- `showOverrun` keeps. -/
theorem showOverrun_ok {qq : List Instr} (t action : Nat) (s : State) (hs : Ok qq s) :
    Ok qq (showOverrun t action s) := by
  unfold showOverrun
  extract_lets +onlyGivenNames -underBinder -merge -useContext x1
  refine (?_ : Ok qq x1 → _) ?_
  on_goal 2 =>
    unfold x1
    split
    · with_reducible apply stick_ok
      with_reducible assumption
    · with_reducible apply stick_ok
      with_reducible assumption
  (clear_value x1; intro hx1)
  extract_lets +onlyGivenNames -underBinder -merge -useContext x2
  refine (?_ : Ok qq x2 → _) ?_
  on_goal 2 =>
    unfold x2
    with_reducible apply setReg_ok
    with_reducible assumption
  (clear_value x2; intro hx2)
  with_reducible apply satAdd_ok
  with_reducible assumption

/-- `abandonIn` keeps. -/
theorem abandonIn_ok {qq : List Instr} (t : Nat) (l : Lane) (s : State) (hs : Ok qq s) :
    Ok qq (abandonIn t l s) := by
  unfold abandonIn
  extract_lets +onlyGivenNames -underBinder -merge -useContext x1
  clear_value x1
  extract_lets +onlyGivenNames -underBinder -merge -useContext x2
  refine (?_ : Ok qq x2 → _) ?_
  on_goal 2 =>
    unfold x2
    with_reducible refine ok_dram ?_ _ (fun hm => writeBytes_wf hm _ _)
    with_reducible assumption
  (clear_value x2; intro hx2)
  extract_lets +onlyGivenNames -underBinder -merge -useContext x3
  refine (?_ : Ok qq x3 → _) ?_
  on_goal 2 =>
    unfold x3
    with_reducible apply signalCore_ok
    with_reducible apply setAcc_ok
    with_reducible assumption
  (clear_value x3; intro hx3)
  extract_lets +onlyGivenNames -underBinder -merge -useContext x4
  clear_value x4
  (with_reducible apply ok_mk; with_reducible assumption)

/-- `abandonJob` keeps. -/
theorem abandonJob_ok {qq : List Instr} (t : Nat) (s : State) (hs : Ok qq s) :
    Ok qq (abandonJob t s) := by
  unfold abandonJob
  extract_lets +onlyGivenNames -underBinder -merge -useContext x1
  clear_value x1
  extract_lets +onlyGivenNames -underBinder -merge -useContext x2
  clear_value x2
  extract_lets +onlyGivenNames -underBinder -merge -useContext x3
  refine (?_ : Ok qq x3 → _) ?_
  on_goal 2 =>
    unfold x3
    with_reducible apply setJob_ok
    with_reducible assumption
  (clear_value x3; intro hx3)
  with_reducible apply ok_foldl
  · intro a4 a5 h6
    with_reducible apply abandonIn_ok
    with_reducible assumption
  · with_reducible assumption

/-- `overrunStop` keeps. -/
theorem overrunStop_ok {qq : List Instr} (t : Fin 48) (s : State) (hs : Ok qq s) :
    Ok qq (overrunStop t s) := by
  unfold overrunStop
  extract_lets +onlyGivenNames -underBinder -merge -useContext x1
  refine (?_ : Ok qq x1 → _) ?_
  on_goal 2 =>
    unfold x1
    with_reducible apply yieldForTask_ok
    with_reducible apply showOverrun_ok
    with_reducible assumption
  (clear_value x1; intro hx1)
  with_reducible apply noteOverrun_ok
  with_reducible assumption

/-- `abandonAlone` keeps. -/
theorem abandonAlone_ok {qq : List Instr} (t : Nat) (l : Lane) (s : State) (hs : Ok qq s) :
    Ok qq (abandonAlone t l s) := by
  unfold abandonAlone
  extract_lets +onlyGivenNames -underBinder -merge -useContext x1
  refine (?_ : Ok qq x1 → _) ?_
  on_goal 2 =>
    unfold x1
    with_reducible apply abandonIn_ok
    with_reducible assumption
  (clear_value x1; intro hx1)
  with_reducible apply setJobLane_ok
  with_reducible assumption

/-- `raiseAbandoned` keeps. -/
theorem raiseAbandoned_ok {qq : List Instr} (t source : Nat) (s : State) (hs : Ok qq s) :
    Ok qq (raiseAbandoned t source s) := by
  unfold raiseAbandoned
  extract_lets +onlyGivenNames -underBinder -merge -useContext x1
  clear_value x1
  extract_lets +onlyGivenNames -underBinder -merge -useContext x2
  clear_value x2
  split
  · with_reducible apply standbyFault_ok
    with_reducible apply raiseRecord_ok
    with_reducible assumption
  · with_reducible apply raiseTask_ok
    with_reducible assumption

/-- `overrunAbandon` keeps. -/
theorem overrunAbandon_ok {qq : List Instr} (t : Fin 48) (s : State) (hs : Ok qq s) :
    Ok qq (overrunAbandon t s) := by
  unfold overrunAbandon
  extract_lets +onlyGivenNames -underBinder -merge -useContext x1
  refine (?_ : Ok qq x1 → _) ?_
  on_goal 2 =>
    unfold x1
    with_reducible apply raiseAbandoned_ok
    with_reducible apply showOverrun_ok
    with_reducible assumption
  (clear_value x1; intro hx1)
  extract_lets +onlyGivenNames -underBinder -merge -useContext x2
  refine (?_ : Ok qq x2 → _) ?_
  on_goal 2 =>
    unfold x2
    split
    · with_reducible apply abandonAlone_ok
      with_reducible assumption
    · with_reducible apply abandonJob_ok
      with_reducible assumption
  (clear_value x2; intro hx2)
  extract_lets +onlyGivenNames -underBinder -merge -useContext x3
  refine (?_ : Ok qq x3 → _) ?_
  on_goal 2 =>
    unfold x3
    with_reducible apply satAdd_ok
    with_reducible assumption
  (clear_value x3; intro hx3)
  extract_lets +onlyGivenNames -underBinder -merge -useContext x4
  clear_value x4
  split
  · with_reducible apply noteOverrun_ok
    with_reducible apply yieldForTask_ok
    with_reducible assumption
  · with_reducible assumption

/-- `overrun` keeps. -/
theorem overrun_ok {qq : List Instr} (t : Fin 48) (s : State) (hs : Ok qq s) :
    Ok qq (overrun t s) := by
  unfold overrun
  split
  · with_reducible apply overrunStop_ok
    with_reducible assumption
  · with_reducible apply overrunAbandon_ok
    with_reducible assumption

/-- `overrunLane` keeps. -/
theorem overrunLane_ok {qq : List Instr} (t : Nat) (l : Lane) (s : State) (hs : Ok qq s) :
    Ok qq (overrunLane t l s) := by
  unfold overrunLane
  with_reducible apply abandonAlone_ok
  with_reducible apply raiseAbandoned_ok
  with_reducible apply showOverrun_ok
  with_reducible assumption

/-- `deadlineCheck` keeps. -/
theorem deadlineCheck_ok {qq : List Instr} (t : Fin 48) (s : State) (hs : Ok qq s) :
    Ok qq (deadlineCheck t s) := by
  unfold deadlineCheck
  extract_lets +onlyGivenNames -underBinder -merge -useContext x1
  clear_value x1
  split
  · extract_lets +onlyGivenNames -underBinder -merge -useContext x2
    refine (?_ : Ok qq x2 → _) ?_
    on_goal 2 =>
      unfold x2
      with_reducible apply setJob_ok
      with_reducible assumption
    (clear_value x2; intro hx2)
    extract_lets +onlyGivenNames -underBinder -merge -useContext x3
    refine (?_ : (∀ c0, Ok qq c0 → Ok qq (x3 c0)) → _) ?_
    on_goal 2 =>
      unfold x3
      intro a10 h11
      with_reducible apply setFld_ok
      with_reducible assumption
    clear_value x3
    intro hx3
    split
    · extract_lets +onlyGivenNames -underBinder -merge -useContext x4
      clear_value x4
      extract_lets +onlyGivenNames -underBinder -merge -useContext x5
      clear_value x5
      extract_lets +onlyGivenNames -underBinder -merge -useContext x6
      refine (?_ : Ok qq x6 → _) ?_
      on_goal 2 =>
        unfold x6
        with_reducible apply ok_foldl
        · intro a7 a8 h9
          with_reducible apply overrunLane_ok
          with_reducible assumption
        · with_reducible assumption
      (clear_value x6; intro hx6)
      split
      · with_reducible apply overrun_ok
        with_reducible assumption
      · with_reducible apply hx3
        with_reducible assumption
    · split
      · with_reducible assumption
      · split
        · with_reducible apply hx3
          with_reducible assumption
        · with_reducible apply overrun_ok
          with_reducible assumption
  · with_reducible assumption

/-- `clearResp` keeps. -/
theorem clearResp_ok {qq : List Instr} (t : Nat) (s : State) (hs : Ok qq s) :
    Ok qq (clearResp t s) := by
  unfold clearResp
  with_reducible apply setReg_ok
  with_reducible assumption

/-- `clearCount` keeps. -/
theorem clearCount_ok {qq : List Instr} (t : Nat) (s : State) (hs : Ok qq s) :
    Ok qq (clearCount t s) := by
  unfold clearCount
  with_reducible apply setReg_ok
  with_reducible assumption

/-- `writeDlvBase` keeps. -/
theorem writeDlvBase_ok {qq : List Instr} (t : Nat) (v : Word) (s : State) (hs : Ok qq s) :
    Ok qq (writeDlvBase t v s) := by
  unfold writeDlvBase
  extract_lets +onlyGivenNames -underBinder -merge -useContext x1
  clear_value x1
  split
  · with_reducible apply raiseTask_ok
    with_reducible assumption
  · with_reducible apply setReg_ok
    with_reducible assumption

end Sys2Proof.Machine
end

