-- ==== Sys2Proof/Laws/KeepRestart.lean ====
section
/-!
SUPPORT. What the operations of Machine/Restart.lean keep: the canonical form of registers and memories, and the queue.
-/

namespace Sys2Proof.Machine

/-- `showForces` keeps. -/
theorem showForces_ok {qq : List Instr} (s : State) (hs : Ok qq s) :
    Ok qq (showForces s) := by
  unfold showForces
  extract_lets +onlyGivenNames -underBinder -merge -useContext x1
  clear_value x1
  extract_lets +onlyGivenNames -underBinder -merge -useContext x2
  refine (?_ : Ok qq x2 → _) ?_
  on_goal 2 =>
    unfold x2
    with_reducible apply setFld_ok
    with_reducible assumption
  (clear_value x2; intro hx2)
  extract_lets +onlyGivenNames -underBinder -merge -useContext x3
  refine (?_ : Ok qq x3 → _) ?_
  on_goal 2 =>
    unfold x3
    with_reducible apply setFld_ok
    with_reducible assumption
  (clear_value x3; intro hx3)
  extract_lets +onlyGivenNames -underBinder -merge -useContext x4
  refine (?_ : Ok qq x4 → _) ?_
  on_goal 2 =>
    unfold x4
    with_reducible apply setBit_ok
    with_reducible assumption
  (clear_value x4; intro hx4)
  with_reducible apply setBit_ok
  with_reducible assumption

/-- `raiseLogged` keeps. -/
theorem raiseLogged_ok {qq : List Instr} (e : EvDef) (src dB : Nat) (s : State) (hs : Ok qq s) :
    Ok qq (raiseLogged e src dB s) := by
  unfold raiseLogged
  extract_lets +onlyGivenNames -underBinder -merge -useContext x1
  clear_value x1
  extract_lets +onlyGivenNames -underBinder -merge -useContext x2
  refine (?_ : Ok qq x2 → _) ?_
  on_goal 2 =>
    unfold x2
    with_reducible apply raise_ok
    with_reducible assumption
  (clear_value x2; intro hx2)
  split
  · with_reducible apply queueRec_ok
    with_reducible assumption
  · with_reducible assumption

/-- `removeForces` keeps. -/
theorem removeForces_ok {qq : List Instr} (e : EvDef) (ns : List Nat) (s : State) (hs : Ok qq s) :
    Ok qq (removeForces e ns s) := by
  unfold removeForces
  extract_lets +onlyGivenNames -underBinder -merge -useContext x1
  clear_value x1
  split
  · with_reducible assumption
  · extract_lets +onlyGivenNames -underBinder -merge -useContext x2
    refine (?_ : Ok qq x2 → _) ?_
    on_goal 2 =>
      unfold x2
      with_reducible apply ok_foldl
      · intro a3 a4 h5
        with_reducible apply setReg_ok
        with_reducible apply setReg_ok
        with_reducible apply setReg_ok
        with_reducible assumption
      · with_reducible assumption
    (clear_value x2; intro hx2)
    split
    with_reducible apply raiseLogged_ok
    with_reducible apply showForces_ok
    with_reducible refine ok_snd (by assumption) ?_
    split
    · with_reducible assumption
    · split
      dsimp only
      with_reducible refine ok_snd (by assumption) ?_
      with_reducible apply takeFree_ok
      with_reducible assumption

/-- `addForce` keeps. -/
theorem addForce_ok {qq : List Instr} (c : ForceChange) (due : Word × Nat) (s : State) (hs : Ok qq s) :
    Ok qq (addForce c due s) := by
  unfold addForce
  extract_lets +onlyGivenNames -underBinder -merge -useContext x1
  clear_value x1
  extract_lets +onlyGivenNames -underBinder -merge -useContext x2
  clear_value x2
  with_reducible apply showForces_ok
  (with_reducible apply ok_mk; with_reducible assumption)

/-- `commitForce` keeps. -/
theorem commitForce_ok {qq : List Instr} (c : ForceChange) (s : State) (hs : Ok qq s) :
    Ok qq (commitForce c s) := by
  unfold commitForce
  extract_lets +onlyGivenNames -underBinder -merge -useContext x1
  refine (?_ : Ok qq x1 → _) ?_
  on_goal 2 =>
    unfold x1
    with_reducible apply addForce_ok
    with_reducible assumption
  (clear_value x1; intro hx1)
  split
  · split
    · with_reducible apply emitOut_ok
      with_reducible assumption
    · with_reducible assumption
  · with_reducible assumption

/-- `forceNotice` keeps. -/
theorem forceNotice_ok {qq : List Instr} (c : ForceChange) (due : Word × Nat) (s : State) (hs : Ok qq s) :
    Ok qq (forceNotice c due s) := by
  unfold forceNotice
  split
  · with_reducible assumption
  · with_reducible apply addForce_ok
    with_reducible assumption

/-- `forceSet` keeps. -/
theorem forceSet_ok {qq : List Instr} (n : Nat) (s : State) (hs : Ok qq s) :
    Ok qq (forceSet n s) := by
  unfold forceSet
  extract_lets +onlyGivenNames -underBinder -merge -useContext x1
  clear_value x1
  split
  · with_reducible apply commitForce_ok
    with_reducible assumption
  · with_reducible apply raise_ok
    with_reducible apply setFld_ok
    with_reducible assumption

/-- `applyForce` keeps. -/
theorem applyForce_ok {qq : List Instr} (s : State) (c : ForceChange) (hs : Ok qq s) : Ok qq (applyForce s c) := by
  unfold applyForce
  split
  · extract_lets +onlyGivenNames -underBinder -merge -useContext x1
    clear_value x1
    extract_lets +onlyGivenNames -underBinder -merge -useContext x2
    clear_value x2
    extract_lets +onlyGivenNames -underBinder -merge -useContext x3
    refine (?_ : Ok qq x3 → _) ?_
    on_goal 2 =>
      unfold x3
      with_reducible apply setReg_ok
      with_reducible apply setReg_ok
      with_reducible apply setReg_ok
      with_reducible assumption
    (clear_value x3; intro hx3)
    with_reducible apply raiseLogged_ok
    with_reducible assumption
  · with_reducible apply removeForces_ok
    with_reducible assumption
  · with_reducible apply removeForces_ok
    with_reducible assumption

/-- `forceBoundary` keeps. -/
theorem forceBoundary_ok {qq : List Instr} (now : Word × Nat) (s : State) (hs : Ok qq s) :
    Ok qq (forceBoundary now s) := by
  unfold forceBoundary
  split
  extract_lets +onlyGivenNames -underBinder -merge -useContext x1
  clear_value x1
  extract_lets +onlyGivenNames -underBinder -merge -useContext x2
  refine (?_ : Ok qq x2 → _) ?_
  on_goal 2 =>
    unfold x2
    (with_reducible apply ok_mk; with_reducible assumption)
  (clear_value x2; intro hx2)
  extract_lets +onlyGivenNames -underBinder -merge -useContext x3
  refine (?_ : Ok qq x3 → _) ?_
  on_goal 2 =>
    unfold x3
    with_reducible apply showForces_ok
    with_reducible apply ok_foldl
    · intro a5 a6 h7
      with_reducible apply applyForce_ok
      with_reducible assumption
    · with_reducible assumption
  (clear_value x3; intro hx3)
  split
  · extract_lets +onlyGivenNames -underBinder -merge -useContext x4
    refine (?_ : Ok qq x4 → _) ?_
    on_goal 2 =>
      unfold x4
      with_reducible apply removeForces_ok
      with_reducible assumption
    (clear_value x4; intro hx4)
    (with_reducible apply ok_mk; with_reducible assumption)
  · with_reducible assumption

/-- `clearForces` keeps. -/
theorem clearForces_ok {qq : List Instr} (s : State) (hs : Ok qq s) :
    Ok qq (clearForces s) := by
  unfold clearForces
  with_reducible apply showForces_ok
  with_reducible apply removeForces_ok
  (with_reducible apply ok_mk; with_reducible assumption)

/-- `showStore` keeps. -/
theorem showStore_ok {qq : List Instr} (s : State) (hs : Ok qq s) :
    Ok qq (showStore s) := by
  unfold showStore
  extract_lets +onlyGivenNames -underBinder -merge -useContext x1
  refine (?_ : Ok qq x1 → _) ?_
  on_goal 2 =>
    unfold x1
    with_reducible apply setBit_ok
    with_reducible assumption
  (clear_value x1; intro hx1)
  extract_lets +onlyGivenNames -underBinder -merge -useContext x2
  refine (?_ : Ok qq x2 → _) ?_
  on_goal 2 =>
    unfold x2
    with_reducible apply setFld_ok
    with_reducible assumption
  (clear_value x2; intro hx2)
  extract_lets +onlyGivenNames -underBinder -merge -useContext x3
  refine (?_ : Ok qq x3 → _) ?_
  on_goal 2 =>
    unfold x3
    with_reducible apply setFld_ok
    with_reducible assumption
  (clear_value x3; intro hx3)
  with_reducible apply setFld_ok
  with_reducible assumption

/-- `setSlot` keeps. -/
theorem setSlot_ok {qq : List Instr} (n : Nat) (x : Slot) (s : State) (hs : Ok qq s) :
    Ok qq (setSlot n x s) := by
  unfold setSlot
  with_reducible apply showStore_ok
  (with_reducible apply ok_mk; with_reducible assumption)

/-- `showScan` keeps. -/
theorem showScan_ok {qq : List Instr} (s : State) (hs : Ok qq s) :
    Ok qq (showScan s) := by
  unfold showScan
  split
  · with_reducible apply emitOut_ok
    with_reducible assumption
  · with_reducible assumption

/-- `scanRelease` keeps. -/
theorem scanRelease_ok {qq : List Instr} (s : State) (hs : Ok qq s) :
    Ok qq (scanRelease s) := by
  unfold scanRelease
  extract_lets +onlyGivenNames -underBinder -merge -useContext x1
  refine (?_ : Ok qq x1 → _) ?_
  on_goal 2 =>
    unfold x1
    with_reducible apply setBit_ok
    with_reducible assumption
  (clear_value x1; intro hx1)
  with_reducible apply settleOuts_ok
  · with_reducible assumption
  · intro a2 h3
    with_reducible apply ok_foldl
    · intro a4 a5 h6
      split
      · with_reducible apply setFld_ok
        with_reducible assumption
      · with_reducible assumption
    · (with_reducible apply ok_mk; with_reducible assumption)

/-- `tapReset` keeps. -/
theorem tapReset_ok {qq : List Instr} (s : State) (hs : Ok qq s) :
    Ok qq (tapReset s) := by
  unfold tapReset
  extract_lets +onlyGivenNames -underBinder -merge -useContext x1
  clear_value x1
  extract_lets +onlyGivenNames -underBinder -merge -useContext x2
  refine (?_ : Ok qq x2 → _) ?_
  on_goal 2 =>
    unfold x2
    (with_reducible apply ok_mk; with_reducible assumption)
  (clear_value x2; intro hx2)
  split
  · with_reducible apply scanRelease_ok
    with_reducible assumption
  · with_reducible assumption

/-- `svcEnd` keeps. -/
theorem svcEnd_ok {qq : List Instr} (s : State) (hs : Ok qq s) :
    Ok qq (svcEnd s) := by
  unfold svcEnd
  extract_lets +onlyGivenNames -underBinder -merge -useContext x1
  refine (?_ : Ok qq x1 → _) ?_
  on_goal 2 =>
    unfold x1
    with_reducible apply setFld_ok
    with_reducible assumption
  (clear_value x1; intro hx1)
  extract_lets +onlyGivenNames -underBinder -merge -useContext x2
  clear_value x2
  extract_lets +onlyGivenNames -underBinder -merge -useContext x3
  clear_value x3
  extract_lets +onlyGivenNames -underBinder -merge -useContext x4
  refine (?_ : Ok qq x4 → _) ?_
  on_goal 2 =>
    unfold x4
    (with_reducible apply ok_mk; with_reducible assumption)
  (clear_value x4; intro hx4)
  extract_lets +onlyGivenNames -underBinder -merge -useContext x5
  refine (?_ : Ok qq x5 → _) ?_
  on_goal 2 =>
    unfold x5
    split
    · split
      · with_reducible apply setSlot_ok
        with_reducible assumption
      · with_reducible assumption
    · with_reducible assumption
  (clear_value x5; intro hx5)
  extract_lets +onlyGivenNames -underBinder -merge -useContext x6
  clear_value x6
  extract_lets +onlyGivenNames -underBinder -merge -useContext x7
  refine (?_ : Ok qq x7 → _) ?_
  on_goal 2 =>
    unfold x7
    (with_reducible apply ok_mk; with_reducible assumption)
  (clear_value x7; intro hx7)
  split
  · with_reducible apply tapReset_ok
    with_reducible assumption
  · with_reducible assumption

/-- `svcShut` keeps. -/
theorem svcShut_ok {qq : List Instr} (why : Nat) (s : State) (hs : Ok qq s) :
    Ok qq (svcShut why s) := by
  unfold svcShut
  split
  · with_reducible apply raise_ok
    with_reducible apply svcEnd_ok
    with_reducible assumption
  · with_reducible assumption

/-- `writeWord` keeps. -/
theorem writeWord_ok {qq : List Instr} (log : RetainLog) (s : State) (hs : Ok qq s) :
    Ok qq (writeWord log s) := by
  unfold writeWord
  extract_lets +onlyGivenNames -underBinder -merge -useContext x1
  clear_value x1
  (with_reducible apply ok_mk; with_reducible assumption)

/-- `meetLog` keeps. -/
theorem meetLog_ok {qq : List Instr} (blocks : List (Nat × List Byte)) (s : State) (hs : Ok qq s) :
    Ok qq (meetLog blocks s) := by
  unfold meetLog
  with_reducible apply ok_foldl
  · intro a1 a2 h3
    split
    split
    · extract_lets +onlyGivenNames -underBinder -merge -useContext x4
      refine (?_ : Ok qq x4 → _) ?_
      on_goal 2 =>
        unfold x4
        with_reducible apply memUncorrectable_ok
        with_reducible refine ok_snd (by assumption) ?_
        with_reducible apply takeFree_ok
        with_reducible assumption
      (clear_value x4; intro hx4)
      extract_lets +onlyGivenNames -underBinder -merge -useContext x5
      clear_value x5
      (with_reducible apply ok_mk; with_reducible assumption)
    · with_reducible refine ok_snd (by assumption) ?_
      with_reducible apply takeFree_ok
      with_reducible assumption
  · with_reducible assumption

/-- `applyCommit` keeps. -/
theorem applyCommit_ok {qq : List Instr} (log : RetainLog) (s : State) (hs : Ok qq s) :
    Ok qq (applyCommit log s) := by
  unfold applyCommit
  extract_lets +onlyGivenNames -underBinder -merge -useContext x1
  refine (?_ : Ok qq x1 → _) ?_
  on_goal 2 =>
    unfold x1
    split
    · with_reducible assumption
    · with_reducible apply writeWord_ok
      with_reducible assumption
  (clear_value x1; intro hx1)
  extract_lets +onlyGivenNames -underBinder -merge -useContext x2
  clear_value x2
  extract_lets +onlyGivenNames -underBinder -merge -useContext x3
  clear_value x3
  extract_lets +onlyGivenNames -underBinder -merge -useContext x4
  refine (?_ : Ok qq x4 → _) ?_
  on_goal 2 =>
    unfold x4
    with_reducible apply meetLog_ok
    (with_reducible apply ok_mk; with_reducible assumption)
  (clear_value x4; intro hx4)
  extract_lets +onlyGivenNames -underBinder -merge -useContext x5
  clear_value x5
  extract_lets +onlyGivenNames -underBinder -merge -useContext x6
  refine (?_ : Ok qq x6 → _) ?_
  on_goal 2 =>
    unfold x6
    (with_reducible apply ok_mk; with_reducible assumption)
  (clear_value x6; intro hx6)
  with_reducible apply setReg_ok
  with_reducible assumption

/-- `retainDone` keeps. -/
theorem retainDone_ok {qq : List Instr} (s : State) (hs : Ok qq s) :
    Ok qq (retainDone s) := by
  unfold retainDone
  split
  · split
    · with_reducible assumption
    · with_reducible apply applyCommit_ok
      with_reducible assumption
  · with_reducible assumption

/-- `cutCommit` keeps. -/
theorem cutCommit_ok {qq : List Instr} (s : State) (hs : Ok qq s) :
    Ok qq (cutCommit s) := by
  unfold cutCommit
  split
  · split
    · with_reducible assumption
    · split
      split
      · with_reducible apply writeWord_ok
        with_reducible refine ok_snd (by assumption) ?_
        with_reducible apply takeFree_ok
        with_reducible assumption
      · with_reducible apply ok_mk
        with_reducible refine ok_snd (by assumption) ?_
        with_reducible apply takeFree_ok
        with_reducible assumption
  · with_reducible assumption

/-- `rollForward` keeps. -/
theorem rollForward_ok {qq : List Instr} (s : State) (hs : Ok qq s) :
    Ok qq (rollForward s) := by
  unfold rollForward
  split
  · split
    · with_reducible apply applyCommit_ok
      (with_reducible apply ok_mk; with_reducible assumption)
    · with_reducible assumption
  · with_reducible assumption

/-- `retainCollect` keeps. -/
theorem retainCollect_ok {qq : List Instr} (task : Nat) (blocks : List Nat) (s : State) (hs : Ok qq s) :
    Ok qq (retainCollect task blocks s) := by
  unfold retainCollect
  split
  extract_lets +onlyGivenNames -underBinder -merge -useContext x1
  clear_value x1
  split
  · with_reducible assumption
  · split
    · with_reducible apply raise_ok
      with_reducible assumption
    · extract_lets +onlyGivenNames -underBinder -merge -useContext x2
      clear_value x2
      extract_lets +onlyGivenNames -underBinder -merge -useContext x3
      clear_value x3
      extract_lets +onlyGivenNames -underBinder -merge -useContext x4
      clear_value x4
      (with_reducible apply ok_mk; with_reducible assumption)

/-- `bootParts` keeps. -/
theorem bootParts_ok {qq : List Instr} (s : State) (hs : Ok qq s) : Ok qq (bootParts s) := by
  have h := ok_sound hs (fun _ => noMem_wf)
  unfold bootParts
  dsimp only
  exact ok_mk h ..

/-- `bootEntry` keeps. -/
theorem bootEntry_ok {qq : List Instr} (cause : Nat) (cold holmOn : Bool) (s : State) (hs : Ok qq s) :
    Ok qq (bootEntry cause cold holmOn s) := by
  unfold bootEntry
  extract_lets +onlyGivenNames -underBinder -merge -useContext x1
  clear_value x1
  extract_lets +onlyGivenNames -underBinder -merge -useContext x2
  refine (?_ : Ok qq x2 → _) ?_
  on_goal 2 =>
    unfold x2
    with_reducible apply rollForward_ok
    with_reducible apply cutCommit_ok
    (with_reducible apply ok_mk; with_reducible assumption)
  (clear_value x2; intro hx2)
  extract_lets +onlyGivenNames -underBinder -merge -useContext x3
  clear_value x3
  extract_lets +onlyGivenNames -underBinder -merge -useContext x4
  refine (?_ : Ok qq x4 → _) ?_
  on_goal 2 =>
    unfold x4
    split
    · (with_reducible apply ok_mk; with_reducible assumption)
    · with_reducible assumption
  (clear_value x4; intro hx4)
  extract_lets +onlyGivenNames -underBinder -merge -useContext x5
  refine (?_ : Ok qq x5 → _) ?_
  on_goal 2 =>
    unfold x5
    with_reducible apply svcShut_ok
    with_reducible apply stopChrono_ok
    with_reducible assumption
  (clear_value x5; intro hx5)
  extract_lets +onlyGivenNames -underBinder -merge -useContext x6
  refine (?_ : Ok qq x6 → _) ?_
  on_goal 2 =>
    unfold x6
    with_reducible apply clearForces_ok
    with_reducible apply abortAll_ok
    with_reducible assumption
  (clear_value x6; intro hx6)
  extract_lets +onlyGivenNames -underBinder -merge -useContext x7
  refine (?_ : Ok qq x7 → _) ?_
  on_goal 2 =>
    unfold x7
    with_reducible apply bootParts_ok
    with_reducible apply ok_regs_filter
    with_reducible assumption
  (clear_value x7; intro hx7)
  extract_lets +onlyGivenNames -underBinder -merge -useContext x8
  clear_value x8
  extract_lets +onlyGivenNames -underBinder -merge -useContext x9
  refine (?_ : Ok qq x9 → _) ?_
  on_goal 2 =>
    unfold x9
    (with_reducible apply ok_mk; with_reducible assumption)
  (clear_value x9; intro hx9)
  extract_lets +onlyGivenNames -underBinder -merge -useContext x10
  refine (?_ : Ok qq x10 → _) ?_
  on_goal 2 =>
    unfold x10
    with_reducible apply setFld_ok
    with_reducible apply setFld_ok
    with_reducible apply setFld_ok
    with_reducible assumption
  (clear_value x10; intro hx10)
  extract_lets +onlyGivenNames -underBinder -merge -useContext x11
  refine (?_ : Ok qq x11 → _) ?_
  on_goal 2 =>
    unfold x11
    with_reducible apply setBit_ok
    with_reducible apply setBit_ok
    with_reducible apply mstOut_ok
    with_reducible assumption
  (clear_value x11; intro hx11)
  extract_lets +onlyGivenNames -underBinder -merge -useContext x12
  refine (?_ : Ok qq x12 → _) ?_
  on_goal 2 =>
    unfold x12
    with_reducible apply setModTo_ok
    with_reducible assumption
  (clear_value x12; intro hx12)
  extract_lets +onlyGivenNames -underBinder -merge -useContext x13
  refine (?_ : Ok qq x13 → _) ?_
  on_goal 2 =>
    unfold x13
    with_reducible apply showStore_ok
    with_reducible apply showOverflow_ok
    with_reducible apply setFld_ok
    with_reducible assumption
  (clear_value x13; intro hx13)
  extract_lets +onlyGivenNames -underBinder -merge -useContext x14
  refine (?_ : Ok qq x14 → _) ?_
  on_goal 2 =>
    unfold x14
    with_reducible apply ok_foldl
    · intro a15 a16 h17
      with_reducible apply startTesting_ok
      with_reducible assumption
    · with_reducible assumption
  (clear_value x14; intro hx14)
  with_reducible apply setFld_ok
  (with_reducible apply ok_mk; with_reducible assumption)

/-- `restartCmd` keeps. -/
theorem restartCmd_ok {qq : List Instr} (cold : Bool) (cause : Nat) (s : State) (hs : Ok qq s) :
    Ok qq (restartCmd cold cause s) := by
  unfold restartCmd
  split
  · with_reducible assumption
  · extract_lets +onlyGivenNames -underBinder -merge -useContext x1
    clear_value x1
    extract_lets +onlyGivenNames -underBinder -merge -useContext x2
    refine (?_ : Ok qq x2 → _) ?_
    on_goal 2 =>
      unfold x2
      split
      · (with_reducible apply ok_mk; with_reducible assumption)
      · with_reducible assumption
    (clear_value x2; intro hx2)
    split
    · extract_lets +onlyGivenNames -underBinder -merge -useContext x3
      clear_value x3
      extract_lets +onlyGivenNames -underBinder -merge -useContext x4
      refine (?_ : Ok qq x4 → _) ?_
      on_goal 2 =>
        unfold x4
        (with_reducible apply ok_mk; with_reducible assumption)
      (clear_value x4; intro hx4)
      (with_reducible apply ok_mk; with_reducible assumption)
    · split
      · with_reducible assumption
      · with_reducible assumption
      · split
        · with_reducible apply bootEntry_ok
          with_reducible assumption
        · with_reducible assumption
      · with_reducible apply bootEntry_ok
        with_reducible assumption

/-- `restartBoundary` keeps. -/
theorem restartBoundary_ok {qq : List Instr} (cold : Bool) (s : State) (hs : Ok qq s) :
    Ok qq (restartBoundary cold s) := by
  unfold restartBoundary
  split
  · with_reducible apply giveUp_ok
    · with_reducible assumption
    · intro a1 a2 a3 a4 a5 h6
      with_reducible apply raiseF_ok
      with_reducible assumption
  · with_reducible apply bootEntry_ok
    with_reducible assumption

/-- `refuseMod` keeps. -/
theorem refuseMod_ok {qq : List Instr} (v : Word) (s : State) (hs : Ok qq s) :
    Ok qq (refuseMod v s) := by
  unfold refuseMod
  with_reducible apply raise_ok
  with_reducible assumption

/-- `writeRetain` keeps. -/
theorem writeRetain_ok {qq : List Instr} (k : Nat) (v : Word) (s : State) (hs : Ok qq s) :
    Ok qq (writeRetain k v s) := by
  unfold writeRetain
  extract_lets +onlyGivenNames -underBinder -merge -useContext x1
  clear_value x1
  extract_lets +onlyGivenNames -underBinder -merge -useContext x2
  clear_value x2
  split
  · with_reducible apply refuseMod_ok
    with_reducible assumption
  · split
    · with_reducible apply setReg_ok
      with_reducible assumption
    · split
      · with_reducible apply refuseMod_ok
        with_reducible assumption
      · with_reducible apply setReg_ok
        with_reducible assumption

/-- `writeSafeOut` keeps. -/
theorem writeSafeOut_ok {qq : List Instr} (k : Nat) (v : Word) (s : State) (hs : Ok qq s) :
    Ok qq (writeSafeOut k v s) := by
  unfold writeSafeOut
  extract_lets +onlyGivenNames -underBinder -merge -useContext x1
  clear_value x1
  extract_lets +onlyGivenNames -underBinder -merge -useContext x2
  clear_value x2
  split
  · with_reducible apply setReg_ok
    with_reducible assumption
  · with_reducible apply refuseMod_ok
    with_reducible assumption

end Sys2Proof.Machine
end

