-- ==== Sys2Proof/Laws/KeepVotes.lean ====
section
/-!
SUPPORT. What the operations of Machine/Votes.lean keep: the canonical form of registers and memories, and the queue.
-/

namespace Sys2Proof.Machine

/-- `reportLanes` keeps. -/
theorem reportLanes_ok {qq : List Instr} (ls : List Lane) (a n : Nat) (s : State) (hs : Ok qq s) :
    Ok qq (reportLanes ls a n s) := by
  unfold reportLanes
  with_reducible apply ok_foldl
  · intro a1 a2 h3
    with_reducible apply meetBad_ok
    with_reducible assumption
  · with_reducible assumption

end Sys2Proof.Machine
end

