-- ==== Sys2Proof/Laws/KeepRings.lean ====
section
/-!
SUPPORT. What the operations of Machine/Rings.lean keep: the canonical form of registers and memories, and the queue.
-/

namespace Sys2Proof.Machine

/-- `setRing` keeps. -/
theorem setRing_ok {qq : List Instr} (n : Nat) (x : RingSt) (s : State) (hs : Ok qq s) :
    Ok qq (setRing n x s) := by
  unfold setRing
  (with_reducible apply ok_mk; with_reducible assumption)

/-- `dropPending` keeps. -/
theorem dropPending_ok {qq : List Instr} (n : Nat) (s : State) (hs : Ok qq s) :
    Ok qq (dropPending n s) := by
  unfold dropPending
  extract_lets +onlyGivenNames -underBinder -merge -useContext x1
  clear_value x1
  extract_lets +onlyGivenNames -underBinder -merge -useContext x2
  clear_value x2
  split
  · with_reducible apply addDelta_ok
    (with_reducible apply ok_mk; with_reducible assumption)
  · with_reducible assumption

/-- `haltRing` keeps. -/
theorem haltRing_ok {qq : List Instr} (n reason : Nat) (s : State) (hs : Ok qq s) :
    Ok qq (haltRing n reason s) := by
  unfold haltRing
  extract_lets +onlyGivenNames -underBinder -merge -useContext x1
  clear_value x1
  extract_lets +onlyGivenNames -underBinder -merge -useContext x2
  refine (?_ : Ok qq x2 → _) ?_
  on_goal 2 =>
    unfold x2
    with_reducible apply dropPending_ok
    with_reducible apply setRing_ok
    with_reducible assumption
  (clear_value x2; intro hx2)
  with_reducible apply showRing_ok
  with_reducible apply setFld_ok
  with_reducible apply setFld_ok
  with_reducible assumption

/-- `stopFetch` keeps. -/
theorem stopFetch_ok {qq : List Instr} (n : Nat) (s : State) (hs : Ok qq s) :
    Ok qq (stopFetch n s) := by
  unfold stopFetch
  with_reducible apply setRing_ok
  with_reducible assumption

/-- `voteDoorbell` keeps. -/
theorem voteDoorbell_ok {qq : List Instr} (n : Nat) (s : State) (hs : Ok qq s) :
    Ok qq (voteDoorbell n s).2 := by
  unfold voteDoorbell
  extract_lets +onlyGivenNames -underBinder -merge -useContext x1
  clear_value x1
  extract_lets +onlyGivenNames -underBinder -merge -useContext x2
  clear_value x2
  extract_lets +onlyGivenNames -underBinder -merge -useContext x3
  clear_value x3
  extract_lets +onlyGivenNames -underBinder -merge -useContext x4
  refine (?_ : Ok qq x4 → _) ?_
  on_goal 2 =>
    unfold x4
    with_reducible apply reportLanes_ok
    with_reducible assumption
  (clear_value x4; intro hx4)
  split
  · with_reducible assumption
  · dsimp only
    with_reducible apply raise_ok
    with_reducible apply stick_ok
    with_reducible assumption
  · dsimp only
    with_reducible apply raise_ok
    with_reducible apply stick_ok
    with_reducible assumption
  · with_reducible assumption

/-- `pollRing` keeps. -/
theorem pollRing_ok {qq : List Instr} (n : Nat) (s : State) (hs : Ok qq s) :
    Ok qq (pollRing n s) := by
  unfold pollRing
  split
  · with_reducible assumption
  · split
    · with_reducible refine ok_snd (by assumption) ?_
      with_reducible apply voteDoorbell_ok
      with_reducible assumption
    · split
      · with_reducible apply setRing_ok
        with_reducible refine ok_snd (by assumption) ?_
        with_reducible apply voteDoorbell_ok
        with_reducible assumption
      · with_reducible apply raise_ok
        with_reducible apply haltRing_ok
        with_reducible apply stick_ok
        with_reducible refine ok_snd (by assumption) ?_
        with_reducible apply voteDoorbell_ok
        with_reducible assumption

/-- `drain` keeps. -/
theorem drain_ok {qq : List Instr} (m : Nat) (s : State) (hs : Ok qq s) :
    Ok qq (drain m s) := by
  unfold drain
  with_reducible apply showCredits_ok
  with_reducible apply drainQueue_ok
  with_reducible assumption

/-- `takeHead` keeps. -/
theorem takeHead_ok {qq : List Instr} (m : Nat) (h : Word) (s : State) (hs : Ok qq s) :
    Ok qq (takeHead m h s) := by
  unfold takeHead
  extract_lets +onlyGivenNames -underBinder -merge -useContext x1
  clear_value x1
  extract_lets +onlyGivenNames -underBinder -merge -useContext x2
  clear_value x2
  extract_lets +onlyGivenNames -underBinder -merge -useContext x3
  refine (?_ : Ok qq x3 → _) ?_
  on_goal 2 =>
    unfold x3
    with_reducible apply setReg_ok
    (with_reducible apply ok_mk; with_reducible assumption)
  (clear_value x3; intro hx3)
  with_reducible apply drain_ok
  with_reducible apply addDelta_ok
  with_reducible assumption

/-- `pollHead` keeps. -/
theorem pollHead_ok {qq : List Instr} (m : Nat) (s : State) (hs : Ok qq s) :
    Ok qq (pollHead m s) := by
  unfold pollHead
  extract_lets +onlyGivenNames -underBinder -merge -useContext x1
  clear_value x1
  extract_lets +onlyGivenNames -underBinder -merge -useContext x2
  clear_value x2
  extract_lets +onlyGivenNames -underBinder -merge -useContext x3
  clear_value x3
  extract_lets +onlyGivenNames -underBinder -merge -useContext x4
  refine (?_ : Ok qq x4 → _) ?_
  on_goal 2 =>
    unfold x4
    with_reducible apply reportLanes_ok
    with_reducible assumption
  (clear_value x4; intro hx4)
  extract_lets +onlyGivenNames -underBinder -merge -useContext x5
  refine (?_ : (∀ c0 c1, Ok qq c0 → Ok qq (x5 c0 c1)) → _) ?_
  on_goal 2 =>
    unfold x5
    intro a6 a7 h8
    extract_lets +onlyGivenNames -underBinder -merge -useContext x9
    clear_value x9
    split
    · split
      · with_reducible assumption
      · with_reducible apply takeHead_ok
        with_reducible assumption
    · with_reducible apply raise_ok
      with_reducible apply stick_ok
      with_reducible assumption
  clear_value x5
  intro hx5
  split
  · with_reducible apply hx5
    with_reducible assumption
  · with_reducible apply hx5
    with_reducible apply raise_ok
    with_reducible apply stick_ok
    with_reducible assumption
  · with_reducible apply raise_ok
    with_reducible apply stick_ok
    with_reducible assumption
  · with_reducible assumption

/-- `pollBody` keeps. -/
theorem pollBody_ok {qq : List Instr} (e : Entry) (s : State) (hs : Ok qq s) :
    Ok qq (pollBody e s) := by
  unfold pollBody
  extract_lets +onlyGivenNames -underBinder -merge -useContext x1
  refine (?_ : Ok qq x1 → _) ?_
  on_goal 2 =>
    unfold x1
    with_reducible apply ok_foldl
    · intro a5 a6 h7
      with_reducible apply pollRing_ok
      with_reducible assumption
    · with_reducible assumption
  (clear_value x1; intro hx1)
  with_reducible apply ok_foldl
  · intro a2 a3 h4
    split
    · with_reducible apply pollHead_ok
      with_reducible assumption
    · with_reducible assumption
  · with_reducible assumption

/-- `descMinority` keeps. -/
theorem descMinority_ok {qq : List Instr} (n : Nat) (seq : Word) (l : Lane) (block : Bool) (s : State) (hs : Ok qq s) :
    Ok qq (descMinority n seq l block s) := by
  unfold descMinority
  with_reducible apply raise_ok
  with_reducible apply stick_ok
  with_reducible assumption

/-- `descNoMajority` keeps. -/
theorem descNoMajority_ok {qq : List Instr} (n : Nat) (seq : Word) (s : State) (hs : Ok qq s) :
    Ok qq (descNoMajority n seq s) := by
  unfold descNoMajority
  with_reducible apply raise_ok
  with_reducible apply stopFetch_ok
  with_reducible apply stick_ok
  with_reducible assumption

/-- `voteBlocks` keeps. -/
theorem voteBlocks_ok {qq : List Instr} (n : Nat) (seq : Word) (fuel a len : Nat) (told : List Lane) (acc : List Byte) (s : State)
    (hs : Ok qq s) : Ok qq (voteBlocks n seq fuel a len told acc s).2 := by
  induction fuel generalizing a len told acc s with
  | zero => exact hs
  | succ fuel ih =>
    unfold voteBlocks
    split
    · with_reducible assumption
    · extract_lets +onlyGivenNames -underBinder -merge -useContext x1
      clear_value x1
      extract_lets +onlyGivenNames -underBinder -merge -useContext x2
      clear_value x2
      extract_lets +onlyGivenNames -underBinder -merge -useContext x3
      clear_value x3
      extract_lets +onlyGivenNames -underBinder -merge -useContext x4
      refine (?_ : Ok qq x4 → _) ?_
      on_goal 2 =>
        unfold x4
        with_reducible apply reportLanes_ok
        with_reducible assumption
      (clear_value x4; intro hx4)
      split
      · with_reducible apply ih
        with_reducible assumption
      · extract_lets +onlyGivenNames -underBinder -merge -useContext x5
        refine (?_ : Ok qq x5 → _) ?_
        on_goal 2 =>
          unfold x5
          split
          · with_reducible assumption
          · with_reducible apply descMinority_ok
            with_reducible assumption
        (clear_value x5; intro hx5)
        with_reducible apply ih
        with_reducible assumption
      · with_reducible assumption

/-- `descMismatch` keeps. -/
theorem descMismatch_ok {qq : List Instr} (n : Nat) (seq : Word) (s : State) (hs : Ok qq s) :
    Ok qq (descMismatch n seq s) := by
  unfold descMismatch
  with_reducible apply standbyFault_ok
  with_reducible apply raise_ok
  with_reducible assumption

/-- `meetRecord` keeps. -/
theorem meetRecord_ok {qq : List Instr} (n : Nat) (d : Desc) (payload : List Byte) (s : State) (hs : Ok qq s) :
    Ok qq (meetRecord n d payload s) := by
  unfold meetRecord
  split
  · split
    · with_reducible assumption
    · with_reducible apply descMismatch_ok
      with_reducible assumption
  · with_reducible assumption

/-- `keepDesc` keeps. -/
theorem keepDesc_ok {qq : List Instr} (n : Nat) (d : Desc) (payload : List Byte) (s : State) (hs : Ok qq s) :
    Ok qq (keepDesc n d payload s) := by
  unfold keepDesc
  extract_lets +onlyGivenNames -underBinder -merge -useContext x1
  clear_value x1
  split
  · with_reducible apply meetRecord_ok
    with_reducible apply setRing_ok
    with_reducible assumption
  · with_reducible apply setRing_ok
    with_reducible assumption

/-- `takeDesc` keeps. -/
theorem takeDesc_ok {qq : List Instr} (n : Nat) (seq : Word) (d : Desc) (s : State) (hs : Ok qq s) :
    Ok qq (takeDesc n seq d s) := by
  unfold takeDesc
  extract_lets +onlyGivenNames -underBinder -merge -useContext x1
  clear_value x1
  split
  · with_reducible apply raise_ok
    with_reducible apply haltRing_ok
    with_reducible apply stick_ok
    with_reducible assumption
  · split
    · split
      · with_reducible apply keepDesc_ok
        with_reducible refine ok_snd (by assumption) ?_
        with_reducible apply voteBlocks_ok
        with_reducible assumption
      · with_reducible apply descNoMajority_ok
        with_reducible refine ok_snd (by assumption) ?_
        with_reducible apply voteBlocks_ok
        with_reducible assumption
    · with_reducible apply keepDesc_ok
      with_reducible assumption

/-- `fetchDesc` keeps. -/
theorem fetchDesc_ok {qq : List Instr} (n : Nat) (s : State) (hs : Ok qq s) :
    Ok qq (fetchDesc n s) := by
  unfold fetchDesc
  extract_lets +onlyGivenNames -underBinder -merge -useContext x1
  clear_value x1
  split
  · with_reducible assumption
  · extract_lets +onlyGivenNames -underBinder -merge -useContext x2
    clear_value x2
    extract_lets +onlyGivenNames -underBinder -merge -useContext x3
    clear_value x3
    extract_lets +onlyGivenNames -underBinder -merge -useContext x4
    clear_value x4
    extract_lets +onlyGivenNames -underBinder -merge -useContext x5
    clear_value x5
    extract_lets +onlyGivenNames -underBinder -merge -useContext x6
    refine (?_ : Ok qq x6 → _) ?_
    on_goal 2 =>
      unfold x6
      with_reducible apply reportLanes_ok
      with_reducible assumption
    (clear_value x6; intro hx6)
    split
    · with_reducible apply takeDesc_ok
      with_reducible assumption
    · with_reducible apply takeDesc_ok
      with_reducible apply descMinority_ok
      with_reducible assumption
    · with_reducible apply descNoMajority_ok
      with_reducible assumption
    · with_reducible apply stopFetch_ok
      with_reducible assumption

/-- `backPressure` keeps. -/
theorem backPressure_ok {qq : List Instr} (n why : Nat) (seq : Word) (s : State) (hs : Ok qq s) :
    Ok qq (backPressure n why seq s) := by
  unfold backPressure
  extract_lets +onlyGivenNames -underBinder -merge -useContext x1
  clear_value x1
  extract_lets +onlyGivenNames -underBinder -merge -useContext x2
  clear_value x2
  extract_lets +onlyGivenNames -underBinder -merge -useContext x3
  refine (?_ : Ok qq x3 → _) ?_
  on_goal 2 =>
    unfold x3
    with_reducible apply setRing_ok
    with_reducible assumption
  (clear_value x3; intro hx3)
  extract_lets +onlyGivenNames -underBinder -merge -useContext x4
  refine (?_ : Ok qq x4 → _) ?_
  on_goal 2 =>
    unfold x4
    with_reducible apply setFld_ok
    with_reducible assumption
  (clear_value x4; intro hx4)
  split
  · with_reducible apply raise_ok
    with_reducible assumption
  · with_reducible assumption

/-- `writeDesc` keeps. -/
theorem writeDesc_ok {qq : List Instr} (n : Nat) (s : State) (hs : Ok qq s) :
    Ok qq (writeDesc n s) := by
  unfold writeDesc
  split
  · split
    · with_reducible assumption
    · extract_lets +onlyGivenNames -underBinder -merge -useContext x1
      clear_value x1
      extract_lets +onlyGivenNames -underBinder -merge -useContext x2
      clear_value x2
      split
      · with_reducible apply backPressure_ok
        with_reducible assumption
      · split
        · with_reducible apply backPressure_ok
          with_reducible assumption
        · extract_lets +onlyGivenNames -underBinder -merge -useContext x3
          clear_value x3
          extract_lets +onlyGivenNames -underBinder -merge -useContext x4
          refine (?_ : Ok qq x4 → _) ?_
          on_goal 2 =>
            unfold x4
            with_reducible apply setRing_ok
            with_reducible assumption
          (clear_value x4; intro hx4)
          extract_lets +onlyGivenNames -underBinder -merge -useContext x5
          refine (?_ : Ok qq x5 → _) ?_
          on_goal 2 =>
            unfold x5
            with_reducible apply setFld_ok
            with_reducible assumption
          (clear_value x5; intro hx5)
          extract_lets +onlyGivenNames -underBinder -merge -useContext x6
          refine (?_ : Ok qq x6 → _) ?_
          on_goal 2 =>
            unfold x6
            with_reducible apply addDelta_ok
            (with_reducible apply ok_mk; with_reducible assumption)
          (clear_value x6; intro hx6)
          with_reducible apply showRingTxq_ok
          with_reducible apply showRing_ok
          split
          · with_reducible assumption
          · with_reducible apply setReg_ok
            with_reducible assumption
  · with_reducible assumption

/-- `nopDesc` keeps. -/
theorem nopDesc_ok {qq : List Instr} (n : Nat) (s : State) (hs : Ok qq s) :
    Ok qq (nopDesc n s) := by
  unfold nopDesc
  split
  · split
    · split
      split
      · with_reducible refine ok_snd (by assumption) ?_
        with_reducible apply readJournal_ok
        with_reducible assumption
      · with_reducible apply finishDesc_ok
        with_reducible refine ok_snd (by assumption) ?_
        with_reducible apply readJournal_ok
        with_reducible assumption
    · with_reducible assumption
  · with_reducible assumption

/-- `noteBuild` keeps. -/
theorem noteBuild_ok {qq : List Instr} (s : State) (hs : Ok qq s) :
    Ok qq (noteBuild s) := by
  unfold noteBuild
  split
  · with_reducible assumption
  · extract_lets +onlyGivenNames -underBinder -merge -useContext x1
    refine (?_ : Ok qq x1 → _) ?_
    on_goal 2 =>
      unfold x1
      with_reducible apply set64_ok
      with_reducible assumption
    (clear_value x1; intro hx1)
    (with_reducible apply ok_mk; with_reducible assumption)

/-- `ringRefuse` keeps. -/
theorem ringRefuse_ok {qq : List Instr} (n : Nat) (v : Nat) (s : State) (hs : Ok qq s) :
    Ok qq (ringRefuse n v s) := by
  unfold ringRefuse
  with_reducible apply raise_ok
  with_reducible assumption

/-- `runRing` keeps. -/
theorem runRing_ok {qq : List Instr} (n : Nat) (s : State) (hs : Ok qq s) :
    Ok qq (runRing n s) := by
  unfold runRing
  extract_lets +onlyGivenNames -underBinder -merge -useContext x1
  clear_value x1
  extract_lets +onlyGivenNames -underBinder -merge -useContext x2
  refine (?_ : Ok qq x2 → _) ?_
  on_goal 2 =>
    unfold x2
    with_reducible apply setRing_ok
    with_reducible assumption
  (clear_value x2; intro hx2)
  with_reducible apply showRing_ok
  with_reducible apply setReg_ok
  with_reducible assumption

/-- `noteSetup` keeps. -/
theorem noteSetup_ok {qq : List Instr} (n : Nat) (s : State) (hs : Ok qq s) :
    Ok qq (noteSetup n s) := by
  unfold noteSetup
  extract_lets +onlyGivenNames -underBinder -merge -useContext x1
  clear_value x1
  with_reducible apply addDelta_ok
  (with_reducible apply ok_mk; with_reducible assumption)

/-- `ringStartCmd` keeps. -/
theorem ringStartCmd_ok {qq : List Instr} (n v : Nat) (s : State) (hs : Ok qq s) :
    Ok qq (ringStartCmd n v s) := by
  unfold ringStartCmd
  extract_lets +onlyGivenNames -underBinder -merge -useContext x1
  clear_value x1
  extract_lets +onlyGivenNames -underBinder -merge -useContext x2
  clear_value x2
  split
  · with_reducible apply ringRefuse_ok
    with_reducible assumption
  · extract_lets +onlyGivenNames -underBinder -merge -useContext x3
    refine (?_ : Ok qq x3 → _) ?_
    on_goal 2 =>
      unfold x3
      with_reducible apply noteSetup_ok
      with_reducible apply noteBuild_ok
      with_reducible assumption
    (clear_value x3; intro hx3)
    extract_lets +onlyGivenNames -underBinder -merge -useContext x4
    clear_value x4
    extract_lets +onlyGivenNames -underBinder -merge -useContext x5
    refine (?_ : Ok qq x5 → _) ?_
    on_goal 2 =>
      unfold x5
      with_reducible apply setReg_ok
      with_reducible apply setReg_ok
      with_reducible assumption
    (clear_value x5; intro hx5)
    with_reducible apply runRing_ok
    with_reducible apply addDelta_ok
    with_reducible assumption

/-- `ringResume` keeps. -/
theorem ringResume_ok {qq : List Instr} (n v : Nat) (s : State) (hs : Ok qq s) :
    Ok qq (ringResume n v s) := by
  unfold ringResume
  split
  · extract_lets +onlyGivenNames -underBinder -merge -useContext x1
    refine (?_ : Ok qq x1 → _) ?_
    on_goal 2 =>
      unfold x1
      with_reducible apply noteSetup_ok
      with_reducible apply noteBuild_ok
      with_reducible assumption
    (clear_value x1; intro hx1)
    extract_lets +onlyGivenNames -underBinder -merge -useContext x2
    refine (?_ : Ok qq x2 → _) ?_
    on_goal 2 =>
      unfold x2
      with_reducible apply readJournal_ok
      with_reducible assumption
    (clear_value x2; intro hx2)
    extract_lets +onlyGivenNames -underBinder -merge -useContext x3
    refine (?_ : Ok qq x3 → _) ?_
    on_goal 2 =>
      unfold x3
      (with_reducible apply ok_mk; with_reducible assumption)
    (clear_value x3; intro hx3)
    with_reducible apply completeReady_ok
    with_reducible apply runRing_ok
    with_reducible assumption
  · split
    · with_reducible apply runRing_ok
      with_reducible apply noteBuild_ok
      with_reducible assumption
    · with_reducible apply ringRefuse_ok
      with_reducible assumption

/-- `ringStop` keeps. -/
theorem ringStop_ok {qq : List Instr} (n v : Nat) (s : State) (hs : Ok qq s) :
    Ok qq (ringStop n v s) := by
  unfold ringStop
  split
  · with_reducible apply showRing_ok
    with_reducible apply setFld_ok
    with_reducible apply dropPending_ok
    with_reducible apply stopFetch_ok
    with_reducible assumption
  · with_reducible apply ringRefuse_ok
    with_reducible assumption

/-- `ringDiscard` keeps. -/
theorem ringDiscard_ok {qq : List Instr} (n v : Nat) (s : State) (hs : Ok qq s) :
    Ok qq (ringDiscard n v s) := by
  unfold ringDiscard
  split
  · extract_lets +onlyGivenNames -underBinder -merge -useContext x1
    refine (?_ : Ok qq x1 → _) ?_
    on_goal 2 =>
      unfold x1
      with_reducible apply noteBuild_ok
      with_reducible assumption
    (clear_value x1; intro hx1)
    extract_lets +onlyGivenNames -underBinder -merge -useContext x2
    clear_value x2
    extract_lets +onlyGivenNames -underBinder -merge -useContext x3
    refine (?_ : Ok qq x3 → _) ?_
    on_goal 2 =>
      unfold x3
      (with_reducible apply ok_mk; with_reducible assumption)
    (clear_value x3; intro hx3)
    extract_lets +onlyGivenNames -underBinder -merge -useContext x4
    refine (?_ : Ok qq x4 → _) ?_
    on_goal 2 =>
      unfold x4
      with_reducible apply showRing_ok
      with_reducible apply setReg_ok
      with_reducible assumption
    (clear_value x4; intro hx4)
    extract_lets +onlyGivenNames -underBinder -merge -useContext x5
    refine (?_ : Ok qq x5 → _) ?_
    on_goal 2 =>
      unfold x5
      with_reducible apply addDelta_ok
      with_reducible assumption
    (clear_value x5; intro hx5)
    extract_lets +onlyGivenNames -underBinder -merge -useContext x6
    refine (?_ : Ok qq x6 → _) ?_
    on_goal 2 =>
      unfold x6
      with_reducible apply showRingTxq_ok
      with_reducible assumption
    (clear_value x6; intro hx6)
    with_reducible apply raise_ok
    split
    · with_reducible apply stick_ok
      with_reducible assumption
    · with_reducible assumption
  · with_reducible apply ringRefuse_ok
    with_reducible assumption

/-- `evqRefuse` keeps. -/
theorem evqRefuse_ok {qq : List Instr} (m v : Nat) (s : State) (hs : Ok qq s) :
    Ok qq (evqRefuse m v s) := by
  unfold evqRefuse
  with_reducible apply raise_ok
  with_reducible assumption

/-- `startBooks` keeps. -/
theorem startBooks_ok {qq : List Instr} (m : Nat) (s : State) (hs : Ok qq s) :
    Ok qq (startBooks m s) := by
  unfold startBooks
  extract_lets +onlyGivenNames -underBinder -merge -useContext x1
  clear_value x1
  extract_lets +onlyGivenNames -underBinder -merge -useContext x2
  refine (?_ : Ok qq x2 → _) ?_
  on_goal 2 =>
    unfold x2
    (with_reducible apply ok_mk; with_reducible assumption)
  (clear_value x2; intro hx2)
  with_reducible apply setReg_ok
  with_reducible apply setReg_ok
  with_reducible assumption

/-- `evqStart` keeps. -/
theorem evqStart_ok {qq : List Instr} (m v : Nat) (s : State) (hs : Ok qq s) :
    Ok qq (evqStart m v s) := by
  unfold evqStart
  split
  · with_reducible apply evqRefuse_ok
    with_reducible assumption
  · extract_lets +onlyGivenNames -underBinder -merge -useContext x1
    refine (?_ : Ok qq x1 → _) ?_
    on_goal 2 =>
      unfold x1
      with_reducible apply noteBuild_ok
      with_reducible assumption
    (clear_value x1; intro hx1)
    extract_lets +onlyGivenNames -underBinder -merge -useContext x2
    clear_value x2
    extract_lets +onlyGivenNames -underBinder -merge -useContext x3
    refine (?_ : Ok qq x3 → _) ?_
    on_goal 2 =>
      unfold x3
      with_reducible apply addDelta_ok
      with_reducible apply startBooks_ok
      with_reducible assumption
    (clear_value x3; intro hx3)
    extract_lets +onlyGivenNames -underBinder -merge -useContext x4
    refine (?_ : Ok qq x4 → _) ?_
    on_goal 2 =>
      unfold x4
      split
      · with_reducible apply raise_ok
        with_reducible assumption
      · with_reducible assumption
    (clear_value x4; intro hx4)
    with_reducible apply drain_ok
    with_reducible apply showOverflow_ok
    with_reducible apply setBit_ok
    with_reducible assumption

/-- `evqResume` keeps. -/
theorem evqResume_ok {qq : List Instr} (m v : Nat) (s : State) (hs : Ok qq s) :
    Ok qq (evqResume m v s) := by
  unfold evqResume
  split
  · with_reducible apply evqRefuse_ok
    with_reducible assumption
  · extract_lets +onlyGivenNames -underBinder -merge -useContext x1
    refine (?_ : Ok qq x1 → _) ?_
    on_goal 2 =>
      unfold x1
      with_reducible apply noteBuild_ok
      with_reducible assumption
    (clear_value x1; intro hx1)
    extract_lets +onlyGivenNames -underBinder -merge -useContext x2
    refine (?_ : Ok qq x2 → _) ?_
    on_goal 2 =>
      unfold x2
      with_reducible apply readJournal_ok
      with_reducible assumption
    (clear_value x2; intro hx2)
    extract_lets +onlyGivenNames -underBinder -merge -useContext x3
    refine (?_ : Ok qq x3 → _) ?_
    on_goal 2 =>
      unfold x3
      with_reducible apply setBit_ok
      with_reducible assumption
    (clear_value x3; intro hx3)
    extract_lets +onlyGivenNames -underBinder -merge -useContext x4
    refine (?_ : Ok qq x4 → _) ?_
    on_goal 2 =>
      unfold x4
      with_reducible apply ok_foldl
      · intro a5 a6 h7
        split
        with_reducible apply splitIrq_ok
        with_reducible apply toLanes_ok
        with_reducible assumption
      · with_reducible assumption
    (clear_value x4; intro hx4)
    with_reducible apply drain_ok
    with_reducible assumption

/-- `deliverEvent` keeps. -/
theorem deliverEvent_ok {qq : List Instr} (s : State) (hs : Ok qq s) :
    Ok qq (deliverEvent s) := by
  unfold deliverEvent
  split
  · split
    · with_reducible assumption
    · extract_lets +onlyGivenNames -underBinder -merge -useContext x1
      refine (?_ : Ok qq x1 → _) ?_
      on_goal 2 =>
        unfold x1
        with_reducible apply freeFailed_ok
        with_reducible apply setPending_ok
        with_reducible assumption
      (clear_value x1; intro hx1)
      split
      · split
        · with_reducible apply queueRec_ok
          with_reducible assumption
        · with_reducible assumption
      · with_reducible apply routeRecord_ok
        with_reducible assumption
  · with_reducible assumption

end Sys2Proof.Machine
end

