-- ==== Sys2Proof/Laws/KeepPair.lean ====
section
/-!
SUPPORT. What the operations of Machine/Pair.lean keep: the canonical form of registers and memories, and the queue.
-/

namespace Sys2Proof.Machine

/-- `takeResult` keeps. -/
theorem takeResult_ok {qq : List Instr} (r : WindowResult) (s : State) (hs : Ok qq s) :
    Ok qq (takeResult r s) := by
  unfold takeResult
  split
  · extract_lets +onlyGivenNames -underBinder -merge -useContext x1
    clear_value x1
    extract_lets +onlyGivenNames -underBinder -merge -useContext x2
    refine (?_ : Ok qq x2 → _) ?_
    on_goal 2 =>
      unfold x2
      (with_reducible apply ok_mk; with_reducible assumption)
    (clear_value x2; intro hx2)
    extract_lets +onlyGivenNames -underBinder -merge -useContext x3
    refine (?_ : Ok qq x3 → _) ?_
    on_goal 2 =>
      unfold x3
      with_reducible apply complete_ok
      with_reducible assumption
    (clear_value x3; intro hx3)
    split
    · split
      · with_reducible apply standbyFault_ok
        with_reducible apply raise_ok
        with_reducible assumption
      · with_reducible assumption
    · with_reducible assumption
  · with_reducible assumption

/-- `matchResults` keeps. -/
theorem matchResults_ok {qq : List Instr} (s : State) (hs : Ok qq s) :
    Ok qq (matchResults s) := by
  unfold matchResults
  split
  · with_reducible apply ok_foldl
    · intro a1 a2 h3
      with_reducible apply takeResult_ok
      with_reducible assumption
    · with_reducible assumption
  · with_reducible assumption

/-- `endStandbyAccess` keeps. -/
theorem endStandbyAccess_ok {qq : List Instr} (order : Nat) (s : State) (hs : Ok qq s) :
    Ok qq (endStandbyAccess order s) := by
  unfold endStandbyAccess
  with_reducible apply dropTold_ok
  with_reducible apply tell_ok
  with_reducible apply mapVote_ok
  with_reducible assumption

/-- `resultTimeout` keeps. -/
theorem resultTimeout_ok {qq : List Instr} (s : State) (hs : Ok qq s) :
    Ok qq (resultTimeout s) := by
  unfold resultTimeout
  split
  · split
    · with_reducible apply mirrorMissing_ok
      with_reducible apply endStandbyAccess_ok
      with_reducible assumption
    · with_reducible assumption
  · with_reducible assumption

/-- `partnerGone` keeps. -/
theorem partnerGone_ok {qq : List Instr} (s : State) (hs : Ok qq s) :
    Ok qq (partnerGone s) := by
  unfold partnerGone
  extract_lets +onlyGivenNames -underBinder -merge -useContext x1
  clear_value x1
  split
  · with_reducible apply bootEntry_ok
    with_reducible assumption
  · with_reducible assumption

/-- `offerHello` keeps. -/
theorem offerHello_ok {qq : List Instr} (s : State) (hs : Ok qq s) :
    Ok qq (offerHello s) := by
  unfold offerHello
  split
  · with_reducible apply emitOut_ok
    with_reducible assumption
  · with_reducible assumption

/-- `contention` keeps. -/
theorem contention_ok {qq : List Instr} (s : State) (hs : Ok qq s) :
    Ok qq (contention s) := by
  unfold contention
  split
  · extract_lets +onlyGivenNames -underBinder -merge -useContext x1
    clear_value x1
    extract_lets +onlyGivenNames -underBinder -merge -useContext x2
    refine (?_ : Ok qq x2 → _) ?_
    on_goal 2 =>
      unfold x2
      with_reducible apply mstOut_ok
      (with_reducible apply ok_mk; with_reducible assumption)
    (clear_value x2; intro hx2)
    with_reducible apply raise_ok
    with_reducible apply stick_ok
    with_reducible assumption
  · with_reducible assumption

/-- `silentActive` keeps. -/
theorem silentActive_ok {qq : List Instr} (s : State) (hs : Ok qq s) :
    Ok qq (silentActive s) := by
  unfold silentActive
  split
  · extract_lets +onlyGivenNames -underBinder -merge -useContext x1
    clear_value x1
    split
    · with_reducible apply giveUp_ok
      · with_reducible assumption
      · intro a2 a3 a4 a5 a6 h7
        with_reducible apply raiseF_ok
        with_reducible assumption
    · (with_reducible apply ok_mk; with_reducible assumption)
  · with_reducible assumption

/-- `mstInChange` keeps. -/
theorem mstInChange_ok {qq : List Instr} (level : MstLevel) (s : State) (hs : Ok qq s) :
    Ok qq (mstInChange level s) := by
  unfold mstInChange
  extract_lets +onlyGivenNames -underBinder -merge -useContext x1
  clear_value x1
  extract_lets +onlyGivenNames -underBinder -merge -useContext x2
  clear_value x2
  extract_lets +onlyGivenNames -underBinder -merge -useContext x3
  refine (?_ : Ok qq x3 → _) ?_
  on_goal 2 =>
    unfold x3
    with_reducible apply showScan_ok
    with_reducible apply setFld_ok
    with_reducible assumption
  (clear_value x3; intro hx3)
  extract_lets +onlyGivenNames -underBinder -merge -useContext x4
  clear_value x4
  extract_lets +onlyGivenNames -underBinder -merge -useContext x5
  refine (?_ : Ok qq x5 → _) ?_
  on_goal 2 =>
    unfold x5
    split
    · (with_reducible apply ok_mk; with_reducible assumption)
    · with_reducible assumption
  (clear_value x5; intro hx5)
  with_reducible apply partnerGone_ok
  with_reducible apply silentActive_ok
  with_reducible apply offerHello_ok
  with_reducible apply contention_ok
  with_reducible assumption

/-- `claim` keeps. -/
theorem claim_ok {qq : List Instr} (s : State) (hs : Ok qq s) :
    Ok qq (claim s) := by
  unfold claim
  split
  · with_reducible apply mstOut_ok
    (with_reducible apply ok_mk; with_reducible assumption)
  · with_reducible assumption

/-- `canTakeover` keeps. -/
theorem canTakeover_ok {qq : List Instr} (s : State) (hs : Ok qq s) :
    Ok qq (canTakeover s) := by
  unfold canTakeover
  extract_lets +onlyGivenNames -underBinder -merge -useContext x1
  refine (?_ : Ok qq x1 → _) ?_
  on_goal 2 =>
    unfold x1
    with_reducible apply ok_foldl
    · intro a2 a3 h4
      split
      · with_reducible apply setChan_ok
        with_reducible assumption
      · with_reducible assumption
    · with_reducible assumption
  (clear_value x1; intro hx1)
  with_reducible apply showListenAll_ok
  with_reducible assumption

/-- `announceShared` keeps. -/
theorem announceShared_ok {qq : List Instr} (s : State) (hs : Ok qq s) :
    Ok qq (announceShared s) := by
  unfold announceShared
  split
  · with_reducible assumption
  · with_reducible apply ok_foldl
    · intro a1 a2 h3
      with_reducible apply engineSend_ok
      with_reducible assumption
    · with_reducible assumption

/-- `readRings` keeps. -/
theorem readRings_ok {qq : List Instr} (s : State) (hs : Ok qq s) :
    Ok qq (readRings s) := by
  unfold readRings
  with_reducible apply ok_foldl
  · intro a1 a2 h3
    split
    · with_reducible assumption
    · with_reducible apply readJournal_ok
      with_reducible assumption
  · with_reducible assumption

/-- `takeoverRings` keeps. -/
theorem takeoverRings_ok {qq : List Instr} (s : State) (hs : Ok qq s) :
    Ok qq (takeoverRings s) := by
  unfold takeoverRings
  extract_lets +onlyGivenNames -underBinder -merge -useContext x1
  refine (?_ : Ok qq x1 → _) ?_
  on_goal 2 =>
    unfold x1
    with_reducible apply readRings_ok
    with_reducible assumption
  (clear_value x1; intro hx1)
  extract_lets +onlyGivenNames -underBinder -merge -useContext x2
  refine (?_ : Ok qq x2 → _) ?_
  on_goal 2 =>
    unfold x2
    (with_reducible apply ok_mk; with_reducible assumption)
  (clear_value x2; intro hx2)
  with_reducible apply ok_foldl
  · intro a3 a4 h5
    extract_lets +onlyGivenNames -underBinder -merge -useContext x6
    clear_value x6
    extract_lets +onlyGivenNames -underBinder -merge -useContext x7
    refine (?_ : Ok qq x7 → _) ?_
    on_goal 2 =>
      unfold x7
      split
      · with_reducible assumption
      · with_reducible apply setRing_ok
        with_reducible assumption
    (clear_value x7; intro hx7)
    with_reducible apply completeReady_ok
    with_reducible assumption
  · with_reducible assumption

/-- `takeover` keeps. -/
theorem takeover_ok {qq : List Instr} (s : State) (hs : Ok qq s) :
    Ok qq (takeover s) := by
  unfold takeover
  split
  · extract_lets +onlyGivenNames -underBinder -merge -useContext x1
    clear_value x1
    extract_lets +onlyGivenNames -underBinder -merge -useContext x2
    refine (?_ : Ok qq x2 → _) ?_
    on_goal 2 =>
      unfold x2
      with_reducible apply setBit_ok
      with_reducible apply setModTo_ok
      with_reducible assumption
    (clear_value x2; intro hx2)
    extract_lets +onlyGivenNames -underBinder -merge -useContext x3
    refine (?_ : Ok qq x3 → _) ?_
    on_goal 2 =>
      unfold x3
      with_reducible apply setReg_ok
      with_reducible assumption
    (clear_value x3; intro hx3)
    extract_lets +onlyGivenNames -underBinder -merge -useContext x4
    refine (?_ : Ok qq x4 → _) ?_
    on_goal 2 =>
      unfold x4
      with_reducible apply recCount_ok
      with_reducible apply satAdd_ok
      with_reducible assumption
    (clear_value x4; intro hx4)
    extract_lets +onlyGivenNames -underBinder -merge -useContext x5
    refine (?_ : Ok qq x5 → _) ?_
    on_goal 2 =>
      unfold x5
      with_reducible apply raise_ok
      with_reducible assumption
    (clear_value x5; intro hx5)
    extract_lets +onlyGivenNames -underBinder -merge -useContext x6
    clear_value x6
    extract_lets +onlyGivenNames -underBinder -merge -useContext x7
    refine (?_ : Ok qq x7 → _) ?_
    on_goal 2 =>
      unfold x7
      (with_reducible apply ok_mk; with_reducible assumption)
    (clear_value x7; intro hx7)
    with_reducible apply announceShared_ok
    with_reducible apply takeoverRings_ok
    with_reducible apply canTakeover_ok
    with_reducible apply takeoverIsth_ok
    with_reducible apply safeTakeover_ok
    with_reducible assumption
  · with_reducible assumption

/-- `driversRelease` keeps. -/
theorem driversRelease_ok {qq : List Instr} (s : State) (hs : Ok qq s) :
    Ok qq (driversRelease s) := by
  unfold driversRelease
  split
  · extract_lets +onlyGivenNames -underBinder -merge -useContext x1
    clear_value x1
    extract_lets +onlyGivenNames -underBinder -merge -useContext x2
    refine (?_ : Ok qq x2 → _) ?_
    on_goal 2 =>
      unfold x2
      with_reducible apply enterSafeHalt_ok
      · with_reducible assumption
      · intro a5 a6 a7 a8 a9 h10
        with_reducible apply raiseF_ok
        with_reducible assumption
    (clear_value x2; intro hx2)
    extract_lets +onlyGivenNames -underBinder -merge -useContext x3
    clear_value x3
    extract_lets +onlyGivenNames -underBinder -merge -useContext x4
    refine (?_ : Ok qq x4 → _) ?_
    on_goal 2 =>
      unfold x4
      (with_reducible apply ok_mk; with_reducible assumption)
    (clear_value x4; intro hx4)
    split
    · with_reducible apply bootEntry_ok
      with_reducible assumption
    · with_reducible assumption
  · with_reducible assumption

/-- `autoRestart` keeps. -/
theorem autoRestart_ok {qq : List Instr} (s : State) (hs : Ok qq s) :
    Ok qq (autoRestart s) := by
  unfold autoRestart
  split
  · with_reducible apply bootEntry_ok
    with_reducible assumption
  · with_reducible assumption

/-- `heard` keeps. -/
theorem heard_ok {qq : List Instr} (s : State) (hs : Ok qq s) :
    Ok qq (heard s) := by
  unfold heard
  (with_reducible apply ok_mk; with_reducible assumption)

/-- `checkLine` keeps. -/
theorem checkLine_ok {qq : List Instr} (i : StatusInfo) (s : State) (hs : Ok qq s) :
    Ok qq (checkLine i s) := by
  unfold checkLine
  split
  · split
    · with_reducible assumption
    · extract_lets +onlyGivenNames -underBinder -merge -useContext x1
      clear_value x1
      extract_lets +onlyGivenNames -underBinder -merge -useContext x2
      refine (?_ : Ok qq x2 → _) ?_
      on_goal 2 =>
        unfold x2
        with_reducible apply stick_ok
        (with_reducible apply ok_mk; with_reducible assumption)
      (clear_value x2; intro hx2)
      with_reducible apply standbyFault_ok
      with_reducible apply raise_ok
      with_reducible assumption
  · split
    · (with_reducible apply ok_mk; with_reducible assumption)
    · with_reducible assumption

/-- `endCopy` keeps. -/
theorem endCopy_ok {qq : List Instr} (s : State) (hs : Ok qq s) :
    Ok qq (endCopy s) := by
  unfold endCopy
  split
  · with_reducible apply setReg_ok
    (with_reducible apply ok_mk; with_reducible assumption)
  · with_reducible assumption

/-- `statusRx` keeps. -/
theorem statusRx_ok {qq : List Instr} (i : StatusInfo) (s : State) (hs : Ok qq s) :
    Ok qq (statusRx i s) := by
  unfold statusRx
  extract_lets +onlyGivenNames -underBinder -merge -useContext x1
  clear_value x1
  extract_lets +onlyGivenNames -underBinder -merge -useContext x2
  refine (?_ : Ok qq x2 → _) ?_
  on_goal 2 =>
    unfold x2
    with_reducible apply heard_ok
    (with_reducible apply ok_mk; with_reducible assumption)
  (clear_value x2; intro hx2)
  extract_lets +onlyGivenNames -underBinder -merge -useContext x3
  refine (?_ : Ok qq x3 → _) ?_
  on_goal 2 =>
    unfold x3
    with_reducible apply setFld_ok
    with_reducible assumption
  (clear_value x3; intro hx3)
  extract_lets +onlyGivenNames -underBinder -merge -useContext x4
  clear_value x4
  extract_lets +onlyGivenNames -underBinder -merge -useContext x5
  refine (?_ : Ok qq x5 → _) ?_
  on_goal 2 =>
    unfold x5
    with_reducible apply setBit_ok
    with_reducible assumption
  (clear_value x5; intro hx5)
  extract_lets +onlyGivenNames -underBinder -merge -useContext x6
  refine (?_ : Ok qq x6 → _) ?_
  on_goal 2 =>
    unfold x6
    split
    · with_reducible apply raise_ok
      with_reducible assumption
    · with_reducible assumption
  (clear_value x6; intro hx6)
  extract_lets +onlyGivenNames -underBinder -merge -useContext x7
  clear_value x7
  extract_lets +onlyGivenNames -underBinder -merge -useContext x8
  refine (?_ : Ok qq x8 → _) ?_
  on_goal 2 =>
    unfold x8
    split
    · split
      · with_reducible apply endCopy_ok
        with_reducible assumption
      · split
        · with_reducible assumption
        · with_reducible apply stopMirroring_ok
          with_reducible apply endCopy_ok
          (with_reducible apply ok_mk; with_reducible assumption)
    · with_reducible assumption
  (clear_value x8; intro hx8)
  with_reducible apply partnerGone_ok
  with_reducible apply checkLine_ok
  with_reducible assumption

/-- `straitSilent` keeps. -/
theorem straitSilent_ok {qq : List Instr} (s : State) (hs : Ok qq s) :
    Ok qq (straitSilent s) := by
  unfold straitSilent
  split
  · with_reducible assumption
  · extract_lets +onlyGivenNames -underBinder -merge -useContext x1
    clear_value x1
    extract_lets +onlyGivenNames -underBinder -merge -useContext x2
    refine (?_ : Ok qq x2 → _) ?_
    on_goal 2 =>
      unfold x2
      (with_reducible apply ok_mk; with_reducible assumption)
    (clear_value x2; intro hx2)
    extract_lets +onlyGivenNames -underBinder -merge -useContext x3
    refine (?_ : Ok qq x3 → _) ?_
    on_goal 2 =>
      unfold x3
      with_reducible apply raise_ok
      with_reducible apply stick_ok
      with_reducible assumption
    (clear_value x3; intro hx3)
    extract_lets +onlyGivenNames -underBinder -merge -useContext x4
    refine (?_ : Ok qq x4 → _) ?_
    on_goal 2 =>
      unfold x4
      with_reducible apply setFld_ok
      with_reducible apply setFld_ok
      with_reducible assumption
    (clear_value x4; intro hx4)
    extract_lets +onlyGivenNames -underBinder -merge -useContext x5
    refine (?_ : Ok qq x5 → _) ?_
    on_goal 2 =>
      unfold x5
      split
      · with_reducible apply stopMirroring_ok
        with_reducible apply endCopy_ok
        with_reducible assumption
      · with_reducible assumption
    (clear_value x5; intro hx5)
    with_reducible apply partnerGone_ok
    with_reducible apply silentActive_ok
    with_reducible assumption

/-- `laneDown` keeps. -/
theorem laneDown_ok {qq : List Instr} (l : Nat) (s : State) (hs : Ok qq s) :
    Ok qq (laneDown l s) := by
  unfold laneDown
  split
  · extract_lets +onlyGivenNames -underBinder -merge -useContext x1
    refine (?_ : Ok qq x1 → _) ?_
    on_goal 2 =>
      unfold x1
      with_reducible apply setBit_ok
      with_reducible apply stick_ok
      with_reducible assumption
    (clear_value x1; intro hx1)
    with_reducible apply raise_ok
    with_reducible assumption
  · with_reducible assumption

/-- `statusTx` keeps. -/
theorem statusTx_ok {qq : List Instr} (s : State) (hs : Ok qq s) :
    Ok qq (statusTx s) := by
  unfold statusTx
  split
  · with_reducible assumption
  · with_reducible assumption
  · with_reducible apply emitOut_ok
    with_reducible assumption

/-- `linkError` keeps. -/
theorem linkError_ok {qq : List Instr} (s : State) (hs : Ok qq s) :
    Ok qq (linkError s) := by
  unfold linkError
  with_reducible apply satAdd_ok
  with_reducible assumption

/-- `frameError` keeps. -/
theorem frameError_ok {qq : List Instr} (what : StraitErr) (s : State) (hs : Ok qq s) :
    Ok qq (frameError what s) := by
  unfold frameError
  split
  · split
    with_reducible apply emitOut_ok
    with_reducible refine ok_snd (by assumption) ?_
    with_reducible apply takeFree_ok
    with_reducible assumption
  · with_reducible apply emitOut_ok
    with_reducible assumption
  · with_reducible apply linkError_ok
    with_reducible assumption

/-- `imageRx` keeps. -/
theorem imageRx_ok {qq : List Instr} (c : ImageContent) (s : State) (hs : Ok qq s) :
    Ok qq (imageRx c s) := by
  unfold imageRx
  extract_lets +onlyGivenNames -underBinder -merge -useContext x1
  refine (?_ : Ok qq x1 → _) ?_
  on_goal 2 =>
    unfold x1
    with_reducible apply heard_ok
    with_reducible assumption
  (clear_value x1; intro hx1)
  split
  · extract_lets +onlyGivenNames -underBinder -merge -useContext x2
    clear_value x2
    extract_lets +onlyGivenNames -underBinder -merge -useContext x3
    clear_value x3
    (with_reducible apply ok_mk; with_reducible assumption)
  · with_reducible assumption

/-- `meetVoted` keeps. -/
theorem meetVoted_ok {qq : List Instr} (r : JRecord) (s : State) (hs : Ok qq s) :
    Ok qq (meetVoted r s) := by
  unfold meetVoted
  extract_lets +onlyGivenNames -underBinder -merge -useContext x1
  clear_value x1
  split
  · extract_lets +onlyGivenNames -underBinder -merge -useContext x2
    refine (?_ : Ok qq x2 → _) ?_
    on_goal 2 =>
      unfold x2
      with_reducible apply setRing_ok
      with_reducible assumption
    (clear_value x2; intro hx2)
    split
    · with_reducible assumption
    · with_reducible apply descMismatch_ok
      with_reducible assumption
  · with_reducible assumption

/-- `mirrorMark` keeps. -/
theorem mirrorMark_ok {qq : List Instr} (n : Nat) (seq : Word) (st : JState) (o : DescOutcome) (a : Dword) (s : State) (hs : Ok qq s) :
    Ok qq (mirrorMark n seq st o a s) := by
  unfold mirrorMark
  with_reducible apply mapRec_ok
  with_reducible assumption

/-- `mirrorItem` keeps. -/
theorem mirrorItem_ok {qq : List Instr} (s : State) (c : JItem) (hs : Ok qq s) : Ok qq (mirrorItem s c) := by
  unfold mirrorItem
  split
  · extract_lets +onlyGivenNames -underBinder -merge -useContext x1
    refine (?_ : Ok qq x1 → _) ?_
    on_goal 2 =>
      unfold x1
      (with_reducible apply ok_mk; with_reducible assumption)
    (clear_value x1; intro hx1)
    with_reducible apply meetVoted_ok
    with_reducible apply showRing_ok
    with_reducible apply setReg_ok
    with_reducible assumption
  · with_reducible apply mirrorMark_ok
    with_reducible assumption
  · extract_lets +onlyGivenNames -underBinder -merge -useContext x2
    refine (?_ : Ok qq x2 → _) ?_
    on_goal 2 =>
      unfold x2
      (with_reducible apply ok_mk; with_reducible assumption)
    (clear_value x2; intro hx2)
    with_reducible apply showRing_ok
    with_reducible apply setReg_ok
    with_reducible assumption
  · extract_lets +onlyGivenNames -underBinder -merge -useContext x3
    clear_value x3
    extract_lets +onlyGivenNames -underBinder -merge -useContext x4
    refine (?_ : Ok qq x4 → _) ?_
    on_goal 2 =>
      unfold x4
      (with_reducible apply ok_mk; with_reducible assumption)
    (clear_value x4; intro hx4)
    with_reducible apply showRecord_ok
    with_reducible apply showOverflow_ok
    with_reducible assumption
  · extract_lets +onlyGivenNames -underBinder -merge -useContext x5
    clear_value x5
    with_reducible apply showOverflow_ok
    (with_reducible apply ok_mk; with_reducible assumption)
  · with_reducible apply showCredits_ok
    with_reducible apply showOverflow_ok
    with_reducible apply startBooks_ok
    with_reducible assumption
  · (with_reducible apply ok_mk; with_reducible assumption)
  · extract_lets +onlyGivenNames -underBinder -merge -useContext x6
    refine (?_ : Ok qq x6 → _) ?_
    on_goal 2 =>
      unfold x6
      (with_reducible apply ok_mk; with_reducible assumption)
    (clear_value x6; intro hx6)
    with_reducible apply showRing_ok
    with_reducible apply setReg_ok
    with_reducible apply setReg_ok
    with_reducible assumption
  · extract_lets +onlyGivenNames -underBinder -merge -useContext x7
    clear_value x7
    with_reducible apply showCredits_ok
    with_reducible apply setReg_ok
    (with_reducible apply ok_mk; with_reducible assumption)

/-- `journalRx` keeps. -/
theorem journalRx_ok {qq : List Instr} (batch : Word) (items : List JItem) (s : State) (hs : Ok qq s) :
    Ok qq (journalRx batch items s) := by
  unfold journalRx
  extract_lets +onlyGivenNames -underBinder -merge -useContext x1
  refine (?_ : Ok qq x1 → _) ?_
  on_goal 2 =>
    unfold x1
    with_reducible apply heard_ok
    with_reducible assumption
  (clear_value x1; intro hx1)
  split
  · extract_lets +onlyGivenNames -underBinder -merge -useContext x2
    refine (?_ : Ok qq x2 → _) ?_
    on_goal 2 =>
      unfold x2
      with_reducible apply ok_foldl
      · intro a3 a4 h5
        with_reducible apply mirrorItem_ok
        with_reducible assumption
      · with_reducible assumption
    (clear_value x2; intro hx2)
    with_reducible apply setReg_ok
    with_reducible apply emitOut_ok
    with_reducible assumption
  · with_reducible assumption

/-- `confirmBlocks` keeps. -/
theorem confirmBlocks_ok {qq : List Instr} (done rest : List (CheckItem × List Nat × Nat)) (s : State) (hs : Ok qq s) :
    Ok qq (confirmBlocks done rest s) := by
  unfold confirmBlocks
  extract_lets +onlyGivenNames -underBinder -merge -useContext x1
  clear_value x1
  extract_lets +onlyGivenNames -underBinder -merge -useContext x2
  clear_value x2
  with_reducible apply showWithhold_ok
  (with_reducible apply ok_mk; with_reducible assumption)

/-- `checkRx` keeps. -/
theorem checkRx_ok {qq : List Instr} (c : CheckContent) (s : State) (hs : Ok qq s) :
    Ok qq (checkRx c s) := by
  unfold checkRx
  extract_lets +onlyGivenNames -underBinder -merge -useContext x1
  refine (?_ : Ok qq x1 → _) ?_
  on_goal 2 =>
    unfold x1
    with_reducible apply heard_ok
    with_reducible assumption
  (clear_value x1; intro hx1)
  split
  · extract_lets +onlyGivenNames -underBinder -merge -useContext x2
    clear_value x2
    extract_lets +onlyGivenNames -underBinder -merge -useContext x3
    clear_value x3
    extract_lets +onlyGivenNames -underBinder -merge -useContext x4
    clear_value x4
    extract_lets +onlyGivenNames -underBinder -merge -useContext x5
    clear_value x5
    extract_lets +onlyGivenNames -underBinder -merge -useContext x6
    clear_value x6
    extract_lets +onlyGivenNames -underBinder -merge -useContext x7
    refine (?_ : Ok qq x7 → _) ?_
    on_goal 2 =>
      unfold x7
      (with_reducible apply ok_mk; with_reducible assumption)
    (clear_value x7; intro hx7)
    extract_lets +onlyGivenNames -underBinder -merge -useContext x8
    refine (?_ : Ok qq x8 → _) ?_
    on_goal 2 =>
      unfold x8
      with_reducible apply ok_foldl
      · intro a10 a11 h12
        split
        split
        · with_reducible apply setReg_ok
          with_reducible assumption
        · with_reducible assumption
      · with_reducible assumption
    (clear_value x8; intro hx8)
    extract_lets +onlyGivenNames -underBinder -merge -useContext x9
    refine (?_ : Ok qq x9 → _) ?_
    on_goal 2 =>
      unfold x9
      with_reducible apply emitOut_ok
      with_reducible assumption
    (clear_value x9; intro hx9)
    split
    · with_reducible apply outputMismatch_ok
      with_reducible assumption
    · with_reducible apply confirmBlocks_ok
      with_reducible assumption
  · with_reducible assumption

/-- `ackRx` keeps. -/
theorem ackRx_ok {qq : List Instr} (isCheck : Bool) (seq : Word) (ok : Bool) (s : State) (hs : Ok qq s) :
    Ok qq (ackRx isCheck seq ok s) := by
  unfold ackRx
  extract_lets +onlyGivenNames -underBinder -merge -useContext x1
  refine (?_ : Ok qq x1 → _) ?_
  on_goal 2 =>
    unfold x1
    with_reducible apply heard_ok
    with_reducible assumption
  (clear_value x1; intro hx1)
  split
  · with_reducible assumption
  · split
    · split
      · extract_lets +onlyGivenNames -underBinder -merge -useContext x2
        clear_value x2
        extract_lets +onlyGivenNames -underBinder -merge -useContext x3
        refine (?_ : Ok qq x3 → _) ?_
        on_goal 2 =>
          unfold x3
          (with_reducible apply ok_mk; with_reducible assumption)
        (clear_value x3; intro hx3)
        split
        · with_reducible assumption
        · split
          with_reducible apply outputMismatch_ok
          with_reducible refine ok_snd (by assumption) ?_
          with_reducible apply takeFree_ok
          with_reducible assumption
      · with_reducible assumption
    · split
      · extract_lets +onlyGivenNames -underBinder -merge -useContext x4
        clear_value x4
        extract_lets +onlyGivenNames -underBinder -merge -useContext x5
        refine (?_ : Ok qq x5 → _) ?_
        on_goal 2 =>
          unfold x5
          (with_reducible apply ok_mk; with_reducible assumption)
        (clear_value x5; intro hx5)
        with_reducible apply setReg_ok
        with_reducible apply batchAcked_ok
        with_reducible assumption
      · with_reducible assumption

/-- `windowResultRx` keeps. -/
theorem windowResultRx_ok {qq : List Instr} (r : WindowResult) (s : State) (hs : Ok qq s) :
    Ok qq (windowResultRx r s) := by
  unfold windowResultRx
  extract_lets +onlyGivenNames -underBinder -merge -useContext x1
  refine (?_ : Ok qq x1 → _) ?_
  on_goal 2 =>
    unfold x1
    with_reducible apply heard_ok
    with_reducible assumption
  (clear_value x1; intro hx1)
  split
  · with_reducible apply matchResults_ok
    (with_reducible apply ok_mk; with_reducible assumption)
  · with_reducible assumption

/-- `exchangeNotice` keeps. -/
theorem exchangeNotice_ok {qq : List Instr} (h : Word) (s : State) (hs : Ok qq s) :
    Ok qq (exchangeNotice h s) := by
  unfold exchangeNotice
  split
  · extract_lets +onlyGivenNames -underBinder -merge -useContext x1
    clear_value x1
    extract_lets +onlyGivenNames -underBinder -merge -useContext x2
    clear_value x2
    extract_lets +onlyGivenNames -underBinder -merge -useContext x3
    clear_value x3
    extract_lets +onlyGivenNames -underBinder -merge -useContext x4
    refine (?_ : Ok qq x4 → _) ?_
    on_goal 2 =>
      unfold x4
      (with_reducible apply ok_mk; with_reducible assumption)
    (clear_value x4; intro hx4)
    split
    · with_reducible apply emitOut_ok
      with_reducible assumption
    · with_reducible assumption
  · split
    · (with_reducible apply ok_mk; with_reducible assumption)
    · with_reducible assumption

/-- `noticeRx` keeps. -/
theorem noticeRx_ok {qq : List Instr} (n : Notice) (s : State) (hs : Ok qq s) :
    Ok qq (noticeRx n s) := by
  unfold noticeRx
  extract_lets +onlyGivenNames -underBinder -merge -useContext x1
  refine (?_ : Ok qq x1 → _) ?_
  on_goal 2 =>
    unfold x1
    with_reducible apply heard_ok
    with_reducible assumption
  (clear_value x1; intro hx1)
  split
  · with_reducible apply overrunNotice_ok
    with_reducible assumption
  · with_reducible apply forceNotice_ok
    with_reducible assumption
  · with_reducible apply exchangeNotice_ok
    with_reducible assumption
  · split
    · (with_reducible apply ok_mk; with_reducible assumption)
    · with_reducible assumption
  · split
    · with_reducible apply inputXchk_ok
      with_reducible assumption
    · with_reducible assumption
  · split
    · with_reducible apply joinFailed_ok
      with_reducible assumption
    · with_reducible assumption

/-- `giveUpRx` keeps. -/
theorem giveUpRx_ok {qq : List Instr} (c : GiveUpCause) (s : State) (hs : Ok qq s) :
    Ok qq (giveUpRx c s) := by
  unfold giveUpRx
  extract_lets +onlyGivenNames -underBinder -merge -useContext x1
  refine (?_ : Ok qq x1 → _) ?_
  on_goal 2 =>
    unfold x1
    with_reducible apply heard_ok
    with_reducible assumption
  (clear_value x1; intro hx1)
  split
  · with_reducible apply partnerGone_ok
    (with_reducible apply ok_mk; with_reducible assumption)
  · with_reducible assumption

/-- `copyJournal` keeps. -/
theorem copyJournal_ok {qq : List Instr} (records : List JRecord) (books : List (Nat × Word × Word)) (setups : List (Nat × RingSetup))
    (events : List (Nat × Word × Record)) (heads : List (Nat × Word × Word × Word)) (overflow : List (Nat × Bool × Record))
    (s : State) (hs : Ok qq s) :
    Ok qq (copyJournal records books setups events heads overflow s) := by
  unfold copyJournal
  extract_lets +onlyGivenNames -underBinder -merge -useContext x1
  clear_value x1
  extract_lets +onlyGivenNames -underBinder -merge -useContext x2
  refine (?_ : Ok qq x2 → _) ?_
  on_goal 2 =>
    unfold x2
    (with_reducible apply ok_mk; with_reducible assumption)
  (clear_value x2; intro hx2)
  extract_lets +onlyGivenNames -underBinder -merge -useContext x3
  refine (?_ : Ok qq x3 → _) ?_
  on_goal 2 =>
    unfold x3
    with_reducible apply showOverflow_ok
    with_reducible assumption
  (clear_value x3; intro hx3)
  extract_lets +onlyGivenNames -underBinder -merge -useContext x4
  refine (?_ : Ok qq x4 → _) ?_
  on_goal 2 =>
    unfold x4
    with_reducible apply ok_foldl
    · intro a10 a11 h12
      split
      with_reducible apply showRing_ok
      with_reducible apply setReg_ok
      with_reducible apply setReg_ok
      with_reducible assumption
    · with_reducible assumption
  (clear_value x4; intro hx4)
  with_reducible apply ok_foldl
  · intro a5 a6 h7
    split
    extract_lets +onlyGivenNames -underBinder -merge -useContext x8
    clear_value x8
    extract_lets +onlyGivenNames -underBinder -merge -useContext x9
    refine (?_ : Ok qq x9 → _) ?_
    on_goal 2 =>
      unfold x9
      (with_reducible apply ok_mk; with_reducible assumption)
    (clear_value x9; intro hx9)
    with_reducible apply showCredits_ok
    with_reducible apply setReg_ok
    with_reducible apply setReg_ok
    with_reducible assumption
  · with_reducible assumption

/-- `copyRx` keeps. -/
theorem copyRx_ok {qq : List Instr} (c : CopyContent) (s : State) (hs : Ok qq s) :
    Ok qq (copyRx c s) := by
  unfold copyRx
  extract_lets +onlyGivenNames -underBinder -merge -useContext x1
  refine (?_ : Ok qq x1 → _) ?_
  on_goal 2 =>
    unfold x1
    with_reducible apply heard_ok
    with_reducible assumption
  (clear_value x1; intro hx1)
  split
  · split
    · with_reducible apply copyJournal_ok
      with_reducible assumption
    · extract_lets +onlyGivenNames -underBinder -merge -useContext x2
      clear_value x2
      with_reducible apply setReg_ok
      (with_reducible apply ok_mk; with_reducible assumption)
    · with_reducible apply ok_foldl
      · intro a3 a4 h5
        with_reducible refine ok_dram ?_ _ (fun hm => writeBytes_wf hm _ _)
        with_reducible assumption
      · with_reducible assumption
  · with_reducible assumption

/-- `adoptBank` keeps. -/
theorem adoptBank_ok {qq : List Instr} (h : HelloInfo) (s : State) (hs : Ok qq s) :
    Ok qq (adoptBank h s) := by
  unfold adoptBank
  split
  · with_reducible apply showBanks_ok
    with_reducible apply setFld_ok
    with_reducible assumption
  · with_reducible assumption

/-- `joinStarts` keeps. -/
theorem joinStarts_ok {qq : List Instr} (h : HelloInfo) (s : State) (hs : Ok qq s) :
    Ok qq (joinStarts h s) := by
  unfold joinStarts
  extract_lets +onlyGivenNames -underBinder -merge -useContext x1
  clear_value x1
  extract_lets +onlyGivenNames -underBinder -merge -useContext x2
  refine (?_ : Ok qq x2 → _) ?_
  on_goal 2 =>
    unfold x2
    with_reducible apply adoptBank_ok
    (with_reducible apply ok_mk; with_reducible assumption)
  (clear_value x2; intro hx2)
  with_reducible apply setFld_ok
  with_reducible assumption

/-- `startDegraded` keeps. -/
theorem startDegraded_ok {qq : List Instr} (s : State) (hs : Ok qq s) :
    Ok qq (startDegraded s) := by
  unfold startDegraded
  split
  · with_reducible apply raise_ok
    with_reducible assumption
  · with_reducible assumption

/-- `joinFromBoot` keeps. -/
theorem joinFromBoot_ok {qq : List Instr} (s : State) (hs : Ok qq s) :
    Ok qq (joinFromBoot s) := by
  unfold joinFromBoot
  extract_lets +onlyGivenNames -underBinder -merge -useContext x1
  refine (?_ : Ok qq x1 → _) ?_
  on_goal 2 =>
    unfold x1
    with_reducible apply setModTo_ok
    with_reducible assumption
  (clear_value x1; intro hx1)
  extract_lets +onlyGivenNames -underBinder -merge -useContext x2
  clear_value x2
  extract_lets +onlyGivenNames -underBinder -merge -useContext x3
  refine (?_ : Ok qq x3 → _) ?_
  on_goal 2 =>
    unfold x3
    with_reducible apply setReg_ok
    (with_reducible apply ok_mk; with_reducible assumption)
  (clear_value x3; intro hx3)
  extract_lets +onlyGivenNames -underBinder -merge -useContext x4
  refine (?_ : Ok qq x4 → _) ?_
  on_goal 2 =>
    unfold x4
    with_reducible apply ok_foldl
    · intro a5 a6 h7
      with_reducible apply setLaneTo_ok
      with_reducible apply setLane_ok
      with_reducible assumption
    · with_reducible apply startDegraded_ok
      with_reducible assumption
  (clear_value x4; intro hx4)
  with_reducible apply showListenAll_ok
  with_reducible assumption

/-- `helloRx` keeps. -/
theorem helloRx_ok {qq : List Instr} (h : HelloInfo) (s : State) (hs : Ok qq s) :
    Ok qq (helloRx h s) := by
  unfold helloRx
  extract_lets +onlyGivenNames -underBinder -merge -useContext x1
  clear_value x1
  extract_lets +onlyGivenNames -underBinder -merge -useContext x2
  refine (?_ : Ok qq x2 → _) ?_
  on_goal 2 =>
    unfold x2
    with_reducible apply heard_ok
    (with_reducible apply ok_mk; with_reducible assumption)
  (clear_value x2; intro hx2)
  extract_lets +onlyGivenNames -underBinder -merge -useContext x3
  refine (?_ : Ok qq x3 → _) ?_
  on_goal 2 =>
    unfold x3
    with_reducible apply setFld_ok
    with_reducible assumption
  (clear_value x3; intro hx3)
  split
  · extract_lets +onlyGivenNames -underBinder -merge -useContext x4
    clear_value x4
    split
    · with_reducible apply emitOut_ok
      with_reducible apply stopMirroring_ok
      with_reducible apply endCopy_ok
      with_reducible assumption
    · with_reducible assumption
  · split
    · with_reducible assumption
    · split
      · with_reducible apply enterMaintenance_ok
        with_reducible apply raise_ok
        with_reducible assumption
      · split
        · with_reducible apply joinStarts_ok
          with_reducible apply joinFromBoot_ok
          with_reducible assumption
        · with_reducible apply enterMaintenance_ok
          with_reducible apply raise_ok
          with_reducible apply stick_ok
          with_reducible assumption
  · split
    · with_reducible assumption
    · split
      · with_reducible apply joinStarts_ok
        with_reducible assumption
      · with_reducible apply joinFailed_ok
        with_reducible assumption
  · with_reducible assumption

/-- `journalDone` keeps. -/
theorem journalDone_ok {qq : List Instr} (s : State) (hs : Ok qq s) :
    Ok qq (journalDone s) := by
  unfold journalDone
  split
  · with_reducible apply setFld_ok
    with_reducible assumption
  · extract_lets +onlyGivenNames -underBinder -merge -useContext x1
    clear_value x1
    split
    · extract_lets +onlyGivenNames -underBinder -merge -useContext x2
      refine (?_ : Ok qq x2 → _) ?_
      on_goal 2 =>
        unfold x2
        with_reducible apply emitOut_ok
        with_reducible apply emitOut_ok
        with_reducible assumption
      (clear_value x2; intro hx2)
      extract_lets +onlyGivenNames -underBinder -merge -useContext x3
      clear_value x3
      extract_lets +onlyGivenNames -underBinder -merge -useContext x4
      clear_value x4
      extract_lets +onlyGivenNames -underBinder -merge -useContext x5
      refine (?_ : Ok qq x5 → _) ?_
      on_goal 2 =>
        unfold x5
        (with_reducible apply ok_mk; with_reducible assumption)
      (clear_value x5; intro hx5)
      with_reducible apply showDirty_ok
      with_reducible apply setFld_ok
      with_reducible assumption
    · with_reducible assumption

/-- `joinTimeout` keeps. -/
theorem joinTimeout_ok {qq : List Instr} (s : State) (hs : Ok qq s) :
    Ok qq (joinTimeout s) := by
  unfold joinTimeout
  split
  · with_reducible apply joinFailed_ok
    with_reducible assumption
  · with_reducible assumption

/-- `joinRetry` keeps. -/
theorem joinRetry_ok {qq : List Instr} (s : State) (hs : Ok qq s) :
    Ok qq (joinRetry s) := by
  unfold joinRetry
  split
  · split
    · with_reducible apply startAttempt_ok
      with_reducible apply lanesToTesting_ok
      with_reducible assumption
    · with_reducible assumption
  · with_reducible assumption

/-- `joinComplete` keeps. -/
theorem joinComplete_ok {qq : List Instr} (s : State) (hs : Ok qq s) :
    Ok qq (joinComplete s) := by
  unfold joinComplete
  split
  · extract_lets +onlyGivenNames -underBinder -merge -useContext x1
    refine (?_ : Ok qq x1 → _) ?_
    on_goal 2 =>
      unfold x1
      with_reducible apply setFld_ok
      with_reducible apply setModTo_ok
      with_reducible assumption
    (clear_value x1; intro hx1)
    extract_lets +onlyGivenNames -underBinder -merge -useContext x2
    clear_value x2
    with_reducible apply setBit_ok
    (with_reducible apply ok_mk; with_reducible assumption)
  · with_reducible assumption

/-- `regain` keeps. -/
theorem regain_ok {qq : List Instr} (s : State) (hs : Ok qq s) :
    Ok qq (regain s) := by
  unfold regain
  extract_lets +onlyGivenNames -underBinder -merge -useContext x1
  clear_value x1
  split
  · with_reducible apply setBit_ok
    (with_reducible apply ok_mk; with_reducible assumption)
  · with_reducible assumption

/-- `pairHandover` keeps. -/
theorem pairHandover_ok {qq : List Instr} (v : Nat) (s : State) (hs : Ok qq s) :
    Ok qq (pairHandover v s) := by
  unfold pairHandover
  split
  · (with_reducible apply ok_mk; with_reducible assumption)
  · with_reducible apply raise_ok
    with_reducible assumption

end Sys2Proof.Machine
end

