-- ==== Sys2Proof/Laws/KeepImage.lean ====
section
/-!
SUPPORT. What the operations of Machine/Image.lean keep: the canonical form of registers and memories, and the queue.
-/

namespace Sys2Proof.Machine

/-- `reportSlot` keeps. -/
theorem reportSlot_ok {qq : List Instr} (n : Nat) (s : State) (hs : Ok qq s) :
    Ok qq (reportSlot n s) := by
  unfold reportSlot
  with_reducible apply ok_foldl
  · intro a1 a2 h3
    split
    split
    with_reducible apply memUncorrectable_ok
    with_reducible refine ok_snd (by assumption) ?_
    with_reducible apply takeFree_ok
    with_reducible assumption
  · with_reducible assumption

/-- `reportIf` keeps. -/
theorem reportIf_ok {qq : List Instr} (why n : Nat) (s : State) (hs : Ok qq s) :
    Ok qq (reportIf why n s) := by
  unfold reportIf
  split
  · with_reducible apply reportSlot_ok
    with_reducible assumption
  · with_reducible assumption

/-- `judgeCombo` keeps. -/
theorem judgeCombo_ok {qq : List Instr} (b : Nat) (s : State) (hs : Ok qq s) :
    Ok qq (judgeCombo b s) := by
  unfold judgeCombo
  extract_lets +onlyGivenNames -underBinder -merge -useContext x1
  refine (?_ : Ok qq x1 → _) ?_
  on_goal 2 =>
    unfold x1
    with_reducible apply setFld_ok
    with_reducible apply setFld_ok
    with_reducible assumption
  (clear_value x1; intro hx1)
  extract_lets +onlyGivenNames -underBinder -merge -useContext x2
  clear_value x2
  split
  · with_reducible apply enterMaintenance_ok
    with_reducible assumption
  · extract_lets +onlyGivenNames -underBinder -merge -useContext x3
    refine (?_ : Ok qq x3 → _) ?_
    on_goal 2 =>
      unfold x3
      with_reducible apply setFld_ok
      with_reducible assumption
    (clear_value x3; intro hx3)
    split
    · with_reducible apply enterMaintenance_ok
      with_reducible apply raise_ok
      with_reducible assumption
    · with_reducible apply setReg_ok
      (with_reducible apply ok_mk; with_reducible assumption)

/-- `fallBack` keeps. -/
theorem fallBack_ok {qq : List Instr} (slot why : Nat) (s : State) (hs : Ok qq s) :
    Ok qq (fallBack slot why s) := by
  unfold fallBack
  extract_lets +onlyGivenNames -underBinder -merge -useContext x1
  refine (?_ : Ok qq x1 → _) ?_
  on_goal 2 =>
    unfold x1
    with_reducible apply reportIf_ok
    with_reducible assumption
  (clear_value x1; intro hx1)
  extract_lets +onlyGivenNames -underBinder -merge -useContext x2
  clear_value x2
  extract_lets +onlyGivenNames -underBinder -merge -useContext x3
  clear_value x3
  split
  · with_reducible apply enterMaintenance_ok
    with_reducible assumption
  · extract_lets +onlyGivenNames -underBinder -merge -useContext x4
    refine (?_ : Ok qq x4 → _) ?_
    on_goal 2 =>
      unfold x4
      with_reducible apply raise_ok
      with_reducible assumption
    (clear_value x4; intro hx4)
    extract_lets +onlyGivenNames -underBinder -merge -useContext x5
    clear_value x5
    extract_lets +onlyGivenNames -underBinder -merge -useContext x6
    refine (?_ : Ok qq x6 → _) ?_
    on_goal 2 =>
      unfold x6
      with_reducible apply setBit_ok
      (with_reducible apply ok_mk; with_reducible assumption)
    (clear_value x6; intro hx6)
    extract_lets +onlyGivenNames -underBinder -merge -useContext x7
    clear_value x7
    extract_lets +onlyGivenNames -underBinder -merge -useContext x8
    refine (?_ : Ok qq x8 → _) ?_
    on_goal 2 =>
      unfold x8
      (with_reducible apply ok_mk; with_reducible assumption)
    (clear_value x8; intro hx8)
    extract_lets +onlyGivenNames -underBinder -merge -useContext x9
    refine (?_ : Ok qq x9 → _) ?_
    on_goal 2 =>
      unfold x9
      with_reducible apply ok_foldl
      · intro a10 a11 h12
        extract_lets +onlyGivenNames -underBinder -merge -useContext x13
        clear_value x13
        split
        · with_reducible apply setLane_ok
          with_reducible assumption
        · with_reducible assumption
      · with_reducible assumption
    (clear_value x9; intro hx9)
    split
    · with_reducible apply enterMaintenance_ok
      with_reducible apply reportIf_ok
      with_reducible assumption
    · with_reducible apply judgeCombo_ok
      with_reducible assumption

/-- `imageChecks` keeps. -/
theorem imageChecks_ok {qq : List Instr} (s : State) (hs : Ok qq s) :
    Ok qq (imageChecks s) := by
  unfold imageChecks
  split
  · split
    · with_reducible apply enterMaintenance_ok
      with_reducible assumption
    · split
      · with_reducible apply fallBack_ok
        with_reducible assumption
      · with_reducible apply judgeCombo_ok
        with_reducible assumption
  · with_reducible assumption

/-- `bootLoads` keeps. -/
theorem bootLoads_ok {qq : List Instr} (s : State) (hs : Ok qq s) :
    Ok qq (bootLoads s) := by
  unfold bootLoads
  split
  · extract_lets +onlyGivenNames -underBinder -merge -useContext x1
    clear_value x1
    extract_lets +onlyGivenNames -underBinder -merge -useContext x2
    clear_value x2
    extract_lets +onlyGivenNames -underBinder -merge -useContext x3
    clear_value x3
    extract_lets +onlyGivenNames -underBinder -merge -useContext x4
    clear_value x4
    split
    · with_reducible apply fallBack_ok
      with_reducible assumption
    · split
      · with_reducible apply fallBack_ok
        with_reducible apply showLoad_ok
        with_reducible assumption
      · split
        · with_reducible apply fallBack_ok
          with_reducible apply showLoad_ok
          with_reducible assumption
        · extract_lets +onlyGivenNames -underBinder -merge -useContext x5
          refine (?_ : Ok qq x5 → _) ?_
          on_goal 2 =>
            unfold x5
            with_reducible apply setBank_ok
            with_reducible apply showLoad_ok
            with_reducible assumption
          (clear_value x5; intro hx5)
          extract_lets +onlyGivenNames -underBinder -merge -useContext x6
          clear_value x6
          extract_lets +onlyGivenNames -underBinder -merge -useContext x7
          refine (?_ : Ok qq x7 → _) ?_
          on_goal 2 =>
            unfold x7
            (with_reducible apply ok_mk; with_reducible assumption)
          (clear_value x7; intro hx7)
          with_reducible apply followPtp_ok
          with_reducible apply showBanks_ok
          with_reducible apply setFld_ok
          with_reducible assumption
  · with_reducible assumption

/-- `imgResult` keeps. -/
theorem imgResult_ok {qq : List Instr} (cmd reason : Nat) (s : State) (hs : Ok qq s) :
    Ok qq (imgResult cmd reason s) := by
  unfold imgResult
  with_reducible apply setReg_ok
  with_reducible assumption

/-- `imgRefuse` keeps. -/
theorem imgRefuse_ok {qq : List Instr} (cmd slot reason : Nat) (s : State) (hs : Ok qq s) :
    Ok qq (imgRefuse cmd slot reason s) := by
  unfold imgRefuse
  with_reducible apply raise_ok
  with_reducible apply imgResult_ok
  with_reducible assumption

/-- `voteDram` keeps. -/
theorem voteDram_ok {qq : List Instr} (fuel a len : Nat) (told : List Lane) (acc : List Byte) (s : State)
    (hs : Ok qq s) : Ok qq (voteDram fuel a len told acc s).2 := by
  induction fuel generalizing a len told acc s with
  | zero => exact hs
  | succ fuel ih =>
    unfold voteDram
    split
    · with_reducible assumption
    · extract_lets +onlyGivenNames -underBinder -merge -useContext x1
      clear_value x1
      extract_lets +onlyGivenNames -underBinder -merge -useContext x2
      clear_value x2
      extract_lets +onlyGivenNames -underBinder -merge -useContext x3
      clear_value x3
      extract_lets +onlyGivenNames -underBinder -merge -useContext x4
      refine (?_ : Ok qq x4 → _) ?_
      on_goal 2 =>
        unfold x4
        with_reducible apply reportLanes_ok
        with_reducible assumption
      (clear_value x4; intro hx4)
      split
      · with_reducible apply ih
        with_reducible assumption
      · extract_lets +onlyGivenNames -underBinder -merge -useContext x5
        refine (?_ : Ok qq x5 → _) ?_
        on_goal 2 =>
          unfold x5
          split
          · with_reducible assumption
          · with_reducible apply raise_ok
            with_reducible assumption
        (clear_value x5; intro hx5)
        with_reducible apply ih
        with_reducible assumption
      · dsimp only
        with_reducible apply raise_ok
        with_reducible assumption
      · with_reducible assumption

/-- `imgOpen` keeps. -/
theorem imgOpen_ok {qq : List Instr} (a : ImgArgs) (svc : Bool) (s : State) (hs : Ok qq s) :
    Ok qq (imgOpen a svc s).2.2 := by
  unfold imgOpen
  extract_lets +onlyGivenNames -underBinder -merge -useContext x1
  clear_value x1
  split
  · with_reducible assumption
  · split
    · with_reducible assumption
    · split
      · with_reducible assumption
      · extract_lets +onlyGivenNames -underBinder -merge -useContext x2
        clear_value x2
        extract_lets +onlyGivenNames -underBinder -merge -useContext x3
        refine (?_ : Ok qq x3 → _) ?_
        on_goal 2 =>
          unfold x3
          with_reducible apply setSlot_ok
          with_reducible assumption
        (clear_value x3; intro hx3)
        dsimp only
        (with_reducible apply ok_mk; with_reducible assumption)

/-- `appendSlot` keeps. -/
theorem appendSlot_ok {qq : List Instr} (n : Nat) (bs : List Byte) (s : State) (hs : Ok qq s) :
    Ok qq (appendSlot n bs s) := by
  unfold appendSlot
  extract_lets +onlyGivenNames -underBinder -merge -useContext x1
  clear_value x1
  with_reducible apply setSlot_ok
  with_reducible assumption

/-- `imgWrite` keeps. -/
theorem imgWrite_ok {qq : List Instr} (a : ImgArgs) (s : State) (hs : Ok qq s) :
    Ok qq (imgWrite a s).2.2 := by
  unfold imgWrite
  split
  · with_reducible assumption
  · extract_lets +onlyGivenNames -underBinder -merge -useContext x1
    clear_value x1
    split
    · with_reducible assumption
    · split
      · dsimp only
        with_reducible apply appendSlot_ok
        with_reducible refine ok_snd (by assumption) ?_
        with_reducible apply voteDram_ok
        with_reducible assumption
      · split
        dsimp only
        with_reducible refine ok_snd (by assumption) ?_
        with_reducible apply takeFree_ok
        with_reducible refine ok_snd (by assumption) ?_
        with_reducible apply voteDram_ok
        with_reducible assumption

/-- `imgClose` keeps. -/
theorem imgClose_ok {qq : List Instr} (a : ImgArgs) (s : State) (hs : Ok qq s) :
    Ok qq (imgClose a s).2.2 := by
  unfold imgClose
  split
  · with_reducible assumption
  · extract_lets +onlyGivenNames -underBinder -merge -useContext x1
    clear_value x1
    extract_lets +onlyGivenNames -underBinder -merge -useContext x2
    clear_value x2
    extract_lets +onlyGivenNames -underBinder -merge -useContext x3
    refine (?_ : Ok qq x3 → _) ?_
    on_goal 2 =>
      unfold x3
      with_reducible apply reportIf_ok
      with_reducible assumption
    (clear_value x3; intro hx3)
    extract_lets +onlyGivenNames -underBinder -merge -useContext x4
    refine (?_ : Ok qq x4 → _) ?_
    on_goal 2 =>
      unfold x4
      with_reducible apply setSlot_ok
      with_reducible assumption
    (clear_value x4; intro hx4)
    dsimp only
    (with_reducible apply ok_mk; with_reducible assumption)

/-- `imgErase` keeps. -/
theorem imgErase_ok {qq : List Instr} (a : ImgArgs) (s : State) (hs : Ok qq s) :
    Ok qq (imgErase a s).2.2 := by
  unfold imgErase
  split
  · with_reducible assumption
  · dsimp only
    with_reducible apply setSlot_ok
    with_reducible assumption

/-- `imgLoad` keeps. -/
theorem imgLoad_ok {qq : List Instr} (a : ImgArgs) (s : State) (hs : Ok qq s) :
    Ok qq (imgLoad a s).2.2 := by
  unfold imgLoad
  extract_lets +onlyGivenNames -underBinder -merge -useContext x1
  clear_value x1
  split
  · with_reducible assumption
  · split
    · with_reducible assumption
    · extract_lets +onlyGivenNames -underBinder -merge -useContext x2
      clear_value x2
      extract_lets +onlyGivenNames -underBinder -merge -useContext x3
      refine (?_ : Ok qq x3 → _) ?_
      on_goal 2 =>
        unfold x3
        with_reducible apply reportIf_ok
        with_reducible assumption
      (clear_value x3; intro hx3)
      extract_lets +onlyGivenNames -underBinder -merge -useContext x4
      clear_value x4
      extract_lets +onlyGivenNames -underBinder -merge -useContext x5
      clear_value x5
      extract_lets +onlyGivenNames -underBinder -merge -useContext x6
      refine (?_ : Ok qq x6 → _) ?_
      on_goal 2 =>
        unfold x6
        split
        · with_reducible apply ok_foldl
          · intro a7 a8 h9
            with_reducible refine ok_dram ?_ _ (fun hm => writeBytes_wf hm _ _)
            with_reducible assumption
          · with_reducible assumption
        · with_reducible assumption
      (clear_value x6; intro hx6)
      with_reducible assumption

/-- `imgSetBoot` keeps. -/
theorem imgSetBoot_ok {qq : List Instr} (a : ImgArgs) (s : State) (hs : Ok qq s) :
    Ok qq (imgSetBoot a s).2.2 := by
  unfold imgSetBoot
  extract_lets +onlyGivenNames -underBinder -merge -useContext x1
  clear_value x1
  split
  · with_reducible assumption
  · extract_lets +onlyGivenNames -underBinder -merge -useContext x2
    clear_value x2
    dsimp only
    (with_reducible apply ok_mk; with_reducible assumption)

/-- `imgInfo` keeps. -/
theorem imgInfo_ok {qq : List Instr} (a : ImgArgs) (s : State) (hs : Ok qq s) :
    Ok qq (imgInfo a s).2.2 := by
  unfold imgInfo
  extract_lets +onlyGivenNames -underBinder -merge -useContext x1
  clear_value x1
  split
  · with_reducible assumption
  · split
    · dsimp only
      with_reducible apply reportSlot_ok
      with_reducible assumption
    · dsimp only
      with_reducible apply ok_foldl
      · intro a2 a3 h4
        with_reducible apply setReg_ok
        with_reducible assumption
      · with_reducible assumption

/-- `imgCommand` keeps. -/
theorem imgCommand_ok {qq : List Instr} (cmd : Nat) (a : ImgArgs) (svc : Bool) (s : State) (hs : Ok qq s) :
    Ok qq (imgCommand cmd a svc s) := by
  unfold imgCommand
  split
  · with_reducible assumption
  · split
    · with_reducible apply imgRefuse_ok
      with_reducible assumption
    · with_reducible apply domAcquire_ok
      with_reducible apply setBit_ok
      (with_reducible apply ok_mk; with_reducible assumption)

/-- `imgAct` keeps. -/
theorem imgAct_ok {qq : List Instr} (cmd : Nat) (a : ImgArgs) (svc : Bool) (s : State) (hs : Ok qq s) :
    Ok qq (imgAct cmd a svc s).2.2 := by
  unfold imgAct
  split
  · with_reducible apply imgOpen_ok
    with_reducible assumption
  · with_reducible apply imgWrite_ok
    with_reducible assumption
  · with_reducible apply imgClose_ok
    with_reducible assumption
  · with_reducible apply imgErase_ok
    with_reducible assumption
  · with_reducible apply imgLoad_ok
    with_reducible assumption
  · with_reducible apply imgSetBoot_ok
    with_reducible assumption
  · with_reducible apply imgInfo_ok
    with_reducible assumption

end Sys2Proof.Machine
end

