-- ==== Sys2Proof/Laws/KeepSkerry.lean ====
section
/-!
SUPPORT. What the operations of Machine/Skerry.lean keep: the canonical form of registers and memories, and the queue.
-/

namespace Sys2Proof.Machine

/-- `showNv` keeps. -/
theorem showNv_ok {qq : List Instr} (s : State) (hs : Ok qq s) :
    Ok qq (showNv s) := by
  unfold showNv
  with_reducible apply setBit_ok
  with_reducible assumption

/-- `nvWrite` keeps. -/
theorem nvWrite_ok {qq : List Instr} (s : State) (hs : Ok qq s) :
    Ok qq (nvWrite s) := by
  unfold nvWrite
  extract_lets +onlyGivenNames -underBinder -merge -useContext x1
  clear_value x1
  extract_lets +onlyGivenNames -underBinder -merge -useContext x2
  clear_value x2
  with_reducible apply showNv_ok
  (with_reducible apply ok_mk; with_reducible assumption)

/-- `nvRead` keeps. -/
theorem nvRead_ok {qq : List Instr} (s : State) (hs : Ok qq s) :
    Ok qq (nvRead s) := by
  unfold nvRead
  split
  extract_lets +onlyGivenNames -underBinder -merge -useContext x1
  refine (?_ : Ok qq x1 → _) ?_
  on_goal 2 =>
    unfold x1
    with_reducible apply setReg_ok
    with_reducible apply setReg_ok
    with_reducible assumption
  (clear_value x1; intro hx1)
  extract_lets +onlyGivenNames -underBinder -merge -useContext x2
  refine (?_ : Ok qq x2 → _) ?_
  on_goal 2 =>
    unfold x2
    with_reducible apply showNv_ok
    with_reducible assumption
  (clear_value x2; intro hx2)
  split
  · with_reducible apply raise_ok
    with_reducible assumption
  · split
    · with_reducible apply raise_ok
      with_reducible assumption
    · with_reducible assumption

/-- `skerryMinute` keeps. -/
theorem skerryMinute_ok {qq : List Instr} (s : State) (hs : Ok qq s) :
    Ok qq (skerryMinute s) := by
  unfold skerryMinute
  split
  · extract_lets +onlyGivenNames -underBinder -merge -useContext x1
    clear_value x1
    with_reducible apply nvWrite_ok
    with_reducible apply setReg_ok
    with_reducible assumption
  · with_reducible assumption

/-- `sleepHour` keeps. -/
theorem sleepHour_ok {qq : List Instr} (s : State) (hs : Ok qq s) :
    Ok qq (sleepHour s) := by
  unfold sleepHour
  split
  · with_reducible apply nvWrite_ok
    with_reducible assumption
  · with_reducible assumption

/-- `xtalFault` keeps. -/
theorem xtalFault_ok {qq : List Instr} (s : State) (hs : Ok qq s) :
    Ok qq (xtalFault s) := by
  unfold xtalFault
  split
  · with_reducible apply raise_ok
    with_reducible apply setBit_ok
    with_reducible assumption
  · with_reducible assumption

/-- `leaveCrystal` keeps. -/
theorem leaveCrystal_ok {qq : List Instr} (s : State) (hs : Ok qq s) :
    Ok qq (leaveCrystal s) := by
  unfold leaveCrystal
  (with_reducible apply ok_mk; with_reducible assumption)

/-- `restoreRate` keeps. -/
theorem restoreRate_ok {qq : List Instr} (s : State) (hs : Ok qq s) :
    Ok qq (restoreRate s) := by
  unfold restoreRate
  split
  · with_reducible apply rebase_ok
    (with_reducible apply ok_mk; with_reducible assumption)
  · with_reducible assumption

/-- `tcxoSettles` keeps. -/
theorem tcxoSettles_ok {qq : List Instr} (s : State) (hs : Ok qq s) :
    Ok qq (tcxoSettles s) := by
  unfold tcxoSettles
  split
  · extract_lets +onlyGivenNames -underBinder -merge -useContext x1
    refine (?_ : Ok qq x1 → _) ?_
    on_goal 2 =>
      unfold x1
      with_reducible apply setBit_ok
      with_reducible assumption
    (clear_value x1; intro hx1)
    split
    · with_reducible apply restoreRate_ok
      with_reducible apply leaveCrystal_ok
      with_reducible assumption
    · with_reducible assumption
  · with_reducible assumption

/-- `noteSupply` keeps. -/
theorem noteSupply_ok {qq : List Instr} (dv : BitVec 12) (s : State) (hs : Ok qq s) :
    Ok qq (noteSupply dv s) := by
  unfold noteSupply
  extract_lets +onlyGivenNames -underBinder -merge -useContext x1
  refine (?_ : Ok qq x1 → _) ?_
  on_goal 2 =>
    unfold x1
    with_reducible apply setFld_ok
    with_reducible assumption
  (clear_value x1; intro hx1)
  split
  · with_reducible apply setFld_ok
    with_reducible assumption
  · with_reducible assumption

/-- `timeLost` keeps. -/
theorem timeLost_ok {qq : List Instr} (s : State) (hs : Ok qq s) :
    Ok qq (timeLost s) := by
  unfold timeLost
  extract_lets +onlyGivenNames -underBinder -merge -useContext x1
  clear_value x1
  extract_lets +onlyGivenNames -underBinder -merge -useContext x2
  refine (?_ : Ok qq x2 → _) ?_
  on_goal 2 =>
    unfold x2
    (with_reducible apply ok_mk; with_reducible assumption)
  (clear_value x2; intro hx2)
  extract_lets +onlyGivenNames -underBinder -merge -useContext x3
  refine (?_ : Ok qq x3 → _) ?_
  on_goal 2 =>
    unfold x3
    with_reducible apply set64_ok
    with_reducible assumption
  (clear_value x3; intro hx3)
  extract_lets +onlyGivenNames -underBinder -merge -useContext x4
  refine (?_ : Ok qq x4 → _) ?_
  on_goal 2 =>
    unfold x4
    with_reducible apply setReg_ok
    with_reducible apply setReg_ok
    with_reducible assumption
  (clear_value x4; intro hx4)
  with_reducible apply set64_ok
  with_reducible assumption

/-- `carryTime` keeps. -/
theorem carryTime_ok {qq : List Instr} (s : State) (hs : Ok qq s) :
    Ok qq (carryTime s) := by
  unfold carryTime
  extract_lets +onlyGivenNames -underBinder -merge -useContext x1
  clear_value x1
  extract_lets +onlyGivenNames -underBinder -merge -useContext x2
  refine (?_ : Ok qq x2 → _) ?_
  on_goal 2 =>
    unfold x2
    split
    · with_reducible apply timeLost_ok
      with_reducible assumption
    · with_reducible assumption
  (clear_value x2; intro hx2)
  extract_lets +onlyGivenNames -underBinder -merge -useContext x3
  refine (?_ : Ok qq x3 → _) ?_
  on_goal 2 =>
    unfold x3
    with_reducible apply setBit_ok
    with_reducible apply setBit_ok
    with_reducible assumption
  (clear_value x3; intro hx3)
  split
  · with_reducible apply raise_ok
    (with_reducible apply ok_mk; with_reducible assumption)
  · with_reducible assumption

/-- `powerOn` keeps. -/
theorem powerOn_ok {qq : List Instr} (s : State) (hs : Ok qq s) :
    Ok qq (powerOn s) := by
  unfold powerOn
  extract_lets +onlyGivenNames -underBinder -merge -useContext x1
  clear_value x1
  extract_lets +onlyGivenNames -underBinder -merge -useContext x2
  refine (?_ : Ok qq x2 → _) ?_
  on_goal 2 =>
    unfold x2
    (with_reducible apply ok_mk; with_reducible assumption)
  (clear_value x2; intro hx2)
  extract_lets +onlyGivenNames -underBinder -merge -useContext x3
  refine (?_ : Ok qq x3 → _) ?_
  on_goal 2 =>
    unfold x3
    with_reducible apply setFld_ok
    with_reducible apply setReg_ok
    with_reducible assumption
  (clear_value x3; intro hx3)
  extract_lets +onlyGivenNames -underBinder -merge -useContext x4
  refine (?_ : Ok qq x4 → _) ?_
  on_goal 2 =>
    unfold x4
    with_reducible apply mstOut_ok
    with_reducible assumption
  (clear_value x4; intro hx4)
  extract_lets +onlyGivenNames -underBinder -merge -useContext x5
  refine (?_ : Ok qq x5 → _) ?_
  on_goal 2 =>
    unfold x5
    with_reducible apply nvRead_ok
    with_reducible assumption
  (clear_value x5; intro hx5)
  extract_lets +onlyGivenNames -underBinder -merge -useContext x6
  clear_value x6
  extract_lets +onlyGivenNames -underBinder -merge -useContext x7
  refine (?_ : Ok qq x7 → _) ?_
  on_goal 2 =>
    unfold x7
    with_reducible apply setReg_ok
    with_reducible assumption
  (clear_value x7; intro hx7)
  extract_lets +onlyGivenNames -underBinder -merge -useContext x8
  refine (?_ : Ok qq x8 → _) ?_
  on_goal 2 =>
    unfold x8
    with_reducible apply setReg_ok
    with_reducible assumption
  (clear_value x8; intro hx8)
  extract_lets +onlyGivenNames -underBinder -merge -useContext x9
  refine (?_ : Ok qq x9 → _) ?_
  on_goal 2 =>
    unfold x9
    with_reducible apply setFld_ok
    with_reducible assumption
  (clear_value x9; intro hx9)
  with_reducible apply carryTime_ok
  (with_reducible apply ok_mk; with_reducible assumption)

/-- `supplyBack` keeps. -/
theorem supplyBack_ok {qq : List Instr} (dv : BitVec 12) (s : State) (hs : Ok qq s) :
    Ok qq (supplyBack dv s) := by
  unfold supplyBack
  split
  · (with_reducible apply ok_mk; with_reducible assumption)
  · with_reducible assumption

/-- `powerValid` keeps. -/
theorem powerValid_ok {qq : List Instr} (dv : BitVec 12) (s : State) (hs : Ok qq s) :
    Ok qq (powerValid dv s) := by
  unfold powerValid
  split
  · with_reducible assumption
  · split
    · with_reducible apply supplyBack_ok
      with_reducible apply noteSupply_ok
      with_reducible assumption
    · with_reducible apply noteSupply_ok
      with_reducible apply powerOn_ok
      with_reducible assumption

/-- `storeCharged` keeps. -/
theorem storeCharged_ok {qq : List Instr} (s : State) (hs : Ok qq s) :
    Ok qq (storeCharged s) := by
  unfold storeCharged
  split
  · (with_reducible apply ok_mk; with_reducible assumption)
  · with_reducible assumption

/-- `interruptBegin` keeps. -/
theorem interruptBegin_ok {qq : List Instr} (dv : BitVec 12) (s : State) (hs : Ok qq s) :
    Ok qq (interruptBegin dv s) := by
  unfold interruptBegin
  split
  · extract_lets +onlyGivenNames -underBinder -merge -useContext x1
    clear_value x1
    extract_lets +onlyGivenNames -underBinder -merge -useContext x2
    refine (?_ : Ok qq x2 → _) ?_
    on_goal 2 =>
      unfold x2
      with_reducible apply noteSupply_ok
      (with_reducible apply ok_mk; with_reducible assumption)
    (clear_value x2; intro hx2)
    split
    · with_reducible assumption
    · (with_reducible apply ok_mk; with_reducible assumption)
  · with_reducible assumption

/-- `interruptEnd` keeps. -/
theorem interruptEnd_ok {qq : List Instr} (dv : BitVec 12) (s : State) (hs : Ok qq s) :
    Ok qq (interruptEnd dv s) := by
  unfold interruptEnd
  split
  · split
    · extract_lets +onlyGivenNames -underBinder -merge -useContext x1
      refine (?_ : Ok qq x1 → _) ?_
      on_goal 2 =>
        unfold x1
        with_reducible apply noteSupply_ok
        with_reducible assumption
      (clear_value x1; intro hx1)
      extract_lets +onlyGivenNames -underBinder -merge -useContext x2
      clear_value x2
      extract_lets +onlyGivenNames -underBinder -merge -useContext x3
      refine (?_ : Ok qq x3 → _) ?_
      on_goal 2 =>
        unfold x3
        (with_reducible apply ok_mk; with_reducible assumption)
      (clear_value x3; intro hx3)
      split
      · with_reducible apply supplyBack_ok
        with_reducible assumption
      · with_reducible apply raise_ok
        with_reducible assumption
    · with_reducible assumption
  · with_reducible assumption

/-- `supplyHigh` keeps. -/
theorem supplyHigh_ok {qq : List Instr} (dv : BitVec 12) (s : State) (hs : Ok qq s) :
    Ok qq (supplyHigh dv s) := by
  unfold supplyHigh
  split
  · extract_lets +onlyGivenNames -underBinder -merge -useContext x1
    refine (?_ : Ok qq x1 → _) ?_
    on_goal 2 =>
      unfold x1
      with_reducible apply noteSupply_ok
      with_reducible assumption
    (clear_value x1; intro hx1)
    with_reducible apply raise_ok
    with_reducible assumption
  · with_reducible assumption

/-- `powerFail` keeps. -/
theorem powerFail_ok {qq : List Instr} (s : State) (hs : Ok qq s) :
    Ok qq (powerFail s) := by
  unfold powerFail
  split
  · extract_lets +onlyGivenNames -underBinder -merge -useContext x1
    clear_value x1
    extract_lets +onlyGivenNames -underBinder -merge -useContext x2
    refine (?_ : Ok qq x2 → _) ?_
    on_goal 2 =>
      unfold x2
      (with_reducible apply ok_mk; with_reducible assumption)
    (clear_value x2; intro hx2)
    extract_lets +onlyGivenNames -underBinder -merge -useContext x3
    refine (?_ : Ok qq x3 → _) ?_
    on_goal 2 =>
      unfold x3
      split
      · with_reducible apply giveUp_ok
        · with_reducible assumption
        · intro a4 a5 a6 a7 a8 h9
          with_reducible apply raiseF_ok
          with_reducible assumption
      · with_reducible apply mstOut_ok
        with_reducible apply stopChrono_ok
        with_reducible assumption
    (clear_value x3; intro hx3)
    with_reducible apply nvWrite_ok
    with_reducible assumption
  · with_reducible assumption

/-- `enginesOff` keeps. -/
theorem enginesOff_ok {qq : List Instr} (s : State) (hs : Ok qq s) :
    Ok qq (enginesOff s) := by
  unfold enginesOff
  extract_lets +onlyGivenNames -underBinder -merge -useContext x1
  refine (?_ : Ok qq x1 → _) ?_
  on_goal 2 =>
    unfold x1
    with_reducible apply netOff_ok
    with_reducible apply transitOff_ok
    with_reducible apply holmPowerDown_ok
    with_reducible apply abortIsth_ok
    with_reducible apply abortNet_ok
    with_reducible apply abortCan_ok
    with_reducible assumption
  (clear_value x1; intro hx1)
  extract_lets +onlyGivenNames -underBinder -merge -useContext x2
  refine (?_ : Ok qq x2 → _) ?_
  on_goal 2 =>
    unfold x2
    with_reducible apply cutCommit_ok
    (with_reducible apply ok_mk; with_reducible assumption)
  (clear_value x2; intro hx2)
  extract_lets +onlyGivenNames -underBinder -merge -useContext x3
  refine (?_ : Ok qq x3 → _) ?_
  on_goal 2 =>
    unfold x3
    with_reducible apply bootParts_ok
    with_reducible assumption
  (clear_value x3; intro hx3)
  extract_lets +onlyGivenNames -underBinder -merge -useContext x4
  refine (?_ : Ok qq x4 → _) ?_
  on_goal 2 =>
    unfold x4
    with_reducible apply ok_foldl
    · intro a7 a8 h9
      with_reducible apply putLaneState_ok
      with_reducible assumption
    · with_reducible assumption
  (clear_value x4; intro hx4)
  extract_lets +onlyGivenNames -underBinder -merge -useContext x5
  refine (?_ : Ok qq x5 → _) ?_
  on_goal 2 =>
    unfold x5
    with_reducible apply setFld_ok
    with_reducible assumption
  (clear_value x5; intro hx5)
  extract_lets +onlyGivenNames -underBinder -merge -useContext x6
  refine (?_ : Ok qq x6 → _) ?_
  on_goal 2 =>
    unfold x6
    with_reducible apply setReg_ok
    with_reducible assumption
  (clear_value x6; intro hx6)
  with_reducible apply ok_noMem
  with_reducible assumption

/-- `powerDown` keeps. -/
theorem powerDown_ok {qq : List Instr} (s : State) (hs : Ok qq s) :
    Ok qq (powerDown s) := by
  unfold powerDown
  split
  · extract_lets +onlyGivenNames -underBinder -merge -useContext x1
    clear_value x1
    extract_lets +onlyGivenNames -underBinder -merge -useContext x2
    clear_value x2
    extract_lets +onlyGivenNames -underBinder -merge -useContext x3
    refine (?_ : Ok qq x3 → _) ?_
    on_goal 2 =>
      unfold x3
      (with_reducible apply ok_mk; with_reducible assumption)
    (clear_value x3; intro hx3)
    extract_lets +onlyGivenNames -underBinder -merge -useContext x4
    refine (?_ : Ok qq x4 → _) ?_
    on_goal 2 =>
      unfold x4
      with_reducible apply mstOut_ok
      with_reducible apply svcShut_ok
      with_reducible apply enginesOff_ok
      with_reducible assumption
    (clear_value x4; intro hx4)
    extract_lets +onlyGivenNames -underBinder -merge -useContext x5
    clear_value x5
    extract_lets +onlyGivenNames -underBinder -merge -useContext x6
    clear_value x6
    extract_lets +onlyGivenNames -underBinder -merge -useContext x7
    refine (?_ : Ok qq x7 → _) ?_
    on_goal 2 =>
      unfold x7
      with_reducible apply ok_regs_filter
      with_reducible assumption
    (clear_value x7; intro hx7)
    extract_lets +onlyGivenNames -underBinder -merge -useContext x8
    refine (?_ : Ok qq x8 → _) ?_
    on_goal 2 =>
      unfold x8
      with_reducible apply setPending_ok
      with_reducible assumption
    (clear_value x8; intro hx8)
    extract_lets +onlyGivenNames -underBinder -merge -useContext x9
    refine (?_ : Ok qq x9 → _) ?_
    on_goal 2 =>
      unfold x9
      with_reducible apply setReg_ok
      with_reducible apply setReg_ok
      with_reducible assumption
    (clear_value x9; intro hx9)
    extract_lets +onlyGivenNames -underBinder -merge -useContext x10
    refine (?_ : Ok qq x10 → _) ?_
    on_goal 2 =>
      unfold x10
      with_reducible apply setFld_ok
      with_reducible assumption
    (clear_value x10; intro hx10)
    extract_lets +onlyGivenNames -underBinder -merge -useContext x11
    clear_value x11
    extract_lets +onlyGivenNames -underBinder -merge -useContext x12
    refine (?_ : Ok qq x12 → _) ?_
    on_goal 2 =>
      unfold x12
      (with_reducible apply ok_mk; with_reducible assumption)
    (clear_value x12; intro hx12)
    split
    · with_reducible apply noteSupply_ok
      with_reducible apply powerOn_ok
      with_reducible assumption
    · with_reducible assumption
  · with_reducible assumption

/-- `skerryLoss` keeps. -/
theorem skerryLoss_ok {qq : List Instr} (s : State) (hs : Ok qq s) :
    Ok qq (skerryLoss s) := by
  unfold skerryLoss
  split
  · extract_lets +onlyGivenNames -underBinder -merge -useContext x1
    refine (?_ : Ok qq x1 → _) ?_
    on_goal 2 =>
      unfold x1
      with_reducible apply setReg_ok
      with_reducible apply setReg_ok
      with_reducible assumption
    (clear_value x1; intro hx1)
    extract_lets +onlyGivenNames -underBinder -merge -useContext x2
    clear_value x2
    extract_lets +onlyGivenNames -underBinder -merge -useContext x3
    clear_value x3
    extract_lets +onlyGivenNames -underBinder -merge -useContext x4
    refine (?_ : Ok qq x4 → _) ?_
    on_goal 2 =>
      unfold x4
      (with_reducible apply ok_mk; with_reducible assumption)
    (clear_value x4; intro hx4)
    with_reducible apply setReg_ok
    with_reducible assumption
  · with_reducible assumption

/-- `noteThermal` keeps. -/
theorem noteThermal_ok {qq : List Instr} (base hot : Byte) (s : State) (hs : Ok qq s) :
    Ok qq (noteThermal base hot s) := by
  unfold noteThermal
  extract_lets +onlyGivenNames -underBinder -merge -useContext x1
  refine (?_ : Ok qq x1 → _) ?_
  on_goal 2 =>
    unfold x1
    with_reducible apply setFld_ok
    with_reducible apply setFld_ok
    with_reducible assumption
  (clear_value x1; intro hx1)
  extract_lets +onlyGivenNames -underBinder -merge -useContext x2
  refine (?_ : Ok qq x2 → _) ?_
  on_goal 2 =>
    unfold x2
    with_reducible apply setBit_ok
    with_reducible assumption
  (clear_value x2; intro hx2)
  split
  · with_reducible apply setBit_ok
    with_reducible assumption
  · with_reducible assumption

/-- `tempHigh` keeps. -/
theorem tempHigh_ok {qq : List Instr} (ten : Bool) (base hot : Byte) (s : State) (hs : Ok qq s) :
    Ok qq (tempHigh ten base hot s) := by
  unfold tempHigh
  split
  · extract_lets +onlyGivenNames -underBinder -merge -useContext x1
    refine (?_ : Ok qq x1 → _) ?_
    on_goal 2 =>
      unfold x1
      with_reducible apply noteThermal_ok
      with_reducible assumption
    (clear_value x1; intro hx1)
    with_reducible apply raise_ok
    with_reducible assumption
  · with_reducible assumption

/-- `tempCritical` keeps. -/
theorem tempCritical_ok {qq : List Instr} (hotSpot : Bool) (base hot : Byte) (s : State) (hs : Ok qq s) :
    Ok qq (tempCritical hotSpot base hot s) := by
  unfold tempCritical
  split
  · split
    · extract_lets +onlyGivenNames -underBinder -merge -useContext x1
      refine (?_ : Ok qq x1 → _) ?_
      on_goal 2 =>
        unfold x1
        with_reducible apply setBit_ok
        with_reducible apply noteThermal_ok
        with_reducible assumption
      (clear_value x1; intro hx1)
      with_reducible apply raise_ok
      with_reducible assumption
    · with_reducible assumption
  · split
    · extract_lets +onlyGivenNames -underBinder -merge -useContext x2
      refine (?_ : Ok qq x2 → _) ?_
      on_goal 2 =>
        unfold x2
        with_reducible apply setBit_ok
        with_reducible apply noteThermal_ok
        with_reducible assumption
      (clear_value x2; intro hx2)
      with_reducible apply raise_ok
      with_reducible assumption
    · with_reducible assumption

/-- `sleepBegin` keeps. -/
theorem sleepBegin_ok {qq : List Instr} (s : State) (hs : Ok qq s) :
    Ok qq (sleepBegin s) := by
  unfold sleepBegin
  with_reducible apply svcShut_ok
  with_reducible apply stopChrono_ok
  (with_reducible apply ok_mk; with_reducible assumption)

/-- `modSleep` keeps. -/
theorem modSleep_ok {qq : List Instr} (s : State) (hs : Ok qq s) :
    Ok qq (modSleep s) := by
  unfold modSleep
  extract_lets +onlyGivenNames -underBinder -merge -useContext x1
  clear_value x1
  extract_lets +onlyGivenNames -underBinder -merge -useContext x2
  clear_value x2
  extract_lets +onlyGivenNames -underBinder -merge -useContext x3
  refine (?_ : Ok qq x3 → _) ?_
  on_goal 2 =>
    unfold x3
    split
    · (with_reducible apply ok_mk; with_reducible assumption)
    · with_reducible assumption
  (clear_value x3; intro hx3)
  split
  · with_reducible apply raise_ok
    with_reducible assumption
  · split
    · with_reducible apply sleepBegin_ok
      with_reducible assumption
    · extract_lets +onlyGivenNames -underBinder -merge -useContext x4
      clear_value x4
      extract_lets +onlyGivenNames -underBinder -merge -useContext x5
      clear_value x5
      extract_lets +onlyGivenNames -underBinder -merge -useContext x6
      refine (?_ : Ok qq x6 → _) ?_
      on_goal 2 =>
        unfold x6
        (with_reducible apply ok_mk; with_reducible assumption)
      (clear_value x6; intro hx6)
      split
      · with_reducible apply emitOut_ok
        with_reducible assumption
      · with_reducible assumption

/-- `wakeUp` keeps. -/
theorem wakeUp_ok {qq : List Instr} (sources channel : Nat) (s : State) (hs : Ok qq s) :
    Ok qq (wakeUp sources channel s) := by
  unfold wakeUp
  extract_lets +onlyGivenNames -underBinder -merge -useContext x1
  refine (?_ : Ok qq x1 → _) ?_
  on_goal 2 =>
    unfold x1
    with_reducible apply setReg_ok
    with_reducible assumption
  (clear_value x1; intro hx1)
  extract_lets +onlyGivenNames -underBinder -merge -useContext x2
  clear_value x2
  extract_lets +onlyGivenNames -underBinder -merge -useContext x3
  refine (?_ : Ok qq x3 → _) ?_
  on_goal 2 =>
    unfold x3
    with_reducible apply setModTo_ok
    with_reducible apply mstOut_ok
    (with_reducible apply ok_mk; with_reducible assumption)
  (clear_value x3; intro hx3)
  with_reducible apply setBit_ok
  with_reducible apply setBit_ok
  with_reducible assumption

/-- `wake` keeps. -/
theorem wake_ok {qq : List Instr} (sources : Byte) (channels : BitVec 20) (s : State) (hs : Ok qq s) :
    Ok qq (wake sources channels s) := by
  unfold wake
  extract_lets +onlyGivenNames -underBinder -merge -useContext x1
  clear_value x1
  split
  · with_reducible assumption
  · split
    · (with_reducible apply ok_mk; with_reducible assumption)
    · split
      · with_reducible apply wakeUp_ok
        with_reducible assumption
      · with_reducible assumption

/-- `sleepComplete` keeps. -/
theorem sleepComplete_ok {qq : List Instr} (s : State) (hs : Ok qq s) :
    Ok qq (sleepComplete s) := by
  unfold sleepComplete
  split
  · extract_lets +onlyGivenNames -underBinder -merge -useContext x1
    clear_value x1
    extract_lets +onlyGivenNames -underBinder -merge -useContext x2
    clear_value x2
    extract_lets +onlyGivenNames -underBinder -merge -useContext x3
    refine (?_ : Ok qq x3 → _) ?_
    on_goal 2 =>
      unfold x3
      with_reducible apply setModTo_ok
      (with_reducible apply ok_mk; with_reducible assumption)
    (clear_value x3; intro hx3)
    extract_lets +onlyGivenNames -underBinder -merge -useContext x4
    refine (?_ : Ok qq x4 → _) ?_
    on_goal 2 =>
      unfold x4
      with_reducible apply nvWrite_ok
      with_reducible apply mstOut_ok
      with_reducible apply enginesOff_ok
      with_reducible assumption
    (clear_value x4; intro hx4)
    extract_lets +onlyGivenNames -underBinder -merge -useContext x5
    refine (?_ : Ok qq x5 → _) ?_
    on_goal 2 =>
      unfold x5
      with_reducible apply setFld_ok
      with_reducible assumption
    (clear_value x5; intro hx5)
    extract_lets +onlyGivenNames -underBinder -merge -useContext x6
    clear_value x6
    extract_lets +onlyGivenNames -underBinder -merge -useContext x7
    clear_value x7
    extract_lets +onlyGivenNames -underBinder -merge -useContext x8
    refine (?_ : Ok qq x8 → _) ?_
    on_goal 2 =>
      unfold x8
      with_reducible apply rebase_ok
      (with_reducible apply ok_mk; with_reducible assumption)
    (clear_value x8; intro hx8)
    extract_lets +onlyGivenNames -underBinder -merge -useContext x9
    refine (?_ : Ok qq x9 → _) ?_
    on_goal 2 =>
      unfold x9
      with_reducible apply setFld_ok
      with_reducible assumption
    (clear_value x9; intro hx9)
    split
    · with_reducible assumption
    · with_reducible apply wakeUp_ok
      with_reducible assumption
  · with_reducible assumption

/-- `wakingDone` keeps. -/
theorem wakingDone_ok {qq : List Instr} (di : BitVec 48) (spd : BitVec 8) (s : State) (hs : Ok qq s) :
    Ok qq (wakingDone di spd s) := by
  unfold wakingDone
  split
  · extract_lets +onlyGivenNames -underBinder -merge -useContext x1
    refine (?_ : Ok qq x1 → _) ?_
    on_goal 2 =>
      unfold x1
      with_reducible apply setBit_ok
      with_reducible assumption
    (clear_value x1; intro hx1)
    extract_lets +onlyGivenNames -underBinder -merge -useContext x2
    clear_value x2
    extract_lets +onlyGivenNames -underBinder -merge -useContext x3
    refine (?_ : Ok qq x3 → _) ?_
    on_goal 2 =>
      unfold x3
      with_reducible apply bootEntry_ok
      with_reducible assumption
    (clear_value x3; intro hx3)
    extract_lets +onlyGivenNames -underBinder -merge -useContext x4
    refine (?_ : Ok qq x4 → _) ?_
    on_goal 2 =>
      unfold x4
      with_reducible apply holmPowerUp_ok
      with_reducible apply setReg_ok
      with_reducible assumption
    (clear_value x4; intro hx4)
    split
    · with_reducible apply raise_ok
      with_reducible assumption
    · with_reducible assumption
  · with_reducible assumption

/-- `loadCode` keeps. -/
theorem loadCode_ok {qq : List Instr} (l : Lane) (s : State) (n : Nat) (hs : Ok qq s) : Ok qq (loadCode l s n) := by
  unfold loadCode
  exact ok_dram hs _ (fun hm => writeBytes_wf hm _ _)

/-- Loading code changes no register. -/
@[simp] theorem loadCode_regs (l : Lane) (s : State) (n : Nat) : (loadCode l s n).regs = s.regs := rfl

/-- Loading the code of several slots changes no register, hence no module and no lane state. -/
theorem loadCodes_regs (l : Lane) (ns : List Nat) (s : State) : (ns.foldl (loadCode l) s).regs = s.regs := by
  induction ns generalizing s with
  | nil => rfl
  | cons n r ih => rw [List.foldl_cons, ih, loadCode_regs]

/-- `testsPassed` keeps. -/
theorem testsPassed_ok {qq : List Instr} (l : Lane) (s : State) (hs : Ok qq s) :
    Ok qq (testsPassed l s) := by
  unfold testsPassed
  extract_lets +onlyGivenNames -underBinder -merge -useContext x0
  clear_value x0
  extract_lets +onlyGivenNames -underBinder -merge -useContext x1
  clear_value x1
  extract_lets +onlyGivenNames -underBinder -merge -useContext x2
  clear_value x2
  extract_lets +onlyGivenNames -underBinder -merge -useContext x3
  refine (?_ : Ok qq x3 → _) ?_
  on_goal 2 =>
    unfold x3
    with_reducible apply setLane_ok
    exact ok_foldl (fun s a h => loadCode_ok l s a h) _ hs
  (clear_value x3; intro hx3)
  split
  · with_reducible apply setLane_ok
    with_reducible assumption
  · split
    · with_reducible apply testingPassed_ok
      with_reducible apply setLane_ok
      with_reducible assumption
    · with_reducible apply setLane_ok
      with_reducible assumption

/-- `selftestStep` keeps. -/
theorem selftestStep_ok {qq : List Instr} (l : Lane) (pass : Bool) (s : State) (hs : Ok qq s) :
    Ok qq (selftestStep l pass s) := by
  unfold selftestStep
  extract_lets +onlyGivenNames -underBinder -merge -useContext x1
  clear_value x1
  split
  · with_reducible assumption
  · split
    · split
      · with_reducible assumption
      · split
        · split
          · with_reducible apply fallBack_ok
            with_reducible assumption
          · with_reducible apply selftestFail_ok
            with_reducible apply reportIf_ok
            with_reducible assumption
        · split
          · with_reducible apply testsPassed_ok
            with_reducible assumption
          · with_reducible apply selftestFail_ok
            with_reducible assumption
    · split
      · with_reducible apply selftestFail_ok
        with_reducible assumption
      · extract_lets +onlyGivenNames -underBinder -merge -useContext x2
        refine (?_ : Ok qq x2 → _) ?_
        on_goal 2 =>
          unfold x2
          split
          · with_reducible refine ok_dram ?_ _ (fun _ => noMem_wf)
            with_reducible assumption
          · with_reducible assumption
        (clear_value x2; intro hx2)
        extract_lets +onlyGivenNames -underBinder -merge -useContext x3
        clear_value x3
        extract_lets +onlyGivenNames -underBinder -merge -useContext x4
        refine (?_ : Ok qq x4 → _) ?_
        on_goal 2 =>
          unfold x4
          split
          · with_reducible apply setFld_ok
            with_reducible assumption
          · with_reducible assumption
        (clear_value x4; intro hx4)
        with_reducible apply setLane_ok
        with_reducible assumption

/-- `startGate` keeps. -/
theorem startGate_ok {qq : List Instr} (s : State) (hs : Ok qq s) :
    Ok qq (startGate s) := by
  unfold startGate
  extract_lets +onlyGivenNames -underBinder -merge -useContext x1
  clear_value x1
  split
  · split
    · with_reducible apply enterMaintenance_ok
      with_reducible assumption
    · split
      · extract_lets +onlyGivenNames -underBinder -merge -useContext x2
        refine (?_ : Ok qq x2 → _) ?_
        on_goal 2 =>
          unfold x2
          with_reducible apply setFld_ok
          with_reducible assumption
        (clear_value x2; intro hx2)
        extract_lets +onlyGivenNames -underBinder -merge -useContext x3
        clear_value x3
        (with_reducible apply ok_mk; with_reducible assumption)
      · with_reducible assumption
  · with_reducible assumption

/-- `meetRetain` keeps. -/
theorem meetRetain_ok {qq : List Instr} (s : State) (hs : Ok qq s) :
    Ok qq (meetRetain s) := by
  unfold meetRetain
  split
  · split
    with_reducible apply memUncorrectable_ok
    with_reducible refine ok_snd (by assumption) ?_
    with_reducible apply takeFree_ok
    with_reducible assumption
  · with_reducible apply meetBad_ok
    with_reducible assumption

/-- `writeRestart` keeps. -/
theorem writeRestart_ok {qq : List Instr} (warm rolled : Bool) (lost : Nat) (s : State) (hs : Ok qq s) :
    Ok qq (writeRestart warm rolled lost s) := by
  unfold writeRestart
  extract_lets +onlyGivenNames -underBinder -merge -useContext x1
  clear_value x1
  extract_lets +onlyGivenNames -underBinder -merge -useContext x2
  clear_value x2
  extract_lets +onlyGivenNames -underBinder -merge -useContext x3
  clear_value x3
  extract_lets +onlyGivenNames -underBinder -merge -useContext x4
  refine (?_ : Ok qq x4 → _) ?_
  on_goal 2 =>
    unfold x4
    with_reducible apply ok_foldl
    · intro a5 a6 h7
      with_reducible refine ok_dram ?_ _ (fun hm => writeBytes_wf hm _ _)
      with_reducible assumption
    · with_reducible assumption
  (clear_value x4; intro hx4)
  (with_reducible apply ok_mk; with_reducible assumption)

/-- `modStart` keeps. -/
theorem modStart_ok {qq : List Instr} (s : State) (hs : Ok qq s) :
    Ok qq (modStart s) := by
  unfold modStart
  split
  · extract_lets +onlyGivenNames -underBinder -merge -useContext x1
    clear_value x1
    extract_lets +onlyGivenNames -underBinder -merge -useContext x2
    clear_value x2
    extract_lets +onlyGivenNames -underBinder -merge -useContext x3
    clear_value x3
    extract_lets +onlyGivenNames -underBinder -merge -useContext x4
    refine (?_ : Ok qq x4 → _) ?_
    on_goal 2 =>
      unfold x4
      split
      · with_reducible apply meetRetain_ok
        with_reducible assumption
      · with_reducible assumption
    (clear_value x4; intro hx4)
    extract_lets +onlyGivenNames -underBinder -merge -useContext x5
    refine (?_ : Ok qq x5 → _) ?_
    on_goal 2 =>
      unfold x5
      split
      · with_reducible apply raise_ok
        with_reducible assumption
      · with_reducible assumption
    (clear_value x5; intro hx5)
    extract_lets +onlyGivenNames -underBinder -merge -useContext x6
    refine (?_ : Ok qq x6 → _) ?_
    on_goal 2 =>
      unfold x6
      with_reducible apply setReg_ok
      with_reducible assumption
    (clear_value x6; intro hx6)
    extract_lets +onlyGivenNames -underBinder -merge -useContext x7
    refine (?_ : Ok qq x7 → _) ?_
    on_goal 2 =>
      unfold x7
      with_reducible apply raise_ok
      with_reducible assumption
    (clear_value x7; intro hx7)
    with_reducible apply offerHello_ok
    with_reducible apply writeRestart_ok
    with_reducible assumption
  · with_reducible apply refuseMod_ok
    with_reducible assumption

/-- `modMaintenance` keeps. -/
theorem modMaintenance_ok {qq : List Instr} (s : State) (hs : Ok qq s) :
    Ok qq (modMaintenance s) := by
  unfold modMaintenance
  split
  · with_reducible apply enterMaintenance_ok
    with_reducible assumption
  · with_reducible apply refuseMod_ok
    with_reducible assumption

end Sys2Proof.Machine
end

