-- ==== Sys2Proof/Laws/KeepEntries.lean ====
section
/-!
SUPPORT. What the operations of Machine/Entries.lean keep: the canonical form of registers and memories, and the queue.
-/

namespace Sys2Proof.Machine

/-- `clockUp` keeps. -/
theorem clockUp_ok {qq : List Instr} (d : Domain) (s : State) (hs : Ok qq s) :
    Ok qq (clockUp d s) := by
  unfold clockUp
  extract_lets +onlyGivenNames -underBinder -merge -useContext x1
  refine (?_ : Ok qq x1 → _) ?_
  on_goal 2 =>
    unfold x1
    with_reducible apply startDomain_ok
    with_reducible assumption
  (clear_value x1; intro hx1)
  with_reducible apply setDom_ok
  with_reducible assumption

/-- `clockDown` keeps. -/
theorem clockDown_ok {qq : List Instr} (d : Domain) (detail : Nat) (s : State) (hs : Ok qq s) :
    Ok qq (clockDown d detail s) := by
  unfold clockDown
  extract_lets +onlyGivenNames -underBinder -merge -useContext x1
  clear_value x1
  extract_lets +onlyGivenNames -underBinder -merge -useContext x2
  refine (?_ : Ok qq x2 → _) ?_
  on_goal 2 =>
    unfold x2
    with_reducible apply setDom_ok
    with_reducible assumption
  (clear_value x2; intro hx2)
  split
  · with_reducible assumption
  · split
    · with_reducible apply setDom_ok
      with_reducible assumption
    · with_reducible apply stopDomain_ok
      with_reducible assumption

/-- `domainReady` keeps. -/
theorem domainReady_ok {qq : List Instr} (d : Domain) (s : State) (hs : Ok qq s) :
    Ok qq (domainReady d s) := by
  unfold domainReady
  split
  · with_reducible apply setBit_ok
    with_reducible assumption
  · with_reducible assumption

/-- `domainIdleStop` keeps. -/
theorem domainIdleStop_ok {qq : List Instr} (d : Domain) (s : State) (hs : Ok qq s) :
    Ok qq (domainIdleStop d s) := by
  unfold domainIdleStop
  extract_lets +onlyGivenNames -underBinder -merge -useContext x1
  clear_value x1
  split
  · with_reducible apply stopDomain_ok
    with_reducible assumption
  · with_reducible assumption

/-- `clockDownDeferred` keeps. -/
theorem clockDownDeferred_ok {qq : List Instr} (d : Domain) (s : State) (hs : Ok qq s) :
    Ok qq (clockDownDeferred d s) := by
  unfold clockDownDeferred
  split
  · split
    · with_reducible assumption
    · with_reducible apply raise_ok
      with_reducible apply stopDomain_ok
      with_reducible assumption
  · with_reducible assumption

/-- `forceImage` keeps. -/
theorem forceImage_ok {qq : List Instr} (img : Nat) (s : State) (hs : Ok qq s) :
    Ok qq (forceImage img s) := by
  unfold forceImage
  split
  with_reducible apply ok_foldl
  · intro a1 a2 h3
    split
    extract_lets +onlyGivenNames -underBinder -merge -useContext x4
    clear_value x4
    with_reducible refine ok_sound ?_ (fun hm => writeBytes_wf hm _ _)
    with_reducible assumption
  · with_reducible assumption

/-- `imageTaken` keeps. -/
theorem imageTaken_ok {qq : List Instr} (img : Nat) (s : State) (hs : Ok qq s) :
    Ok qq (imageTaken img s) := by
  unfold imageTaken
  extract_lets +onlyGivenNames -underBinder -merge -useContext x1
  clear_value x1
  (with_reducible apply ok_mk; with_reducible assumption)

/-- `sampleBody` keeps. -/
theorem sampleBody_ok {qq : List Instr} (e : Entry) (s : State) (hs : Ok qq s) : Ok qq (sampleBody e s) := by
  have k : ∀ (p : Prop) [Decidable p] (img : Nat) (f : Nat → State → State) (t : State), (∀ u, Ok qq u → Ok qq (f img u)) →
      Ok qq t → Ok qq (if p then f img t else t) := by
    intro p _ img f t hf ht
    split
    · exact hf t ht
    · exact ht
  unfold sampleBody
  dsimp only
  refine ok_mk (forceImage_ok _ _ ?_) ..
  exact k _ _ _ _ (fun u => sampleMotion_ok _ u) (k _ _ _ _ (fun u => sampleCrate_ok _ u) (k _ _ _ _ (fun u => sampleCan_ok _ u)
    (k _ _ _ _ (fun u => sampleFlows_ok _ u) (k _ _ _ _ (fun u => sampleSpd_ok _ u) (k _ _ _ _ (fun u => sampleDi_ok _ u)
      (imageTaken_ok _ _ (crossCheck_ok _ _ hs)))))))

/-- `snapshotBody` keeps. -/
theorem snapshotBody_ok {qq : List Instr} (e : Entry) (s : State) (hs : Ok qq s) :
    Ok qq (snapshotBody e s) := by
  unfold snapshotBody
  extract_lets +onlyGivenNames -underBinder -merge -useContext x1
  clear_value x1
  extract_lets +onlyGivenNames -underBinder -merge -useContext x2
  refine (?_ : Ok qq x2 → _) ?_
  on_goal 2 =>
    unfold x2
    with_reducible apply ok_foldl
    · intro a5 a6 h7
      with_reducible apply showIrqs_ok
      with_reducible assumption
    · with_reducible assumption
  (clear_value x2; intro hx2)
  extract_lets +onlyGivenNames -underBinder -merge -useContext x3
  refine (?_ : Ok qq x3 → _) ?_
  on_goal 2 =>
    unfold x3
    (with_reducible apply ok_mk; with_reducible assumption)
  (clear_value x3; intro hx3)
  extract_lets +onlyGivenNames -underBinder -merge -useContext x4
  clear_value x4
  (with_reducible apply ok_mk; with_reducible assumption)

/-- `putVolatile` keeps. -/
theorem putVolatile_ok {qq : List Instr} (t : Nat) (part : List (Nat × Word)) (s : State) (hs : Ok qq s) :
    Ok qq (putVolatile t part s) := by
  unfold putVolatile
  extract_lets +onlyGivenNames -underBinder -merge -useContext x1
  clear_value x1
  (with_reducible apply ok_mk; with_reducible assumption)

/-- `judgePrevious` keeps. -/
theorem judgePrevious_ok {qq : List Instr} (t : Fin 48) (s : State) (hs : Ok qq s) :
    Ok qq (judgePrevious t s) := by
  unfold judgePrevious
  extract_lets +onlyGivenNames -underBinder -merge -useContext x1
  clear_value x1
  extract_lets +onlyGivenNames -underBinder -merge -useContext x2
  clear_value x2
  split
  · with_reducible assumption
  · split
    · with_reducible apply noteOverrun_ok
      with_reducible apply yieldForTask_ok
      with_reducible apply showOverrun_ok
      with_reducible assumption
    · with_reducible apply raiseLanes_ok
      with_reducible assumption

/-- `writeDelivery` keeps. -/
theorem writeDelivery_ok {qq : List Instr} (area : Nat) (head image : List Byte) (bad : List Nat) (s : State) (hs : Ok qq s) :
    Ok qq (writeDelivery area head image bad s) := by
  have k : ∀ (l : List Nat) (m : Mem), Memory.wf m = true →
      Memory.wf (l.foldl (fun m o => markPoison m (area + 64 + o) 16) m) = true := by
    intro l
    induction l with
    | nil => exact fun m hm => hm
    | cons a r ih => exact fun m hm => ih _ (markPoison_wf hm _ _)
  unfold writeDelivery
  exact ok_foldl (fun t l ht => ok_dram ht l (fun hm => k bad _ hm)) _ (toLanes_ok _ _ _ hs)

/-- `deliverCopy` keeps. -/
theorem deliverCopy_ok {qq : List Instr} (img t i : Nat) (s : State) (hs : Ok qq s) :
    Ok qq (deliverCopy img t i s) := by
  unfold deliverCopy
  split
  split
  split
  extract_lets +onlyGivenNames -underBinder -merge -useContext x1
  clear_value x1
  extract_lets +onlyGivenNames -underBinder -merge -useContext x2
  clear_value x2
  extract_lets +onlyGivenNames -underBinder -merge -useContext x3
  clear_value x3
  extract_lets +onlyGivenNames -underBinder -merge -useContext x4
  clear_value x4
  extract_lets +onlyGivenNames -underBinder -merge -useContext x5
  refine (?_ : Ok qq x5 → _) ?_
  on_goal 2 =>
    unfold x5
    with_reducible apply writeDelivery_ok
    with_reducible refine ok_snd (by assumption) ?_
    split
    · with_reducible assumption
    · with_reducible apply takeFree_ok
      with_reducible assumption
  (clear_value x5; intro hx5)
  extract_lets +onlyGivenNames -underBinder -merge -useContext x6
  refine (?_ : Ok qq x6 → _) ?_
  on_goal 2 =>
    unfold x6
    with_reducible apply setJob_ok
    with_reducible assumption
  (clear_value x6; intro hx6)
  split
  · with_reducible assumption
  · with_reducible apply raiseTask_ok
    with_reducible apply stick_ok
    with_reducible apply meetSound_ok
    with_reducible assumption

/-- `takeMirrored` keeps. -/
theorem takeMirrored_ok {qq : List Instr} (img t : Nat) (s : State) (hs : Ok qq s) :
    Ok qq (takeMirrored img t s) := by
  unfold takeMirrored
  split
  · split
    · with_reducible apply putVolatile_ok
      with_reducible assumption
    · with_reducible apply mirrorMissing_ok
      with_reducible assumption
  · with_reducible assumption

/-- `deliverBody` keeps. -/
theorem deliverBody_ok {qq : List Instr} (i : Nat) (e : Entry) (s : State) (hs : Ok qq s) :
    Ok qq (deliverBody i e s) := by
  unfold deliverBody
  extract_lets +onlyGivenNames -underBinder -merge -useContext x1
  clear_value x1
  extract_lets +onlyGivenNames -underBinder -merge -useContext x2
  clear_value x2
  extract_lets +onlyGivenNames -underBinder -merge -useContext x3
  refine (?_ : Ok qq x3 → _) ?_
  on_goal 2 =>
    unfold x3
    with_reducible apply takeMirrored_ok
    with_reducible assumption
  (clear_value x3; intro hx3)
  split
  · with_reducible apply setJob_ok
    with_reducible assumption
  · extract_lets +onlyGivenNames -underBinder -merge -useContext x4
    refine (?_ : Ok qq x4 → _) ?_
    on_goal 2 =>
      unfold x4
      split
      · with_reducible apply judgePrevious_ok
        with_reducible assumption
      · with_reducible assumption
    (clear_value x4; intro hx4)
    split
    · with_reducible apply deliverCopy_ok
      with_reducible assumption
    · with_reducible assumption

/-- `releaseBody` keeps. -/
theorem releaseBody_ok {qq : List Instr} (e : Entry) (s : State) (hs : Ok qq s) :
    Ok qq (releaseBody e s) := by
  unfold releaseBody
  extract_lets +onlyGivenNames -underBinder -merge -useContext x1
  clear_value x1
  split
  · with_reducible assumption
  · extract_lets +onlyGivenNames -underBinder -merge -useContext x2
    refine (?_ : Ok qq x2 → _) ?_
    on_goal 2 =>
      unfold x2
      with_reducible apply ok_foldl
      · intro a5 a6 h7
        with_reducible apply setAcc_ok
        split
        · with_reducible apply signalCore_ok
          with_reducible assumption
        · with_reducible assumption
      · with_reducible apply abortFinal_ok
        with_reducible assumption
    (clear_value x2; intro hx2)
    extract_lets +onlyGivenNames -underBinder -merge -useContext x3
    clear_value x3
    extract_lets +onlyGivenNames -underBinder -merge -useContext x4
    clear_value x4
    with_reducible apply setJob_ok
    with_reducible assumption

/-- `dropPresented` keeps. -/
theorem dropPresented_ok {qq : List Instr} (t chk : Nat) (s : State) (hs : Ok qq s) :
    Ok qq (dropPresented t chk s) := by
  unfold dropPresented
  with_reducible apply ok_foldl
  · intro a1 a2 h3
    extract_lets +onlyGivenNames -underBinder -merge -useContext x4
    clear_value x4
    (with_reducible apply ok_mk; with_reducible assumption)
  · with_reducible assumption

/-- `setPassed` keeps. -/
theorem setPassed_ok {qq : List Instr} (t : Nat) (ls : List Lane) (s : State) (hs : Ok qq s) :
    Ok qq (setPassed t ls s) := by
  unfold setPassed
  with_reducible apply ok_foldl
  · intro a1 a2 h3
    with_reducible apply setJobLane_ok
    with_reducible assumption
  · with_reducible assumption

/-- `observeLane` keeps. -/
theorem observeLane_ok {qq : List Instr} (t : Nat) (sig : Option Sig) (best : Sig) (l : Lane) (s : State) (hs : Ok qq s) :
    Ok qq (observeLane t sig best l s) := by
  unfold observeLane
  split
  · with_reducible apply rejoinFailed_ok
    · with_reducible assumption
    · intro a1 a2 a3 a4 a5 h6
      with_reducible apply raiseF_ok
      with_reducible assumption
  · split
    · with_reducible apply rejoinFailed_ok
      · with_reducible assumption
      · intro a7 a8 a9 a10 a11 h12
        with_reducible apply raiseF_ok
        with_reducible assumption
    · extract_lets +onlyGivenNames -underBinder -merge -useContext x13
      refine (?_ : Ok qq x13 → _) ?_
      on_goal 2 =>
        unfold x13
        with_reducible apply rejoinDone_ok
        with_reducible assumption
      (clear_value x13; intro hx13)
      with_reducible apply setJobLane_ok
      with_reducible assumption

/-- `compareSigs` keeps. -/
theorem compareSigs_ok {qq : List Instr} (t chk : Nat) (sigs : List (Lane × Sig)) (late observed : List Lane) (seen : Lane → Option Sig) (s : State) (hs : Ok qq s) :
    Ok qq (compareSigs t chk sigs late observed seen s) := by
  unfold compareSigs
  extract_lets +onlyGivenNames -underBinder -merge -useContext x1
  clear_value x1
  extract_lets +onlyGivenNames -underBinder -merge -useContext x2
  refine (?_ : Ok qq x2 → _) ?_
  on_goal 2 =>
    unfold x2
    with_reducible apply raiseLanes_ok
    with_reducible assumption
  (clear_value x2; intro hx2)
  split
  · with_reducible apply raiseTask_ok
    with_reducible apply setPassed_ok
    with_reducible assumption
  · extract_lets +onlyGivenNames -underBinder -merge -useContext x3
    clear_value x3
    extract_lets +onlyGivenNames -underBinder -merge -useContext x4
    refine (?_ : Ok qq x4 → _) ?_
    on_goal 2 =>
      unfold x4
      with_reducible apply setPassed_ok
      with_reducible assumption
    (clear_value x4; intro hx4)
    extract_lets +onlyGivenNames -underBinder -merge -useContext x5
    refine (?_ : Ok qq x5 → _) ?_
    on_goal 2 =>
      unfold x5
      with_reducible apply raiseLanes_ok
      with_reducible assumption
    (clear_value x5; intro hx5)
    with_reducible apply ok_foldl
    · intro a6 a7 h8
      split
      · with_reducible apply observeLane_ok
        with_reducible assumption
      · with_reducible assumption
    · with_reducible assumption

/-- `noQuorum` keeps. -/
theorem noQuorum_ok {qq : List Instr} (i t chk : Nat) (got : List Lane) (s : State) (hs : Ok qq s) :
    Ok qq (noQuorum i t chk got s) := by
  unfold noQuorum
  extract_lets +onlyGivenNames -underBinder -merge -useContext x1
  refine (?_ : Ok qq x1 → _) ?_
  on_goal 2 =>
    unfold x1
    with_reducible apply noteEntryFault_ok
    with_reducible apply setPassed_ok
    with_reducible assumption
  (clear_value x1; intro hx1)
  with_reducible apply raiseTask_ok
  with_reducible assumption

/-- `checkpointBody` keeps. -/
theorem checkpointBody_ok {qq : List Instr} (i : Nat) (e : Entry) (s : State) (hs : Ok qq s) :
    Ok qq (checkpointBody i e s) := by
  unfold checkpointBody
  extract_lets +onlyGivenNames -underBinder -merge -useContext x1
  extract_lets +onlyGivenNames -underBinder -merge -useContext x2
  extract_lets +onlyGivenNames -underBinder -merge -useContext x3
  clear_value x3
  extract_lets +onlyGivenNames -underBinder -merge -useContext x4
  extract_lets +onlyGivenNames -underBinder -merge -useContext x5
  clear_value x5
  extract_lets +onlyGivenNames -underBinder -merge -useContext x6
  extract_lets +onlyGivenNames -underBinder -merge -useContext x7
  extract_lets +onlyGivenNames -underBinder -merge -useContext x8
  clear_value x8
  extract_lets +onlyGivenNames -underBinder -merge -useContext x9
  clear_value x9
  extract_lets +onlyGivenNames -underBinder -merge -useContext x10
  clear_value x10
  extract_lets +onlyGivenNames -underBinder -merge -useContext x11
  clear_value x11
  extract_lets +onlyGivenNames -underBinder -merge -useContext x12
  clear_value x12
  extract_lets +onlyGivenNames -underBinder -merge -useContext x13
  refine (?_ : Ok qq x13 → _) ?_
  on_goal 2 =>
    unfold x13
    with_reducible apply dropPresented_ok
    with_reducible assumption
  (clear_value x13; intro hx13)
  split
  · with_reducible assumption
  · split
    · with_reducible apply noQuorum_ok
      with_reducible assumption
    · with_reducible apply compareSigs_ok
      with_reducible assumption

/-- `collectBlock` keeps. -/
theorem collectBlock_ok {qq : List Instr} (ls : List Lane) (src dst : Nat) (x : Tally × State) (hs : Ok qq x.2) :
    Ok qq (collectBlock ls src dst x).2 := by
  have h1 : Ok qq (ls.foldl (fun s l => meetSound ((region s l.idx).1 + 64 * src) 64 s) x.2) :=
    ok_foldl (fun t l ht => meetSound_ok _ _ _ ht) _ hs
  unfold collectBlock
  dsimp only
  split
  · exact ok_sound h1 (fun hm => writeBytes_wf hm _ _)
  · exact ok_sound h1 (fun hm => writeBytes_wf hm _ _)
  · exact h1
  · exact h1

/-- `collectEvents` keeps. -/
theorem collectEvents_ok {qq : List Instr} (t : Nat) (r : Tally) (s : State) (hs : Ok qq s) :
    Ok qq (collectEvents t r s) := by
  unfold collectEvents
  extract_lets +onlyGivenNames -underBinder -merge -useContext x1
  clear_value x1
  extract_lets +onlyGivenNames -underBinder -merge -useContext x2
  refine (?_ : Ok qq x2 → _) ?_
  on_goal 2 =>
    unfold x2
    with_reducible apply raiseLanes_ok
    with_reducible assumption
  (clear_value x2; intro hx2)
  split
  · with_reducible assumption
  · with_reducible apply raiseTask_ok
    with_reducible assumption

/-- `collectBody` keeps. -/
theorem collectBody_ok {qq : List Instr} (i : Nat) (e : Entry) (s : State) (hs : Ok qq s) : Ok qq (collectBody i e s) := by
  have h : ∀ (ls : List Lane), Ok qq ((List.range (dfld e.w1 51 40 + 1)).foldl
      (fun x b => collectBlock ls (dfld e.w1 23 8 + b) (dfld e.w1 39 24 + b) x) (⟨[], [], []⟩, s)).2 :=
    fun ls => ok_foldl_snd (fun p b hp => collectBlock_ok _ _ _ _ hp) _ hs
  have k : ∀ (p : Tally × State), Ok qq p.2 →
      Ok qq (writeConfirm (job (collectEvents e.task p.1 p.2) e.task).own p.1.wrote
        (retainCollect e.task p.1.wrote (collectEvents e.task p.1 p.2))) :=
    fun p hp => writeConfirm_ok _ _ _ (retainCollect_ok _ _ _ (collectEvents_ok _ _ _ hp))
  unfold collectBody
  extract_lets t ls blocks
  specialize h ls
  revert h
  change Ok qq (List.foldl _ _ blocks : Tally × State).2 → _
  generalize List.foldl _ _ _ = p
  intro h
  have h2 := k p h
  dsimp only
  split
  · exact noteDigest_ok _ _ _ _ h2
  · exact h2

/-- `mirrorJournal` keeps. -/
theorem mirrorJournal_ok {qq : List Instr} (s : State) (hs : Ok qq s) :
    Ok qq (mirrorJournal s) := by
  unfold mirrorJournal
  extract_lets +onlyGivenNames -underBinder -merge -useContext x1
  clear_value x1
  extract_lets +onlyGivenNames -underBinder -merge -useContext x2
  refine (?_ : Ok qq x2 → _) ?_
  on_goal 2 =>
    unfold x2
    with_reducible apply emitOut_ok
    with_reducible assumption
  (clear_value x2; intro hx2)
  (with_reducible apply ok_mk; with_reducible assumption)

/-- `mirrorImage` keeps. -/
theorem mirrorImage_ok {qq : List Instr} (img : Nat) (s : State) (hs : Ok qq s) :
    Ok qq (mirrorImage img s) := by
  unfold mirrorImage
  split
  with_reducible apply emitOut_ok
  with_reducible assumption

/-- `mirrorCheck` keeps. -/
theorem mirrorCheck_ok {qq : List Instr} (s : State) (hs : Ok qq s) :
    Ok qq (mirrorCheck s) := by
  unfold mirrorCheck
  extract_lets +onlyGivenNames -underBinder -merge -useContext x1
  clear_value x1
  extract_lets +onlyGivenNames -underBinder -merge -useContext x2
  refine (?_ : Ok qq x2 → _) ?_
  on_goal 2 =>
    unfold x2
    with_reducible apply emitOut_ok
    with_reducible assumption
  (clear_value x2; intro hx2)
  (with_reducible apply ok_mk; with_reducible assumption)

/-- `mirrorBody` keeps. -/
theorem mirrorBody_ok {qq : List Instr} (e : Entry) (s : State) (hs : Ok qq s) :
    Ok qq (mirrorBody e s) := by
  unfold mirrorBody
  extract_lets +onlyGivenNames -underBinder -merge -useContext x1
  clear_value x1
  extract_lets +onlyGivenNames -underBinder -merge -useContext x2
  clear_value x2
  split
  · with_reducible assumption
  · split
    · split
      · with_reducible apply mirrorJournal_ok
        with_reducible assumption
      · with_reducible assumption
    · extract_lets +onlyGivenNames -underBinder -merge -useContext x3
      refine (?_ : Ok qq x3 → _) ?_
      on_goal 2 =>
        unfold x3
        split
        · with_reducible apply mirrorImage_ok
          with_reducible assumption
        · with_reducible assumption
      (clear_value x3; intro hx3)
      (with_reducible apply ok_mk; with_reducible assumption)
    · extract_lets +onlyGivenNames -underBinder -merge -useContext x4
      refine (?_ : Ok qq x4 → _) ?_
      on_goal 2 =>
        unfold x4
        split
        · with_reducible apply mirrorCheck_ok
          with_reducible assumption
        · with_reducible assumption
      (clear_value x4; intro hx4)
      (with_reducible apply ok_mk; with_reducible assumption)

/-- `entryPoison` keeps. -/
theorem entryPoison_ok {qq : List Instr} (i : BitVec 16) (s : State) (hs : Ok qq s) :
    Ok qq (entryPoison i s) := by
  unfold entryPoison
  split
  · split
    · with_reducible apply failPoison_ok
      with_reducible apply passEntry_ok
      with_reducible assumption
    · with_reducible assumption
  · with_reducible assumption

end Sys2Proof.Machine
end

