-- ==== Sys2Proof/Laws/KeepTick.lean ====
section
/-!
SUPPORT. What the operations of Machine/Tick.lean keep: the canonical form of registers and memories, and the queue.
-/

namespace Sys2Proof.Machine

/-- `alignDone` keeps. -/
theorem alignDone_ok {qq : List Instr} (late : Nat) (s : State) (hs : Ok qq s) :
    Ok qq (alignDone late s) := by
  unfold alignDone
  split
  · extract_lets +onlyGivenNames -underBinder -merge -useContext x1
    clear_value x1
    extract_lets +onlyGivenNames -underBinder -merge -useContext x2
    clear_value x2
    extract_lets +onlyGivenNames -underBinder -merge -useContext x3
    refine (?_ : Ok qq x3 → _) ?_
    on_goal 2 =>
      unfold x3
      with_reducible apply setBit_ok
      (with_reducible apply ok_mk; with_reducible assumption)
    (clear_value x3; intro hx3)
    with_reducible apply raise_ok
    with_reducible assumption
  · with_reducible assumption

/-- `microtickEdge` keeps. -/
theorem microtickEdge_ok {qq : List Instr} (n : Nat) (s : State) (hs : Ok qq s) :
    Ok qq (microtickEdge n s) := by
  unfold microtickEdge
  extract_lets +onlyGivenNames -underBinder -merge -useContext x1
  clear_value x1
  extract_lets +onlyGivenNames -underBinder -merge -useContext x2
  refine (?_ : Ok qq x2 → _) ?_
  on_goal 2 =>
    unfold x2
    (with_reducible apply ok_mk; with_reducible assumption)
  (clear_value x2; intro hx2)
  extract_lets +onlyGivenNames -underBinder -merge -useContext x3
  clear_value x3
  extract_lets +onlyGivenNames -underBinder -merge -useContext x4
  clear_value x4
  split
  · (with_reducible apply ok_mk; with_reducible assumption)
  · split
    · extract_lets +onlyGivenNames -underBinder -merge -useContext x5
      refine (?_ : Ok qq x5 → _) ?_
      on_goal 2 =>
        unfold x5
        (with_reducible apply ok_mk; with_reducible assumption)
      (clear_value x5; intro hx5)
      split
      · with_reducible apply alignDone_ok
        with_reducible assumption
      · with_reducible assumption
    · (with_reducible apply ok_mk; with_reducible assumption)

/-- `lockTick` keeps. -/
theorem lockTick_ok {qq : List Instr} (before : Nat) (s : State) (hs : Ok qq s) :
    Ok qq (lockTick before s) := by
  unfold lockTick
  split
  · with_reducible apply setFld_ok
    with_reducible assumption
  · with_reducible assumption

/-- `tick` keeps. -/
theorem tick_ok {qq : List Instr} (s : State) (hs : Ok qq s) :
    Ok qq (tick s) := by
  unfold tick
  split
  · extract_lets +onlyGivenNames -underBinder -merge -useContext x1
    clear_value x1
    extract_lets +onlyGivenNames -underBinder -merge -useContext x2
    clear_value x2
    extract_lets +onlyGivenNames -underBinder -merge -useContext x3
    clear_value x3
    extract_lets +onlyGivenNames -underBinder -merge -useContext x4
    refine (?_ : Ok qq x4 → _) ?_
    on_goal 2 =>
      unfold x4
      (with_reducible apply ok_mk; with_reducible assumption)
    (clear_value x4; intro hx4)
    extract_lets +onlyGivenNames -underBinder -merge -useContext x5
    clear_value x5
    extract_lets +onlyGivenNames -underBinder -merge -useContext x6
    refine (?_ : Ok qq x6 → _) ?_
    on_goal 2 =>
      unfold x6
      split
      · with_reducible apply microtickEdge_ok
        with_reducible assumption
      · with_reducible assumption
    (clear_value x6; intro hx6)
    with_reducible apply showPdelays_ok
    with_reducible apply lockTick_ok
    with_reducible apply pulseFall_ok
    with_reducible assumption
  · with_reducible assumption

end Sys2Proof.Machine
end

