-- ==== Sys2Proof/Laws/KeepCycle.lean ====
section
/-!
SUPPORT. What the operations of Machine/Cycle.lean keep: the canonical form of registers and memories, and the queue.
-/

namespace Sys2Proof.Machine

/-- `moveLanes` keeps. -/
theorem moveLanes_ok {qq : List Instr} (ls : List Lane) (new : LaneState) (s : State) (hs : Ok qq s) :
    Ok qq (moveLanes ls new s) := by
  unfold moveLanes
  extract_lets +onlyGivenNames -underBinder -merge -useContext x1
  clear_value x1
  extract_lets +onlyGivenNames -underBinder -merge -useContext x2
  refine (?_ : Ok qq x2 → _) ?_
  on_goal 2 =>
    unfold x2
    with_reducible apply ok_foldl
    · intro a13 a14 h15
      split
      with_reducible apply enterState_ok
      with_reducible assumption
    · with_reducible assumption
  (clear_value x2; intro hx2)
  extract_lets +onlyGivenNames -underBinder -merge -useContext x3
  refine (?_ : Ok qq x3 → _) ?_
  on_goal 2 =>
    unfold x3
    with_reducible apply ok_foldl
    · intro a10 a11 h12
      split
      with_reducible apply raise_ok
      with_reducible assumption
    · with_reducible assumption
  (clear_value x3; intro hx3)
  with_reducible apply updateMode_ok
  · with_reducible assumption
  · intro a4 a5 a6 a7 a8 h9
    with_reducible apply raiseF_ok
    with_reducible assumption

/-- `freshCounts` keeps. -/
theorem freshCounts_ok {qq : List Instr} (s : State) (hs : Ok qq s) :
    Ok qq (freshCounts s) := by
  unfold freshCounts
  extract_lets +onlyGivenNames -underBinder -merge -useContext x1
  clear_value x1
  (with_reducible apply ok_mk; with_reducible assumption)

/-- `beginCycle` keeps. -/
theorem beginCycle_ok {qq : List Instr} (start : Dword) (s : State) (hs : Ok qq s) :
    Ok qq (beginCycle start s) := by
  unfold beginCycle
  (with_reducible apply ok_mk; with_reducible assumption)

/-- `startRun` keeps. -/
theorem startRun_ok {qq : List Instr} (s : State) (hs : Ok qq s) :
    Ok qq (startRun s) := by
  unfold startRun
  extract_lets +onlyGivenNames -underBinder -merge -useContext x1
  refine (?_ : Ok qq x1 → _) ?_
  on_goal 2 =>
    unfold x1
    with_reducible apply setFld_ok
    with_reducible apply setFld_ok
    with_reducible assumption
  (clear_value x1; intro hx1)
  extract_lets +onlyGivenNames -underBinder -merge -useContext x2
  refine (?_ : Ok qq x2 → _) ?_
  on_goal 2 =>
    unfold x2
    with_reducible apply forgetNotices_ok
    with_reducible apply startTransit_ok
    with_reducible apply safeStart_ok
    with_reducible apply holmChronoStart_ok
    with_reducible assumption
  (clear_value x2; intro hx2)
  extract_lets +onlyGivenNames -underBinder -merge -useContext x3
  refine (?_ : Ok qq x3 → _) ?_
  on_goal 2 =>
    unfold x3
    with_reducible apply setBit_ok
    with_reducible apply setReg_ok
    with_reducible assumption
  (clear_value x3; intro hx3)
  extract_lets +onlyGivenNames -underBinder -merge -useContext x4
  clear_value x4
  extract_lets +onlyGivenNames -underBinder -merge -useContext x5
  refine (?_ : Ok qq x5 → _) ?_
  on_goal 2 =>
    unfold x5
    with_reducible apply setFld_ok
    with_reducible assumption
  (clear_value x5; intro hx5)
  extract_lets +onlyGivenNames -underBinder -merge -useContext x6
  clear_value x6
  with_reducible apply setBit_ok
  (with_reducible apply ok_mk; with_reducible assumption)

/-- `beginRun` keeps. -/
theorem beginRun_ok {qq : List Instr} (hp : Word) (cycle : Nat) (s : State) (hs : Ok qq s) :
    Ok qq (beginRun hp cycle s) := by
  unfold beginRun
  extract_lets +onlyGivenNames -underBinder -merge -useContext x1
  clear_value x1
  extract_lets +onlyGivenNames -underBinder -merge -useContext x2
  refine (?_ : Ok qq x2 → _) ?_
  on_goal 2 =>
    unfold x2
    (with_reducible apply ok_mk; with_reducible assumption)
  (clear_value x2; intro hx2)
  with_reducible apply setReg_ok
  with_reducible apply setFld_ok
  with_reducible assumption

/-- `sendMark` keeps. -/
theorem sendMark_ok {qq : List Instr} (s : State) (hs : Ok qq s) :
    Ok qq (sendMark s) := by
  unfold sendMark
  split
  · with_reducible apply emitOut_ok
    with_reducible assumption
  · with_reducible assumption

/-- `chronographStart` keeps. -/
theorem chronographStart_ok {qq : List Instr} (s : State) (hs : Ok qq s) :
    Ok qq (chronographStart s) := by
  unfold chronographStart
  extract_lets +onlyGivenNames -underBinder -merge -useContext x1
  clear_value x1
  split
  · extract_lets +onlyGivenNames -underBinder -merge -useContext x2
    clear_value x2
    extract_lets +onlyGivenNames -underBinder -merge -useContext x3
    refine (?_ : Ok qq x3 → _) ?_
    on_goal 2 =>
      unfold x3
      with_reducible apply beginRun_ok
      with_reducible apply startDegraded_ok
      with_reducible apply startRun_ok
      with_reducible apply freshCounts_ok
      with_reducible assumption
    (clear_value x3; intro hx3)
    extract_lets +onlyGivenNames -underBinder -merge -useContext x4
    refine (?_ : Ok qq x4 → _) ?_
    on_goal 2 =>
      unfold x4
      with_reducible apply beginCycle_ok
      with_reducible assumption
    (clear_value x4; intro hx4)
    extract_lets +onlyGivenNames -underBinder -merge -useContext x5
    refine (?_ : Ok qq x5 → _) ?_
    on_goal 2 =>
      unfold x5
      with_reducible apply ok_foldl
      · intro a9 a10 h11
        with_reducible apply setLane_ok
        with_reducible assumption
      · with_reducible assumption
    (clear_value x5; intro hx5)
    extract_lets +onlyGivenNames -underBinder -merge -useContext x6
    refine (?_ : Ok qq x6 → _) ?_
    on_goal 2 =>
      unfold x6
      with_reducible apply moveLanes_ok
      with_reducible assumption
    (clear_value x6; intro hx6)
    extract_lets +onlyGivenNames -underBinder -merge -useContext x7
    clear_value x7
    extract_lets +onlyGivenNames -underBinder -merge -useContext x8
    refine (?_ : Ok qq x8 → _) ?_
    on_goal 2 =>
      unfold x8
      (with_reducible apply ok_mk; with_reducible assumption)
    (clear_value x8; intro hx8)
    with_reducible apply sendMark_ok
    with_reducible apply showListenAll_ok
    with_reducible apply setModTo_ok
    with_reducible assumption
  · with_reducible assumption

/-- `countCycle` keeps. -/
theorem countCycle_ok {qq : List Instr} (s : State) (hs : Ok qq s) :
    Ok qq (countCycle s) := by
  unfold countCycle
  extract_lets +onlyGivenNames -underBinder -merge -useContext x1
  clear_value x1
  extract_lets +onlyGivenNames -underBinder -merge -useContext x2
  clear_value x2
  (with_reducible apply ok_mk; with_reducible assumption)

/-- `endCycle` keeps. -/
theorem endCycle_ok {qq : List Instr} (next : Word × Nat) (s : State) (hs : Ok qq s) :
    Ok qq (endCycle next s) := by
  unfold endCycle
  with_reducible apply forceBoundary_ok
  with_reducible apply flushRx_ok
  with_reducible apply countCycle_ok
  with_reducible apply checkOverdue_ok
  with_reducible assumption

/-- `stretch` keeps. -/
theorem stretch_ok {qq : List Instr} (late : Nat) (s : State) (hs : Ok qq s) :
    Ok qq (stretch late s) := by
  unfold stretch
  extract_lets +onlyGivenNames -underBinder -merge -useContext x1
  clear_value x1
  split
  · with_reducible apply alignDone_ok
    with_reducible assumption
  · extract_lets +onlyGivenNames -underBinder -merge -useContext x2
    clear_value x2
    extract_lets +onlyGivenNames -underBinder -merge -useContext x3
    clear_value x3
    extract_lets +onlyGivenNames -underBinder -merge -useContext x4
    refine (?_ : Ok qq x4 → _) ?_
    on_goal 2 =>
      unfold x4
      with_reducible apply setBit_ok
      with_reducible assumption
    (clear_value x4; intro hx4)
    extract_lets +onlyGivenNames -underBinder -merge -useContext x5
    refine (?_ : Ok qq x5 → _) ?_
    on_goal 2 =>
      unfold x5
      with_reducible apply setReg_ok
      with_reducible assumption
    (clear_value x5; intro hx5)
    extract_lets +onlyGivenNames -underBinder -merge -useContext x6
    clear_value x6
    extract_lets +onlyGivenNames -underBinder -merge -useContext x7
    clear_value x7
    extract_lets +onlyGivenNames -underBinder -merge -useContext x8
    refine (?_ : Ok qq x8 → _) ?_
    on_goal 2 =>
      unfold x8
      (with_reducible apply ok_mk; with_reducible assumption)
    (clear_value x8; intro hx8)
    extract_lets +onlyGivenNames -underBinder -merge -useContext x9
    refine (?_ : Ok qq x9 → _) ?_
    on_goal 2 =>
      unfold x9
      split
      · with_reducible apply raise_ok
        with_reducible assumption
      · with_reducible assumption
    (clear_value x9; intro hx9)
    split
    · with_reducible apply alignDone_ok
      with_reducible assumption
    · with_reducible assumption

/-- `baseCycleEnd` keeps. -/
theorem baseCycleEnd_ok {qq : List Instr} (s : State) (hs : Ok qq s) :
    Ok qq (baseCycleEnd s) := by
  unfold baseCycleEnd
  extract_lets +onlyGivenNames -underBinder -merge -useContext x1
  clear_value x1
  split
  · extract_lets +onlyGivenNames -underBinder -merge -useContext x2
    refine (?_ : Ok qq x2 → _) ?_
    on_goal 2 =>
      unfold x2
      with_reducible apply endCycle_ok
      with_reducible assumption
    (clear_value x2; intro hx2)
    extract_lets +onlyGivenNames -underBinder -merge -useContext x3
    clear_value x3
    extract_lets +onlyGivenNames -underBinder -merge -useContext x4
    clear_value x4
    extract_lets +onlyGivenNames -underBinder -merge -useContext x5
    refine (?_ : Ok qq x5 → _) ?_
    on_goal 2 =>
      unfold x5
      with_reducible apply stretch_ok
      with_reducible assumption
    (clear_value x5; intro hx5)
    extract_lets +onlyGivenNames -underBinder -merge -useContext x6
    clear_value x6
    extract_lets +onlyGivenNames -underBinder -merge -useContext x7
    refine (?_ : Ok qq x7 → _) ?_
    on_goal 2 =>
      unfold x7
      with_reducible apply beginCycle_ok
      with_reducible assumption
    (clear_value x7; intro hx7)
    extract_lets +onlyGivenNames -underBinder -merge -useContext x8
    clear_value x8
    extract_lets +onlyGivenNames -underBinder -merge -useContext x9
    refine (?_ : Ok qq x9 → _) ?_
    on_goal 2 =>
      unfold x9
      (with_reducible apply ok_mk; with_reducible assumption)
    (clear_value x9; intro hx9)
    split
    · extract_lets +onlyGivenNames -underBinder -merge -useContext x10
      refine (?_ : Ok qq x10 → _) ?_
      on_goal 2 =>
        unfold x10
        with_reducible apply setFld_ok
        with_reducible assumption
      (clear_value x10; intro hx10)
      (with_reducible apply ok_mk; with_reducible assumption)
    · with_reducible apply sendMark_ok
      with_reducible apply setFld_ok
      with_reducible assumption
  · with_reducible assumption

/-- `beginAtMark` keeps. -/
theorem beginAtMark_ok {qq : List Instr} (time : Dword) (s : State) (hs : Ok qq s) :
    Ok qq (beginAtMark time s) := by
  unfold beginAtMark
  extract_lets +onlyGivenNames -underBinder -merge -useContext x1
  clear_value x1
  extract_lets +onlyGivenNames -underBinder -merge -useContext x2
  clear_value x2
  extract_lets +onlyGivenNames -underBinder -merge -useContext x3
  refine (?_ : Ok qq x3 → _) ?_
  on_goal 2 =>
    unfold x3
    (with_reducible apply ok_mk; with_reducible assumption)
  (clear_value x3; intro hx3)
  extract_lets +onlyGivenNames -underBinder -merge -useContext x4
  refine (?_ : Ok qq x4 → _) ?_
  on_goal 2 =>
    unfold x4
    with_reducible apply beginCycle_ok
    with_reducible assumption
  (clear_value x4; intro hx4)
  (with_reducible apply ok_mk; with_reducible assumption)

/-- `cycleMark` keeps. -/
theorem cycleMark_ok {qq : List Instr} (hp : Word) (cycle : Nat) (time : Dword) (s : State) (hs : Ok qq s) :
    Ok qq (cycleMark hp cycle time s) := by
  unfold cycleMark
  extract_lets +onlyGivenNames -underBinder -merge -useContext x1
  refine (?_ : Ok qq x1 → _) ?_
  on_goal 2 =>
    unfold x1
    with_reducible apply heard_ok
    with_reducible assumption
  (clear_value x1; intro hx1)
  split
  · with_reducible apply beginAtMark_ok
    with_reducible apply beginRun_ok
    with_reducible apply startRun_ok
    with_reducible assumption
  · split
    · extract_lets +onlyGivenNames -underBinder -merge -useContext x2
      refine (?_ : Ok qq x2 → _) ?_
      on_goal 2 =>
        unfold x2
        with_reducible apply beginAtMark_ok
        with_reducible apply endCycle_ok
        with_reducible assumption
      (clear_value x2; intro hx2)
      extract_lets +onlyGivenNames -underBinder -merge -useContext x3
      refine (?_ : Ok qq x3 → _) ?_
      on_goal 2 =>
        unfold x3
        with_reducible apply setFld_ok
        with_reducible assumption
      (clear_value x3; intro hx3)
      split
      · with_reducible assumption
      · with_reducible apply setReg_ok
        (with_reducible apply ok_mk; with_reducible assumption)
    · with_reducible assumption

/-- `xchgAbandon` keeps. -/
theorem xchgAbandon_ok {qq : List Instr} (t : Nat) (s : State) (hs : Ok qq s) :
    Ok qq (xchgAbandon t s) := by
  unfold xchgAbandon
  extract_lets +onlyGivenNames -underBinder -merge -useContext x1
  clear_value x1
  extract_lets +onlyGivenNames -underBinder -merge -useContext x2
  clear_value x2
  extract_lets +onlyGivenNames -underBinder -merge -useContext x3
  clear_value x3
  extract_lets +onlyGivenNames -underBinder -merge -useContext x4
  refine (?_ : Ok qq x4 → _) ?_
  on_goal 2 =>
    unfold x4
    with_reducible apply abandonJob_ok
    with_reducible assumption
  (clear_value x4; intro hx4)
  with_reducible apply raiseTask_ok
  with_reducible assumption

/-- `switchBank` keeps. -/
theorem switchBank_ok {qq : List Instr} (s : State) (hs : Ok qq s) :
    Ok qq (switchBank s) := by
  unfold switchBank
  extract_lets +onlyGivenNames -underBinder -merge -useContext x1
  refine (?_ : Ok qq x1 → _) ?_
  on_goal 2 =>
    unfold x1
    with_reducible apply ok_foldl
    · intro a22 a23 h24
      with_reducible apply xchgAbandon_ok
      with_reducible assumption
    · with_reducible assumption
  (clear_value x1; intro hx1)
  extract_lets +onlyGivenNames -underBinder -merge -useContext x2
  refine (?_ : Ok qq x2 → _) ?_
  on_goal 2 =>
    unfold x2
    with_reducible apply clearForces_ok
    with_reducible assumption
  (clear_value x2; intro hx2)
  extract_lets +onlyGivenNames -underBinder -merge -useContext x3
  clear_value x3
  extract_lets +onlyGivenNames -underBinder -merge -useContext x4
  refine (?_ : Ok qq x4 → _) ?_
  on_goal 2 =>
    unfold x4
    with_reducible apply setBit_ok
    with_reducible apply setFld_ok
    with_reducible apply setFld_ok
    with_reducible assumption
  (clear_value x4; intro hx4)
  extract_lets +onlyGivenNames -underBinder -merge -useContext x5
  clear_value x5
  extract_lets +onlyGivenNames -underBinder -merge -useContext x6
  clear_value x6
  extract_lets +onlyGivenNames -underBinder -merge -useContext x7
  clear_value x7
  extract_lets +onlyGivenNames -underBinder -merge -useContext x8
  refine (?_ : Ok qq x8 → _) ?_
  on_goal 2 =>
    unfold x8
    (with_reducible apply ok_mk; with_reducible assumption)
  (clear_value x8; intro hx8)
  extract_lets +onlyGivenNames -underBinder -merge -useContext x9
  refine (?_ : Ok qq x9 → _) ?_
  on_goal 2 =>
    unfold x9
    with_reducible apply set64_ok
    with_reducible apply showBanks_ok
    with_reducible assumption
  (clear_value x9; intro hx9)
  extract_lets +onlyGivenNames -underBinder -merge -useContext x10
  refine (?_ : Ok qq x10 → _) ?_
  on_goal 2 =>
    unfold x10
    with_reducible apply ok_foldl
    · intro a19 a20 h21
      with_reducible apply setJob_ok
      with_reducible assumption
    · with_reducible assumption
  (clear_value x10; intro hx10)
  extract_lets +onlyGivenNames -underBinder -merge -useContext x11
  refine (?_ : Ok qq x11 → _) ?_
  on_goal 2 =>
    unfold x11
    with_reducible apply ok_foldl
    · intro a16 a17 h18
      with_reducible apply setLane_ok
      with_reducible assumption
    · with_reducible assumption
  (clear_value x11; intro hx11)
  extract_lets +onlyGivenNames -underBinder -merge -useContext x12
  refine (?_ : Ok qq x12 → _) ?_
  on_goal 2 =>
    unfold x12
    with_reducible apply ok_foldl
    · intro a13 a14 h15
      with_reducible apply setLane_ok
      with_reducible assumption
    · with_reducible assumption
  (clear_value x12; intro hx12)
  with_reducible apply raise_ok
  with_reducible assumption

/-- `switchBoundary` keeps. -/
theorem switchBoundary_ok {qq : List Instr} (s : State) (hs : Ok qq s) :
    Ok qq (switchBoundary s) := by
  unfold switchBoundary
  extract_lets +onlyGivenNames -underBinder -merge -useContext x1
  clear_value x1
  split
  · extract_lets +onlyGivenNames -underBinder -merge -useContext x2
    clear_value x2
    split
    · with_reducible apply switchBank_ok
      with_reducible assumption
    · with_reducible assumption
  · split
    · with_reducible apply standbyFault_ok
      (with_reducible apply ok_mk; with_reducible assumption)
    · with_reducible assumption

/-- `takeSplit` keeps. -/
theorem takeSplit_ok {qq : List Instr} (d : Nat) (s : State) (hs : Ok qq s) :
    Ok qq (takeSplit d s) := by
  unfold takeSplit
  extract_lets +onlyGivenNames -underBinder -merge -useContext x1
  refine (?_ : Ok qq x1 → _) ?_
  on_goal 2 =>
    unfold x1
    with_reducible apply moveLanes_ok
    with_reducible apply setFld_ok
    with_reducible apply freshCounts_ok
    with_reducible assumption
  (clear_value x1; intro hx1)
  with_reducible apply ok_foldl
  · intro a2 a3 h4
    with_reducible apply showIrqs_ok
    with_reducible assumption
  · with_reducible assumption

/-- `takeJoin` keeps. -/
theorem takeJoin_ok {qq : List Instr} (s : State) (hs : Ok qq s) :
    Ok qq (takeJoin s) := by
  unfold takeJoin
  extract_lets +onlyGivenNames -underBinder -merge -useContext x1
  refine (?_ : Ok qq x1 → _) ?_
  on_goal 2 =>
    unfold x1
    with_reducible apply ok_foldl
    · intro a5 a6 h7
      with_reducible apply startTesting_ok
      with_reducible apply isolate_ok
      with_reducible assumption
    · with_reducible assumption
  (clear_value x1; intro hx1)
  with_reducible apply ok_foldl
  · intro a2 a3 h4
    with_reducible apply setLane_ok
    with_reducible assumption
  · with_reducible assumption

/-- `modeBoundary` keeps. -/
theorem modeBoundary_ok {qq : List Instr} (s : State) (hs : Ok qq s) :
    Ok qq (modeBoundary s) := by
  unfold modeBoundary
  split
  · split
    · extract_lets +onlyGivenNames -underBinder -merge -useContext x1
      clear_value x1
      extract_lets +onlyGivenNames -underBinder -merge -useContext x2
      clear_value x2
      extract_lets +onlyGivenNames -underBinder -merge -useContext x3
      refine (?_ : Ok qq x3 → _) ?_
      on_goal 2 =>
        unfold x3
        with_reducible apply setBit_ok
        (with_reducible apply ok_mk; with_reducible assumption)
      (clear_value x3; intro hx3)
      split
      · with_reducible apply takeJoin_ok
        with_reducible assumption
      · with_reducible apply takeSplit_ok
        with_reducible assumption
    · with_reducible assumption
  · with_reducible assumption

/-- `joinBoundary` keeps. -/
theorem joinBoundary_ok {qq : List Instr} (s : State) (hs : Ok qq s) :
    Ok qq (joinBoundary s) := by
  unfold joinBoundary
  split
  · extract_lets +onlyGivenNames -underBinder -merge -useContext x1
    clear_value x1
    extract_lets +onlyGivenNames -underBinder -merge -useContext x2
    refine (?_ : Ok qq x2 → _) ?_
    on_goal 2 =>
      unfold x2
      with_reducible apply ok_foldl
      · intro a3 a4 h5
        with_reducible apply setLane_ok
        with_reducible assumption
      · with_reducible apply freshCounts_ok
        with_reducible assumption
    (clear_value x2; intro hx2)
    with_reducible apply moveLanes_ok
    with_reducible apply rejoinIdle_ok
    (with_reducible apply ok_mk; with_reducible assumption)
  · with_reducible assumption

/-- `restartDue` keeps. -/
theorem restartDue_ok {qq : List Instr} (s : State) (hs : Ok qq s) :
    Ok qq (restartDue s) := by
  unfold restartDue
  split
  · split
    · with_reducible apply restartBoundary_ok
      with_reducible assumption
    · with_reducible assumption
  · with_reducible assumption

/-- `handoverDue` keeps. -/
theorem handoverDue_ok {qq : List Instr} (s : State) (hs : Ok qq s) :
    Ok qq (handoverDue s) := by
  unfold handoverDue
  split
  · split
    · with_reducible apply giveUp_ok
      · (with_reducible apply ok_mk; with_reducible assumption)
      · intro a1 a2 a3 a4 a5 h6
        with_reducible apply raiseF_ok
        with_reducible assumption
    · with_reducible assumption
  · with_reducible assumption

/-- `sleepDue` keeps. -/
theorem sleepDue_ok {qq : List Instr} (s : State) (hs : Ok qq s) :
    Ok qq (sleepDue s) := by
  unfold sleepDue
  extract_lets +onlyGivenNames -underBinder -merge -useContext x1
  clear_value x1
  extract_lets +onlyGivenNames -underBinder -merge -useContext x2
  clear_value x2
  split
  · with_reducible apply sleepBegin_ok
    (with_reducible apply ok_mk; with_reducible assumption)
  · with_reducible assumption

/-- `hyperperiod` keeps. -/
theorem hyperperiod_ok {qq : List Instr} (s : State) (hs : Ok qq s) :
    Ok qq (hyperperiod s) := by
  unfold hyperperiod
  split
  · extract_lets +onlyGivenNames -underBinder -merge -useContext x1
    clear_value x1
    extract_lets +onlyGivenNames -underBinder -merge -useContext x2
    clear_value x2
    extract_lets +onlyGivenNames -underBinder -merge -useContext x3
    refine (?_ : Ok qq x3 → _) ?_
    on_goal 2 =>
      unfold x3
      with_reducible apply setReg_ok
      (with_reducible apply ok_mk; with_reducible assumption)
    (clear_value x3; intro hx3)
    extract_lets +onlyGivenNames -underBinder -merge -useContext x4
    refine (?_ : Ok qq x4 → _) ?_
    on_goal 2 =>
      unfold x4
      with_reducible apply switchBoundary_ok
      with_reducible apply dropNotices_ok
      with_reducible assumption
    (clear_value x4; intro hx4)
    extract_lets +onlyGivenNames -underBinder -merge -useContext x5
    refine (?_ : Ok qq x5 → _) ?_
    on_goal 2 =>
      unfold x5
      split
      · with_reducible apply joinBoundary_ok
        with_reducible apply modeBoundary_ok
        with_reducible assumption
      · with_reducible assumption
    (clear_value x5; intro hx5)
    with_reducible apply sendMark_ok
    with_reducible apply sleepDue_ok
    with_reducible apply handoverDue_ok
    with_reducible apply restartDue_ok
    with_reducible assumption
  · with_reducible assumption

/-- `loadStart` keeps. -/
theorem loadStart_ok {qq : List Instr} (n : Nat) (s : State) (hs : Ok qq s) :
    Ok qq (loadStart n s) := by
  unfold loadStart
  extract_lets +onlyGivenNames -underBinder -merge -useContext x1
  refine (?_ : Ok qq x1 → _) ?_
  on_goal 2 =>
    unfold x1
    with_reducible apply setFld_ok
    with_reducible assumption
  (clear_value x1; intro hx1)
  extract_lets +onlyGivenNames -underBinder -merge -useContext x2
  clear_value x2
  split
  · with_reducible apply raise_ok
    with_reducible apply setReg_ok
    with_reducible assumption
  · extract_lets +onlyGivenNames -underBinder -merge -useContext x3
    refine (?_ : Ok qq x3 → _) ?_
    on_goal 2 =>
      unfold x3
      with_reducible apply setBit_ok
      with_reducible apply setFld_ok
      with_reducible assumption
    (clear_value x3; intro hx3)
    with_reducible apply domAcquire_ok
    (with_reducible apply ok_mk; with_reducible assumption)

/-- `loadDone` keeps. -/
theorem loadDone_ok {qq : List Instr} (s : State) (hs : Ok qq s) :
    Ok qq (loadDone s) := by
  unfold loadDone
  split
  · split
    · with_reducible assumption
    · extract_lets +onlyGivenNames -underBinder -merge -useContext x1
      clear_value x1
      extract_lets +onlyGivenNames -underBinder -merge -useContext x2
      clear_value x2
      extract_lets +onlyGivenNames -underBinder -merge -useContext x3
      clear_value x3
      extract_lets +onlyGivenNames -underBinder -merge -useContext x4
      clear_value x4
      extract_lets +onlyGivenNames -underBinder -merge -useContext x5
      refine (?_ : Ok qq x5 → _) ?_
      on_goal 2 =>
        unfold x5
        with_reducible apply domRelease_ok
        with_reducible apply showLoad_ok
        (with_reducible apply ok_mk; with_reducible assumption)
      (clear_value x5; intro hx5)
      extract_lets +onlyGivenNames -underBinder -merge -useContext x6
      refine (?_ : Ok qq x6 → _) ?_
      on_goal 2 =>
        unfold x6
        with_reducible apply setBit_ok
        with_reducible apply setFld_ok
        with_reducible assumption
      (clear_value x6; intro hx6)
      extract_lets +onlyGivenNames -underBinder -merge -useContext x7
      refine (?_ : Ok qq x7 → _) ?_
      on_goal 2 =>
        unfold x7
        with_reducible apply setBank_ok
        with_reducible assumption
      (clear_value x7; intro hx7)
      extract_lets +onlyGivenNames -underBinder -merge -useContext x8
      refine (?_ : Ok qq x8 → _) ?_
      on_goal 2 =>
        unfold x8
        with_reducible apply showBanks_ok
        with_reducible assumption
      (clear_value x8; intro hx8)
      extract_lets +onlyGivenNames -underBinder -merge -useContext x9
      refine (?_ : Ok qq x9 → _) ?_
      on_goal 2 =>
        unfold x9
        split
        · with_reducible apply emitOut_ok
          with_reducible assumption
        · with_reducible assumption
      (clear_value x9; intro hx9)
      split
      · with_reducible apply raise_ok
        with_reducible assumption
      · with_reducible apply raise_ok
        with_reducible assumption
  · with_reducible assumption

/-- `exchangeRequest` keeps. -/
theorem exchangeRequest_ok {qq : List Instr} (s : State) (hs : Ok qq s) :
    Ok qq (exchangeRequest s) := by
  unfold exchangeRequest
  extract_lets +onlyGivenNames -underBinder -merge -useContext x1
  clear_value x1
  split
  · extract_lets +onlyGivenNames -underBinder -merge -useContext x2
    clear_value x2
    with_reducible apply emitOut_ok
    (with_reducible apply ok_mk; with_reducible assumption)
  · split
    · with_reducible apply emitOut_ok
      with_reducible assumption
    · with_reducible assumption

/-- `switchRequest` keeps. -/
theorem switchRequest_ok {qq : List Instr} (s : State) (hs : Ok qq s) :
    Ok qq (switchRequest s) := by
  unfold switchRequest
  extract_lets +onlyGivenNames -underBinder -merge -useContext x1
  clear_value x1
  extract_lets +onlyGivenNames -underBinder -merge -useContext x2
  refine (?_ : Ok qq x2 → _) ?_
  on_goal 2 =>
    unfold x2
    with_reducible apply setReg_ok
    with_reducible assumption
  (clear_value x2; intro hx2)
  extract_lets +onlyGivenNames -underBinder -merge -useContext x3
  clear_value x3
  split
  · with_reducible apply raise_ok
    with_reducible assumption
  · split
    · with_reducible assumption
    · extract_lets +onlyGivenNames -underBinder -merge -useContext x4
      refine (?_ : Ok qq x4 → _) ?_
      on_goal 2 =>
        unfold x4
        with_reducible apply setBit_ok
        with_reducible assumption
      (clear_value x4; intro hx4)
      with_reducible apply exchangeRequest_ok
      (with_reducible apply ok_mk; with_reducible assumption)

/-- `switchCancel` keeps. -/
theorem switchCancel_ok {qq : List Instr} (s : State) (hs : Ok qq s) :
    Ok qq (switchCancel s) := by
  unfold switchCancel
  extract_lets +onlyGivenNames -underBinder -merge -useContext x1
  refine (?_ : Ok qq x1 → _) ?_
  on_goal 2 =>
    unfold x1
    with_reducible apply setBit_ok
    with_reducible apply setReg_ok
    with_reducible assumption
  (clear_value x1; intro hx1)
  (with_reducible apply ok_mk; with_reducible assumption)

end Sys2Proof.Machine
end

