-- ==== Sys2Proof/Laws/KeepRecorder.lean ====
section
/-!
SUPPORT. What the operations of Machine/Recorder.lean keep: the canonical form of registers and memories, and the queue.
-/

namespace Sys2Proof.Machine

/-- `answerCount` keeps. -/
theorem answerCount_ok {qq : List Instr} (req : SvcReq) (op status count : Nat) (data : List Byte) (s : State) (hs : Ok qq s) :
    Ok qq (answerCount req op status count data s) := by
  unfold answerCount
  with_reducible apply emitOut_ok
  with_reducible assumption

/-- `answer` keeps. -/
theorem answer_ok {qq : List Instr} (req : SvcReq) (op status : Nat) (data : List Byte) (s : State) (hs : Ok qq s) :
    Ok qq (answer req op status data s) := by
  unfold answer
  split
  with_reducible apply answerCount_ok
  with_reducible refine ok_snd (by assumption) ?_
  with_reducible apply takeFree_ok
  with_reducible assumption

/-- `svcTouch` keeps. -/
theorem svcTouch_ok {qq : List Instr} (req : SvcReq) (s : State) (hs : Ok qq s) :
    Ok qq (svcTouch req s) := by
  unfold svcTouch
  split
  · (with_reducible apply ok_mk; with_reducible assumption)
  · with_reducible assumption

/-- `svcServe` keeps. -/
theorem svcServe_ok {qq : List Instr} (req : SvcReq) (f : State → State) (s : State) (hs : Ok qq s) (hf : ∀ x, Ok qq x → Ok qq (f x)) :
    Ok qq (svcServe req f s) := by
  unfold svcServe
  split
  · with_reducible apply hf
    with_reducible apply svcTouch_ok
    with_reducible assumption
  · with_reducible assumption

/-- `recPoisoned` keeps. -/
theorem recPoisoned_ok {qq : List Instr} (offset : Nat) (s : State) (hs : Ok qq s) :
    Ok qq (recPoisoned offset s) := by
  unfold recPoisoned
  with_reducible apply raise_ok
  with_reducible apply stick_ok
  with_reducible apply memUncorrectable_ok
  with_reducible assumption

/-- `meetQuant` keeps. -/
theorem meetQuant_ok {qq : List Instr} (s : State) (hs : Ok qq s) :
    Ok qq (meetQuant s).2 := by
  unfold meetQuant
  split
  · with_reducible assumption
  · split
    split
    · dsimp only
      with_reducible apply recPoisoned_ok
      with_reducible apply ok_mk
      with_reducible refine ok_snd (by assumption) ?_
      with_reducible apply takeFree_ok
      with_reducible assumption
    · dsimp only
      with_reducible refine ok_snd (by assumption) ?_
      with_reducible apply takeFree_ok
      with_reducible assumption

/-- `keepExtreme` keeps. -/
theorem keepExtreme_ok {qq : List Instr} (key : Nat) (high : Bool) (x : Int) (s : State) (hs : Ok qq s) :
    Ok qq (keepExtreme key high x s) := by
  unfold keepExtreme
  split
  extract_lets +onlyGivenNames -underBinder -merge -useContext x1
  clear_value x1
  extract_lets +onlyGivenNames -underBinder -merge -useContext x2
  clear_value x2
  split
  · extract_lets +onlyGivenNames -underBinder -merge -useContext x3
    clear_value x3
    with_reducible apply ok_mk
    with_reducible refine ok_snd (by assumption) ?_
    with_reducible apply meetQuant_ok
    with_reducible assumption
  · with_reducible refine ok_snd (by assumption) ?_
    with_reducible apply meetQuant_ok
    with_reducible assumption

/-- `sampleQuantity` keeps. -/
theorem sampleQuantity_ok {qq : List Instr} (q : Quantity) (low width x : Int) (lowest : Bool) (s : State) (hs : Ok qq s) :
    Ok qq (sampleQuantity q low width x lowest s) := by
  unfold sampleQuantity
  extract_lets +onlyGivenNames -underBinder -merge -useContext x1
  clear_value x1
  split
  extract_lets +onlyGivenNames -underBinder -merge -useContext x2
  clear_value x2
  extract_lets +onlyGivenNames -underBinder -merge -useContext x3
  clear_value x3
  extract_lets +onlyGivenNames -underBinder -merge -useContext x4
  clear_value x4
  extract_lets +onlyGivenNames -underBinder -merge -useContext x5
  refine (?_ : Ok qq x5 → _) ?_
  on_goal 2 =>
    unfold x5
    with_reducible apply ok_mk
    with_reducible refine ok_snd (by assumption) ?_
    with_reducible apply meetQuant_ok
    with_reducible assumption
  (clear_value x5; intro hx5)
  extract_lets +onlyGivenNames -underBinder -merge -useContext x6
  refine (?_ : Ok qq x6 → _) ?_
  on_goal 2 =>
    unfold x6
    with_reducible apply keepExtreme_ok
    with_reducible assumption
  (clear_value x6; intro hx6)
  split
  · with_reducible apply keepExtreme_ok
    with_reducible assumption
  · with_reducible assumption

/-- `recorderSample` keeps. -/
theorem recorderSample_ok {qq : List Instr} (decivolts : BitVec 12) (base hot : Byte) (x y z load : BitVec 16) (s : State) (hs : Ok qq s) :
    Ok qq (recorderSample decivolts base hot x y z load s) := by
  unfold recorderSample
  split
  · extract_lets +onlyGivenNames -underBinder -merge -useContext x1
    refine (?_ : Ok qq x1 → _) ?_
    on_goal 2 =>
      unfold x1
      with_reducible apply noteThermal_ok
      with_reducible apply noteSupply_ok
      with_reducible assumption
    (clear_value x1; intro hx1)
    extract_lets +onlyGivenNames -underBinder -merge -useContext x2
    refine (?_ : Ok qq x2 → _) ?_
    on_goal 2 =>
      unfold x2
      with_reducible apply sampleQuantity_ok
      with_reducible assumption
    (clear_value x2; intro hx2)
    extract_lets +onlyGivenNames -underBinder -merge -useContext x3
    refine (?_ : Ok qq x3 → _) ?_
    on_goal 2 =>
      unfold x3
      with_reducible apply sampleQuantity_ok
      with_reducible assumption
    (clear_value x3; intro hx3)
    extract_lets +onlyGivenNames -underBinder -merge -useContext x4
    refine (?_ : Ok qq x4 → _) ?_
    on_goal 2 =>
      unfold x4
      with_reducible apply sampleQuantity_ok
      with_reducible assumption
    (clear_value x4; intro hx4)
    extract_lets +onlyGivenNames -underBinder -merge -useContext x5
    refine (?_ : Ok qq x5 → _) ?_
    on_goal 2 =>
      unfold x5
      with_reducible apply sampleQuantity_ok
      with_reducible assumption
    (clear_value x5; intro hx5)
    extract_lets +onlyGivenNames -underBinder -merge -useContext x6
    refine (?_ : Ok qq x6 → _) ?_
    on_goal 2 =>
      unfold x6
      with_reducible apply sampleQuantity_ok
      with_reducible assumption
    (clear_value x6; intro hx6)
    extract_lets +onlyGivenNames -underBinder -merge -useContext x7
    refine (?_ : Ok qq x7 → _) ?_
    on_goal 2 =>
      unfold x7
      with_reducible apply sampleQuantity_ok
      with_reducible assumption
    (clear_value x7; intro hx7)
    split
    · with_reducible apply sampleQuantity_ok
      with_reducible assumption
    · with_reducible assumption
  · with_reducible assumption

/-- `showRec` keeps. -/
theorem showRec_ok {qq : List Instr} (s : State) (hs : Ok qq s) :
    Ok qq (showRec s) := by
  unfold showRec
  extract_lets +onlyGivenNames -underBinder -merge -useContext x1
  clear_value x1
  extract_lets +onlyGivenNames -underBinder -merge -useContext x2
  clear_value x2
  with_reducible apply setReg_ok
  with_reducible assumption

/-- `putEntry` keeps. -/
theorem putEntry_ok {qq : List Instr} (e : LogEntry) (s : State) (hs : Ok qq s) :
    Ok qq (putEntry e s) := by
  unfold putEntry
  with_reducible apply setReg_ok
  (with_reducible apply ok_mk; with_reducible assumption)

/-- `writeEntry` keeps. -/
theorem writeEntry_ok {qq : List Instr} (r : Record) (app : Bool) (s : State) (hs : Ok qq s) :
    Ok qq (writeEntry r app s).2 := by
  unfold writeEntry
  split
  · dsimp only
    with_reducible apply putEntry_ok
    with_reducible assumption
  · split
    · extract_lets +onlyGivenNames -underBinder -merge -useContext x1
      clear_value x1
      extract_lets +onlyGivenNames -underBinder -merge -useContext x2
      refine (?_ : Ok qq x2 → _) ?_
      on_goal 2 =>
        unfold x2
        with_reducible apply satAdd_ok
        with_reducible assumption
      (clear_value x2; intro hx2)
      extract_lets +onlyGivenNames -underBinder -merge -useContext x3
      clear_value x3
      extract_lets +onlyGivenNames -underBinder -merge -useContext x4
      refine (?_ : Ok qq x4 → _) ?_
      on_goal 2 =>
        unfold x4
        (with_reducible apply ok_mk; with_reducible assumption)
      (clear_value x4; intro hx4)
      extract_lets +onlyGivenNames -underBinder -merge -useContext x5
      refine (?_ : Ok qq x5 → _) ?_
      on_goal 2 =>
        unfold x5
        with_reducible apply putEntry_ok
        with_reducible assumption
      (clear_value x5; intro hx5)
      dsimp only
      split
      · with_reducible apply raise_ok
        with_reducible apply stick_ok
        with_reducible assumption
      · with_reducible assumption
    · dsimp only
      with_reducible apply stick_ok
      with_reducible apply satAdd_ok
      with_reducible assumption

/-- `logEntryWrite` keeps. -/
theorem logEntryWrite_ok {qq : List Instr} (s : State) (hs : Ok qq s) :
    Ok qq (logEntryWrite s) := by
  unfold logEntryWrite
  split
  · with_reducible assumption
  · split
    · with_reducible assumption
    · extract_lets +onlyGivenNames -underBinder -merge -useContext x1
      refine (?_ : Ok qq x1 → _) ?_
      on_goal 2 =>
        unfold x1
        (with_reducible apply ok_mk; with_reducible assumption)
      (clear_value x1; intro hx1)
      split
      · split
        · split
          · split
            with_reducible apply showRec_ok
            with_reducible apply finishDesc_ok
            with_reducible refine ok_snd (by assumption) ?_
            with_reducible apply writeEntry_ok
            with_reducible assumption
          · with_reducible apply showRec_ok
            with_reducible assumption
        · with_reducible apply showRec_ok
          with_reducible assumption
      · with_reducible apply showRec_ok
        with_reducible apply writeEntry_ok
        with_reducible assumption

/-- `recAppEntry` keeps. -/
theorem recAppEntry_ok {qq : List Instr} (n : Nat) (s : State) (hs : Ok qq s) :
    Ok qq (recAppEntry n s) := by
  unfold recAppEntry
  split
  · split
    · with_reducible apply finishDesc_ok
      with_reducible refine ok_snd (by assumption) ?_
      with_reducible apply startRec_ok
      with_reducible assumption
    · split
      · with_reducible apply finishDesc_ok
        with_reducible refine ok_snd (by assumption) ?_
        with_reducible apply startRec_ok
        with_reducible assumption
      · extract_lets +onlyGivenNames -underBinder -merge -useContext x1
        refine (?_ : Ok qq x1 → _) ?_
        on_goal 2 =>
          unfold x1
          with_reducible apply markRec_ok
          with_reducible refine ok_snd (by assumption) ?_
          with_reducible apply startRec_ok
          with_reducible assumption
        (clear_value x1; intro hx1)
        with_reducible apply showRec_ok
        (with_reducible apply ok_mk; with_reducible assumption)
  · with_reducible refine ok_snd (by assumption) ?_
    with_reducible apply startRec_ok
    with_reducible assumption

/-- `startClear` keeps. -/
theorem startClear_ok {qq : List Instr} (source : Nat) (req : Option SvcReq) (s : State) (hs : Ok qq s) :
    Ok qq (startClear source req s) := by
  unfold startClear
  with_reducible apply showRec_ok
  (with_reducible apply ok_mk; with_reducible assumption)

/-- `recCmdClear` keeps. -/
theorem recCmdClear_ok {qq : List Instr} (v : Nat) (s : State) (hs : Ok qq s) :
    Ok qq (recCmdClear v s) := by
  unfold recCmdClear
  split
  · with_reducible apply raise_ok
    with_reducible assumption
  · with_reducible apply startClear_ok
    with_reducible assumption

/-- `clearAll` keeps. -/
theorem clearAll_ok {qq : List Instr} (source : Nat) (s : State) (hs : Ok qq s) :
    Ok qq (clearAll source s) := by
  unfold clearAll
  extract_lets +onlyGivenNames -underBinder -merge -useContext x1
  clear_value x1
  extract_lets +onlyGivenNames -underBinder -merge -useContext x2
  clear_value x2
  extract_lets +onlyGivenNames -underBinder -merge -useContext x3
  clear_value x3
  extract_lets +onlyGivenNames -underBinder -merge -useContext x4
  refine (?_ : Ok qq x4 → _) ?_
  on_goal 2 =>
    unfold x4
    with_reducible apply setReg_ok
    with_reducible apply setReg_ok
    with_reducible apply setReg_ok
    with_reducible assumption
  (clear_value x4; intro hx4)
  extract_lets +onlyGivenNames -underBinder -merge -useContext x5
  refine (?_ : Ok qq x5 → _) ?_
  on_goal 2 =>
    unfold x5
    with_reducible apply setReg_ok
    with_reducible assumption
  (clear_value x5; intro hx5)
  extract_lets +onlyGivenNames -underBinder -merge -useContext x6
  clear_value x6
  extract_lets +onlyGivenNames -underBinder -merge -useContext x7
  clear_value x7
  extract_lets +onlyGivenNames -underBinder -merge -useContext x8
  refine (?_ : Ok qq x8 → _) ?_
  on_goal 2 =>
    unfold x8
    (with_reducible apply ok_mk; with_reducible assumption)
  (clear_value x8; intro hx8)
  extract_lets +onlyGivenNames -underBinder -merge -useContext x9
  clear_value x9
  extract_lets +onlyGivenNames -underBinder -merge -useContext x10
  refine (?_ : Ok qq x10 → _) ?_
  on_goal 2 =>
    unfold x10
    with_reducible apply putEntry_ok
    with_reducible assumption
  (clear_value x10; intro hx10)
  with_reducible apply raise_ok
  with_reducible apply showRec_ok
  with_reducible assumption

/-- `recClearDone` keeps. -/
theorem recClearDone_ok {qq : List Instr} (s : State) (hs : Ok qq s) :
    Ok qq (recClearDone s) := by
  unfold recClearDone
  split
  · extract_lets +onlyGivenNames -underBinder -merge -useContext x1
    refine (?_ : Ok qq x1 → _) ?_
    on_goal 2 =>
      unfold x1
      with_reducible apply clearAll_ok
      with_reducible assumption
    (clear_value x1; intro hx1)
    split
    · with_reducible apply answer_ok
      with_reducible assumption
    · with_reducible assumption
  · with_reducible assumption

/-- `readClear` keeps. -/
theorem readClear_ok {qq : List Instr} (s : State) (hs : Ok qq s) :
    Ok qq (readClear s).2 := by
  unfold readClear
  extract_lets +onlyGivenNames -underBinder -merge -useContext x1
  clear_value x1
  split
  split
  dsimp only
  with_reducible refine ok_snd (by assumption) ?_
  split
  · split
    dsimp only
    with_reducible apply recPoisoned_ok
    with_reducible refine ok_snd (by assumption) ?_
    with_reducible apply takeFree_ok
    with_reducible assumption
  · with_reducible assumption

/-- `recInfo` keeps. -/
theorem recInfo_ok {qq : List Instr} (req : SvcReq) (s : State) (hs : Ok qq s) :
    Ok qq (recInfo req s) := by
  unfold recInfo
  split
  split
  extract_lets +onlyGivenNames -underBinder -merge -useContext x1
  refine (?_ : Ok qq x1 → _) ?_
  on_goal 2 =>
    unfold x1
    with_reducible apply showRec_ok
    with_reducible refine ok_snd2 (by assumption) ?_
    split
    · dsimp only
      with_reducible refine ok_snd (by assumption) ?_
      with_reducible apply readClear_ok
      with_reducible assumption
    · split
      dsimp only
      with_reducible refine ok_snd (by assumption) ?_
      with_reducible apply takeFree_ok
      with_reducible refine ok_snd (by assumption) ?_
      with_reducible apply readClear_ok
      with_reducible assumption
  (clear_value x1; intro hx1)
  with_reducible apply answer_ok
  with_reducible assumption

/-- `freeBytes` keeps. -/
theorem freeBytes_ok {qq : List Instr} (n : Nat) (s : State) (hs : Ok qq s) : Ok qq (freeBytes n s).2 := by
  induction n generalizing s with
  | zero => exact hs
  | succ n ih =>
    unfold freeBytes
    split
    split
    dsimp only
    with_reducible refine ok_snd (by assumption) ?_
    with_reducible apply ih
    with_reducible refine ok_snd (by assumption) ?_
    with_reducible apply takeFree_ok
    with_reducible assumption

/-- `recQuant` keeps. -/
theorem recQuant_ok {qq : List Instr} (req : SvcReq) (s : State) (hs : Ok qq s) :
    Ok qq (recQuant req s) := by
  unfold recQuant
  extract_lets +onlyGivenNames -underBinder -merge -useContext x1
  clear_value x1
  extract_lets +onlyGivenNames -underBinder -merge -useContext x2
  clear_value x2
  split
  · with_reducible apply answerCount_ok
    with_reducible assumption
  · split
    extract_lets +onlyGivenNames -underBinder -merge -useContext x3
    clear_value x3
    extract_lets +onlyGivenNames -underBinder -merge -useContext x4
    clear_value x4
    extract_lets +onlyGivenNames -underBinder -merge -useContext x5
    refine (?_ : Ok qq x5 → _) ?_
    on_goal 2 =>
      unfold x5
      with_reducible apply ok_foldl
      · intro a6 a7 h8
        with_reducible apply recPoisoned_ok
        with_reducible assumption
      · with_reducible refine ok_snd (by assumption) ?_
        with_reducible apply freeBytes_ok
        with_reducible assumption
    (clear_value x5; intro hx5)
    with_reducible apply answerCount_ok
    with_reducible assumption

/-- `recLog` keeps. -/
theorem recLog_ok {qq : List Instr} (req : SvcReq) (s : State) (hs : Ok qq s) :
    Ok qq (recLog req s) := by
  unfold recLog
  extract_lets +onlyGivenNames -underBinder -merge -useContext x1
  clear_value x1
  extract_lets +onlyGivenNames -underBinder -merge -useContext x2
  refine (?_ : Ok qq x2 → _) ?_
  on_goal 2 =>
    unfold x2
    with_reducible apply ok_foldl
    · intro a3 a4 h5
      split
      · extract_lets +onlyGivenNames -underBinder -merge -useContext x6
        clear_value x6
        with_reducible apply recPoisoned_ok
        with_reducible assumption
      · with_reducible assumption
    · with_reducible assumption
  (clear_value x2; intro hx2)
  with_reducible apply answerCount_ok
  with_reducible assumption

/-- `recClear` keeps. -/
theorem recClear_ok {qq : List Instr} (req : SvcReq) (s : State) (hs : Ok qq s) :
    Ok qq (recClear req s) := by
  unfold recClear
  split
  · with_reducible apply answer_ok
    with_reducible assumption
  · with_reducible apply startClear_ok
    with_reducible assumption

end Sys2Proof.Machine
end

