-- ==== Sys2Proof/Laws/KeepFault.lean ====
section
/-!
SUPPORT. What the operations of Machine/Fault.lean keep: the canonical form of registers and memories, and the queue.
-/

namespace Sys2Proof.Machine

/-- `clearLevel` keeps. -/
theorem clearLevel_ok {qq : List Instr} (s : State) (hs : Ok qq s) :
    Ok qq (clearLevel s) := by
  unfold clearLevel
  extract_lets +onlyGivenNames -underBinder -merge -useContext x1
  clear_value x1
  split
  · with_reducible apply refuseCfg_ok
    with_reducible assumption
  · with_reducible apply raise_ok
    with_reducible apply setFld_ok
    with_reducible assumption

/-- `clearCounts` keeps. -/
theorem clearCounts_ok {qq : List Instr} (s : State) (hs : Ok qq s) :
    Ok qq (clearCounts s) := by
  unfold clearCounts
  with_reducible apply setReg_ok
  with_reducible apply setReg_ok
  with_reducible assumption

/-- `writeFaultTable` keeps. -/
theorem writeFaultTable_ok {qq : List Instr} (k : Nat) (v : Word) (s : State) (hs : Ok qq s) :
    Ok qq (writeFaultTable k v s) := by
  unfold writeFaultTable
  extract_lets +onlyGivenNames -underBinder -merge -useContext x1
  clear_value x1
  split
  · with_reducible apply refuseCfg_ok
    with_reducible assumption
  · split
    · with_reducible apply refuseCfg_ok
      with_reducible assumption
    · with_reducible apply setReg_ok
      with_reducible assumption

/-- `writeSevFloor` keeps. -/
theorem writeSevFloor_ok {qq : List Instr} (v : Word) (s : State) (hs : Ok qq s) :
    Ok qq (writeSevFloor v s) := by
  unfold writeSevFloor
  split
  · with_reducible apply refuseCfg_ok
    with_reducible assumption
  · with_reducible apply setReg_ok
    with_reducible assumption

/-- `noteCorrection` keeps. -/
theorem noteCorrection_ok {qq : List Instr} (region addr : Nat) (s : State) (hs : Ok qq s) :
    Ok qq (noteCorrection region addr s) := by
  unfold noteCorrection
  extract_lets +onlyGivenNames -underBinder -merge -useContext x1
  clear_value x1
  extract_lets +onlyGivenNames -underBinder -merge -useContext x2
  clear_value x2
  extract_lets +onlyGivenNames -underBinder -merge -useContext x3
  clear_value x3
  extract_lets +onlyGivenNames -underBinder -merge -useContext x4
  clear_value x4
  extract_lets +onlyGivenNames -underBinder -merge -useContext x5
  clear_value x5
  extract_lets +onlyGivenNames -underBinder -merge -useContext x6
  clear_value x6
  extract_lets +onlyGivenNames -underBinder -merge -useContext x7
  refine (?_ : Ok qq x7 → _) ?_
  on_goal 2 =>
    unfold x7
    (with_reducible apply ok_mk; with_reducible assumption)
  (clear_value x7; intro hx7)
  split
  · with_reducible apply raise_ok
    with_reducible apply stick_ok
    with_reducible assumption
  · with_reducible assumption

/-- `correctionAgeOut` keeps. -/
theorem correctionAgeOut_ok {qq : List Instr} (region addr : Nat) (s : State) (hs : Ok qq s) :
    Ok qq (correctionAgeOut region addr s) := by
  unfold correctionAgeOut
  (with_reducible apply ok_mk; with_reducible assumption)

/-- `writeBack` keeps. -/
theorem writeBack_ok {qq : List Instr} (region addr : Nat) (bs : List Byte) (s : State) (hs : Ok qq s) :
    Ok qq (writeBack region addr bs s) := by
  unfold writeBack
  extract_lets +onlyGivenNames -underBinder -merge -useContext x1
  clear_value x1
  split
  · with_reducible refine ok_dram ?_ _ (fun hm => writeBytes_wf hm _ _)
    with_reducible assumption
  · split
    · with_reducible refine ok_sound ?_ (fun hm => writeBytes_wf hm _ _)
      with_reducible assumption
    · with_reducible assumption

/-- `spoilEntry` keeps. -/
theorem spoilEntry_ok {qq : List Instr} (offset : Nat) (s : State) (hs : Ok qq s) :
    Ok qq (spoilEntry offset s) := by
  unfold spoilEntry
  extract_lets +onlyGivenNames -underBinder -merge -useContext x1
  clear_value x1
  extract_lets +onlyGivenNames -underBinder -merge -useContext x2
  clear_value x2
  split
  · with_reducible assumption
  · extract_lets +onlyGivenNames -underBinder -merge -useContext x3
    clear_value x3
    extract_lets +onlyGivenNames -underBinder -merge -useContext x4
    clear_value x4
    (with_reducible apply ok_mk; with_reducible assumption)

/-- `spoilRecorder` keeps. -/
theorem spoilRecorder_ok {qq : List Instr} (offset : Nat) (s : State) (hs : Ok qq s) :
    Ok qq (spoilRecorder offset s) := by
  unfold spoilRecorder
  split
  · split
    extract_lets +onlyGivenNames -underBinder -merge -useContext x1
    clear_value x1
    extract_lets +onlyGivenNames -underBinder -merge -useContext x2
    clear_value x2
    with_reducible apply ok_mk
    with_reducible refine ok_snd (by assumption) ?_
    with_reducible apply takeFree_ok
    with_reducible assumption
  · split
    · (with_reducible apply ok_mk; with_reducible assumption)
    · extract_lets +onlyGivenNames -underBinder -merge -useContext x3
      clear_value x3
      split
      split
      · with_reducible apply ok_mk
        with_reducible refine ok_snd (by assumption) ?_
        split
        · split
          dsimp only
          with_reducible refine ok_snd (by assumption) ?_
          with_reducible apply takeFree_ok
          with_reducible assumption
        · with_reducible assumption
      · with_reducible refine ok_snd (by assumption) ?_
        split
        · split
          dsimp only
          with_reducible refine ok_snd (by assumption) ?_
          with_reducible apply takeFree_ok
          with_reducible assumption
        · with_reducible assumption

/-- `spoilMram` keeps. -/
theorem spoilMram_ok {qq : List Instr} (offset : Nat) (s : State) (hs : Ok qq s) :
    Ok qq (spoilMram offset s) := by
  unfold spoilMram
  split
  · (with_reducible apply ok_mk; with_reducible assumption)
  · split
    · (with_reducible apply ok_mk; with_reducible assumption)
    · split
      · (with_reducible apply ok_mk; with_reducible assumption)
      · split
        · (with_reducible apply ok_mk; with_reducible assumption)
        · with_reducible apply spoilRecorder_ok
          with_reducible assumption

/-- `damageSlot` keeps. -/
theorem damageSlot_ok {qq : List Instr} (offset : Nat) (s : State) (hs : Ok qq s) :
    Ok qq (damageSlot offset s) := by
  unfold damageSlot
  extract_lets +onlyGivenNames -underBinder -merge -useContext x1
  clear_value x1
  split
  · with_reducible assumption
  · split
    split
    split
    extract_lets +onlyGivenNames -underBinder -merge -useContext x2
    refine (?_ : Ok qq x2 → _) ?_
    on_goal 2 =>
      unfold x2
      with_reducible apply setSlot_ok
      with_reducible refine ok_snd (by assumption) ?_
      with_reducible apply takeFree_ok
      with_reducible refine ok_snd (by assumption) ?_
      with_reducible apply takeFree_ok
      with_reducible assumption
    (clear_value x2; intro hx2)
    with_reducible apply raise_ok
    with_reducible assumption

/-- `spoil` keeps. -/
theorem spoil_ok {qq : List Instr} (region addr : Nat) (s : State) (hs : Ok qq s) :
    Ok qq (spoil region addr s) := by
  unfold spoil
  split
  · with_reducible refine ok_dram ?_ _ (fun hm => markBroken_wf hm _)
    with_reducible assumption
  · split
    · with_reducible refine ok_sound ?_ (fun hm => markBroken_wf hm _)
      with_reducible assumption
    · with_reducible apply spoilEntry_ok
      with_reducible assumption
    · with_reducible apply spoilMram_ok
      with_reducible assumption
    · with_reducible apply damageSlot_ok
      with_reducible assumption
    · with_reducible assumption

/-- `spoilPoisoned` keeps. -/
theorem spoilPoisoned_ok {qq : List Instr} (region addr : Nat) (s : State) (hs : Ok qq s) :
    Ok qq (spoilPoisoned region addr s) := by
  unfold spoilPoisoned
  split
  · with_reducible refine ok_dram ?_ _ (fun hm => markPoison_wf hm _ _)
    with_reducible assumption
  · split
    · with_reducible refine ok_sound ?_ (fun hm => markPoison_wf hm _ _)
      with_reducible assumption
    · with_reducible apply spoil_ok
      with_reducible assumption

/-- `scrubBad` keeps. -/
theorem scrubBad_ok {qq : List Instr} (region addr : Nat) (s : State) (hs : Ok qq s) :
    Ok qq (scrubBad region addr s) := by
  unfold scrubBad
  extract_lets +onlyGivenNames -underBinder -merge -useContext x1
  refine (?_ : Ok qq x1 → _) ?_
  on_goal 2 =>
    unfold x1
    with_reducible apply satAdd_ok
    with_reducible assumption
  (clear_value x1; intro hx1)
  extract_lets +onlyGivenNames -underBinder -merge -useContext x2
  refine (?_ : Ok qq x2 → _) ?_
  on_goal 2 =>
    unfold x2
    with_reducible apply setReg_ok
    with_reducible assumption
  (clear_value x2; intro hx2)
  extract_lets +onlyGivenNames -underBinder -merge -useContext x3
  refine (?_ : Ok qq x3 → _) ?_
  on_goal 2 =>
    unfold x3
    with_reducible apply setReg_ok
    with_reducible assumption
  (clear_value x3; intro hx3)
  with_reducible apply raise_ok
  with_reducible apply stick_ok
  with_reducible apply spoil_ok
  with_reducible assumption

/-- `scrubCorrected` keeps. -/
theorem scrubCorrected_ok {qq : List Instr} (region addr p : Nat) (word : BitVec 160) (s : State) (hs : Ok qq s) :
    Ok qq (scrubCorrected region addr p word s) := by
  unfold scrubCorrected
  extract_lets +onlyGivenNames -underBinder -merge -useContext x1
  refine (?_ : Ok qq x1 → _) ?_
  on_goal 2 =>
    unfold x1
    with_reducible apply satAdd_ok
    with_reducible assumption
  (clear_value x1; intro hx1)
  extract_lets +onlyGivenNames -underBinder -merge -useContext x2
  refine (?_ : Ok qq x2 → _) ?_
  on_goal 2 =>
    unfold x2
    with_reducible apply raise_ok
    with_reducible apply writeBack_ok
    with_reducible assumption
  (clear_value x2; intro hx2)
  with_reducible apply noteCorrection_ok
  with_reducible assumption

/-- `scrubRead` keeps. -/
theorem scrubRead_ok {qq : List Instr} (region addr : Nat) (word : BitVec 160) (s : State) (hs : Ok qq s) :
    Ok qq (scrubRead region addr word s) := by
  unfold scrubRead
  split
  · with_reducible assumption
  · split
    · with_reducible assumption
    · with_reducible apply spoilPoisoned_ok
      with_reducible assumption
    · with_reducible apply scrubCorrected_ok
      with_reducible assumption
    · with_reducible apply scrubBad_ok
      with_reducible assumption

end Sys2Proof.Machine
end

