-- ==== Sys2Proof/Laws/KeepCommit.lean ====
section
/-!
SUPPORT. What the operations of Machine/Commit.lean keep: the canonical form of registers and memories, and the queue.
-/

namespace Sys2Proof.Machine

/-- `plainWrite` keeps. -/
theorem plainWrite_ok {qq : List Instr} (key : Nat) (v : Word) (s : State) (hs : Ok qq s) :
    Ok qq (plainWrite key v s) := by
  unfold plainWrite
  with_reducible apply setReg_ok
  with_reducible assumption

/-- `commitForceCmd` keeps. -/
theorem commitForceCmd_ok {qq : List Instr} (v : Word) (s : State) (hs : Ok qq s) :
    Ok qq (commitForceCmd v s) := by
  unfold commitForceCmd
  split
  · with_reducible apply forceSet_ok
    with_reducible assumption
  · with_reducible apply commitForce_ok
    with_reducible assumption
  · with_reducible apply commitForce_ok
    with_reducible assumption
  · with_reducible assumption

/-- `commitMod` keeps. -/
theorem commitMod_ok {qq : List Instr} (key : Nat) (v : Word) (s : State) (hs : Ok qq s) :
    Ok qq (commitMod key v s) := by
  unfold commitMod
  split
  · split
    · with_reducible apply modSleep_ok
      with_reducible assumption
    · with_reducible assumption
  · split
    · split
      · with_reducible apply modStart_ok
        with_reducible assumption
      · with_reducible apply modMaintenance_ok
        with_reducible assumption
      · with_reducible assumption
    · split
      · split
        · with_reducible apply restartCmd_ok
          with_reducible assumption
        · with_reducible apply restartCmd_ok
          with_reducible assumption
        · with_reducible assumption
      · split
        · with_reducible apply writeRetain_ok
          with_reducible assumption
        · split
          · with_reducible apply writeSafeOut_ok
            with_reducible assumption
          · split
            · with_reducible apply raise_ok
              with_reducible assumption
            · split
              · with_reducible apply raise_ok
                with_reducible assumption
              · split
                · with_reducible apply commitForceCmd_ok
                  with_reducible assumption
                · with_reducible apply plainWrite_ok
                  with_reducible assumption

/-- `commitLaneCmd` keeps. -/
theorem commitLaneCmd_ok {qq : List Instr} (v : Word) (s : State) (hs : Ok qq s) :
    Ok qq (commitLaneCmd v s) := by
  unfold commitLaneCmd
  split
  · split
    · with_reducible apply laneExclude_ok
      with_reducible assumption
    · with_reducible apply laneRejoin_ok
      with_reducible assumption
    · with_reducible apply lanePowerOff_ok
      with_reducible assumption
    · with_reducible apply lanePowerOn_ok
      with_reducible assumption
    · with_reducible assumption
  · with_reducible assumption

/-- `commitBanked` keeps. -/
theorem commitBanked_ok {qq : List Instr} (l : Lane) (key : Nat) (v : Word) (s : State) (hs : Ok qq s) :
    Ok qq (commitBanked l key v s) := by
  unfold commitBanked
  extract_lets +onlyGivenNames -underBinder -merge -useContext x1
  clear_value x1
  with_reducible apply showIrqs_ok
  split
  · with_reducible apply clearW1C_ok
    with_reducible assumption
  · with_reducible apply plainWrite_ok
    with_reducible assumption

/-- `commitLane` keeps. -/
theorem commitLane_ok {qq : List Instr} (key : Nat) (v : Word) (s : State) (hs : Ok qq s) :
    Ok qq (commitLane key v s) := by
  unfold commitLane
  split
  · with_reducible apply ok_foldl
    · intro a1 a2 h3
      with_reducible apply commitBanked_ok
      with_reducible assumption
    · with_reducible assumption
  · split
    · split
      · with_reducible apply modeSplit_ok
        with_reducible assumption
      · with_reducible apply modeJoin_ok
        with_reducible assumption
      · with_reducible apply modeCancel_ok
        with_reducible assumption
    · split
      · with_reducible apply commitLaneCmd_ok
        with_reducible assumption
      · split
        · with_reducible apply saLock_ok
          with_reducible assumption
        · split
          · split
            · with_reducible assumption
            · with_reducible apply plainWrite_ok
              with_reducible assumption
          · with_reducible apply plainWrite_ok
            with_reducible assumption

/-- `commitChrono` keeps. -/
theorem commitChrono_ok {qq : List Instr} (key : Nat) (v : Word) (s : State) (hs : Ok qq s) :
    Ok qq (commitChrono key v s) := by
  unfold commitChrono
  split
  · split
    · with_reducible apply switchCancel_ok
      with_reducible assumption
    · with_reducible apply switchRequest_ok
      with_reducible assumption
  · split
    · with_reducible apply loadStart_ok
      with_reducible assumption
    · with_reducible apply setFld_ok
      with_reducible assumption

/-- `commitRing` keeps. -/
theorem commitRing_ok {qq : List Instr} (key : Nat) (v : Word) (s : State) (hs : Ok qq s) :
    Ok qq (commitRing key v s) := by
  unfold commitRing
  split
  · extract_lets +onlyGivenNames -underBinder -merge -useContext x1
    clear_value x1
    split
    · with_reducible apply ringStartCmd_ok
      with_reducible assumption
    · with_reducible apply ringResume_ok
      with_reducible assumption
    · with_reducible apply ringStop_ok
      with_reducible assumption
    · with_reducible apply ringDiscard_ok
      with_reducible assumption
    · with_reducible assumption
  · extract_lets +onlyGivenNames -underBinder -merge -useContext x2
    clear_value x2
    split
    · with_reducible apply plainWrite_ok
      with_reducible assumption
    · with_reducible apply ringRefuse_ok
      with_reducible assumption

/-- `commitEvq` keeps. -/
theorem commitEvq_ok {qq : List Instr} (key : Nat) (v : Word) (s : State) (hs : Ok qq s) :
    Ok qq (commitEvq key v s) := by
  unfold commitEvq
  split
  · extract_lets +onlyGivenNames -underBinder -merge -useContext x1
    clear_value x1
    split
    · with_reducible apply evqStart_ok
      with_reducible assumption
    · with_reducible apply evqResume_ok
      with_reducible assumption
    · with_reducible assumption
  · split
    · with_reducible apply plainWrite_ok
      with_reducible assumption
    · extract_lets +onlyGivenNames -underBinder -merge -useContext x2
      clear_value x2
      split
      · with_reducible apply evqRefuse_ok
        with_reducible assumption
      · with_reducible apply plainWrite_ok
        with_reducible assumption

/-- `commitTask` keeps. -/
theorem commitTask_ok {qq : List Instr} (key : Nat) (v : Word) (s : State) (hs : Ok qq s) :
    Ok qq (commitTask key v s) := by
  unfold commitTask
  split
  · extract_lets +onlyGivenNames -underBinder -merge -useContext x1
    clear_value x1
    split
    · with_reducible assumption
    · split
      · with_reducible apply clearResp_ok
        with_reducible assumption
      · with_reducible apply clearCount_ok
        with_reducible assumption
      · with_reducible assumption
  · with_reducible apply writeDlvBase_ok
    with_reducible assumption

/-- `commitTransit` keeps. -/
theorem commitTransit_ok {qq : List Instr} (key : Nat) (v : Word) (s : State) (hs : Ok qq s) :
    Ok qq (commitTransit key v s) := by
  unfold commitTransit
  split
  · split
    · with_reducible apply capture_ok
      with_reducible assumption
    · with_reducible apply clearTsqCounts_ok
      with_reducible assumption
    · with_reducible assumption
  · split
    · with_reducible apply followPtp_ok
      with_reducible apply plainWrite_ok
      with_reducible assumption
    · with_reducible apply plainWrite_ok
      with_reducible assumption

/-- `commitNet` keeps. -/
theorem commitNet_ok {qq : List Instr} (key : Nat) (v : Word) (s : State) (hs : Ok qq s) :
    Ok qq (commitNet key v s) := by
  unfold commitNet
  split
  · split
    · with_reducible apply netClear_ok
      with_reducible assumption
    · with_reducible apply arpFlush_ok
      with_reducible assumption
    · with_reducible assumption
  · split
    · with_reducible apply writeRxRoute_ok
      with_reducible assumption
    · split
      · extract_lets +onlyGivenNames -underBinder -merge -useContext x1
        clear_value x1
        split
        · with_reducible apply writeFlowCfg_ok
          with_reducible assumption
        · split
          · with_reducible apply refuseNet_ok
            with_reducible assumption
          · split
            · with_reducible apply refuseNet_ok
              with_reducible assumption
            · with_reducible apply plainWrite_ok
              with_reducible assumption
      · split
        · with_reducible apply writeTunCfg_ok
          with_reducible assumption
        · with_reducible apply plainWrite_ok
          with_reducible assumption

/-- `commitSafe` keeps. -/
theorem commitSafe_ok {qq : List Instr} (key : Nat) (v : Word) (s : State) (hs : Ok qq s) :
    Ok qq (commitSafe key v s) := by
  unfold commitSafe
  split
  · split
    · with_reducible apply resetFault_ok
      with_reducible assumption
    · with_reducible apply safeClear_ok
      with_reducible assumption
    · with_reducible assumption
  · extract_lets +onlyGivenNames -underBinder -merge -useContext x1
    clear_value x1
    split
    · with_reducible apply writeConnCfg_ok
      with_reducible assumption
    · split
      · with_reducible apply refuseSafe_ok
        with_reducible assumption
      · split
        · with_reducible apply setConn_ok
          with_reducible assumption
        · with_reducible apply plainWrite_ok
          with_reducible assumption

/-- `commitCanCmd` keeps. -/
theorem commitCanCmd_ok {qq : List Instr} (v : Word) (s : State) (hs : Ok qq s) :
    Ok qq (commitCanCmd v s) := by
  unfold commitCanCmd
  extract_lets +onlyGivenNames -underBinder -merge -useContext x1
  clear_value x1
  extract_lets +onlyGivenNames -underBinder -merge -useContext x2
  clear_value x2
  split
  · split
    · with_reducible apply cmdRecover_ok
      with_reducible assumption
    · with_reducible apply refuseCan_ok
      with_reducible assumption
  · split
    · with_reducible apply canClear_ok
      with_reducible assumption
    · with_reducible assumption
  · with_reducible assumption

/-- `commitCanCh` keeps. -/
theorem commitCanCh_ok {qq : List Instr} (n key : Nat) (v : Word) (s : State) (hs : Ok qq s) :
    Ok qq (commitCanCh n key v s) := by
  unfold commitCanCh
  extract_lets +onlyGivenNames -underBinder -merge -useContext x1
  clear_value x1
  extract_lets +onlyGivenNames -underBinder -merge -useContext x2
  clear_value x2
  extract_lets +onlyGivenNames -underBinder -merge -useContext x3
  clear_value x3
  split
  · with_reducible apply refuseCan_ok
    with_reducible assumption
  · split
    · with_reducible apply refuseCan_ok
      with_reducible assumption
    · split
      · with_reducible apply refuseCan_ok
        with_reducible assumption
      · with_reducible apply setReg_ok
        with_reducible assumption

/-- `commitCanFlt` keeps. -/
theorem commitCanFlt_ok {qq : List Instr} (k key : Nat) (v : Word) (s : State) (hs : Ok qq s) :
    Ok qq (commitCanFlt k key v s) := by
  unfold commitCanFlt
  extract_lets +onlyGivenNames -underBinder -merge -useContext x1
  clear_value x1
  extract_lets +onlyGivenNames -underBinder -merge -useContext x2
  clear_value x2
  extract_lets +onlyGivenNames -underBinder -merge -useContext x3
  clear_value x3
  split
  · with_reducible apply refuseCan_ok
    with_reducible assumption
  · split
    · with_reducible apply refuseCan_ok
      with_reducible assumption
    · with_reducible apply plainWrite_ok
      with_reducible assumption

/-- `commitCan` keeps. -/
theorem commitCan_ok {qq : List Instr} (key : Nat) (v : Word) (s : State) (hs : Ok qq s) :
    Ok qq (commitCan key v s) := by
  unfold commitCan
  split
  · with_reducible apply commitCanCmd_ok
    with_reducible assumption
  · split
    · extract_lets +onlyGivenNames -underBinder -merge -useContext x1
      clear_value x1
      split
      · with_reducible apply writeChCfg_ok
        with_reducible assumption
      · with_reducible apply commitCanCh_ok
        with_reducible assumption
    · extract_lets +onlyGivenNames -underBinder -merge -useContext x2
      clear_value x2
      split
      · with_reducible apply writeFltCfg_ok
        with_reducible assumption
      · with_reducible apply commitCanFlt_ok
        with_reducible assumption

/-- `commitIsthCmd` keeps. -/
theorem commitIsthCmd_ok {qq : List Instr} (v : Word) (s : State) (hs : Ok qq s) :
    Ok qq (commitIsthCmd v s) := by
  unfold commitIsthCmd
  split
  · with_reducible apply revive_ok
    with_reducible assumption
  · with_reducible apply isthArm_ok
    with_reducible assumption
  · with_reducible apply crateReset_ok
    with_reducible assumption
  · with_reducible apply isthClear_ok
    with_reducible assumption
  · with_reducible assumption

/-- `commitXferWord` keeps. -/
theorem commitXferWord_ok {qq : List Instr} (i key : Nat) (v : Word) (s : State) (hs : Ok qq s) :
    Ok qq (commitXferWord i key v s) := by
  unfold commitXferWord
  extract_lets +onlyGivenNames -underBinder -merge -useContext x1
  clear_value x1
  extract_lets +onlyGivenNames -underBinder -merge -useContext x2
  clear_value x2
  extract_lets +onlyGivenNames -underBinder -merge -useContext x3
  clear_value x3
  split
  · with_reducible apply refuseIsth_ok
    with_reducible assumption
  · split
    · with_reducible apply refuseIsth_ok
      with_reducible assumption
    · with_reducible apply plainWrite_ok
      with_reducible assumption

/-- `commitIsth` keeps. -/
theorem commitIsth_ok {qq : List Instr} (key : Nat) (v : Word) (s : State) (hs : Ok qq s) :
    Ok qq (commitIsth key v s) := by
  unfold commitIsth
  split
  · with_reducible apply commitIsthCmd_ok
    with_reducible assumption
  · split
    · with_reducible apply writeIntCfg_ok
      with_reducible assumption
    · split
      · extract_lets +onlyGivenNames -underBinder -merge -useContext x1
        clear_value x1
        split
        · with_reducible apply writeXferCtl_ok
          with_reducible assumption
        · with_reducible apply commitXferWord_ok
          with_reducible assumption
      · split
        · extract_lets +onlyGivenNames -underBinder -merge -useContext x2
          clear_value x2
          split
          · with_reducible apply writeWinCfg_ok
            with_reducible assumption
          · split
            · with_reducible apply refuseIsth_ok
              with_reducible assumption
            · with_reducible apply plainWrite_ok
              with_reducible assumption
        · with_reducible apply plainWrite_ok
          with_reducible assumption

/-- `commitHolm` keeps. -/
theorem commitHolm_ok {qq : List Instr} (key : Nat) (v : Word) (s : State) (hs : Ok qq s) :
    Ok qq (commitHolm key v s) := by
  unfold commitHolm
  extract_lets +onlyGivenNames -underBinder -merge -useContext x1
  clear_value x1
  split
  · split
    · with_reducible apply holmRearm_ok
      with_reducible assumption
    · with_reducible apply holmClearFault_ok
      with_reducible assumption
    · with_reducible assumption
  · split
    · with_reducible apply writeDriveSrc_ok
      with_reducible assumption
    · split
      · with_reducible apply writeHolmMap_ok
        with_reducible assumption
      · split
        · with_reducible apply writeConnCfgHolm_ok
          with_reducible assumption
        · split
          · with_reducible apply writeDoCfg_ok
            with_reducible assumption
          · with_reducible apply plainWrite_ok
            with_reducible assumption

/-- `commitMotion` keeps. -/
theorem commitMotion_ok {qq : List Instr} (key : Nat) (v : Word) (s : State) (hs : Ok qq s) :
    Ok qq (commitMotion key v s) := by
  unfold commitMotion
  extract_lets +onlyGivenNames -underBinder -merge -useContext x1
  clear_value x1
  extract_lets +onlyGivenNames -underBinder -merge -useContext x2
  clear_value x2
  split
  · with_reducible apply writeMotionCfg_ok
    with_reducible assumption
  · split
    · with_reducible apply refuseMotion_ok
      with_reducible assumption
    · with_reducible apply writeMotion_ok
      with_reducible assumption

/-- `commitPair` keeps. -/
theorem commitPair_ok {qq : List Instr} (key : Nat) (v : Word) (s : State) (hs : Ok qq s) :
    Ok qq (commitPair key v s) := by
  unfold commitPair
  split
  · split
    · with_reducible apply pairHandover_ok
      with_reducible assumption
    · with_reducible apply setReg_ok
      with_reducible assumption
    · with_reducible assumption
  · with_reducible apply plainWrite_ok
    with_reducible assumption

/-- `commitFault` keeps. -/
theorem commitFault_ok {qq : List Instr} (key : Nat) (v : Word) (s : State) (hs : Ok qq s) :
    Ok qq (commitFault key v s) := by
  unfold commitFault
  split
  · split
    · with_reducible apply clearLevel_ok
      with_reducible assumption
    · with_reducible apply clearCounts_ok
      with_reducible assumption
    · with_reducible assumption
  · split
    · with_reducible apply writeSevFloor_ok
      with_reducible assumption
    · split
      · with_reducible apply writeFaultTable_ok
        with_reducible assumption
      · with_reducible apply plainWrite_ok
        with_reducible assumption

/-- `commitRec` keeps. -/
theorem commitRec_ok {qq : List Instr} (v : Word) (s : State) (hs : Ok qq s) :
    Ok qq (commitRec v s) := by
  unfold commitRec
  split
  · with_reducible apply recCmdClear_ok
    with_reducible assumption
  · with_reducible assumption

/-- `svcCmdClose` keeps. -/
theorem svcCmdClose_ok {qq : List Instr} (s : State) (hs : Ok qq s) :
    Ok qq (svcCmdClose s) := by
  unfold svcCmdClose
  split
  · with_reducible apply svcShut_ok
    with_reducible assumption
  · with_reducible assumption

/-- `commitSvc` keeps. -/
theorem commitSvc_ok {qq : List Instr} (key : Nat) (v : Word) (s : State) (hs : Ok qq s) :
    Ok qq (commitSvc key v s) := by
  unfold commitSvc
  split
  · split
    · with_reducible apply svcCmdClose_ok
      with_reducible assumption
    · with_reducible assumption
  · with_reducible apply plainWrite_ok
    with_reducible assumption

/-- `commitImg` keeps. -/
theorem commitImg_ok {qq : List Instr} (key : Nat) (v : Word) (s : State) (hs : Ok qq s) :
    Ok qq (commitImg key v s) := by
  unfold commitImg
  split
  · with_reducible apply imgCommand_ok
    with_reducible assumption
  · with_reducible apply plainWrite_ok
    with_reducible assumption

/-- `clearFlags` keeps. -/
theorem clearFlags_ok {qq : List Instr} (key : Nat) (v : Word) (s : State) (hs : Ok qq s) :
    Ok qq (clearFlags key v s) := by
  unfold clearFlags
  split
  · split
    · with_reducible apply commitBanked_ok
      with_reducible assumption
    · with_reducible apply ok_foldl
      · intro a1 a2 h3
        with_reducible apply commitBanked_ok
        with_reducible assumption
      · with_reducible assumption
  · extract_lets +onlyGivenNames -underBinder -merge -useContext x4
    refine (?_ : Ok qq x4 → _) ?_
    on_goal 2 =>
      unfold x4
      with_reducible apply clearW1C_ok
      with_reducible assumption
    (clear_value x4; intro hx4)
    split
    · with_reducible apply setReg_ok
      with_reducible apply setReg_ok
      with_reducible assumption
    · split
      · with_reducible apply setBit_ok
        with_reducible assumption
      · with_reducible assumption

/-- `commitWrite` keeps. -/
theorem commitWrite_ok {qq : List Instr} (key : Nat) (v : Word) (s : State) (hs : Ok qq s) :
    Ok qq (commitWrite key v s) := by
  unfold commitWrite
  split
  · with_reducible assumption
  · split
    · with_reducible assumption
    · with_reducible apply clearFlags_ok
      with_reducible assumption
    · split
      · with_reducible apply commitMod_ok
        with_reducible assumption
      · with_reducible apply commitLane_ok
        with_reducible assumption
      · with_reducible apply commitChrono_ok
        with_reducible assumption
      · with_reducible apply commitRing_ok
        with_reducible assumption
      · with_reducible apply commitEvq_ok
        with_reducible assumption
      · with_reducible apply commitTask_ok
        with_reducible assumption
      · with_reducible apply commitTransit_ok
        with_reducible assumption
      · with_reducible apply commitNet_ok
        with_reducible assumption
      · with_reducible apply commitSafe_ok
        with_reducible assumption
      · with_reducible apply commitCan_ok
        with_reducible assumption
      · with_reducible apply commitIsth_ok
        with_reducible assumption
      · with_reducible apply commitHolm_ok
        with_reducible assumption
      · with_reducible apply commitMotion_ok
        with_reducible assumption
      · with_reducible apply commitPair_ok
        with_reducible assumption
      · with_reducible apply commitFault_ok
        with_reducible assumption
      · with_reducible apply commitRec_ok
        with_reducible assumption
      · with_reducible apply commitSvc_ok
        with_reducible assumption
      · with_reducible apply commitImg_ok
        with_reducible assumption
      · with_reducible apply plainWrite_ok
        with_reducible assumption
    · split
      · with_reducible apply commitMod_ok
        with_reducible assumption
      · with_reducible apply commitLane_ok
        with_reducible assumption
      · with_reducible apply commitChrono_ok
        with_reducible assumption
      · with_reducible apply commitRing_ok
        with_reducible assumption
      · with_reducible apply commitEvq_ok
        with_reducible assumption
      · with_reducible apply commitTask_ok
        with_reducible assumption
      · with_reducible apply commitTransit_ok
        with_reducible assumption
      · with_reducible apply commitNet_ok
        with_reducible assumption
      · with_reducible apply commitSafe_ok
        with_reducible assumption
      · with_reducible apply commitCan_ok
        with_reducible assumption
      · with_reducible apply commitIsth_ok
        with_reducible assumption
      · with_reducible apply commitHolm_ok
        with_reducible assumption
      · with_reducible apply commitMotion_ok
        with_reducible assumption
      · with_reducible apply commitPair_ok
        with_reducible assumption
      · with_reducible apply commitFault_ok
        with_reducible assumption
      · with_reducible apply commitRec_ok
        with_reducible assumption
      · with_reducible apply commitSvc_ok
        with_reducible assumption
      · with_reducible apply commitImg_ok
        with_reducible assumption
      · with_reducible apply plainWrite_ok
        with_reducible assumption

/-- `commitVoted` keeps. -/
theorem commitVoted_ok {qq : List Instr} (key : Nat) (v : Word) (s : State) (hs : Ok qq s) :
    Ok qq (commitVoted key v s) := by
  unfold commitVoted
  extract_lets +onlyGivenNames -underBinder -merge -useContext x1
  refine (?_ : Ok qq x1 → _) ?_
  on_goal 2 =>
    unfold x1
    with_reducible apply commitWrite_ok
    with_reducible assumption
  (clear_value x1; intro hx1)
  split
  · split
    · with_reducible apply commitWrite_ok
      with_reducible assumption
    · with_reducible assumption
  · with_reducible assumption

/-- `w1cWrite` keeps. -/
theorem w1cWrite_ok {qq : List Instr} (key : Nat) (v : Word) (s : State) (hs : Ok qq s) :
    Ok qq (w1cWrite key v s) := by
  unfold w1cWrite
  split
  · split
    · with_reducible apply clearFlags_ok
      with_reducible assumption
    · with_reducible assumption
  · with_reducible assumption

/-- `w1cClear` keeps. -/
theorem w1cClear_ok {qq : List Instr} (addr : BitVec 40) (v : Word) (s : State) (hs : Ok qq s) :
    Ok qq (w1cClear addr v s) := by
  unfold w1cClear
  split
  · with_reducible apply w1cWrite_ok
    with_reducible assumption
  · with_reducible assumption

end Sys2Proof.Machine
end

