-- ==== Sys2Proof/Laws/KeepCores.lean ====
section
/-!
SUPPORT. What the operations of Machine/Cores.lean keep: the canonical form of registers and memories, and the queue.
-/

namespace Sys2Proof.Machine

/-- `raiseTrap` keeps. -/
theorem raiseTrap_ok {qq : List Instr} (l : Lane) (w : Retire) (before : State) (s : State) (hs : Ok qq s) :
    Ok qq (raiseTrap l w before s) := by
  unfold raiseTrap
  split
  · with_reducible assumption
  · split
    · with_reducible apply raise_ok
      with_reducible assumption
    · with_reducible assumption
    · split
      · with_reducible apply poisonConsumed_ok
        with_reducible assumption
      · with_reducible assumption

/-- `laneStore` keeps. -/
theorem laneStore_ok {qq : List Instr} (l : Lane) (w : StoreWord) (s : State) (hs : Ok qq s) :
    Ok qq (laneStore l w s) := by
  unfold laneStore
  extract_lets +onlyGivenNames -underBinder -merge -useContext x1
  clear_value x1
  extract_lets +onlyGivenNames -underBinder -merge -useContext x2
  clear_value x2
  split
  · extract_lets +onlyGivenNames -underBinder -merge -useContext x3
    refine (?_ : Ok qq x3 → _) ?_
    on_goal 2 =>
      unfold x3
      with_reducible refine ok_dram ?_ _ (fun hm => writeBytes_wf hm _ _)
      with_reducible assumption
    (clear_value x3; intro hx3)
    split
    · with_reducible apply markDirty_ok
      with_reducible assumption
    · with_reducible assumption
  · split
    · with_reducible refine ok_sound ?_ (fun hm => writeBytes_wf hm _ _)
      with_reducible assumption
    · with_reducible assumption

/-- `retire` keeps. -/
theorem retire_ok {qq : List Instr} (l : Lane) (core : Fin 4) (w : Retire) (s : State) (hs : Ok qq s) :
    Ok qq (retire l core w s) := by
  unfold retire
  split
  · extract_lets +onlyGivenNames -underBinder -merge -useContext x1
    clear_value x1
    extract_lets +onlyGivenNames -underBinder -merge -useContext x2
    refine (?_ : Ok qq x2 → _) ?_
    on_goal 2 =>
      unfold x2
      with_reducible apply takeSignal_ok
      with_reducible assumption
    (clear_value x2; intro hx2)
    extract_lets +onlyGivenNames -underBinder -merge -useContext x3
    refine (?_ : Ok qq x3 → _) ?_
    on_goal 2 =>
      unfold x3
      with_reducible apply coreWrites_ok
      with_reducible apply ok_foldl
      · intro a5 a6 h7
        with_reducible apply foldCore_ok
        with_reducible assumption
      · with_reducible assumption
    (clear_value x3; intro hx3)
    extract_lets +onlyGivenNames -underBinder -merge -useContext x4
    refine (?_ : Ok qq x4 → _) ?_
    on_goal 2 =>
      unfold x4
      split
      · with_reducible apply laneStore_ok
        with_reducible assumption
      · with_reducible assumption
    (clear_value x4; intro hx4)
    with_reducible apply raiseTrap_ok
    with_reducible assumption
  · split
    · split
      · with_reducible assumption
      · with_reducible apply poisonConsumed_ok
        with_reducible assumption
    · with_reducible assumption

/-- `present` keeps. -/
theorem present_ok {qq : List Instr} (l : Lane) (core : Fin 4) (v : Dword) (rd : Fin 32) (machine : Bool) (s : State) (hs : Ok qq s) :
    Ok qq (present l core v rd machine s) := by
  unfold present
  split
  · extract_lets +onlyGivenNames -underBinder -merge -useContext x1
    clear_value x1
    extract_lets +onlyGivenNames -underBinder -merge -useContext x2
    clear_value x2
    extract_lets +onlyGivenNames -underBinder -merge -useContext x3
    refine (?_ : Ok qq x3 → _) ?_
    on_goal 2 =>
      unfold x3
      with_reducible apply takeSignal_ok
      with_reducible apply setAcc_ok
      with_reducible assumption
    (clear_value x3; intro hx3)
    extract_lets +onlyGivenNames -underBinder -merge -useContext x4
    refine (?_ : Ok qq x4 → _) ?_
    on_goal 2 =>
      unfold x4
      split
      · with_reducible assumption
      · with_reducible apply foldCore_ok
        with_reducible assumption
    (clear_value x4; intro hx4)
    extract_lets +onlyGivenNames -underBinder -merge -useContext x5
    refine (?_ : Ok qq x5 → _) ?_
    on_goal 2 =>
      unfold x5
      with_reducible apply coreWrites_ok
      with_reducible assumption
    (clear_value x5; intro hx5)
    split
    · with_reducible apply enterPresentation_ok
      with_reducible assumption
    · (with_reducible apply ok_mk; with_reducible assumption)
  · with_reducible assumption

/-- `presentStallEnd` keeps. -/
theorem presentStallEnd_ok {qq : List Instr} (l : Lane) (core : Fin 4) (s : State) (hs : Ok qq s) :
    Ok qq (presentStallEnd l core s) := by
  unfold presentStallEnd
  extract_lets +onlyGivenNames -underBinder -merge -useContext x1
  clear_value x1
  split
  · split
    · with_reducible apply enterPresentation_ok
      (with_reducible apply ok_mk; with_reducible assumption)
    · with_reducible assumption
  · with_reducible assumption

end Sys2Proof.Machine
end

