-- ==== Sys2Proof/Laws/KeepMeridian.lean ====
section
/-!
SUPPORT. What the operations of Machine/Meridian.lean keep: the canonical form of registers and memories, and the queue.
-/

namespace Sys2Proof.Machine

/-- `setQueueOf` keeps. -/
theorem setQueueOf_ok {qq : List Instr} (l : Lane) (q : List SetupReq) (s : State) (hs : Ok qq s) :
    Ok qq (setQueueOf l q s) := by
  unfold setQueueOf
  (with_reducible apply ok_mk; with_reducible assumption)

/-- `setOwed` keeps. -/
theorem setOwed_ok {qq : List Instr} (l : Lane) (o : List Owed) (s : State) (hs : Ok qq s) :
    Ok qq (setOwed l o s) := by
  unfold setOwed
  (with_reducible apply ok_mk; with_reducible assumption)

/-- `popOldest` keeps. -/
theorem popOldest_ok {qq : List Instr} (best : Option SetupReq) (openMt : Nat) (s : State) (hs : Ok qq s) :
    Ok qq (popOldest best openMt s) := by
  unfold popOldest
  extract_lets +onlyGivenNames -underBinder -merge -useContext x1
  clear_value x1
  with_reducible apply ok_foldl
  · intro a2 a3 h4
    split
    · extract_lets +onlyGivenNames -underBinder -merge -useContext x5
      refine (?_ : Ok qq x5 → _) ?_
      on_goal 2 =>
        unfold x5
        with_reducible apply setQueueOf_ok
        with_reducible assumption
      (clear_value x5; intro hx5)
      split
      · split
        · with_reducible apply rejoinFailed_ok
          · with_reducible assumption
          · intro a6 a7 a8 a9 a10 h11
            with_reducible apply raiseF_ok
            with_reducible assumption
        · with_reducible assumption
      · with_reducible assumption
    · with_reducible apply setOwed_ok
      with_reducible assumption
  · with_reducible assumption

/-- `setupNoMajority` keeps. -/
theorem setupNoMajority_ok {qq : List Instr} (rs : List (Lane × SetupReq)) (s : State) (hs : Ok qq s) :
    Ok qq (setupNoMajority rs s) := by
  unfold setupNoMajority
  split
  · with_reducible assumption
  · split
    with_reducible apply raise_ok
    with_reducible refine ok_snd (by assumption) ?_
    split
    · with_reducible assumption
    · split
      dsimp only
      with_reducible refine ok_snd (by assumption) ?_
      with_reducible apply takeFree_ok
      with_reducible assumption

/-- `completeSetup` keeps. -/
theorem completeSetup_ok {qq : List Instr} (rs : List (Lane × SetupReq)) (late : List Lane) (s : State) (hs : Ok qq s) :
    Ok qq (completeSetup rs late s) := by
  unfold completeSetup
  extract_lets +onlyGivenNames -underBinder -merge -useContext x1
  clear_value x1
  extract_lets +onlyGivenNames -underBinder -merge -useContext x2
  clear_value x2
  extract_lets +onlyGivenNames -underBinder -merge -useContext x3
  refine (?_ : Ok qq x3 → _) ?_
  on_goal 2 =>
    unfold x3
    with_reducible apply popOldest_ok
    with_reducible assumption
  (clear_value x3; intro hx3)
  split
  · with_reducible apply setupNoMajority_ok
    with_reducible assumption
  · extract_lets +onlyGivenNames -underBinder -merge -useContext x4
    clear_value x4
    extract_lets +onlyGivenNames -underBinder -merge -useContext x5
    refine (?_ : Ok qq x5 → _) ?_
    on_goal 2 =>
      unfold x5
      with_reducible apply raiseLanes_ok
      with_reducible assumption
    (clear_value x5; intro hx5)
    with_reducible apply raiseLanes_ok
    with_reducible assumption

/-- `settleVotes` keeps. -/
theorem settleVotes_ok {qq : List Instr} (n : Nat) (s : State) (hs : Ok qq s) : Ok qq (settleVotes n s) := by
  induction n generalizing s with
  | zero => exact hs
  | succ n ih =>
    unfold settleVotes
    extract_lets +onlyGivenNames -underBinder -merge -useContext x1
    clear_value x1
    extract_lets +onlyGivenNames -underBinder -merge -useContext x2
    clear_value x2
    split
    · with_reducible apply ih
      with_reducible apply completeSetup_ok
      with_reducible assumption
    · with_reducible assumption

/-- `commitSecond` keeps. -/
theorem commitSecond_ok {qq : List Instr} (l : Lane) (place : Nat) (r : SetupReq) (s : State) (hs : Ok qq s) :
    Ok qq (commitSecond l place r s) := by
  unfold commitSecond
  extract_lets +onlyGivenNames -underBinder -merge -useContext x1
  clear_value x1
  extract_lets +onlyGivenNames -underBinder -merge -useContext x2
  clear_value x2
  split
  · with_reducible assumption
  · extract_lets +onlyGivenNames -underBinder -merge -useContext x3
    refine (?_ : Ok qq x3 → _) ?_
    on_goal 2 =>
      unfold x3
      with_reducible apply ok_foldl
      · intro a4 a5 h6
        with_reducible apply setQueueOf_ok
        with_reducible assumption
      · with_reducible assumption
    (clear_value x3; intro hx3)
    split
    · with_reducible assumption
    · with_reducible apply commitVoted_ok
      with_reducible assumption

/-- `closePassed` keeps. -/
theorem closePassed_ok {qq : List Instr} (n : Nat) (s : State) (hs : Ok qq s) :
    Ok qq (closePassed n s) := by
  induction n generalizing s with
  | zero => exact hs
  | succ n ih =>
    unfold closePassed
    extract_lets +onlyGivenNames -underBinder -merge -useContext x1
    clear_value x1
    extract_lets +onlyGivenNames -underBinder -merge -useContext x2
    clear_value x2
    split
    · with_reducible apply ih
      with_reducible apply completeSetup_ok
      with_reducible assumption
    · with_reducible assumption

/-- `enterSetup` keeps. -/
theorem enterSetup_ok {qq : List Instr} (l : Lane) (r : SetupReq) (s : State) (hs : Ok qq s) :
    Ok qq (enterSetup l r s) := by
  unfold enterSetup
  extract_lets +onlyGivenNames -underBinder -merge -useContext x1
  refine (?_ : Ok qq x1 → _) ?_
  on_goal 2 =>
    unfold x1
    with_reducible apply closePassed_ok
    with_reducible assumption
  (clear_value x1; intro hx1)
  split
  · with_reducible assumption
  · split
    · extract_lets +onlyGivenNames -underBinder -merge -useContext x2
      refine (?_ : Ok qq x2 → _) ?_
      on_goal 2 =>
        unfold x2
        with_reducible apply setOwed_ok
        with_reducible assumption
      (clear_value x2; intro hx2)
      split
      · split
        · with_reducible apply rejoinFailed_ok
          · with_reducible assumption
          · intro a3 a4 a5 a6 a7 h8
            with_reducible apply raiseF_ok
            with_reducible assumption
        · with_reducible assumption
      · with_reducible assumption
    · extract_lets +onlyGivenNames -underBinder -merge -useContext x9
      clear_value x9
      extract_lets +onlyGivenNames -underBinder -merge -useContext x10
      refine (?_ : Ok qq x10 → _) ?_
      on_goal 2 =>
        unfold x10
        with_reducible apply setQueueOf_ok
        with_reducible assumption
      (clear_value x10; intro hx10)
      extract_lets +onlyGivenNames -underBinder -merge -useContext x11
      refine (?_ : Ok qq x11 → _) ?_
      on_goal 2 =>
        unfold x11
        split
        · with_reducible apply commitSecond_ok
          with_reducible assumption
        · with_reducible assumption
      (clear_value x11; intro hx11)
      with_reducible apply settleVotes_ok
      with_reducible assumption

/-- `queueSetup` keeps. -/
theorem queueSetup_ok {qq : List Instr} (l : Lane) (r : SetupReq) (s : State) (hs : Ok qq s) :
    Ok qq (queueSetup l r s) := by
  unfold queueSetup
  split
  · (with_reducible apply ok_mk; with_reducible assumption)
  · with_reducible apply enterSetup_ok
    with_reducible assumption

/-- `loneWrite` keeps. -/
theorem loneWrite_ok {qq : List Instr} (l writer : Lane) (key addr : Nat) (v : Word) (s : State) (hs : Ok qq s) :
    Ok qq (loneWrite l writer key addr v s) := by
  unfold loneWrite
  split
  · split
    · with_reducible apply commitBanked_ok
      with_reducible assumption
    · with_reducible assumption
  · split
    · with_reducible apply commitWrite_ok
      with_reducible assumption
    · with_reducible apply raise_ok
      with_reducible assumption

/-- `setupWrite` keeps. -/
theorem setupWrite_ok {qq : List Instr} (l : Lane) (core : Fin 4) (addr : BitVec 40) (v : Word) (s : State) (hs : Ok qq s) :
    Ok qq (setupWrite l core addr v s) := by
  unfold setupWrite
  extract_lets +onlyGivenNames -underBinder -merge -useContext x1
  clear_value x1
  split
  · with_reducible assumption
  · split
    · with_reducible apply mapAccess_ok
      with_reducible assumption
    · split
      · with_reducible apply loneWrite_ok
        with_reducible assumption
      · split
        · with_reducible apply queueSetup_ok
          with_reducible assumption
        · with_reducible assumption

/-- `closeObserved` keeps. -/
theorem closeObserved_ok {qq : List Instr} (s : State) (hs : Ok qq s) :
    Ok qq (closeObserved s) := by
  unfold closeObserved
  with_reducible apply ok_foldl
  · intro a1 a2 h3
    split
    · split
      · with_reducible apply rejoinFailed_ok
        · with_reducible assumption
        · intro a4 a5 a6 a7 a8 h9
          with_reducible apply raiseF_ok
          with_reducible assumption
      · with_reducible assumption
    · with_reducible assumption
  · with_reducible assumption

/-- `setupVoteClose` keeps. -/
theorem setupVoteClose_ok {qq : List Instr} (s : State) (hs : Ok qq s) :
    Ok qq (setupVoteClose s) := by
  unfold setupVoteClose
  extract_lets +onlyGivenNames -underBinder -merge -useContext x1
  refine (?_ : Ok qq x1 → _) ?_
  on_goal 2 =>
    unfold x1
    with_reducible apply settleVotes_ok
    with_reducible assumption
  (clear_value x1; intro hx1)
  extract_lets +onlyGivenNames -underBinder -merge -useContext x2
  clear_value x2
  extract_lets +onlyGivenNames -underBinder -merge -useContext x3
  clear_value x3
  extract_lets +onlyGivenNames -underBinder -merge -useContext x4
  refine (?_ : Ok qq x4 → _) ?_
  on_goal 2 =>
    unfold x4
    split
    · with_reducible apply settleVotes_ok
      with_reducible apply completeSetup_ok
      with_reducible assumption
    · with_reducible assumption
  (clear_value x4; intro hx4)
  with_reducible apply closeObserved_ok
  with_reducible assumption

/-- `setupStallEnd` keeps. -/
theorem setupStallEnd_ok {qq : List Instr} (l : Lane) (core : Fin 4) (s : State) (hs : Ok qq s) :
    Ok qq (setupStallEnd l core s) := by
  unfold setupStallEnd
  split
  · split
    · with_reducible apply enterSetup_ok
      (with_reducible apply ok_mk; with_reducible assumption)
    · with_reducible assumption
  · with_reducible assumption

end Sys2Proof.Machine
end

