-- ==== Sys2Proof/Laws/KeepService.lean ====
section
/-!
SUPPORT. What the operations of Machine/Service.lean keep: the canonical form of registers and memories, and the queue.
-/

namespace Sys2Proof.Machine

/-- `svcOpened` keeps. -/
theorem svcOpened_ok {qq : List Instr} (req : SvcReq) (op : Nat) (f : State → State) (s : State) (hs : Ok qq s) (hf : ∀ x, Ok qq x → Ok qq (f x)) :
    Ok qq (svcOpened req op f s) := by
  unfold svcOpened
  split
  · with_reducible apply hf
    with_reducible assumption
  · with_reducible apply answer_ok
    with_reducible assumption

/-- `svcMaintenance` keeps. -/
theorem svcMaintenance_ok {qq : List Instr} (req : SvcReq) (op : Nat) (f : State → State) (s : State) (hs : Ok qq s) (hf : ∀ x, Ok qq x → Ok qq (f x)) :
    Ok qq (svcMaintenance req op f s) := by
  unfold svcMaintenance
  with_reducible apply svcOpened_ok
  · with_reducible assumption
  · intro a1 h2
    split
    · with_reducible apply hf
      with_reducible assumption
    · with_reducible apply answer_ok
      with_reducible assumption

/-- `svcInfo` keeps. -/
theorem svcInfo_ok {qq : List Instr} (req : SvcReq) (s : State) (hs : Ok qq s) :
    Ok qq (svcInfo req s) := by
  unfold svcInfo
  with_reducible apply answer_ok
  with_reducible assumption

/-- `svcChallenge` keeps. -/
theorem svcChallenge_ok {qq : List Instr} (req : SvcReq) (s : State) (hs : Ok qq s) :
    Ok qq (svcChallenge req s) := by
  unfold svcChallenge
  split
  · with_reducible apply answer_ok
    with_reducible assumption
  · split
    split
    extract_lets +onlyGivenNames -underBinder -merge -useContext x1
    clear_value x1
    extract_lets +onlyGivenNames -underBinder -merge -useContext x2
    clear_value x2
    extract_lets +onlyGivenNames -underBinder -merge -useContext x3
    refine (?_ : Ok qq x3 → _) ?_
    on_goal 2 =>
      unfold x3
      with_reducible apply ok_mk
      with_reducible refine ok_snd (by assumption) ?_
      with_reducible apply takeFree_ok
      with_reducible refine ok_snd (by assumption) ?_
      with_reducible apply takeFree_ok
      with_reducible assumption
    (clear_value x3; intro hx3)
    with_reducible apply answer_ok
    with_reducible assumption

/-- `openSuccess` keeps. -/
theorem openSuccess_ok {qq : List Instr} (req : SvcReq) (method : Byte) (s : State) (hs : Ok qq s) :
    Ok qq (openSuccess req method s) := by
  unfold openSuccess
  extract_lets +onlyGivenNames -underBinder -merge -useContext x1
  refine (?_ : Ok qq x1 → _) ?_
  on_goal 2 =>
    unfold x1
    with_reducible apply setFld_ok
    with_reducible apply setFld_ok
    with_reducible apply setFld_ok
    with_reducible assumption
  (clear_value x1; intro hx1)
  extract_lets +onlyGivenNames -underBinder -merge -useContext x2
  clear_value x2
  extract_lets +onlyGivenNames -underBinder -merge -useContext x3
  refine (?_ : Ok qq x3 → _) ?_
  on_goal 2 =>
    unfold x3
    (with_reducible apply ok_mk; with_reducible assumption)
  (clear_value x3; intro hx3)
  with_reducible apply answer_ok
  with_reducible apply raise_ok
  with_reducible assumption

/-- `openFailure` keeps. -/
theorem openFailure_ok {qq : List Instr} (req : SvcReq) (s : State) (hs : Ok qq s) :
    Ok qq (openFailure req s) := by
  unfold openFailure
  extract_lets +onlyGivenNames -underBinder -merge -useContext x1
  clear_value x1
  extract_lets +onlyGivenNames -underBinder -merge -useContext x2
  refine (?_ : Ok qq x2 → _) ?_
  on_goal 2 =>
    unfold x2
    with_reducible apply raise_ok
    with_reducible apply setFld_ok
    with_reducible assumption
  (clear_value x2; intro hx2)
  extract_lets +onlyGivenNames -underBinder -merge -useContext x3
  refine (?_ : Ok qq x3 → _) ?_
  on_goal 2 =>
    unfold x3
    split
    · with_reducible apply svcEnd_ok
      with_reducible assumption
    · with_reducible assumption
  (clear_value x3; intro hx3)
  extract_lets +onlyGivenNames -underBinder -merge -useContext x4
  refine (?_ : Ok qq x4 → _) ?_
  on_goal 2 =>
    unfold x4
    split
    · with_reducible assumption
    · with_reducible apply raise_ok
      with_reducible apply setFld_ok
      with_reducible apply setFld_ok
      with_reducible assumption
  (clear_value x4; intro hx4)
  with_reducible apply answer_ok
  with_reducible assumption

/-- `svcOpen` keeps. -/
theorem svcOpen_ok {qq : List Instr} (req : SvcReq) (method : Byte) (response : BitVec 256) (s : State) (hs : Ok qq s) :
    Ok qq (svcOpen req method response s) := by
  unfold svcOpen
  split
  · with_reducible apply answer_ok
    with_reducible assumption
  · split
    · with_reducible apply answer_ok
      with_reducible assumption
    · split
      · with_reducible apply answer_ok
        with_reducible assumption
      · split
        · with_reducible apply answer_ok
          with_reducible assumption
        · extract_lets +onlyGivenNames -underBinder -merge -useContext x1
          clear_value x1
          extract_lets +onlyGivenNames -underBinder -merge -useContext x2
          clear_value x2
          extract_lets +onlyGivenNames -underBinder -merge -useContext x3
          refine (?_ : Ok qq x3 → _) ?_
          on_goal 2 =>
            unfold x3
            (with_reducible apply ok_mk; with_reducible assumption)
          (clear_value x3; intro hx3)
          split
          · with_reducible apply openSuccess_ok
            with_reducible assumption
          · with_reducible apply openFailure_ok
            with_reducible assumption

/-- `svcClose` keeps. -/
theorem svcClose_ok {qq : List Instr} (req : SvcReq) (s : State) (hs : Ok qq s) :
    Ok qq (svcClose req s) := by
  unfold svcClose
  with_reducible apply svcOpened_ok
  · with_reducible assumption
  · intro a1 h2
    with_reducible apply answer_ok
    with_reducible apply svcShut_ok
    with_reducible assumption

/-- `svcSetSecret` keeps. -/
theorem svcSetSecret_ok {qq : List Instr} (req : SvcReq) (method : Byte) (salt : BitVec 128) (key : BitVec 256) (s : State) (hs : Ok qq s) :
    Ok qq (svcSetSecret req method salt key s) := by
  unfold svcSetSecret
  with_reducible apply svcMaintenance_ok
  · with_reducible assumption
  · intro a1 h2
    split
    · with_reducible apply answer_ok
      (with_reducible apply ok_mk; with_reducible assumption)
    · split
      · with_reducible apply answer_ok
        (with_reducible apply ok_mk; with_reducible assumption)
      · with_reducible apply answer_ok
        with_reducible assumption

/-- `svcKeyEnrol` keeps. -/
theorem svcKeyEnrol_ok {qq : List Instr} (req : SvcReq) (index : Byte) (key : BitVec 256) (s : State) (hs : Ok qq s) :
    Ok qq (svcKeyEnrol req index key s) := by
  unfold svcKeyEnrol
  with_reducible apply svcMaintenance_ok
  · with_reducible assumption
  · intro a1 h2
    split
    · with_reducible apply answer_ok
      (with_reducible apply ok_mk; with_reducible assumption)
    · with_reducible apply answer_ok
      with_reducible assumption

/-- `liveReg` keeps. -/
theorem liveReg_ok {qq : List Instr} (k : Nat) (s : State) (hs : Ok qq s) :
    Ok qq (liveReg k s).2 := by
  unfold liveReg
  split
  · with_reducible assumption
  · split
    · with_reducible assumption
    · split
      · extract_lets +onlyGivenNames -underBinder -merge -useContext x1
        clear_value x1
        extract_lets +onlyGivenNames -underBinder -merge -useContext x2
        clear_value x2
        split
        · with_reducible assumption
        · split
          dsimp only
          with_reducible refine ok_snd (by assumption) ?_
          with_reducible apply takeFree_ok
          with_reducible assumption
      · with_reducible assumption

/-- `liveRegs` keeps. -/
theorem liveRegs_ok {qq : List Instr} (n k : Nat) (s : State) (hs : Ok qq s) : Ok qq (liveRegs n k s).2 := by
  induction n generalizing k s with
  | zero => exact hs
  | succ n ih =>
    unfold liveRegs
    split
    split
    dsimp only
    with_reducible refine ok_snd (by assumption) ?_
    with_reducible apply ih
    with_reducible refine ok_snd (by assumption) ?_
    with_reducible apply liveReg_ok
    with_reducible assumption

/-- `svcRegRead` keeps. -/
theorem svcRegRead_ok {qq : List Instr} (req : SvcReq) (s : State) (hs : Ok qq s) :
    Ok qq (svcRegRead req s) := by
  unfold svcRegRead
  with_reducible apply svcOpened_ok
  · with_reducible assumption
  · intro a1 h2
    extract_lets +onlyGivenNames -underBinder -merge -useContext x3
    clear_value x3
    split
    · with_reducible apply answer_ok
      with_reducible assumption
    · split
      with_reducible apply answerCount_ok
      with_reducible refine ok_snd (by assumption) ?_
      with_reducible apply liveRegs_ok
      with_reducible assumption

/-- `writeRegs` keeps. -/
theorem writeRegs_ok {qq : List Instr} (req : SvcReq) (vs : List Word) (k : Nat) (s : State) (hs : Ok qq s) :
    Ok qq (writeRegs req vs k s) := by
  induction vs generalizing k s with
  | nil => exact hs
  | cons v vs ih =>
    unfold writeRegs
    split
    · extract_lets +onlyGivenNames -underBinder -merge -useContext x1
      clear_value x1
      extract_lets +onlyGivenNames -underBinder -merge -useContext x2
      refine (?_ : Ok qq x2 → _) ?_
      on_goal 2 =>
        unfold x2
        (with_reducible apply ok_mk; with_reducible assumption)
      (clear_value x2; intro hx2)
      with_reducible apply ih
      with_reducible apply raise_ok
      with_reducible apply commitWrite_ok
      with_reducible assumption
    · with_reducible assumption

/-- `svcRegWrite` keeps. -/
theorem svcRegWrite_ok {qq : List Instr} (req : SvcReq) (vs : List Word) (s : State) (hs : Ok qq s) :
    Ok qq (svcRegWrite req vs s) := by
  unfold svcRegWrite
  with_reducible apply svcOpened_ok
  · with_reducible assumption
  · intro a1 h2
    split
    · with_reducible apply answer_ok
      with_reducible assumption
    · split
      · with_reducible apply answer_ok
        with_reducible assumption
      · with_reducible apply answer_ok
        with_reducible apply writeRegs_ok
        with_reducible assumption

/-- `svcImg` keeps. -/
theorem svcImg_ok {qq : List Instr} (req : SvcReq) (arg len : Word) (bootSet : List Word) (cmd : Word) (s : State) (hs : Ok qq s) :
    Ok qq (svcImg req arg len bootSet cmd s) := by
  unfold svcImg
  with_reducible apply svcOpened_ok
  · with_reducible assumption
  · intro a1 h2
    extract_lets +onlyGivenNames -underBinder -merge -useContext x3
    clear_value x3
    split
    · with_reducible apply answer_ok
      with_reducible assumption
    · split
      · with_reducible apply answer_ok
        with_reducible assumption
      · extract_lets +onlyGivenNames -underBinder -merge -useContext x4
        refine (?_ : Ok qq x4 → _) ?_
        on_goal 2 =>
          unfold x4
          with_reducible apply imgCommand_ok
          with_reducible assumption
        (clear_value x4; intro hx4)
        (with_reducible apply ok_mk; with_reducible assumption)

/-- `svcImgData` keeps. -/
theorem svcImgData_ok {qq : List Instr} (req : SvcReq) (data : List Byte) (s : State) (hs : Ok qq s) :
    Ok qq (svcImgData req data s) := by
  unfold svcImgData
  with_reducible apply svcOpened_ok
  · with_reducible assumption
  · intro a1 h2
    split
    · with_reducible apply answer_ok
      with_reducible assumption
    · extract_lets +onlyGivenNames -underBinder -merge -useContext x3
      clear_value x3
      split
      · with_reducible apply answer_ok
        with_reducible assumption
      · split
        · with_reducible apply answer_ok
          with_reducible assumption
        · with_reducible apply answer_ok
          with_reducible apply appendSlot_ok
          with_reducible assumption

/-- `imgComplete` keeps. -/
theorem imgComplete_ok {qq : List Instr} (s : State) (hs : Ok qq s) :
    Ok qq (imgComplete s) := by
  unfold imgComplete
  split
  · with_reducible assumption
  · split
    · with_reducible assumption
    · split
      extract_lets +onlyGivenNames -underBinder -merge -useContext x1
      clear_value x1
      extract_lets +onlyGivenNames -underBinder -merge -useContext x2
      refine (?_ : Ok qq x2 → _) ?_
      on_goal 2 =>
        unfold x2
        with_reducible apply domRelease_ok
        with_reducible apply setBit_ok
        with_reducible apply ok_mk
        with_reducible refine ok_snd2 (by assumption) ?_
        with_reducible apply imgAct_ok
        with_reducible assumption
      (clear_value x2; intro hx2)
      extract_lets +onlyGivenNames -underBinder -merge -useContext x3
      refine (?_ : Ok qq x3 → _) ?_
      on_goal 2 =>
        unfold x3
        split
        · with_reducible apply raise_ok
          with_reducible apply imgResult_ok
          with_reducible assumption
        · with_reducible apply imgRefuse_ok
          with_reducible assumption
      (clear_value x3; intro hx3)
      split
      · with_reducible apply answer_ok
        (with_reducible apply ok_mk; with_reducible assumption)
      · with_reducible assumption

/-- `svcRestart` keeps. -/
theorem svcRestart_ok {qq : List Instr} (req : SvcReq) (s : State) (hs : Ok qq s) :
    Ok qq (svcRestart req s) := by
  unfold svcRestart
  with_reducible apply svcOpened_ok
  · with_reducible assumption
  · intro a1 h2
    split
    · with_reducible apply answer_ok
      with_reducible assumption
    · with_reducible apply restartCmd_ok
      with_reducible apply answer_ok
      with_reducible assumption

/-- `svcUnknown` keeps. -/
theorem svcUnknown_ok {qq : List Instr} (req : SvcReq) (op : Byte) (s : State) (hs : Ok qq s) :
    Ok qq (svcUnknown req op s) := by
  unfold svcUnknown
  split
  · with_reducible assumption
  · with_reducible apply svcServe_ok
    · with_reducible assumption
    · intro a1 h2
      with_reducible apply answer_ok
      with_reducible assumption

/-- `svcIdle` keeps. -/
theorem svcIdle_ok {qq : List Instr} (s : State) (hs : Ok qq s) :
    Ok qq (svcIdle s) := by
  unfold svcIdle
  split
  · with_reducible apply svcShut_ok
    with_reducible assumption
  · with_reducible assumption

/-- `svcLinkUp` keeps. -/
theorem svcLinkUp_ok {qq : List Instr} (s : State) (hs : Ok qq s) :
    Ok qq (svcLinkUp s) := by
  unfold svcLinkUp
  split
  · (with_reducible apply ok_mk; with_reducible assumption)
  · with_reducible assumption

/-- `nonceExpiry` keeps. -/
theorem nonceExpiry_ok {qq : List Instr} (s : State) (hs : Ok qq s) :
    Ok qq (nonceExpiry s) := by
  unfold nonceExpiry
  split
  · (with_reducible apply ok_mk; with_reducible assumption)
  · with_reducible assumption

/-- `lockoutEnd` keeps. -/
theorem lockoutEnd_ok {qq : List Instr} (s : State) (hs : Ok qq s) :
    Ok qq (lockoutEnd s) := by
  unfold lockoutEnd
  split
  · with_reducible apply setFld_ok
    with_reducible apply setFld_ok
    with_reducible assumption
  · with_reducible assumption

end Sys2Proof.Machine
end

