-- ==== Sys2Proof/Laws/KeepJtag.lean ====
section
/-!
SUPPORT. What the operations of Machine/Jtag.lean keep: the canonical form of registers and memories, and the queue.
-/

namespace Sys2Proof.Machine

/-- `captureCells` keeps. -/
theorem captureCells_ok {qq : List Instr} (s : State) (hs : Ok qq s) :
    Ok qq (captureCells s).2 := by
  unfold captureCells
  split
  extract_lets +onlyGivenNames -underBinder -merge -useContext x1
  clear_value x1
  extract_lets +onlyGivenNames -underBinder -merge -useContext x2
  clear_value x2
  extract_lets +onlyGivenNames -underBinder -merge -useContext x3
  clear_value x3
  dsimp only
  with_reducible refine ok_snd (by assumption) ?_
  with_reducible apply freeBytes_ok
  with_reducible assumption

/-- `tapUpdate` keeps. -/
theorem tapUpdate_ok {qq : List Instr} (code : Byte) (s : State) (hs : Ok qq s) :
    Ok qq (tapUpdate code s) := by
  unfold tapUpdate
  extract_lets +onlyGivenNames -underBinder -merge -useContext x1
  refine (?_ : Ok qq x1 → _) ?_
  on_goal 2 =>
    unfold x1
    with_reducible apply emitOut_ok
    with_reducible assumption
  (clear_value x1; intro hx1)
  extract_lets +onlyGivenNames -underBinder -merge -useContext x2
  refine (?_ : Ok qq x2 → _) ?_
  on_goal 2 =>
    unfold x2
    split
    · with_reducible apply scanRelease_ok
      with_reducible assumption
    · with_reducible assumption
  (clear_value x2; intro hx2)
  (with_reducible apply ok_mk; with_reducible assumption)

/-- `tapDrive` keeps. -/
theorem tapDrive_ok {qq : List Instr} (code : Byte) (s : State) (hs : Ok qq s) :
    Ok qq (tapDrive code s) := by
  unfold tapDrive
  split
  · with_reducible assumption
  · extract_lets +onlyGivenNames -underBinder -merge -useContext x1
    refine (?_ : Ok qq x1 → _) ?_
    on_goal 2 =>
      unfold x1
      with_reducible apply tapUpdate_ok
      with_reducible assumption
    (clear_value x1; intro hx1)
    split
    · extract_lets +onlyGivenNames -underBinder -merge -useContext x2
      refine (?_ : Ok qq x2 → _) ?_
      on_goal 2 =>
        unfold x2
        with_reducible apply setBit_ok
        with_reducible assumption
      (clear_value x2; intro hx2)
      with_reducible apply showScan_ok
      with_reducible apply settleOuts_ok
      · with_reducible assumption
      · intro a3 h4
        (with_reducible apply ok_mk; with_reducible assumption)
    · with_reducible apply raise_ok
      with_reducible assumption

/-- `samplePreload` keeps. -/
theorem samplePreload_ok {qq : List Instr} (cells : BitVec 257) (s : State) (hs : Ok qq s) :
    Ok qq (samplePreload cells s) := by
  unfold samplePreload
  split
  · split
    with_reducible apply emitOut_ok
    with_reducible apply ok_mk
    with_reducible refine ok_snd (by assumption) ?_
    with_reducible apply captureCells_ok
    with_reducible apply tapUpdate_ok
    with_reducible assumption
  · with_reducible assumption

/-- `jtagIdcode` keeps. -/
theorem jtagIdcode_ok {qq : List Instr} (s : State) (hs : Ok qq s) :
    Ok qq (jtagIdcode s) := by
  unfold jtagIdcode
  split
  · with_reducible apply emitOut_ok
    with_reducible apply tapUpdate_ok
    with_reducible assumption
  · with_reducible assumption

/-- `jtagBypass` keeps. -/
theorem jtagBypass_ok {qq : List Instr} (code : Byte) (s : State) (hs : Ok qq s) :
    Ok qq (jtagBypass code s) := by
  unfold jtagBypass
  split
  · with_reducible apply tapUpdate_ok
    with_reducible assumption
  · with_reducible assumption

end Sys2Proof.Machine
end

