-- ==== Sys2Proof/Laws/Raise.lean ====
section
/-!
SUPPORT. What the detection of an event can change (R344 to R353): every function that raising one calls stays within
`OnlyEvents`.
-/

namespace Sys2Proof.Machine

/-- A state stands to itself. -/
theorem ev_refl (s : State) : OnlyEvents s s := ⟨fun _ _ => rfl, rfl⟩

/-- Changes of what events may change. -/
theorem ev_mk {s0 s : State} (h : OnlyEvents s0 s) (fm' : FaultSt) (evq' : EvqSt) (recQ' : List Record) (recorder' : RecSt)
    (lanes' : PerLane LaneSt) (meridian' : Meridian) (restart' : RestartSt) (force' : ForceSt) (pair' : PairSt) (net' : NetSt)
    (can' : Tab CanCh) (isth' : IsthSt) (out' : List Out) (freeCount' : Nat) :
    OnlyEvents s0 { s with
      fm := fm', evq := evq', recQ := recQ', recorder := recorder', lanes := lanes',
      meridian := meridian', restart := restart', force := force', pair := pair', net := net', can := can', isth := isth', out := out', freeCount := freeCount' } := by
  obtain ⟨h1, h2⟩ := h
  refine ⟨h1, ?_⟩
  rw [h2]

/-- One run of events after another. -/
theorem ev_trans {a b c : State} (h : OnlyEvents a b) (k : OnlyEvents b c) : OnlyEvents a c := by
  obtain ⟨h1, h2⟩ := h
  obtain ⟨k1, k2⟩ := k
  refine ⟨fun i hi => (k1 i hi).trans (h1 i hi), ?_⟩
  rw [k2, h2]

/-- A register of `eventRegs` written. -/
theorem setReg_ev {s0 s : State} (h : OnlyEvents s0 s) (k : Nat) (v : Word) (hk : k ∈ eventRegs) : OnlyEvents s0 (setReg s k v) := by
  obtain ⟨h1, h2⟩ := h
  refine ⟨fun j hj => ?_, ?_⟩
  · rw [← h1 j hj]
    exact tget_tset_other _ _ _ (fun (e : j = k) => hj (by rw [e]; exact hk)) _
  · unfold setReg
    rw [h2]

/-- A fold over a list. -/
theorem ev_foldl {s0 : State} {α : Type} {f : State → α → State} (k : ∀ s a, OnlyEvents s0 s → OnlyEvents s0 (f s a)) (l : List α)
    {s : State} (h : OnlyEvents s0 s) : OnlyEvents s0 (l.foldl f s) := by
  induction l generalizing s with
  | nil => exact h
  | cons a r ih => exact ih (k s a h)

/-- The second part of an answer. -/
theorem ev_snd {s0 : State} {α : Type} {p : α × State} {a : α} {t : State} (hp : p = (a, t)) (h : OnlyEvents s0 p.2) :
    OnlyEvents s0 t := by
  rw [hp] at h
  exact h

/-- The first part of an answer. -/
theorem ev_fst {s0 : State} {α : Type} {p : State × α} {a : α} {t : State} (hp : p = (t, a)) (h : OnlyEvents s0 p.1) :
    OnlyEvents s0 t := by
  rw [hp] at h
  exact h

/-- `setFld` stays within. -/
theorem setFld_ev {s0 s : State} (h : OnlyEvents s0 s) (k hi lo v : Nat) (hk : k ∈ eventRegs) :
    OnlyEvents s0 (setFld s k hi lo v) := setReg_ev h _ _ hk

/-- `setBit` stays within. -/
theorem setBit_ev {s0 s : State} (h : OnlyEvents s0 s) (k i : Nat) (b : Bool) (hk : k ∈ eventRegs) :
    OnlyEvents s0 (setBit s k i b) := setReg_ev h _ _ hk

/-- `satAdd` stays within. -/
theorem satAdd_ev {s0 s : State} (h : OnlyEvents s0 s) (k hi lo n : Nat) (hk : k ∈ eventRegs) :
    OnlyEvents s0 (satAdd s k hi lo n) := setReg_ev h _ _ hk

/-- `takeFree` stays within. -/
theorem takeFree_ev {s0 : State} (s : State) (hs : OnlyEvents s0 s) :
    OnlyEvents s0 (takeFree s).2 := by
  unfold takeFree
  dsimp only
  (with_reducible apply ev_mk; with_reducible assumption)

/-- `emitOut` stays within. -/
theorem emitOut_ev {s0 : State} (s : State) (o : Out) (hs : OnlyEvents s0 s) :
    OnlyEvents s0 (emitOut s o) := by
  unfold emitOut
  (with_reducible apply ev_mk; with_reducible assumption)

/-- `recCount` stays within. -/
theorem recCount_ev {s0 : State} (k : Nat) (s : State) (hs : OnlyEvents s0 s) :
    OnlyEvents s0 (recCount k s) := by
  unfold recCount
  extract_lets +onlyGivenNames -underBinder -merge -useContext x1
  clear_value x1
  extract_lets +onlyGivenNames -underBinder -merge -useContext x2
  clear_value x2
  (with_reducible apply ev_mk; with_reducible assumption)

/-- `putLaneState` stays within. -/
theorem putLaneState_ev {s0 : State} (s : State) (l : Lane) (st : LaneState) (hs : OnlyEvents s0 s) :
    OnlyEvents s0 (putLaneState s l st) := by
  unfold putLaneState
  with_reducible apply setFld_ev
  · with_reducible assumption
  · decide

/-- `showIsth` stays within. -/
theorem showIsth_ev {s0 : State} (s : State) (hs : OnlyEvents s0 s) :
    OnlyEvents s0 (showIsth s) := by
  unfold showIsth
  extract_lets +onlyGivenNames -underBinder -merge -useContext x1
  refine (?_ : OnlyEvents s0 x1 → _) ?_
  on_goal 2 =>
    unfold x1
    with_reducible apply setFld_ev
    · with_reducible apply setFld_ev
      · with_reducible assumption
      · decide
    · decide
  (clear_value x1; intro hx1)
  with_reducible apply setBit_ev
  · with_reducible assumption
  · decide

/-- `setVotes` stays within. -/
theorem setVotes_ev {s0 : State} (s : State) (l : List WinVote) (hs : OnlyEvents s0 s) :
    OnlyEvents s0 (setVotes s l) := by
  unfold setVotes
  with_reducible apply showIsth_ev
  (with_reducible apply ev_mk; with_reducible assumption)

/-- `dropDead` stays within. -/
theorem dropDead_ev {s0 : State} (s : State) (hs : OnlyEvents s0 s) :
    OnlyEvents s0 (dropDead s) := by
  unfold dropDead
  with_reducible apply showIsth_ev
  (with_reducible apply ev_mk; with_reducible assumption)

/-- `dropTold` stays within. -/
theorem dropTold_ev {s0 : State} (s : State) (hs : OnlyEvents s0 s) :
    OnlyEvents s0 (dropTold s) := by
  unfold dropTold
  with_reducible apply dropDead_ev
  with_reducible apply setVotes_ev
  with_reducible assumption

/-- `dropAccesses` stays within. -/
theorem dropAccesses_ev {s0 : State} (l : Lane) (s : State) (hs : OnlyEvents s0 s) :
    OnlyEvents s0 (dropAccesses l s) := by
  unfold dropAccesses
  (with_reducible apply ev_mk; with_reducible assumption)

/-- `setLane` stays within. -/
theorem setLane_ev {s0 : State} (s : State) (l : Lane) (x : LaneSt) (hs : OnlyEvents s0 s) :
    OnlyEvents s0 (setLane s l x) := by
  unfold setLane
  (with_reducible apply ev_mk; with_reducible assumption)

/-- `setPending` stays within. -/
theorem setPending_ev {s0 : State} (s : State) (l : List Record) (hs : OnlyEvents s0 s) :
    OnlyEvents s0 (setPending s l) := by
  unfold setPending
  with_reducible apply setFld_ev
  · with_reducible apply setFld_ev
    · (with_reducible apply ev_mk; with_reducible assumption)
    · decide
  · decide

/-- `showOverflow` stays within. -/
theorem showOverflow_ev {s0 : State} (s : State) (h : OnlyEvents s0 s) : OnlyEvents s0 (showOverflow s) := by
  unfold showOverflow
  exact setBit_ev (setBit_ev (setBit_ev (setBit_ev (setFld_ev (setFld_ev h _ _ _ _ (by decide)) _ _ _ _ (by decide))
    _ _ _ (by decide)) _ _ _ (by decide)) _ _ _ (by decide)) _ _ _ (by decide)

/-- `countRecord` stays within. -/
theorem countRecord_ev {s0 : State} (s : State) (q : Nat) (hs : OnlyEvents s0 s) :
    OnlyEvents s0 (countRecord s q).2 := by
  unfold countRecord
  extract_lets +onlyGivenNames -underBinder -merge -useContext x1
  clear_value x1
  dsimp only
  (with_reducible apply ev_mk; with_reducible assumption)

/-- `toCounters` stays within. -/
theorem toCounters_ev {s0 : State} (s : State) (q : Nat) (r : Record) (hs : OnlyEvents s0 s) :
    OnlyEvents s0 (toCounters s q r) := by
  unfold toCounters
  extract_lets +onlyGivenNames -underBinder -merge -useContext x1
  clear_value x1
  extract_lets +onlyGivenNames -underBinder -merge -useContext x2
  clear_value x2
  extract_lets +onlyGivenNames -underBinder -merge -useContext x3
  clear_value x3
  extract_lets +onlyGivenNames -underBinder -merge -useContext x4
  refine (?_ : OnlyEvents s0 x4 → _) ?_
  on_goal 2 =>
    unfold x4
    split
    · (with_reducible apply ev_mk; with_reducible assumption)
    · (with_reducible apply ev_mk; with_reducible assumption)
  (clear_value x4; intro hx4)
  with_reducible apply showOverflow_ev
  with_reducible apply setBit_ev
  · with_reducible assumption
  · decide

/-- `freeEntry` stays within. -/
theorem freeEntry_ev {s0 : State} (r : Record) (s : State) (hs : OnlyEvents s0 s) :
    OnlyEvents s0 (freeEntry r s) := by
  unfold freeEntry
  split
  · split
    · with_reducible apply showIsth_ev
      (with_reducible apply ev_mk; with_reducible assumption)
    · with_reducible assumption
  · with_reducible assumption

/-- `pushPending` stays within. -/
theorem pushPending_ev {s0 : State} (s : State) (r : Record) (hs : OnlyEvents s0 s) : OnlyEvents s0 (pushPending s r).1 := by
  have k : ∀ (t : State) (r : Record), OnlyEvents s0 t →
      OnlyEvents s0 (freeEntry r (setBit (toCounters (countRecord t (routeQueue t r.code r.sev)).2
        (routeQueue t r.code r.sev) r) Reg.faultError 3 true)) :=
    fun t r h => freeEntry_ev _ _ (setBit_ev (toCounters_ev _ _ _ (countRecord_ev _ _ h)) _ _ _ (by decide))
  unfold pushPending
  split
  · exact setPending_ev _ _ hs
  · split
    · exact k _ r hs
    · split
      · split
        · exact setPending_ev _ _ (k _ _ hs)
        · exact k _ r hs
      · exact k _ r hs

/-- `raiseLevel` stays within. -/
theorem raiseLevel_ev {s0 : State} (s : State) (code : Nat) (r : Reaction) (hs : OnlyEvents s0 s) :
    OnlyEvents s0 (raiseLevel s code r) := by
  unfold raiseLevel
  split
  · extract_lets +onlyGivenNames -underBinder -merge -useContext x1
    refine (?_ : OnlyEvents s0 x1 → _) ?_
    on_goal 2 =>
      unfold x1
      with_reducible apply setFld_ev
      · with_reducible assumption
      · decide
    (clear_value x1; intro hx1)
    with_reducible apply setReg_ev
    · with_reducible assumption
    · decide
  · with_reducible assumption

/-- `queueRec` stays within. -/
theorem queueRec_ev {s0 : State} (r : Record) (s : State) (hs : OnlyEvents s0 s) :
    OnlyEvents s0 (queueRec r s) := by
  unfold queueRec
  extract_lets +onlyGivenNames -underBinder -merge -useContext x1
  clear_value x1
  with_reducible apply setFld_ev
  · (with_reducible apply ev_mk; with_reducible assumption)
  · decide

/-- `applyStatus` stays within. -/
theorem applyStatus_ev {s0 : State} (s : State) (rec' : Record) (hs : OnlyEvents s0 s) :
    OnlyEvents s0 (applyStatus s rec') := by
  unfold applyStatus
  extract_lets +onlyGivenNames -underBinder -merge -useContext x1
  clear_value x1
  extract_lets +onlyGivenNames -underBinder -merge -useContext x2
  refine (?_ : OnlyEvents s0 x2 → _) ?_
  on_goal 2 =>
    unfold x2
    split
    · with_reducible apply setBit_ev
      · with_reducible apply queueRec_ev
        with_reducible assumption
      · decide
    · with_reducible assumption
  (clear_value x2; intro hx2)
  extract_lets +onlyGivenNames -underBinder -merge -useContext x3
  refine (?_ : OnlyEvents s0 x3 → _) ?_
  on_goal 2 =>
    unfold x3
    split
    · with_reducible apply setBit_ev
      · with_reducible assumption
      · decide
    · with_reducible assumption
  (clear_value x3; intro hx3)
  with_reducible apply raiseLevel_ev
  with_reducible assumption

/-- `stopChrono` stays within. -/
theorem stopChrono_ev {s0 : State} (s : State) (hs : OnlyEvents s0 s) :
    OnlyEvents s0 (stopChrono s) := by
  unfold stopChrono
  split
  · with_reducible apply setBit_ev
    · (with_reducible apply ev_mk; with_reducible assumption)
    · decide
  · with_reducible assumption

/-- `mstOut` stays within. -/
theorem mstOut_ev {s0 : State} (s : State) (m : MstLevel) (hs : OnlyEvents s0 s) :
    OnlyEvents s0 (mstOut s m) := by
  unfold mstOut
  with_reducible apply setFld_ev
  · with_reducible assumption
  · decide

/-- `changeModState` stays within. -/
theorem changeModState_ev {s0 : State} (rz : RaiseFn) (new : ModState) (s : State) (hs : OnlyEvents s0 s) (hrz : ∀ e a b c x, OnlyEvents s0 x → OnlyEvents s0 (rz e a b c x)) :
    OnlyEvents s0 (changeModState rz new s) := by
  unfold changeModState
  extract_lets +onlyGivenNames -underBinder -merge -useContext x1
  clear_value x1
  split
  · with_reducible assumption
  · extract_lets +onlyGivenNames -underBinder -merge -useContext x2
    clear_value x2
    extract_lets +onlyGivenNames -underBinder -merge -useContext x3
    refine (?_ : OnlyEvents s0 x3 → _) ?_
    on_goal 2 =>
      unfold x3
      with_reducible apply setFld_ev
      · with_reducible assumption
      · decide
    (clear_value x3; intro hx3)
    extract_lets +onlyGivenNames -underBinder -merge -useContext x4
    refine (?_ : OnlyEvents s0 x4 → _) ?_
    on_goal 2 =>
      unfold x4
      split
      · with_reducible apply setFld_ev
        · with_reducible assumption
        · decide
      · with_reducible assumption
    (clear_value x4; intro hx4)
    with_reducible apply hrz
    with_reducible assumption

/-- `setChan` stays within. -/
theorem setChan_ev {s0 : State} (s : State) (n : Nat) (c : CanCh) (hs : OnlyEvents s0 s) :
    OnlyEvents s0 (setChan s n c) := by
  unfold setChan
  (with_reducible apply ev_mk; with_reducible assumption)

/-- `abortChan` stays within. -/
theorem abortChan_ev {s0 : State} (n : Nat) (s : State) (hs : OnlyEvents s0 s) (hn : Reg.canChTxq n ∈ eventRegs) :
    OnlyEvents s0 (abortChan n s) := by
  unfold abortChan
  dsimp only
  split
  · exact setFld_ev (setChan_ev _ _ _ hs) _ _ _ _ hn
  · exact hs

/-- `abortCan` stays within. -/
theorem abortCan_ev {s0 : State} (s : State) (hs : OnlyEvents s0 s) : OnlyEvents s0 (abortCan s) := by
  unfold abortCan
  have k : ∀ (l : List Nat) (s : State), (∀ i ∈ l, Reg.canChTxq (i + 1) ∈ eventRegs) → OnlyEvents s0 s →
      OnlyEvents s0 (l.foldl (fun s i => abortChan (i + 1) s) s) := by
    intro l
    induction l with
    | nil => exact fun _ _ h => h
    | cons a r ih => exact fun s hl h => ih _ (fun i hi => hl i (List.mem_cons_of_mem _ hi)) (abortChan_ev _ _ h (hl a (List.mem_cons_self ..)))
  exact k _ _ (by decide) hs

/-- `abortNet` stays within. -/
theorem abortNet_ev {s0 : State} (s : State) (hs : OnlyEvents s0 s) :
    OnlyEvents s0 (abortNet s) := by
  unfold abortNet
  extract_lets +onlyGivenNames -underBinder -merge -useContext x1
  clear_value x1
  (with_reducible apply ev_mk; with_reducible assumption)

/-- `abortIsth` stays within. -/
theorem abortIsth_ev {s0 : State} (s : State) (hs : OnlyEvents s0 s) :
    OnlyEvents s0 (abortIsth s) := by
  unfold abortIsth
  with_reducible apply showIsth_ev
  (with_reducible apply ev_mk; with_reducible assumption)

/-- `abortRec` stays within. -/
theorem abortRec_ev {s0 : State} (s : State) (hs : OnlyEvents s0 s) :
    OnlyEvents s0 (abortRec s) := by
  unfold abortRec
  extract_lets +onlyGivenNames -underBinder -merge -useContext x1
  clear_value x1
  split
  · with_reducible assumption
  · with_reducible apply setFld_ev
    · (with_reducible apply ev_mk; with_reducible assumption)
    · decide

/-- `abortAll` stays within. -/
theorem abortAll_ev {s0 : State} (s : State) (hs : OnlyEvents s0 s) :
    OnlyEvents s0 (abortAll s) := by
  unfold abortAll
  with_reducible apply abortRec_ev
  with_reducible apply abortIsth_ev
  with_reducible apply abortNet_ev
  with_reducible apply abortCan_ev
  with_reducible assumption

/-- `enterSafeHalt` stays within. -/
theorem enterSafeHalt_ev {s0 : State} (rz : RaiseFn) (s : State) (hs : OnlyEvents s0 s)
    (hrz : ∀ e a b c x, OnlyEvents s0 x → OnlyEvents s0 (rz e a b c x)) : OnlyEvents s0 (enterSafeHalt rz s) := by
  have h1 : OnlyEvents s0 (if modState s = .active then abortAll s else s) := by
    split
    · exact abortAll_ev _ hs
    · exact hs
  have h2 := mstOut_ev _ .alive (stopChrono_ev _ h1)
  unfold enterSafeHalt
  dsimp only
  exact changeModState_ev rz _ _ (setBit_ev (ev_mk h2 ..) _ _ _ (by decide)) hrz

/-- `giveUp` stays within. -/
theorem giveUp_ev {s0 : State} (rz : RaiseFn) (cause : GiveUpCause) (s : State) (hs : OnlyEvents s0 s) (hrz : ∀ e a b c x, OnlyEvents s0 x → OnlyEvents s0 (rz e a b c x)) :
    OnlyEvents s0 (giveUp rz cause s) := by
  unfold giveUp
  split
  · split
    · split
      · extract_lets +onlyGivenNames -underBinder -merge -useContext x1
        refine (?_ : OnlyEvents s0 x1 → _) ?_
        on_goal 2 =>
          unfold x1
          with_reducible apply emitOut_ev
          with_reducible assumption
        (clear_value x1; intro hx1)
        extract_lets +onlyGivenNames -underBinder -merge -useContext x2
        refine (?_ : OnlyEvents s0 x2 → _) ?_
        on_goal 2 =>
          unfold x2
          with_reducible apply mstOut_ev
          with_reducible apply stopChrono_ev
          with_reducible assumption
        (clear_value x2; intro hx2)
        extract_lets +onlyGivenNames -underBinder -merge -useContext x3
        clear_value x3
        extract_lets +onlyGivenNames -underBinder -merge -useContext x4
        refine (?_ : OnlyEvents s0 x4 → _) ?_
        on_goal 2 =>
          unfold x4
          with_reducible apply recCount_ev
          (with_reducible apply ev_mk; with_reducible assumption)
        (clear_value x4; intro hx4)
        with_reducible apply hrz
        with_reducible assumption
      · with_reducible assumption
    · with_reducible apply enterSafeHalt_ev
      · with_reducible assumption
      · intro a5 a6 a7 a8 a9 h10
        with_reducible apply hrz
        with_reducible assumption
  · with_reducible assumption

/-- `applyYield` stays within. -/
theorem applyYield_ev {s0 : State} (rz : RaiseFn) (s : State) (hs : OnlyEvents s0 s) (hrz : ∀ e a b c x, OnlyEvents s0 x → OnlyEvents s0 (rz e a b c x)) :
    OnlyEvents s0 (applyYield rz s) := by
  unfold applyYield
  split
  · with_reducible apply giveUp_ev
    · with_reducible assumption
    · intro a1 a2 a3 a4 a5 h6
      with_reducible apply hrz
      with_reducible assumption
  · with_reducible apply enterSafeHalt_ev
    · with_reducible assumption
    · intro a7 a8 a9 a10 a11 h12
      with_reducible apply hrz
      with_reducible assumption
  · with_reducible apply enterSafeHalt_ev
    · with_reducible assumption
    · intro a13 a14 a15 a16 a17 h18
      with_reducible apply hrz
      with_reducible assumption
  · with_reducible assumption

/-- `applySafeHalt` stays within. -/
theorem applySafeHalt_ev {s0 : State} (rz : RaiseFn) (s : State) (hs : OnlyEvents s0 s) (hrz : ∀ e a b c x, OnlyEvents s0 x → OnlyEvents s0 (rz e a b c x)) :
    OnlyEvents s0 (applySafeHalt rz s) := by
  unfold applySafeHalt
  split
  · extract_lets +onlyGivenNames -underBinder -merge -useContext x1
    refine (?_ : OnlyEvents s0 x1 → _) ?_
    on_goal 2 =>
      unfold x1
      split
      · with_reducible apply giveUp_ev
        · with_reducible assumption
        · intro a8 a9 a10 a11 a12 h13
          with_reducible apply hrz
          with_reducible assumption
      · with_reducible assumption
    (clear_value x1; intro hx1)
    with_reducible apply enterSafeHalt_ev
    · with_reducible assumption
    · intro a2 a3 a4 a5 a6 h7
      with_reducible apply hrz
      with_reducible assumption
  · with_reducible assumption

/-- `loseEligible` stays within. -/
theorem loseEligible_ev {s0 : State} (rz : RaiseFn) (reason : Nat) (s : State) (hs : OnlyEvents s0 s) (hrz : ∀ e a b c x, OnlyEvents s0 x → OnlyEvents s0 (rz e a b c x)) :
    OnlyEvents s0 (loseEligible rz reason s) := by
  unfold loseEligible
  extract_lets +onlyGivenNames -underBinder -merge -useContext x1
  clear_value x1
  extract_lets +onlyGivenNames -underBinder -merge -useContext x2
  clear_value x2
  extract_lets +onlyGivenNames -underBinder -merge -useContext x3
  refine (?_ : OnlyEvents s0 x3 → _) ?_
  on_goal 2 =>
    unfold x3
    (with_reducible apply ev_mk; with_reducible assumption)
  (clear_value x3; intro hx3)
  split
  · extract_lets +onlyGivenNames -underBinder -merge -useContext x4
    refine (?_ : OnlyEvents s0 x4 → _) ?_
    on_goal 2 =>
      unfold x4
      with_reducible apply satAdd_ev
      · with_reducible apply setBit_ev
        · with_reducible assumption
        · decide
      · decide
    (clear_value x4; intro hx4)
    with_reducible apply hrz
    with_reducible assumption
  · with_reducible assumption

/-- `updateMode` stays within. -/
theorem updateMode_ev {s0 : State} (rz : RaiseFn) (s : State) (hs : OnlyEvents s0 s) (hrz : ∀ e a b c x, OnlyEvents s0 x → OnlyEvents s0 (rz e a b c x)) :
    OnlyEvents s0 (updateMode rz s) := by
  unfold updateMode
  extract_lets +onlyGivenNames -underBinder -merge -useContext x1
  clear_value x1
  extract_lets +onlyGivenNames -underBinder -merge -useContext x2
  clear_value x2
  split
  · with_reducible assumption
  · extract_lets +onlyGivenNames -underBinder -merge -useContext x3
    refine (?_ : OnlyEvents s0 x3 → _) ?_
    on_goal 2 =>
      unfold x3
      with_reducible apply setFld_ev
      · with_reducible assumption
      · decide
    (clear_value x3; intro hx3)
    extract_lets +onlyGivenNames -underBinder -merge -useContext x4
    clear_value x4
    extract_lets +onlyGivenNames -underBinder -merge -useContext x5
    refine (?_ : OnlyEvents s0 x5 → _) ?_
    on_goal 2 =>
      unfold x5
      split
      · (with_reducible apply ev_mk; with_reducible assumption)
      · with_reducible assumption
    (clear_value x5; intro hx5)
    extract_lets +onlyGivenNames -underBinder -merge -useContext x6
    refine (?_ : OnlyEvents s0 x6 → _) ?_
    on_goal 2 =>
      unfold x6
      with_reducible apply hrz
      with_reducible assumption
    (clear_value x6; intro hx6)
    extract_lets +onlyGivenNames -underBinder -merge -useContext x7
    refine (?_ : OnlyEvents s0 x7 → _) ?_
    on_goal 2 =>
      unfold x7
      split
      · with_reducible apply loseEligible_ev
        · with_reducible assumption
        · intro a14 a15 a16 a17 a18 h19
          with_reducible apply hrz
          with_reducible assumption
      · with_reducible assumption
    (clear_value x7; intro hx7)
    split
    · with_reducible apply applyYield_ev
      · with_reducible assumption
      · intro a8 a9 a10 a11 a12 h13
        with_reducible apply hrz
        with_reducible assumption
    · with_reducible assumption

/-- `dropIrqs` stays within. -/
theorem dropIrqs_ev {s0 : State} (l : Lane) (s : State) (hs : OnlyEvents s0 s) :
    OnlyEvents s0 (dropIrqs l s) := by
  unfold dropIrqs
  with_reducible apply setLane_ev
  with_reducible assumption

/-- `enterState` stays within. -/
theorem enterState_ev {s0 : State} (l : Lane) (new : LaneState) (s : State) (hs : OnlyEvents s0 s) :
    OnlyEvents s0 (enterState l new s) := by
  unfold enterState
  extract_lets +onlyGivenNames -underBinder -merge -useContext x1
  refine (?_ : OnlyEvents s0 x1 → _) ?_
  on_goal 2 =>
    unfold x1
    with_reducible apply putLaneState_ev
    with_reducible assumption
  (clear_value x1; intro hx1)
  split
  · with_reducible assumption
  · with_reducible apply dropIrqs_ev
    with_reducible assumption

/-- `changeLane` stays within. -/
theorem changeLane_ev {s0 : State} (rz : RaiseFn) (l : Lane) (new : LaneState) (s : State) (hs : OnlyEvents s0 s) (hrz : ∀ e a b c x, OnlyEvents s0 x → OnlyEvents s0 (rz e a b c x)) :
    OnlyEvents s0 (changeLane rz l new s) := by
  unfold changeLane
  extract_lets +onlyGivenNames -underBinder -merge -useContext x1
  clear_value x1
  split
  · with_reducible assumption
  · extract_lets +onlyGivenNames -underBinder -merge -useContext x2
    refine (?_ : OnlyEvents s0 x2 → _) ?_
    on_goal 2 =>
      unfold x2
      with_reducible apply enterState_ev
      with_reducible assumption
    (clear_value x2; intro hx2)
    extract_lets +onlyGivenNames -underBinder -merge -useContext x3
    refine (?_ : OnlyEvents s0 x3 → _) ?_
    on_goal 2 =>
      unfold x3
      with_reducible apply hrz
      with_reducible assumption
    (clear_value x3; intro hx3)
    with_reducible apply updateMode_ev
    · with_reducible assumption
    · intro a4 a5 a6 a7 a8 h9
      with_reducible apply hrz
      with_reducible assumption

/-- `countExclusion` stays within. -/
theorem countExclusion_ev {s0 : State} (l : Lane) (reason task : Nat) (s : State) (hs : OnlyEvents s0 s) :
    OnlyEvents s0 (countExclusion l reason task s) := by
  unfold countExclusion
  extract_lets +onlyGivenNames -underBinder -merge -useContext x1
  refine (?_ : OnlyEvents s0 x1 → _) ?_
  on_goal 2 =>
    unfold x1
    with_reducible apply recCount_ev
    with_reducible apply satAdd_ev
    · with_reducible assumption
    · decide
  (clear_value x1; intro hx1)
  with_reducible apply setReg_ev
  · with_reducible assumption
  · decide

/-- `isolate` stays within. -/
theorem isolate_ev {s0 : State} (l : Lane) (s : State) (hs : OnlyEvents s0 s) :
    OnlyEvents s0 (isolate l s) := by
  unfold isolate
  extract_lets +onlyGivenNames -underBinder -merge -useContext x1
  refine (?_ : OnlyEvents s0 x1 → _) ?_
  on_goal 2 =>
    unfold x1
    with_reducible apply dropAccesses_ev
    with_reducible assumption
  (clear_value x1; intro hx1)
  (with_reducible apply ev_mk; with_reducible assumption)

/-- `rejoinIdle` stays within. -/
theorem rejoinIdle_ev {s0 : State} (s : State) (hs : OnlyEvents s0 s) :
    OnlyEvents s0 (rejoinIdle s) := by
  unfold rejoinIdle
  extract_lets +onlyGivenNames -underBinder -merge -useContext x1
  refine (?_ : OnlyEvents s0 x1 → _) ?_
  on_goal 2 =>
    unfold x1
    with_reducible apply setFld_ev
    · with_reducible apply setFld_ev
      · with_reducible apply setFld_ev
        · with_reducible assumption
        · decide
      · decide
    · decide
  (clear_value x1; intro hx1)
  with_reducible apply setFld_ev
  · with_reducible assumption
  · decide

/-- `toExcluded` stays within. -/
theorem toExcluded_ev {s0 : State} (rz : RaiseFn) (l : Lane) (reason task : Nat) (s : State) (hs : OnlyEvents s0 s) (hrz : ∀ e a b c x, OnlyEvents s0 x → OnlyEvents s0 (rz e a b c x)) :
    OnlyEvents s0 (toExcluded rz l reason task s) := by
  unfold toExcluded
  extract_lets +onlyGivenNames -underBinder -merge -useContext x1
  refine (?_ : OnlyEvents s0 x1 → _) ?_
  on_goal 2 =>
    unfold x1
    with_reducible apply isolate_ev
    with_reducible apply countExclusion_ev
    with_reducible assumption
  (clear_value x1; intro hx1)
  extract_lets +onlyGivenNames -underBinder -merge -useContext x2
  clear_value x2
  extract_lets +onlyGivenNames -underBinder -merge -useContext x3
  refine (?_ : OnlyEvents s0 x3 → _) ?_
  on_goal 2 =>
    unfold x3
    with_reducible apply setLane_ev
    with_reducible assumption
  (clear_value x3; intro hx3)
  with_reducible apply dropTold_ev
  with_reducible apply changeLane_ev
  · with_reducible assumption
  · intro a4 a5 a6 a7 a8 h9
    with_reducible apply hrz
    with_reducible assumption

/-- `leaveCopy` stays within. -/
theorem leaveCopy_ev {s0 : State} (l : Lane) (s : State) (hs : OnlyEvents s0 s) :
    OnlyEvents s0 (leaveCopy l s) := by
  unfold leaveCopy
  extract_lets +onlyGivenNames -underBinder -merge -useContext x1
  clear_value x1
  extract_lets +onlyGivenNames -underBinder -merge -useContext x2
  refine (?_ : OnlyEvents s0 x2 → _) ?_
  on_goal 2 =>
    unfold x2
    with_reducible apply setFld_ev
    · with_reducible assumption
    · decide
  (clear_value x2; intro hx2)
  split
  · with_reducible apply rejoinIdle_ev
    with_reducible assumption
  · with_reducible assumption

/-- `rejoinFailed` stays within. -/
theorem rejoinFailed_ev {s0 : State} (rz : RaiseFn) (l : Lane) (reason : Nat) (s : State) (hs : OnlyEvents s0 s) (hrz : ∀ e a b c x, OnlyEvents s0 x → OnlyEvents s0 (rz e a b c x)) :
    OnlyEvents s0 (rejoinFailed rz l reason s) := by
  unfold rejoinFailed
  with_reducible apply leaveCopy_ev
  with_reducible apply toExcluded_ev
  · with_reducible apply hrz
    with_reducible assumption
  · intro a1 a2 a3 a4 a5 h6
    with_reducible apply hrz
    with_reducible assumption

/-- `undoExclusion` stays within. -/
theorem undoExclusion_ev {s0 : State} (u : ExclUndo) (s : State) (hs : OnlyEvents s0 s) :
    OnlyEvents s0 (undoExclusion u s) := by
  unfold undoExclusion
  extract_lets +onlyGivenNames -underBinder -merge -useContext x1
  clear_value x1
  extract_lets +onlyGivenNames -underBinder -merge -useContext x2
  clear_value x2
  extract_lets +onlyGivenNames -underBinder -merge -useContext x3
  clear_value x3
  extract_lets +onlyGivenNames -underBinder -merge -useContext x4
  clear_value x4
  extract_lets +onlyGivenNames -underBinder -merge -useContext x5
  refine (?_ : OnlyEvents s0 x5 → _) ?_
  on_goal 2 =>
    unfold x5
    (with_reducible apply ev_mk; with_reducible assumption)
  (clear_value x5; intro hx5)
  extract_lets +onlyGivenNames -underBinder -merge -useContext x6
  refine (?_ : OnlyEvents s0 x6 → _) ?_
  on_goal 2 =>
    unfold x6
    with_reducible apply setReg_ev
    · with_reducible apply setFld_ev
      · with_reducible assumption
      · decide
    · decide
  (clear_value x6; intro hx6)
  with_reducible apply putLaneState_ev
  with_reducible apply setLane_ev
  with_reducible assumption

/-- `excludeVoting` stays within. -/
theorem excludeVoting_ev {s0 : State} (rz : RaiseFn) (code : Option Nat) (ls : List Lane) (reason task : Nat) (s : State) (hs : OnlyEvents s0 s) (hrz : ∀ e a b c x, OnlyEvents s0 x → OnlyEvents s0 (rz e a b c x)) :
    OnlyEvents s0 (excludeVoting rz code ls reason task s) := by
  unfold excludeVoting
  extract_lets +onlyGivenNames -underBinder -merge -useContext x1
  clear_value x1
  extract_lets +onlyGivenNames -underBinder -merge -useContext x2
  clear_value x2
  split
  · with_reducible assumption
  · split
    · extract_lets +onlyGivenNames -underBinder -merge -useContext x3
      refine (?_ : OnlyEvents s0 x3 → _) ?_
      on_goal 2 =>
        unfold x3
        with_reducible apply ev_foldl
        · intro a12 a13 h14
          with_reducible apply undoExclusion_ev
          with_reducible assumption
        · with_reducible assumption
      (clear_value x3; intro hx3)
      extract_lets +onlyGivenNames -underBinder -merge -useContext x4
      clear_value x4
      extract_lets +onlyGivenNames -underBinder -merge -useContext x5
      refine (?_ : OnlyEvents s0 x5 → _) ?_
      on_goal 2 =>
        unfold x5
        with_reducible apply setFld_ev
        · (with_reducible apply ev_mk; with_reducible assumption)
        · decide
      (clear_value x5; intro hx5)
      split
      with_reducible apply applyYield_ev
      · with_reducible apply raiseLevel_ev
        with_reducible refine ev_snd (by assumption) ?_
        split
        · with_reducible assumption
        · split
          dsimp only
          with_reducible refine ev_snd (by assumption) ?_
          with_reducible apply takeFree_ev
          with_reducible assumption
      · intro a6 a7 a8 a9 a10 h11
        with_reducible apply hrz
        with_reducible assumption
    · extract_lets +onlyGivenNames -underBinder -merge -useContext x15
      clear_value x15
      extract_lets +onlyGivenNames -underBinder -merge -useContext x16
      refine (?_ : OnlyEvents s0 x16 → _) ?_
      on_goal 2 =>
        unfold x16
        (with_reducible apply ev_mk; with_reducible assumption)
      (clear_value x16; intro hx16)
      extract_lets +onlyGivenNames -underBinder -merge -useContext x17
      refine (?_ : OnlyEvents s0 x17 → _) ?_
      on_goal 2 =>
        unfold x17
        with_reducible apply ev_foldl
        · intro a29 a30 h31
          with_reducible apply toExcluded_ev
          · with_reducible assumption
          · intro a32 a33 a34 a35 a36 h37
            with_reducible apply hrz
            with_reducible assumption
        · with_reducible assumption
      (clear_value x17; intro hx17)
      extract_lets +onlyGivenNames -underBinder -merge -useContext x18
      clear_value x18
      extract_lets +onlyGivenNames -underBinder -merge -useContext x19
      clear_value x19
      split
      · with_reducible apply ev_foldl
        · intro a20 a21 h22
          with_reducible apply rejoinFailed_ev
          · with_reducible assumption
          · intro a23 a24 a25 a26 a27 h28
            with_reducible apply hrz
            with_reducible assumption
        · with_reducible assumption
      · with_reducible assumption

/-- `excludeLane` stays within. -/
theorem excludeLane_ev {s0 : State} (rz : RaiseFn) (code : Option Nat) (l : Lane) (reason task : Nat) (s : State) (hs : OnlyEvents s0 s) (hrz : ∀ e a b c x, OnlyEvents s0 x → OnlyEvents s0 (rz e a b c x)) :
    OnlyEvents s0 (excludeLane rz code l reason task s) := by
  unfold excludeLane
  extract_lets +onlyGivenNames -underBinder -merge -useContext x1
  split
  · with_reducible apply countExclusion_ev
    with_reducible assumption
  · split
    · extract_lets +onlyGivenNames -underBinder -merge -useContext x2
      extract_lets +onlyGivenNames -underBinder -merge -useContext x3
      refine (?_ : OnlyEvents s0 x3 → _) ?_
      on_goal 2 =>
        unfold x3
        with_reducible apply excludeVoting_ev
        · with_reducible assumption
        · intro a13 a14 a15 a16 a17 h18
          with_reducible apply hrz
          with_reducible assumption
      (clear_value x3; intro hx3)
      split
      · with_reducible apply ev_foldl
        · intro a4 a5 h6
          with_reducible apply rejoinFailed_ev
          · with_reducible assumption
          · intro a7 a8 a9 a10 a11 h12
            with_reducible apply hrz
            with_reducible assumption
        · with_reducible assumption
      · with_reducible assumption
    · split
      · extract_lets +onlyGivenNames -underBinder -merge -useContext x19
        refine (?_ : OnlyEvents s0 x19 → _) ?_
        on_goal 2 =>
          unfold x19
          with_reducible apply toExcluded_ev
          · with_reducible assumption
          · intro a29 a30 a31 a32 a33 h34
            with_reducible apply hrz
            with_reducible assumption
        (clear_value x19; intro hx19)
        split
        · with_reducible apply ev_foldl
          · intro a20 a21 h22
            with_reducible apply rejoinFailed_ev
            · with_reducible assumption
            · intro a23 a24 a25 a26 a27 h28
              with_reducible apply hrz
              with_reducible assumption
          · with_reducible assumption
        · with_reducible assumption
      · with_reducible assumption
    · split
      · with_reducible apply rejoinFailed_ev
        · with_reducible assumption
        · intro a35 a36 a37 a38 a39 h40
          with_reducible apply hrz
          with_reducible assumption
      · with_reducible assumption
    · with_reducible assumption

/-- `applyReaction` stays within. -/
theorem applyReaction_ev {s0 : State} (rz : RaiseFn) (task : Nat) (r : Record) (s : State) (hs : OnlyEvents s0 s) (hrz : ∀ e a b c x, OnlyEvents s0 x → OnlyEvents s0 (rz e a b c x)) :
    OnlyEvents s0 (applyReaction rz task r s) := by
  unfold applyReaction
  extract_lets +onlyGivenNames -underBinder -merge -useContext x1
  refine (?_ : OnlyEvents s0 x1 → _) ?_
  on_goal 2 =>
    unfold x1
    with_reducible apply applyStatus_ev
    with_reducible assumption
  (clear_value x1; intro hx1)
  split
  · split
    · split
      · with_reducible apply excludeLane_ev
        · with_reducible assumption
        · intro a2 a3 a4 a5 a6 h7
          with_reducible apply hrz
          with_reducible assumption
      · split
        with_reducible apply excludeLane_ev
        · with_reducible refine ev_snd (by assumption) ?_
          with_reducible apply takeFree_ev
          with_reducible assumption
        · intro a8 a9 a10 a11 a12 h13
          with_reducible apply hrz
          with_reducible assumption
    · with_reducible assumption
  · with_reducible apply applyYield_ev
    · with_reducible assumption
    · intro a14 a15 a16 a17 a18 h19
      with_reducible apply hrz
      with_reducible assumption
  · with_reducible apply applySafeHalt_ev
    · with_reducible assumption
    · intro a20 a21 a22 a23 a24 h25
      with_reducible apply hrz
      with_reducible assumption
  · with_reducible assumption

/-- `reactTo` stays within. -/
theorem reactTo_ev {s0 : State} (rz : RaiseFn) (task : Nat) (r : Record) (s : State) (hs : OnlyEvents s0 s) (hrz : ∀ e a b c x, OnlyEvents s0 x → OnlyEvents s0 (rz e a b c x)) :
    OnlyEvents s0 (reactTo rz task r s) := by
  unfold reactTo
  split
  extract_lets +onlyGivenNames -underBinder -merge -useContext x1
  refine (?_ : OnlyEvents s0 x1 → _) ?_
  on_goal 2 =>
    unfold x1
    with_reducible apply applyReaction_ev
    · with_reducible refine ev_fst (by assumption) ?_
      with_reducible apply pushPending_ev
      with_reducible assumption
    · intro a2 a3 a4 a5 a6 h7
      with_reducible apply hrz
      with_reducible assumption
  (clear_value x1; intro hx1)
  split
  · with_reducible apply hrz
    with_reducible assumption
  · with_reducible assumption

/-- `raiseF` stays within. -/
theorem raiseF_ev {s0 : State} (fuel task : Nat) (e : EvDef) (a b c : Nat) (s : State) (hs : OnlyEvents s0 s) :
    OnlyEvents s0 (raiseF fuel task e a b c s) := by
  induction fuel generalizing e a b c s with
  | zero => exact hs
  | succ n ih => exact reactTo_ev _ _ _ _ hs ih

/-- `raise` stays within. -/
theorem raise_ev {s0 : State} (e : EvDef) (src dA dB : Nat) (s : State) (hs : OnlyEvents s0 s) :
    OnlyEvents s0 (raise e src dA dB s) := by
  unfold raise
  with_reducible apply raiseF_ev
  with_reducible assumption

/-- `raiseAt` stays within. -/
theorem raiseAt_ev {s0 : State} (time : Dword) (e : EvDef) (src dA dB : Nat) (s : State) (hs : OnlyEvents s0 s) :
    OnlyEvents s0 (raiseAt time e src dA dB s) := by
  unfold raiseAt
  with_reducible apply reactTo_ev
  · with_reducible assumption
  · intro a1 a2 a3 a4 a5 h6
    with_reducible apply raiseF_ev
    with_reducible assumption

/-- `raiseTask` stays within. -/
theorem raiseTask_ev {s0 : State} (task : Nat) (e : EvDef) (src dA dB : Nat) (s : State) (hs : OnlyEvents s0 s) :
    OnlyEvents s0 (raiseTask task e src dA dB s) := by
  unfold raiseTask
  with_reducible apply raiseF_ev
  with_reducible assumption

/-- `raiseRecord` stays within. -/
theorem raiseRecord_ev {s0 : State} (e : EvDef) (src dA dB : Nat) (s : State) (hs : OnlyEvents s0 s) :
    OnlyEvents s0 (raiseRecord e src dA dB s) := by
  unfold raiseRecord
  extract_lets +onlyGivenNames -underBinder -merge -useContext x1
  clear_value x1
  with_reducible apply applyStatus_ev
  with_reducible apply pushPending_ev
  with_reducible assumption

/-- `raiseLanes` stays within. -/
theorem raiseLanes_ev {s0 : State} (task : Nat) (e : EvDef) (evs : List (Lane × Nat × Nat)) (s : State) (hs : OnlyEvents s0 s) :
    OnlyEvents s0 (raiseLanes task e evs s) := by
  unfold raiseLanes
  split
  · with_reducible assumption
  · with_reducible apply raiseTask_ev
    with_reducible assumption
  · extract_lets +onlyGivenNames -underBinder -merge -useContext x1
    clear_value x1
    extract_lets +onlyGivenNames -underBinder -merge -useContext x2
    refine (?_ : OnlyEvents s0 x2 → _) ?_
    on_goal 2 =>
      unfold x2
      with_reducible apply ev_foldl
      · intro a24 a25 h26
        split
        with_reducible apply raiseRecord_ev
        with_reducible assumption
      · with_reducible assumption
    (clear_value x2; intro hx2)
    split
    · split
      · with_reducible apply excludeVoting_ev
        · with_reducible assumption
        · intro a3 a4 a5 a6 a7 h8
          with_reducible apply raiseF_ev
          with_reducible assumption
      · with_reducible apply ev_foldl
        · intro a9 a10 h11
          split
          with_reducible apply countExclusion_ev
          with_reducible assumption
        · with_reducible assumption
    · with_reducible apply applyYield_ev
      · with_reducible assumption
      · intro a12 a13 a14 a15 a16 h17
        with_reducible apply raiseF_ev
        with_reducible assumption
    · with_reducible apply applySafeHalt_ev
      · with_reducible assumption
      · intro a18 a19 a20 a21 a22 h23
        with_reducible apply raiseF_ev
        with_reducible assumption
    · with_reducible assumption

/-- `setLaneTo` stays within. -/
theorem setLaneTo_ev {s0 : State} (l : Lane) (new : LaneState) (s : State) (hs : OnlyEvents s0 s) :
    OnlyEvents s0 (setLaneTo l new s) := by
  unfold setLaneTo
  with_reducible apply changeLane_ev
  · with_reducible assumption
  · intro a1 a2 a3 a4 a5 h6
    with_reducible apply raiseF_ev
    with_reducible assumption

/-- `setModTo` stays within. -/
theorem setModTo_ev {s0 : State} (new : ModState) (s : State) (hs : OnlyEvents s0 s) :
    OnlyEvents s0 (setModTo new s) := by
  unfold setModTo
  with_reducible apply changeModState_ev
  · with_reducible assumption
  · intro a1 a2 a3 a4 a5 h6
    with_reducible apply raiseF_ev
    with_reducible assumption

end Sys2Proof.Machine
end

