-- ==== Sys2Proof/Laws/Regs.lean ====
section
/-!
SUPPORT. Registers and their fields: a written register or field reads back, every other register and every field beside it
stays, and nothing but registers changes.
-/

namespace Sys2Proof.Machine

/-! ### Fields of a word -/

/-- Bits of a field mask. -/
theorem fldMask_bit (hi lo i : Nat) (hl : lo ≤ hi) :
    (fldMask hi lo).getLsbD i = (decide (i < 32) && decide (lo ≤ i) && decide (i ≤ hi)) := by
  unfold fldMask
  rw [BitVec.getLsbD_shiftLeft, BitVec.getLsbD_ofNat, Nat.testBit_two_pow_sub_one]
  by_cases h1 : i < 32 <;> by_cases h2 : lo ≤ i <;> by_cases h3 : i ≤ hi <;> simp [h1, h2, h3] <;> omega

/-- Bits of a word with a field replaced. -/
theorem setWordFld_bit (w : Word) (hi lo v i : Nat) (hl : lo ≤ hi) (hi32 : i < 32) :
    (setWordFld w hi lo v).getLsbD i = if lo ≤ i ∧ i ≤ hi then v.testBit (i - lo) else w.getLsbD i := by
  unfold setWordFld
  rw [BitVec.getLsbD_or, BitVec.getLsbD_and, BitVec.getLsbD_and, BitVec.getLsbD_not, fldMask_bit _ _ _ hl,
    BitVec.getLsbD_shiftLeft, BitVec.getLsbD_ofNat]
  by_cases h2 : lo ≤ i <;> by_cases h3 : i ≤ hi <;> simp [hi32, h2, h3]
  rw [decide_eq_false (by omega : ¬i < lo), decide_eq_true (by omega : i - lo < 32)]
  simp

/-- A replaced field reads as the number put into it, cut to the field's width. -/
theorem wordFld_setWordFld_same (w : Word) {hi lo : Nat} (v : Nat) (hl : lo ≤ hi) (hh : hi < 32) :
    wordFld (setWordFld w hi lo v) hi lo = v % 2 ^ (hi - lo + 1) := by
  have h : (setWordFld w hi lo v).extractLsb' lo (hi - lo + 1) = BitVec.ofNat (hi - lo + 1) v := by
    apply BitVec.eq_of_getLsbD_eq
    intro i hi'
    rw [BitVec.getLsbD_extractLsb', setWordFld_bit _ _ _ _ _ hl (by omega), BitVec.getLsbD_ofNat,
      if_pos ⟨by omega, by omega⟩, Nat.add_sub_cancel_left]
  unfold wordFld
  rw [h, BitVec.toNat_ofNat]

/-- A field beside the replaced one stays. -/
theorem wordFld_setWordFld_other (w : Word) {hi lo hi' lo' : Nat} (v : Nat) (hl : lo ≤ hi) (hl' : lo' ≤ hi') (hh : hi' < 32)
    (hd : hi' < lo ∨ hi < lo') : wordFld (setWordFld w hi lo v) hi' lo' = wordFld w hi' lo' := by
  have h : (setWordFld w hi lo v).extractLsb' lo' (hi' - lo' + 1) = w.extractLsb' lo' (hi' - lo' + 1) := by
    apply BitVec.eq_of_getLsbD_eq
    intro i hi
    rw [BitVec.getLsbD_extractLsb', BitVec.getLsbD_extractLsb', setWordFld_bit _ _ _ _ _ hl (by omega), if_neg (by omega)]
  unfold wordFld
  rw [h]

/-- A field is below 2 to its width. -/
theorem wordFld_lt (w : Word) (hi lo : Nat) : wordFld w hi lo < 2 ^ (hi - lo + 1) := by
  unfold wordFld
  exact BitVec.isLt _

/-! ### Registers -/

/-- A written register reads as written. -/
theorem getReg_setReg_self (s : State) (k : Nat) (v : Word) : getReg (setReg s k v) k = v := tget_tset_same _ _ _ _

/-- A written register reads as written, in a sound state. -/
theorem getReg_setReg_same {s : State} (_h : Sound s = true) (k : Nat) (v : Word) : getReg (setReg s k v) k = v :=
  getReg_setReg_self s k v

/-- Another register reads as before. -/
theorem getReg_setReg_other (s : State) {j k : Nat} (h : j ≠ k) (v : Word) : getReg (setReg s k v) j = getReg s j :=
  tget_tset_other _ _ _ h _

/-- A register write keeps the canonical form. -/
theorem setReg_sound {s : State} (h : Sound s = true) (k : Nat) (v : Word) : Sound (setReg s k v) = true :=
  (setReg_ok (q := s.pending) ⟨rfl, h⟩ k v).2

/-- A field write keeps the canonical form. -/
theorem setFld_sound {s : State} (h : Sound s = true) (k hi lo v : Nat) : Sound (setFld s k hi lo v) = true :=
  setReg_sound h _ _

/-- A written field reads as written, cut to its width. -/
theorem fld_setFld_same {s : State} (h : Sound s = true) (k v : Nat) {hi lo : Nat} (hl : lo ≤ hi) (hh : hi < 32) :
    fld (setFld s k hi lo v) k hi lo = v % 2 ^ (hi - lo + 1) := by
  unfold fld setFld
  rw [getReg_setReg_same h, wordFld_setWordFld_same _ _ hl hh]

/-- A field beside the written one stays. -/
theorem fld_setFld_beside {s : State} (h : Sound s = true) (k v : Nat) {hi lo hi' lo' : Nat} (hl : lo ≤ hi) (hl' : lo' ≤ hi')
    (hh : hi' < 32) (hd : hi' < lo ∨ hi < lo') : fld (setFld s k hi lo v) k hi' lo' = fld s k hi' lo' := by
  unfold fld setFld
  rw [getReg_setReg_same h, wordFld_setWordFld_other _ _ hl hl' hh hd]

/-- A field of another register stays. -/
theorem fld_setFld_other (s : State) {j k : Nat} (h : j ≠ k) (hi lo v hi' lo' : Nat) :
    fld (setFld s k hi lo v) j hi' lo' = fld s j hi' lo' := by
  unfold fld setFld
  rw [getReg_setReg_other s h]

/-- A bit write keeps the canonical form. -/
theorem setBit_sound {s : State} (h : Sound s = true) (k i : Nat) (b : Bool) : Sound (setBit s k i b) = true :=
  setReg_sound h _ _

/-- The register of a written field, as a word. -/
theorem getReg_setFld_same {s : State} (h : Sound s = true) (k hi lo v : Nat) :
    getReg (setFld s k hi lo v) k = setWordFld (getReg s k) hi lo v := getReg_setReg_same h k _

/-- Another register after a field write. -/
theorem getReg_setFld_other (s : State) {j k : Nat} (h : j ≠ k) (hi lo v : Nat) : getReg (setFld s k hi lo v) j = getReg s j :=
  getReg_setReg_other s h _

/-- The register of a written bit, as a word. -/
theorem getReg_setBit_same {s : State} (h : Sound s = true) (k i : Nat) (b : Bool) :
    getReg (setBit s k i b) k = setWordFld (getReg s k) i i (if b then 1 else 0) := getReg_setReg_same h k _

/-- Another register after a bit write. -/
theorem getReg_setBit_other (s : State) {j k : Nat} (h : j ≠ k) (i : Nat) (b : Bool) : getReg (setBit s k i b) j = getReg s j :=
  getReg_setReg_other s h _

/-- A written bit reads as written. -/
theorem bit_setBit_same {s : State} (h : Sound s = true) (k i : Nat) (hi : i < 32) (b : Bool) : bit (setBit s k i b) k i = b := by
  unfold bit setBit
  rw [fld_setFld_same h _ _ (Nat.le_refl i) hi]
  cases b <;> simp

/-! ### The same in every state -/

/-- A written field reads as written, cut to its width. -/
theorem fld_setFld_self (s : State) (k v : Nat) {hi lo : Nat} (hl : lo ≤ hi) (hh : hi < 32) :
    fld (setFld s k hi lo v) k hi lo = v % 2 ^ (hi - lo + 1) := by
  unfold fld setFld
  rw [getReg_setReg_self, wordFld_setWordFld_same _ _ hl hh]

/-- A field beside the written one stays. -/
theorem fld_setFld_near (s : State) (k v : Nat) {hi lo hi' lo' : Nat} (hl : lo ≤ hi) (hl' : lo' ≤ hi')
    (hh : hi' < 32) (hd : hi' < lo ∨ hi < lo') : fld (setFld s k hi lo v) k hi' lo' = fld s k hi' lo' := by
  unfold fld setFld
  rw [getReg_setReg_self, wordFld_setWordFld_other _ _ hl hl' hh hd]

/-- A written bit reads as written. -/
theorem bit_setBit_self (s : State) (k i : Nat) (hi : i < 32) (b : Bool) : bit (setBit s k i b) k i = b := by
  unfold bit setBit
  rw [fld_setFld_self _ _ _ (Nat.le_refl i) hi]
  cases b <;> simp

/-- A register depends on the register file alone. -/
theorem getReg_congr {s t : State} (h : s.regs = t.regs) (k : Nat) : getReg s k = getReg t k := by
  unfold getReg
  rw [h]

/-- A field depends on the register file alone. -/
theorem fld_congr {s t : State} (h : s.regs = t.regs) (k hi lo : Nat) : fld s k hi lo = fld t k hi lo := by
  unfold fld
  rw [getReg_congr h]

/-- A bit depends on the register file alone. -/
theorem bit_congr {s t : State} (h : s.regs = t.regs) (k i : Nat) : bit s k i = bit t k i := by
  unfold bit
  rw [fld_congr h]

/-- The module's state depends on the register file alone. -/
theorem modState_congr {s t : State} (h : s.regs = t.regs) : modState s = modState t := by
  unfold modState
  rw [fld_congr h]

end Sys2Proof.Machine
end

