-- ==== Sys2Proof/Laws/State.lean ====
section
/-!
SUPPORT. What each update of State does to each field: one lemma per field and update, so that no proof unfolds a record
update.
-/

namespace Sys2Proof.Machine

/-! ### A register written -/

@[simp] theorem setReg_pending (s : State) (k : Nat) (v : Word) : (setReg s k v).pending = s.pending := rfl
@[simp] theorem setReg_regs (s : State) (k : Nat) (v : Word) : (setReg s k v).regs = tset (resetVal k) s.regs k v := rfl
@[simp] theorem setReg_snaps (s : State) (k : Nat) (v : Word) : (setReg s k v).snaps = s.snaps := rfl
@[simp] theorem setReg_dram (s : State) (k : Nat) (v : Word) : (setReg s k v).dram = s.dram := rfl
@[simp] theorem setReg_soundMem (s : State) (k : Nat) (v : Word) : (setReg s k v).sound = s.sound := rfl
@[simp] theorem setReg_time (s : State) (k : Nat) (v : Word) : (setReg s k v).time = s.time := rfl
@[simp] theorem setReg_ptp (s : State) (k : Nat) (v : Word) : (setReg s k v).ptp = s.ptp := rfl
@[simp] theorem setReg_meridian (s : State) (k : Nat) (v : Word) : (setReg s k v).meridian = s.meridian := rfl
@[simp] theorem setReg_lanes (s : State) (k : Nat) (v : Word) : (setReg s k v).lanes = s.lanes := rfl
@[simp] theorem setReg_rejoin (s : State) (k : Nat) (v : Word) : (setReg s k v).rejoin = s.rejoin := rfl
@[simp] theorem setReg_chrono (s : State) (k : Nat) (v : Word) : (setReg s k v).chrono = s.chrono := rfl
@[simp] theorem setReg_jobs (s : State) (k : Nat) (v : Word) : (setReg s k v).jobs = s.jobs := rfl
@[simp] theorem setReg_rings (s : State) (k : Nat) (v : Word) : (setReg s k v).rings = s.rings := rfl
@[simp] theorem setReg_journal (s : State) (k : Nat) (v : Word) : (setReg s k v).journal = s.journal := rfl
@[simp] theorem setReg_journalBuildSet (s : State) (k : Nat) (v : Word) : (setReg s k v).journalBuildSet = s.journalBuildSet := rfl
@[simp] theorem setReg_journalSetup (s : State) (k : Nat) (v : Word) : (setReg s k v).journalSetup = s.journalSetup := rfl
@[simp] theorem setReg_journalBad (s : State) (k : Nat) (v : Word) : (setReg s k v).journalBad = s.journalBad := rfl
@[simp] theorem setReg_evq (s : State) (k : Nat) (v : Word) : (setReg s k v).evq = s.evq := rfl
@[simp] theorem setReg_retain (s : State) (k : Nat) (v : Word) : (setReg s k v).retain = s.retain := rfl
@[simp] theorem setReg_restart (s : State) (k : Nat) (v : Word) : (setReg s k v).restart = s.restart := rfl
@[simp] theorem setReg_force (s : State) (k : Nat) (v : Word) : (setReg s k v).force = s.force := rfl
@[simp] theorem setReg_net (s : State) (k : Nat) (v : Word) : (setReg s k v).net = s.net := rfl
@[simp] theorem setReg_safe (s : State) (k : Nat) (v : Word) : (setReg s k v).safe = s.safe := rfl
@[simp] theorem setReg_can (s : State) (k : Nat) (v : Word) : (setReg s k v).can = s.can := rfl
@[simp] theorem setReg_filters (s : State) (k : Nat) (v : Word) : (setReg s k v).filters = s.filters := rfl
@[simp] theorem setReg_isth (s : State) (k : Nat) (v : Word) : (setReg s k v).isth = s.isth := rfl
@[simp] theorem setReg_holm (s : State) (k : Nat) (v : Word) : (setReg s k v).holm = s.holm := rfl
@[simp] theorem setReg_motion (s : State) (k : Nat) (v : Word) : (setReg s k v).motion = s.motion := rfl
@[simp] theorem setReg_fm (s : State) (k : Nat) (v : Word) : (setReg s k v).fm = s.fm := rfl
@[simp] theorem setReg_pair (s : State) (k : Nat) (v : Word) : (setReg s k v).pair = s.pair := rfl
@[simp] theorem setReg_skerry (s : State) (k : Nat) (v : Word) : (setReg s k v).skerry = s.skerry := rfl
@[simp] theorem setReg_store (s : State) (k : Nat) (v : Word) : (setReg s k v).store = s.store := rfl
@[simp] theorem setReg_recorder (s : State) (k : Nat) (v : Word) : (setReg s k v).recorder = s.recorder := rfl
@[simp] theorem setReg_recQ (s : State) (k : Nat) (v : Word) : (setReg s k v).recQ = s.recQ := rfl
@[simp] theorem setReg_svc (s : State) (k : Nat) (v : Word) : (setReg s k v).svc = s.svc := rfl
@[simp] theorem setReg_tap (s : State) (k : Nat) (v : Word) : (setReg s k v).tap = s.tap := rfl
@[simp] theorem setReg_out (s : State) (k : Nat) (v : Word) : (setReg s k v).out = s.out := rfl
@[simp] theorem setReg_freeCount (s : State) (k : Nat) (v : Word) : (setReg s k v).freeCount = s.freeCount := rfl

/-! ### A field written -/

@[simp] theorem setFld_pending (s : State) (k hi lo v : Nat) : (setFld s k hi lo v).pending = s.pending := rfl
@[simp] theorem setFld_snaps (s : State) (k hi lo v : Nat) : (setFld s k hi lo v).snaps = s.snaps := rfl
@[simp] theorem setFld_dram (s : State) (k hi lo v : Nat) : (setFld s k hi lo v).dram = s.dram := rfl
@[simp] theorem setFld_soundMem (s : State) (k hi lo v : Nat) : (setFld s k hi lo v).sound = s.sound := rfl
@[simp] theorem setFld_time (s : State) (k hi lo v : Nat) : (setFld s k hi lo v).time = s.time := rfl
@[simp] theorem setFld_ptp (s : State) (k hi lo v : Nat) : (setFld s k hi lo v).ptp = s.ptp := rfl
@[simp] theorem setFld_meridian (s : State) (k hi lo v : Nat) : (setFld s k hi lo v).meridian = s.meridian := rfl
@[simp] theorem setFld_lanes (s : State) (k hi lo v : Nat) : (setFld s k hi lo v).lanes = s.lanes := rfl
@[simp] theorem setFld_rejoin (s : State) (k hi lo v : Nat) : (setFld s k hi lo v).rejoin = s.rejoin := rfl
@[simp] theorem setFld_chrono (s : State) (k hi lo v : Nat) : (setFld s k hi lo v).chrono = s.chrono := rfl
@[simp] theorem setFld_jobs (s : State) (k hi lo v : Nat) : (setFld s k hi lo v).jobs = s.jobs := rfl
@[simp] theorem setFld_rings (s : State) (k hi lo v : Nat) : (setFld s k hi lo v).rings = s.rings := rfl
@[simp] theorem setFld_journal (s : State) (k hi lo v : Nat) : (setFld s k hi lo v).journal = s.journal := rfl
@[simp] theorem setFld_journalBuildSet (s : State) (k hi lo v : Nat) : (setFld s k hi lo v).journalBuildSet = s.journalBuildSet := rfl
@[simp] theorem setFld_journalSetup (s : State) (k hi lo v : Nat) : (setFld s k hi lo v).journalSetup = s.journalSetup := rfl
@[simp] theorem setFld_journalBad (s : State) (k hi lo v : Nat) : (setFld s k hi lo v).journalBad = s.journalBad := rfl
@[simp] theorem setFld_evq (s : State) (k hi lo v : Nat) : (setFld s k hi lo v).evq = s.evq := rfl
@[simp] theorem setFld_retain (s : State) (k hi lo v : Nat) : (setFld s k hi lo v).retain = s.retain := rfl
@[simp] theorem setFld_restart (s : State) (k hi lo v : Nat) : (setFld s k hi lo v).restart = s.restart := rfl
@[simp] theorem setFld_force (s : State) (k hi lo v : Nat) : (setFld s k hi lo v).force = s.force := rfl
@[simp] theorem setFld_net (s : State) (k hi lo v : Nat) : (setFld s k hi lo v).net = s.net := rfl
@[simp] theorem setFld_safe (s : State) (k hi lo v : Nat) : (setFld s k hi lo v).safe = s.safe := rfl
@[simp] theorem setFld_can (s : State) (k hi lo v : Nat) : (setFld s k hi lo v).can = s.can := rfl
@[simp] theorem setFld_filters (s : State) (k hi lo v : Nat) : (setFld s k hi lo v).filters = s.filters := rfl
@[simp] theorem setFld_isth (s : State) (k hi lo v : Nat) : (setFld s k hi lo v).isth = s.isth := rfl
@[simp] theorem setFld_holm (s : State) (k hi lo v : Nat) : (setFld s k hi lo v).holm = s.holm := rfl
@[simp] theorem setFld_motion (s : State) (k hi lo v : Nat) : (setFld s k hi lo v).motion = s.motion := rfl
@[simp] theorem setFld_fm (s : State) (k hi lo v : Nat) : (setFld s k hi lo v).fm = s.fm := rfl
@[simp] theorem setFld_pair (s : State) (k hi lo v : Nat) : (setFld s k hi lo v).pair = s.pair := rfl
@[simp] theorem setFld_skerry (s : State) (k hi lo v : Nat) : (setFld s k hi lo v).skerry = s.skerry := rfl
@[simp] theorem setFld_store (s : State) (k hi lo v : Nat) : (setFld s k hi lo v).store = s.store := rfl
@[simp] theorem setFld_recorder (s : State) (k hi lo v : Nat) : (setFld s k hi lo v).recorder = s.recorder := rfl
@[simp] theorem setFld_recQ (s : State) (k hi lo v : Nat) : (setFld s k hi lo v).recQ = s.recQ := rfl
@[simp] theorem setFld_svc (s : State) (k hi lo v : Nat) : (setFld s k hi lo v).svc = s.svc := rfl
@[simp] theorem setFld_tap (s : State) (k hi lo v : Nat) : (setFld s k hi lo v).tap = s.tap := rfl
@[simp] theorem setFld_out (s : State) (k hi lo v : Nat) : (setFld s k hi lo v).out = s.out := rfl
@[simp] theorem setFld_freeCount (s : State) (k hi lo v : Nat) : (setFld s k hi lo v).freeCount = s.freeCount := rfl

/-! ### A bit written -/

@[simp] theorem setBit_pending (s : State) (k i : Nat) (b : Bool) : (setBit s k i b).pending = s.pending := rfl
@[simp] theorem setBit_snaps (s : State) (k i : Nat) (b : Bool) : (setBit s k i b).snaps = s.snaps := rfl
@[simp] theorem setBit_dram (s : State) (k i : Nat) (b : Bool) : (setBit s k i b).dram = s.dram := rfl
@[simp] theorem setBit_soundMem (s : State) (k i : Nat) (b : Bool) : (setBit s k i b).sound = s.sound := rfl
@[simp] theorem setBit_time (s : State) (k i : Nat) (b : Bool) : (setBit s k i b).time = s.time := rfl
@[simp] theorem setBit_ptp (s : State) (k i : Nat) (b : Bool) : (setBit s k i b).ptp = s.ptp := rfl
@[simp] theorem setBit_meridian (s : State) (k i : Nat) (b : Bool) : (setBit s k i b).meridian = s.meridian := rfl
@[simp] theorem setBit_lanes (s : State) (k i : Nat) (b : Bool) : (setBit s k i b).lanes = s.lanes := rfl
@[simp] theorem setBit_rejoin (s : State) (k i : Nat) (b : Bool) : (setBit s k i b).rejoin = s.rejoin := rfl
@[simp] theorem setBit_chrono (s : State) (k i : Nat) (b : Bool) : (setBit s k i b).chrono = s.chrono := rfl
@[simp] theorem setBit_jobs (s : State) (k i : Nat) (b : Bool) : (setBit s k i b).jobs = s.jobs := rfl
@[simp] theorem setBit_rings (s : State) (k i : Nat) (b : Bool) : (setBit s k i b).rings = s.rings := rfl
@[simp] theorem setBit_journal (s : State) (k i : Nat) (b : Bool) : (setBit s k i b).journal = s.journal := rfl
@[simp] theorem setBit_journalBuildSet (s : State) (k i : Nat) (b : Bool) : (setBit s k i b).journalBuildSet = s.journalBuildSet := rfl
@[simp] theorem setBit_journalSetup (s : State) (k i : Nat) (b : Bool) : (setBit s k i b).journalSetup = s.journalSetup := rfl
@[simp] theorem setBit_journalBad (s : State) (k i : Nat) (b : Bool) : (setBit s k i b).journalBad = s.journalBad := rfl
@[simp] theorem setBit_evq (s : State) (k i : Nat) (b : Bool) : (setBit s k i b).evq = s.evq := rfl
@[simp] theorem setBit_retain (s : State) (k i : Nat) (b : Bool) : (setBit s k i b).retain = s.retain := rfl
@[simp] theorem setBit_restart (s : State) (k i : Nat) (b : Bool) : (setBit s k i b).restart = s.restart := rfl
@[simp] theorem setBit_force (s : State) (k i : Nat) (b : Bool) : (setBit s k i b).force = s.force := rfl
@[simp] theorem setBit_net (s : State) (k i : Nat) (b : Bool) : (setBit s k i b).net = s.net := rfl
@[simp] theorem setBit_safe (s : State) (k i : Nat) (b : Bool) : (setBit s k i b).safe = s.safe := rfl
@[simp] theorem setBit_can (s : State) (k i : Nat) (b : Bool) : (setBit s k i b).can = s.can := rfl
@[simp] theorem setBit_filters (s : State) (k i : Nat) (b : Bool) : (setBit s k i b).filters = s.filters := rfl
@[simp] theorem setBit_isth (s : State) (k i : Nat) (b : Bool) : (setBit s k i b).isth = s.isth := rfl
@[simp] theorem setBit_holm (s : State) (k i : Nat) (b : Bool) : (setBit s k i b).holm = s.holm := rfl
@[simp] theorem setBit_motion (s : State) (k i : Nat) (b : Bool) : (setBit s k i b).motion = s.motion := rfl
@[simp] theorem setBit_fm (s : State) (k i : Nat) (b : Bool) : (setBit s k i b).fm = s.fm := rfl
@[simp] theorem setBit_pair (s : State) (k i : Nat) (b : Bool) : (setBit s k i b).pair = s.pair := rfl
@[simp] theorem setBit_skerry (s : State) (k i : Nat) (b : Bool) : (setBit s k i b).skerry = s.skerry := rfl
@[simp] theorem setBit_store (s : State) (k i : Nat) (b : Bool) : (setBit s k i b).store = s.store := rfl
@[simp] theorem setBit_recorder (s : State) (k i : Nat) (b : Bool) : (setBit s k i b).recorder = s.recorder := rfl
@[simp] theorem setBit_recQ (s : State) (k i : Nat) (b : Bool) : (setBit s k i b).recQ = s.recQ := rfl
@[simp] theorem setBit_svc (s : State) (k i : Nat) (b : Bool) : (setBit s k i b).svc = s.svc := rfl
@[simp] theorem setBit_tap (s : State) (k i : Nat) (b : Bool) : (setBit s k i b).tap = s.tap := rfl
@[simp] theorem setBit_out (s : State) (k i : Nat) (b : Bool) : (setBit s k i b).out = s.out := rfl
@[simp] theorem setBit_freeCount (s : State) (k i : Nat) (b : Bool) : (setBit s k i b).freeCount = s.freeCount := rfl

/-! ### A count field advanced -/

@[simp] theorem satAdd_pending (s : State) (k hi lo n : Nat) : (satAdd s k hi lo n).pending = s.pending := rfl
@[simp] theorem satAdd_snaps (s : State) (k hi lo n : Nat) : (satAdd s k hi lo n).snaps = s.snaps := rfl
@[simp] theorem satAdd_dram (s : State) (k hi lo n : Nat) : (satAdd s k hi lo n).dram = s.dram := rfl
@[simp] theorem satAdd_soundMem (s : State) (k hi lo n : Nat) : (satAdd s k hi lo n).sound = s.sound := rfl
@[simp] theorem satAdd_time (s : State) (k hi lo n : Nat) : (satAdd s k hi lo n).time = s.time := rfl
@[simp] theorem satAdd_ptp (s : State) (k hi lo n : Nat) : (satAdd s k hi lo n).ptp = s.ptp := rfl
@[simp] theorem satAdd_meridian (s : State) (k hi lo n : Nat) : (satAdd s k hi lo n).meridian = s.meridian := rfl
@[simp] theorem satAdd_lanes (s : State) (k hi lo n : Nat) : (satAdd s k hi lo n).lanes = s.lanes := rfl
@[simp] theorem satAdd_rejoin (s : State) (k hi lo n : Nat) : (satAdd s k hi lo n).rejoin = s.rejoin := rfl
@[simp] theorem satAdd_chrono (s : State) (k hi lo n : Nat) : (satAdd s k hi lo n).chrono = s.chrono := rfl
@[simp] theorem satAdd_jobs (s : State) (k hi lo n : Nat) : (satAdd s k hi lo n).jobs = s.jobs := rfl
@[simp] theorem satAdd_rings (s : State) (k hi lo n : Nat) : (satAdd s k hi lo n).rings = s.rings := rfl
@[simp] theorem satAdd_journal (s : State) (k hi lo n : Nat) : (satAdd s k hi lo n).journal = s.journal := rfl
@[simp] theorem satAdd_journalBuildSet (s : State) (k hi lo n : Nat) : (satAdd s k hi lo n).journalBuildSet = s.journalBuildSet := rfl
@[simp] theorem satAdd_journalSetup (s : State) (k hi lo n : Nat) : (satAdd s k hi lo n).journalSetup = s.journalSetup := rfl
@[simp] theorem satAdd_journalBad (s : State) (k hi lo n : Nat) : (satAdd s k hi lo n).journalBad = s.journalBad := rfl
@[simp] theorem satAdd_evq (s : State) (k hi lo n : Nat) : (satAdd s k hi lo n).evq = s.evq := rfl
@[simp] theorem satAdd_retain (s : State) (k hi lo n : Nat) : (satAdd s k hi lo n).retain = s.retain := rfl
@[simp] theorem satAdd_restart (s : State) (k hi lo n : Nat) : (satAdd s k hi lo n).restart = s.restart := rfl
@[simp] theorem satAdd_force (s : State) (k hi lo n : Nat) : (satAdd s k hi lo n).force = s.force := rfl
@[simp] theorem satAdd_net (s : State) (k hi lo n : Nat) : (satAdd s k hi lo n).net = s.net := rfl
@[simp] theorem satAdd_safe (s : State) (k hi lo n : Nat) : (satAdd s k hi lo n).safe = s.safe := rfl
@[simp] theorem satAdd_can (s : State) (k hi lo n : Nat) : (satAdd s k hi lo n).can = s.can := rfl
@[simp] theorem satAdd_filters (s : State) (k hi lo n : Nat) : (satAdd s k hi lo n).filters = s.filters := rfl
@[simp] theorem satAdd_isth (s : State) (k hi lo n : Nat) : (satAdd s k hi lo n).isth = s.isth := rfl
@[simp] theorem satAdd_holm (s : State) (k hi lo n : Nat) : (satAdd s k hi lo n).holm = s.holm := rfl
@[simp] theorem satAdd_motion (s : State) (k hi lo n : Nat) : (satAdd s k hi lo n).motion = s.motion := rfl
@[simp] theorem satAdd_fm (s : State) (k hi lo n : Nat) : (satAdd s k hi lo n).fm = s.fm := rfl
@[simp] theorem satAdd_pair (s : State) (k hi lo n : Nat) : (satAdd s k hi lo n).pair = s.pair := rfl
@[simp] theorem satAdd_skerry (s : State) (k hi lo n : Nat) : (satAdd s k hi lo n).skerry = s.skerry := rfl
@[simp] theorem satAdd_store (s : State) (k hi lo n : Nat) : (satAdd s k hi lo n).store = s.store := rfl
@[simp] theorem satAdd_recorder (s : State) (k hi lo n : Nat) : (satAdd s k hi lo n).recorder = s.recorder := rfl
@[simp] theorem satAdd_recQ (s : State) (k hi lo n : Nat) : (satAdd s k hi lo n).recQ = s.recQ := rfl
@[simp] theorem satAdd_svc (s : State) (k hi lo n : Nat) : (satAdd s k hi lo n).svc = s.svc := rfl
@[simp] theorem satAdd_tap (s : State) (k hi lo n : Nat) : (satAdd s k hi lo n).tap = s.tap := rfl
@[simp] theorem satAdd_out (s : State) (k hi lo n : Nat) : (satAdd s k hi lo n).out = s.out := rfl
@[simp] theorem satAdd_freeCount (s : State) (k hi lo n : Nat) : (satAdd s k hi lo n).freeCount = s.freeCount := rfl

/-! ### A sticky bit set -/

@[simp] theorem stick_pending (s : State) (k i : Nat) : (stick s k i).pending = s.pending := rfl
@[simp] theorem stick_snaps (s : State) (k i : Nat) : (stick s k i).snaps = s.snaps := rfl
@[simp] theorem stick_dram (s : State) (k i : Nat) : (stick s k i).dram = s.dram := rfl
@[simp] theorem stick_soundMem (s : State) (k i : Nat) : (stick s k i).sound = s.sound := rfl
@[simp] theorem stick_time (s : State) (k i : Nat) : (stick s k i).time = s.time := rfl
@[simp] theorem stick_ptp (s : State) (k i : Nat) : (stick s k i).ptp = s.ptp := rfl
@[simp] theorem stick_meridian (s : State) (k i : Nat) : (stick s k i).meridian = s.meridian := rfl
@[simp] theorem stick_lanes (s : State) (k i : Nat) : (stick s k i).lanes = s.lanes := rfl
@[simp] theorem stick_rejoin (s : State) (k i : Nat) : (stick s k i).rejoin = s.rejoin := rfl
@[simp] theorem stick_chrono (s : State) (k i : Nat) : (stick s k i).chrono = s.chrono := rfl
@[simp] theorem stick_jobs (s : State) (k i : Nat) : (stick s k i).jobs = s.jobs := rfl
@[simp] theorem stick_rings (s : State) (k i : Nat) : (stick s k i).rings = s.rings := rfl
@[simp] theorem stick_journal (s : State) (k i : Nat) : (stick s k i).journal = s.journal := rfl
@[simp] theorem stick_journalBuildSet (s : State) (k i : Nat) : (stick s k i).journalBuildSet = s.journalBuildSet := rfl
@[simp] theorem stick_journalSetup (s : State) (k i : Nat) : (stick s k i).journalSetup = s.journalSetup := rfl
@[simp] theorem stick_journalBad (s : State) (k i : Nat) : (stick s k i).journalBad = s.journalBad := rfl
@[simp] theorem stick_evq (s : State) (k i : Nat) : (stick s k i).evq = s.evq := rfl
@[simp] theorem stick_retain (s : State) (k i : Nat) : (stick s k i).retain = s.retain := rfl
@[simp] theorem stick_restart (s : State) (k i : Nat) : (stick s k i).restart = s.restart := rfl
@[simp] theorem stick_force (s : State) (k i : Nat) : (stick s k i).force = s.force := rfl
@[simp] theorem stick_net (s : State) (k i : Nat) : (stick s k i).net = s.net := rfl
@[simp] theorem stick_safe (s : State) (k i : Nat) : (stick s k i).safe = s.safe := rfl
@[simp] theorem stick_can (s : State) (k i : Nat) : (stick s k i).can = s.can := rfl
@[simp] theorem stick_filters (s : State) (k i : Nat) : (stick s k i).filters = s.filters := rfl
@[simp] theorem stick_isth (s : State) (k i : Nat) : (stick s k i).isth = s.isth := rfl
@[simp] theorem stick_holm (s : State) (k i : Nat) : (stick s k i).holm = s.holm := rfl
@[simp] theorem stick_motion (s : State) (k i : Nat) : (stick s k i).motion = s.motion := rfl
@[simp] theorem stick_fm (s : State) (k i : Nat) : (stick s k i).fm = s.fm := rfl
@[simp] theorem stick_pair (s : State) (k i : Nat) : (stick s k i).pair = s.pair := rfl
@[simp] theorem stick_skerry (s : State) (k i : Nat) : (stick s k i).skerry = s.skerry := rfl
@[simp] theorem stick_store (s : State) (k i : Nat) : (stick s k i).store = s.store := rfl
@[simp] theorem stick_recorder (s : State) (k i : Nat) : (stick s k i).recorder = s.recorder := rfl
@[simp] theorem stick_recQ (s : State) (k i : Nat) : (stick s k i).recQ = s.recQ := rfl
@[simp] theorem stick_svc (s : State) (k i : Nat) : (stick s k i).svc = s.svc := rfl
@[simp] theorem stick_tap (s : State) (k i : Nat) : (stick s k i).tap = s.tap := rfl
@[simp] theorem stick_out (s : State) (k i : Nat) : (stick s k i).out = s.out := rfl
@[simp] theorem stick_freeCount (s : State) (k i : Nat) : (stick s k i).freeCount = s.freeCount := rfl

/-! ### A message on a connector -/

@[simp] theorem emitOut_pending (s : State) (o : Out) : (emitOut s o).pending = s.pending := rfl
@[simp] theorem emitOut_regs (s : State) (o : Out) : (emitOut s o).regs = s.regs := rfl
@[simp] theorem emitOut_snaps (s : State) (o : Out) : (emitOut s o).snaps = s.snaps := rfl
@[simp] theorem emitOut_dram (s : State) (o : Out) : (emitOut s o).dram = s.dram := rfl
@[simp] theorem emitOut_soundMem (s : State) (o : Out) : (emitOut s o).sound = s.sound := rfl
@[simp] theorem emitOut_time (s : State) (o : Out) : (emitOut s o).time = s.time := rfl
@[simp] theorem emitOut_ptp (s : State) (o : Out) : (emitOut s o).ptp = s.ptp := rfl
@[simp] theorem emitOut_meridian (s : State) (o : Out) : (emitOut s o).meridian = s.meridian := rfl
@[simp] theorem emitOut_lanes (s : State) (o : Out) : (emitOut s o).lanes = s.lanes := rfl
@[simp] theorem emitOut_rejoin (s : State) (o : Out) : (emitOut s o).rejoin = s.rejoin := rfl
@[simp] theorem emitOut_chrono (s : State) (o : Out) : (emitOut s o).chrono = s.chrono := rfl
@[simp] theorem emitOut_jobs (s : State) (o : Out) : (emitOut s o).jobs = s.jobs := rfl
@[simp] theorem emitOut_rings (s : State) (o : Out) : (emitOut s o).rings = s.rings := rfl
@[simp] theorem emitOut_journal (s : State) (o : Out) : (emitOut s o).journal = s.journal := rfl
@[simp] theorem emitOut_journalBuildSet (s : State) (o : Out) : (emitOut s o).journalBuildSet = s.journalBuildSet := rfl
@[simp] theorem emitOut_journalSetup (s : State) (o : Out) : (emitOut s o).journalSetup = s.journalSetup := rfl
@[simp] theorem emitOut_journalBad (s : State) (o : Out) : (emitOut s o).journalBad = s.journalBad := rfl
@[simp] theorem emitOut_evq (s : State) (o : Out) : (emitOut s o).evq = s.evq := rfl
@[simp] theorem emitOut_retain (s : State) (o : Out) : (emitOut s o).retain = s.retain := rfl
@[simp] theorem emitOut_restart (s : State) (o : Out) : (emitOut s o).restart = s.restart := rfl
@[simp] theorem emitOut_force (s : State) (o : Out) : (emitOut s o).force = s.force := rfl
@[simp] theorem emitOut_net (s : State) (o : Out) : (emitOut s o).net = s.net := rfl
@[simp] theorem emitOut_safe (s : State) (o : Out) : (emitOut s o).safe = s.safe := rfl
@[simp] theorem emitOut_can (s : State) (o : Out) : (emitOut s o).can = s.can := rfl
@[simp] theorem emitOut_filters (s : State) (o : Out) : (emitOut s o).filters = s.filters := rfl
@[simp] theorem emitOut_isth (s : State) (o : Out) : (emitOut s o).isth = s.isth := rfl
@[simp] theorem emitOut_holm (s : State) (o : Out) : (emitOut s o).holm = s.holm := rfl
@[simp] theorem emitOut_motion (s : State) (o : Out) : (emitOut s o).motion = s.motion := rfl
@[simp] theorem emitOut_fm (s : State) (o : Out) : (emitOut s o).fm = s.fm := rfl
@[simp] theorem emitOut_pair (s : State) (o : Out) : (emitOut s o).pair = s.pair := rfl
@[simp] theorem emitOut_skerry (s : State) (o : Out) : (emitOut s o).skerry = s.skerry := rfl
@[simp] theorem emitOut_store (s : State) (o : Out) : (emitOut s o).store = s.store := rfl
@[simp] theorem emitOut_recorder (s : State) (o : Out) : (emitOut s o).recorder = s.recorder := rfl
@[simp] theorem emitOut_recQ (s : State) (o : Out) : (emitOut s o).recQ = s.recQ := rfl
@[simp] theorem emitOut_svc (s : State) (o : Out) : (emitOut s o).svc = s.svc := rfl
@[simp] theorem emitOut_tap (s : State) (o : Out) : (emitOut s o).tap = s.tap := rfl
@[simp] theorem emitOut_out (s : State) (o : Out) : (emitOut s o).out = o :: s.out := rfl
@[simp] theorem emitOut_freeCount (s : State) (o : Out) : (emitOut s o).freeCount = s.freeCount := rfl

/-! ### A lane's record replaced -/

@[simp] theorem setLane_pending (s : State) (l : Lane) (x : LaneSt) : (setLane s l x).pending = s.pending := rfl
@[simp] theorem setLane_regs (s : State) (l : Lane) (x : LaneSt) : (setLane s l x).regs = s.regs := rfl
@[simp] theorem setLane_snaps (s : State) (l : Lane) (x : LaneSt) : (setLane s l x).snaps = s.snaps := rfl
@[simp] theorem setLane_dram (s : State) (l : Lane) (x : LaneSt) : (setLane s l x).dram = s.dram := rfl
@[simp] theorem setLane_soundMem (s : State) (l : Lane) (x : LaneSt) : (setLane s l x).sound = s.sound := rfl
@[simp] theorem setLane_time (s : State) (l : Lane) (x : LaneSt) : (setLane s l x).time = s.time := rfl
@[simp] theorem setLane_ptp (s : State) (l : Lane) (x : LaneSt) : (setLane s l x).ptp = s.ptp := rfl
@[simp] theorem setLane_meridian (s : State) (l : Lane) (x : LaneSt) : (setLane s l x).meridian = s.meridian := rfl
@[simp] theorem setLane_lanes (s : State) (l : Lane) (x : LaneSt) : (setLane s l x).lanes = s.lanes.set l x := rfl
@[simp] theorem setLane_rejoin (s : State) (l : Lane) (x : LaneSt) : (setLane s l x).rejoin = s.rejoin := rfl
@[simp] theorem setLane_chrono (s : State) (l : Lane) (x : LaneSt) : (setLane s l x).chrono = s.chrono := rfl
@[simp] theorem setLane_jobs (s : State) (l : Lane) (x : LaneSt) : (setLane s l x).jobs = s.jobs := rfl
@[simp] theorem setLane_rings (s : State) (l : Lane) (x : LaneSt) : (setLane s l x).rings = s.rings := rfl
@[simp] theorem setLane_journal (s : State) (l : Lane) (x : LaneSt) : (setLane s l x).journal = s.journal := rfl
@[simp] theorem setLane_journalBuildSet (s : State) (l : Lane) (x : LaneSt) : (setLane s l x).journalBuildSet = s.journalBuildSet := rfl
@[simp] theorem setLane_journalSetup (s : State) (l : Lane) (x : LaneSt) : (setLane s l x).journalSetup = s.journalSetup := rfl
@[simp] theorem setLane_journalBad (s : State) (l : Lane) (x : LaneSt) : (setLane s l x).journalBad = s.journalBad := rfl
@[simp] theorem setLane_evq (s : State) (l : Lane) (x : LaneSt) : (setLane s l x).evq = s.evq := rfl
@[simp] theorem setLane_retain (s : State) (l : Lane) (x : LaneSt) : (setLane s l x).retain = s.retain := rfl
@[simp] theorem setLane_restart (s : State) (l : Lane) (x : LaneSt) : (setLane s l x).restart = s.restart := rfl
@[simp] theorem setLane_force (s : State) (l : Lane) (x : LaneSt) : (setLane s l x).force = s.force := rfl
@[simp] theorem setLane_net (s : State) (l : Lane) (x : LaneSt) : (setLane s l x).net = s.net := rfl
@[simp] theorem setLane_safe (s : State) (l : Lane) (x : LaneSt) : (setLane s l x).safe = s.safe := rfl
@[simp] theorem setLane_can (s : State) (l : Lane) (x : LaneSt) : (setLane s l x).can = s.can := rfl
@[simp] theorem setLane_filters (s : State) (l : Lane) (x : LaneSt) : (setLane s l x).filters = s.filters := rfl
@[simp] theorem setLane_isth (s : State) (l : Lane) (x : LaneSt) : (setLane s l x).isth = s.isth := rfl
@[simp] theorem setLane_holm (s : State) (l : Lane) (x : LaneSt) : (setLane s l x).holm = s.holm := rfl
@[simp] theorem setLane_motion (s : State) (l : Lane) (x : LaneSt) : (setLane s l x).motion = s.motion := rfl
@[simp] theorem setLane_fm (s : State) (l : Lane) (x : LaneSt) : (setLane s l x).fm = s.fm := rfl
@[simp] theorem setLane_pair (s : State) (l : Lane) (x : LaneSt) : (setLane s l x).pair = s.pair := rfl
@[simp] theorem setLane_skerry (s : State) (l : Lane) (x : LaneSt) : (setLane s l x).skerry = s.skerry := rfl
@[simp] theorem setLane_store (s : State) (l : Lane) (x : LaneSt) : (setLane s l x).store = s.store := rfl
@[simp] theorem setLane_recorder (s : State) (l : Lane) (x : LaneSt) : (setLane s l x).recorder = s.recorder := rfl
@[simp] theorem setLane_recQ (s : State) (l : Lane) (x : LaneSt) : (setLane s l x).recQ = s.recQ := rfl
@[simp] theorem setLane_svc (s : State) (l : Lane) (x : LaneSt) : (setLane s l x).svc = s.svc := rfl
@[simp] theorem setLane_tap (s : State) (l : Lane) (x : LaneSt) : (setLane s l x).tap = s.tap := rfl
@[simp] theorem setLane_out (s : State) (l : Lane) (x : LaneSt) : (setLane s l x).out = s.out := rfl
@[simp] theorem setLane_freeCount (s : State) (l : Lane) (x : LaneSt) : (setLane s l x).freeCount = s.freeCount := rfl

/-! ### A task's job state replaced -/

@[simp] theorem setJob_pending (s : State) (n : Nat) (j : JobSt) : (setJob s n j).pending = s.pending := rfl
@[simp] theorem setJob_regs (s : State) (n : Nat) (j : JobSt) : (setJob s n j).regs = s.regs := rfl
@[simp] theorem setJob_snaps (s : State) (n : Nat) (j : JobSt) : (setJob s n j).snaps = s.snaps := rfl
@[simp] theorem setJob_dram (s : State) (n : Nat) (j : JobSt) : (setJob s n j).dram = s.dram := rfl
@[simp] theorem setJob_soundMem (s : State) (n : Nat) (j : JobSt) : (setJob s n j).sound = s.sound := rfl
@[simp] theorem setJob_time (s : State) (n : Nat) (j : JobSt) : (setJob s n j).time = s.time := rfl
@[simp] theorem setJob_ptp (s : State) (n : Nat) (j : JobSt) : (setJob s n j).ptp = s.ptp := rfl
@[simp] theorem setJob_meridian (s : State) (n : Nat) (j : JobSt) : (setJob s n j).meridian = s.meridian := rfl
@[simp] theorem setJob_lanes (s : State) (n : Nat) (j : JobSt) : (setJob s n j).lanes = s.lanes := rfl
@[simp] theorem setJob_rejoin (s : State) (n : Nat) (j : JobSt) : (setJob s n j).rejoin = s.rejoin := rfl
@[simp] theorem setJob_chrono (s : State) (n : Nat) (j : JobSt) : (setJob s n j).chrono = s.chrono := rfl
@[simp] theorem setJob_jobs (s : State) (n : Nat) (j : JobSt) : (setJob s n j).jobs = tset noJob s.jobs n j := rfl
@[simp] theorem setJob_rings (s : State) (n : Nat) (j : JobSt) : (setJob s n j).rings = s.rings := rfl
@[simp] theorem setJob_journal (s : State) (n : Nat) (j : JobSt) : (setJob s n j).journal = s.journal := rfl
@[simp] theorem setJob_journalBuildSet (s : State) (n : Nat) (j : JobSt) : (setJob s n j).journalBuildSet = s.journalBuildSet := rfl
@[simp] theorem setJob_journalSetup (s : State) (n : Nat) (j : JobSt) : (setJob s n j).journalSetup = s.journalSetup := rfl
@[simp] theorem setJob_journalBad (s : State) (n : Nat) (j : JobSt) : (setJob s n j).journalBad = s.journalBad := rfl
@[simp] theorem setJob_evq (s : State) (n : Nat) (j : JobSt) : (setJob s n j).evq = s.evq := rfl
@[simp] theorem setJob_retain (s : State) (n : Nat) (j : JobSt) : (setJob s n j).retain = s.retain := rfl
@[simp] theorem setJob_restart (s : State) (n : Nat) (j : JobSt) : (setJob s n j).restart = s.restart := rfl
@[simp] theorem setJob_force (s : State) (n : Nat) (j : JobSt) : (setJob s n j).force = s.force := rfl
@[simp] theorem setJob_net (s : State) (n : Nat) (j : JobSt) : (setJob s n j).net = s.net := rfl
@[simp] theorem setJob_safe (s : State) (n : Nat) (j : JobSt) : (setJob s n j).safe = s.safe := rfl
@[simp] theorem setJob_can (s : State) (n : Nat) (j : JobSt) : (setJob s n j).can = s.can := rfl
@[simp] theorem setJob_filters (s : State) (n : Nat) (j : JobSt) : (setJob s n j).filters = s.filters := rfl
@[simp] theorem setJob_isth (s : State) (n : Nat) (j : JobSt) : (setJob s n j).isth = s.isth := rfl
@[simp] theorem setJob_holm (s : State) (n : Nat) (j : JobSt) : (setJob s n j).holm = s.holm := rfl
@[simp] theorem setJob_motion (s : State) (n : Nat) (j : JobSt) : (setJob s n j).motion = s.motion := rfl
@[simp] theorem setJob_fm (s : State) (n : Nat) (j : JobSt) : (setJob s n j).fm = s.fm := rfl
@[simp] theorem setJob_pair (s : State) (n : Nat) (j : JobSt) : (setJob s n j).pair = s.pair := rfl
@[simp] theorem setJob_skerry (s : State) (n : Nat) (j : JobSt) : (setJob s n j).skerry = s.skerry := rfl
@[simp] theorem setJob_store (s : State) (n : Nat) (j : JobSt) : (setJob s n j).store = s.store := rfl
@[simp] theorem setJob_recorder (s : State) (n : Nat) (j : JobSt) : (setJob s n j).recorder = s.recorder := rfl
@[simp] theorem setJob_recQ (s : State) (n : Nat) (j : JobSt) : (setJob s n j).recQ = s.recQ := rfl
@[simp] theorem setJob_svc (s : State) (n : Nat) (j : JobSt) : (setJob s n j).svc = s.svc := rfl
@[simp] theorem setJob_tap (s : State) (n : Nat) (j : JobSt) : (setJob s n j).tap = s.tap := rfl
@[simp] theorem setJob_out (s : State) (n : Nat) (j : JobSt) : (setJob s n j).out = s.out := rfl
@[simp] theorem setJob_freeCount (s : State) (n : Nat) (j : JobSt) : (setJob s n j).freeCount = s.freeCount := rfl

/-! ### A ring's record replaced -/

@[simp] theorem setRing_pending (s : State) (n : Nat) (x : RingSt) : (setRing n x s).pending = s.pending := rfl
@[simp] theorem setRing_regs (s : State) (n : Nat) (x : RingSt) : (setRing n x s).regs = s.regs := rfl
@[simp] theorem setRing_snaps (s : State) (n : Nat) (x : RingSt) : (setRing n x s).snaps = s.snaps := rfl
@[simp] theorem setRing_dram (s : State) (n : Nat) (x : RingSt) : (setRing n x s).dram = s.dram := rfl
@[simp] theorem setRing_soundMem (s : State) (n : Nat) (x : RingSt) : (setRing n x s).sound = s.sound := rfl
@[simp] theorem setRing_time (s : State) (n : Nat) (x : RingSt) : (setRing n x s).time = s.time := rfl
@[simp] theorem setRing_ptp (s : State) (n : Nat) (x : RingSt) : (setRing n x s).ptp = s.ptp := rfl
@[simp] theorem setRing_meridian (s : State) (n : Nat) (x : RingSt) : (setRing n x s).meridian = s.meridian := rfl
@[simp] theorem setRing_lanes (s : State) (n : Nat) (x : RingSt) : (setRing n x s).lanes = s.lanes := rfl
@[simp] theorem setRing_rejoin (s : State) (n : Nat) (x : RingSt) : (setRing n x s).rejoin = s.rejoin := rfl
@[simp] theorem setRing_chrono (s : State) (n : Nat) (x : RingSt) : (setRing n x s).chrono = s.chrono := rfl
@[simp] theorem setRing_jobs (s : State) (n : Nat) (x : RingSt) : (setRing n x s).jobs = s.jobs := rfl
@[simp] theorem setRing_rings (s : State) (n : Nat) (x : RingSt) : (setRing n x s).rings = tset ring0 s.rings n x := rfl
@[simp] theorem setRing_journal (s : State) (n : Nat) (x : RingSt) : (setRing n x s).journal = s.journal := rfl
@[simp] theorem setRing_journalBuildSet (s : State) (n : Nat) (x : RingSt) : (setRing n x s).journalBuildSet = s.journalBuildSet := rfl
@[simp] theorem setRing_journalSetup (s : State) (n : Nat) (x : RingSt) : (setRing n x s).journalSetup = s.journalSetup := rfl
@[simp] theorem setRing_journalBad (s : State) (n : Nat) (x : RingSt) : (setRing n x s).journalBad = s.journalBad := rfl
@[simp] theorem setRing_evq (s : State) (n : Nat) (x : RingSt) : (setRing n x s).evq = s.evq := rfl
@[simp] theorem setRing_retain (s : State) (n : Nat) (x : RingSt) : (setRing n x s).retain = s.retain := rfl
@[simp] theorem setRing_restart (s : State) (n : Nat) (x : RingSt) : (setRing n x s).restart = s.restart := rfl
@[simp] theorem setRing_force (s : State) (n : Nat) (x : RingSt) : (setRing n x s).force = s.force := rfl
@[simp] theorem setRing_net (s : State) (n : Nat) (x : RingSt) : (setRing n x s).net = s.net := rfl
@[simp] theorem setRing_safe (s : State) (n : Nat) (x : RingSt) : (setRing n x s).safe = s.safe := rfl
@[simp] theorem setRing_can (s : State) (n : Nat) (x : RingSt) : (setRing n x s).can = s.can := rfl
@[simp] theorem setRing_filters (s : State) (n : Nat) (x : RingSt) : (setRing n x s).filters = s.filters := rfl
@[simp] theorem setRing_isth (s : State) (n : Nat) (x : RingSt) : (setRing n x s).isth = s.isth := rfl
@[simp] theorem setRing_holm (s : State) (n : Nat) (x : RingSt) : (setRing n x s).holm = s.holm := rfl
@[simp] theorem setRing_motion (s : State) (n : Nat) (x : RingSt) : (setRing n x s).motion = s.motion := rfl
@[simp] theorem setRing_fm (s : State) (n : Nat) (x : RingSt) : (setRing n x s).fm = s.fm := rfl
@[simp] theorem setRing_pair (s : State) (n : Nat) (x : RingSt) : (setRing n x s).pair = s.pair := rfl
@[simp] theorem setRing_skerry (s : State) (n : Nat) (x : RingSt) : (setRing n x s).skerry = s.skerry := rfl
@[simp] theorem setRing_store (s : State) (n : Nat) (x : RingSt) : (setRing n x s).store = s.store := rfl
@[simp] theorem setRing_recorder (s : State) (n : Nat) (x : RingSt) : (setRing n x s).recorder = s.recorder := rfl
@[simp] theorem setRing_recQ (s : State) (n : Nat) (x : RingSt) : (setRing n x s).recQ = s.recQ := rfl
@[simp] theorem setRing_svc (s : State) (n : Nat) (x : RingSt) : (setRing n x s).svc = s.svc := rfl
@[simp] theorem setRing_tap (s : State) (n : Nat) (x : RingSt) : (setRing n x s).tap = s.tap := rfl
@[simp] theorem setRing_out (s : State) (n : Nat) (x : RingSt) : (setRing n x s).out = s.out := rfl
@[simp] theorem setRing_freeCount (s : State) (n : Nat) (x : RingSt) : (setRing n x s).freeCount = s.freeCount := rfl

/-! ### A CAN channel's record replaced -/

@[simp] theorem setChan_pending (s : State) (n : Nat) (x : CanCh) : (setChan s n x).pending = s.pending := rfl
@[simp] theorem setChan_regs (s : State) (n : Nat) (x : CanCh) : (setChan s n x).regs = s.regs := rfl
@[simp] theorem setChan_snaps (s : State) (n : Nat) (x : CanCh) : (setChan s n x).snaps = s.snaps := rfl
@[simp] theorem setChan_dram (s : State) (n : Nat) (x : CanCh) : (setChan s n x).dram = s.dram := rfl
@[simp] theorem setChan_soundMem (s : State) (n : Nat) (x : CanCh) : (setChan s n x).sound = s.sound := rfl
@[simp] theorem setChan_time (s : State) (n : Nat) (x : CanCh) : (setChan s n x).time = s.time := rfl
@[simp] theorem setChan_ptp (s : State) (n : Nat) (x : CanCh) : (setChan s n x).ptp = s.ptp := rfl
@[simp] theorem setChan_meridian (s : State) (n : Nat) (x : CanCh) : (setChan s n x).meridian = s.meridian := rfl
@[simp] theorem setChan_lanes (s : State) (n : Nat) (x : CanCh) : (setChan s n x).lanes = s.lanes := rfl
@[simp] theorem setChan_rejoin (s : State) (n : Nat) (x : CanCh) : (setChan s n x).rejoin = s.rejoin := rfl
@[simp] theorem setChan_chrono (s : State) (n : Nat) (x : CanCh) : (setChan s n x).chrono = s.chrono := rfl
@[simp] theorem setChan_jobs (s : State) (n : Nat) (x : CanCh) : (setChan s n x).jobs = s.jobs := rfl
@[simp] theorem setChan_rings (s : State) (n : Nat) (x : CanCh) : (setChan s n x).rings = s.rings := rfl
@[simp] theorem setChan_journal (s : State) (n : Nat) (x : CanCh) : (setChan s n x).journal = s.journal := rfl
@[simp] theorem setChan_journalBuildSet (s : State) (n : Nat) (x : CanCh) : (setChan s n x).journalBuildSet = s.journalBuildSet := rfl
@[simp] theorem setChan_journalSetup (s : State) (n : Nat) (x : CanCh) : (setChan s n x).journalSetup = s.journalSetup := rfl
@[simp] theorem setChan_journalBad (s : State) (n : Nat) (x : CanCh) : (setChan s n x).journalBad = s.journalBad := rfl
@[simp] theorem setChan_evq (s : State) (n : Nat) (x : CanCh) : (setChan s n x).evq = s.evq := rfl
@[simp] theorem setChan_retain (s : State) (n : Nat) (x : CanCh) : (setChan s n x).retain = s.retain := rfl
@[simp] theorem setChan_restart (s : State) (n : Nat) (x : CanCh) : (setChan s n x).restart = s.restart := rfl
@[simp] theorem setChan_force (s : State) (n : Nat) (x : CanCh) : (setChan s n x).force = s.force := rfl
@[simp] theorem setChan_net (s : State) (n : Nat) (x : CanCh) : (setChan s n x).net = s.net := rfl
@[simp] theorem setChan_safe (s : State) (n : Nat) (x : CanCh) : (setChan s n x).safe = s.safe := rfl
@[simp] theorem setChan_can (s : State) (n : Nat) (x : CanCh) : (setChan s n x).can = tset canCh0 s.can n x := rfl
@[simp] theorem setChan_filters (s : State) (n : Nat) (x : CanCh) : (setChan s n x).filters = s.filters := rfl
@[simp] theorem setChan_isth (s : State) (n : Nat) (x : CanCh) : (setChan s n x).isth = s.isth := rfl
@[simp] theorem setChan_holm (s : State) (n : Nat) (x : CanCh) : (setChan s n x).holm = s.holm := rfl
@[simp] theorem setChan_motion (s : State) (n : Nat) (x : CanCh) : (setChan s n x).motion = s.motion := rfl
@[simp] theorem setChan_fm (s : State) (n : Nat) (x : CanCh) : (setChan s n x).fm = s.fm := rfl
@[simp] theorem setChan_pair (s : State) (n : Nat) (x : CanCh) : (setChan s n x).pair = s.pair := rfl
@[simp] theorem setChan_skerry (s : State) (n : Nat) (x : CanCh) : (setChan s n x).skerry = s.skerry := rfl
@[simp] theorem setChan_store (s : State) (n : Nat) (x : CanCh) : (setChan s n x).store = s.store := rfl
@[simp] theorem setChan_recorder (s : State) (n : Nat) (x : CanCh) : (setChan s n x).recorder = s.recorder := rfl
@[simp] theorem setChan_recQ (s : State) (n : Nat) (x : CanCh) : (setChan s n x).recQ = s.recQ := rfl
@[simp] theorem setChan_svc (s : State) (n : Nat) (x : CanCh) : (setChan s n x).svc = s.svc := rfl
@[simp] theorem setChan_tap (s : State) (n : Nat) (x : CanCh) : (setChan s n x).tap = s.tap := rfl
@[simp] theorem setChan_out (s : State) (n : Nat) (x : CanCh) : (setChan s n x).out = s.out := rfl
@[simp] theorem setChan_freeCount (s : State) (n : Nat) (x : CanCh) : (setChan s n x).freeCount = s.freeCount := rfl

/-! ### A filter's record replaced -/

@[simp] theorem setFlt_pending (s : State) (n : Nat) (x : CanFlt) : (setFlt s n x).pending = s.pending := rfl
@[simp] theorem setFlt_regs (s : State) (n : Nat) (x : CanFlt) : (setFlt s n x).regs = s.regs := rfl
@[simp] theorem setFlt_snaps (s : State) (n : Nat) (x : CanFlt) : (setFlt s n x).snaps = s.snaps := rfl
@[simp] theorem setFlt_dram (s : State) (n : Nat) (x : CanFlt) : (setFlt s n x).dram = s.dram := rfl
@[simp] theorem setFlt_soundMem (s : State) (n : Nat) (x : CanFlt) : (setFlt s n x).sound = s.sound := rfl
@[simp] theorem setFlt_time (s : State) (n : Nat) (x : CanFlt) : (setFlt s n x).time = s.time := rfl
@[simp] theorem setFlt_ptp (s : State) (n : Nat) (x : CanFlt) : (setFlt s n x).ptp = s.ptp := rfl
@[simp] theorem setFlt_meridian (s : State) (n : Nat) (x : CanFlt) : (setFlt s n x).meridian = s.meridian := rfl
@[simp] theorem setFlt_lanes (s : State) (n : Nat) (x : CanFlt) : (setFlt s n x).lanes = s.lanes := rfl
@[simp] theorem setFlt_rejoin (s : State) (n : Nat) (x : CanFlt) : (setFlt s n x).rejoin = s.rejoin := rfl
@[simp] theorem setFlt_chrono (s : State) (n : Nat) (x : CanFlt) : (setFlt s n x).chrono = s.chrono := rfl
@[simp] theorem setFlt_jobs (s : State) (n : Nat) (x : CanFlt) : (setFlt s n x).jobs = s.jobs := rfl
@[simp] theorem setFlt_rings (s : State) (n : Nat) (x : CanFlt) : (setFlt s n x).rings = s.rings := rfl
@[simp] theorem setFlt_journal (s : State) (n : Nat) (x : CanFlt) : (setFlt s n x).journal = s.journal := rfl
@[simp] theorem setFlt_journalBuildSet (s : State) (n : Nat) (x : CanFlt) : (setFlt s n x).journalBuildSet = s.journalBuildSet := rfl
@[simp] theorem setFlt_journalSetup (s : State) (n : Nat) (x : CanFlt) : (setFlt s n x).journalSetup = s.journalSetup := rfl
@[simp] theorem setFlt_journalBad (s : State) (n : Nat) (x : CanFlt) : (setFlt s n x).journalBad = s.journalBad := rfl
@[simp] theorem setFlt_evq (s : State) (n : Nat) (x : CanFlt) : (setFlt s n x).evq = s.evq := rfl
@[simp] theorem setFlt_retain (s : State) (n : Nat) (x : CanFlt) : (setFlt s n x).retain = s.retain := rfl
@[simp] theorem setFlt_restart (s : State) (n : Nat) (x : CanFlt) : (setFlt s n x).restart = s.restart := rfl
@[simp] theorem setFlt_force (s : State) (n : Nat) (x : CanFlt) : (setFlt s n x).force = s.force := rfl
@[simp] theorem setFlt_net (s : State) (n : Nat) (x : CanFlt) : (setFlt s n x).net = s.net := rfl
@[simp] theorem setFlt_safe (s : State) (n : Nat) (x : CanFlt) : (setFlt s n x).safe = s.safe := rfl
@[simp] theorem setFlt_can (s : State) (n : Nat) (x : CanFlt) : (setFlt s n x).can = s.can := rfl
@[simp] theorem setFlt_filters (s : State) (n : Nat) (x : CanFlt) : (setFlt s n x).filters = tset canFlt0 s.filters n x := rfl
@[simp] theorem setFlt_isth (s : State) (n : Nat) (x : CanFlt) : (setFlt s n x).isth = s.isth := rfl
@[simp] theorem setFlt_holm (s : State) (n : Nat) (x : CanFlt) : (setFlt s n x).holm = s.holm := rfl
@[simp] theorem setFlt_motion (s : State) (n : Nat) (x : CanFlt) : (setFlt s n x).motion = s.motion := rfl
@[simp] theorem setFlt_fm (s : State) (n : Nat) (x : CanFlt) : (setFlt s n x).fm = s.fm := rfl
@[simp] theorem setFlt_pair (s : State) (n : Nat) (x : CanFlt) : (setFlt s n x).pair = s.pair := rfl
@[simp] theorem setFlt_skerry (s : State) (n : Nat) (x : CanFlt) : (setFlt s n x).skerry = s.skerry := rfl
@[simp] theorem setFlt_store (s : State) (n : Nat) (x : CanFlt) : (setFlt s n x).store = s.store := rfl
@[simp] theorem setFlt_recorder (s : State) (n : Nat) (x : CanFlt) : (setFlt s n x).recorder = s.recorder := rfl
@[simp] theorem setFlt_recQ (s : State) (n : Nat) (x : CanFlt) : (setFlt s n x).recQ = s.recQ := rfl
@[simp] theorem setFlt_svc (s : State) (n : Nat) (x : CanFlt) : (setFlt s n x).svc = s.svc := rfl
@[simp] theorem setFlt_tap (s : State) (n : Nat) (x : CanFlt) : (setFlt s n x).tap = s.tap := rfl
@[simp] theorem setFlt_out (s : State) (n : Nat) (x : CanFlt) : (setFlt s n x).out = s.out := rfl
@[simp] theorem setFlt_freeCount (s : State) (n : Nat) (x : CanFlt) : (setFlt s n x).freeCount = s.freeCount := rfl

/-! ### A SAFE connection's record replaced -/

@[simp] theorem setConn_pending (s : State) (n : Nat) (x : SafeConn) : (setConn s n x).pending = s.pending := rfl
@[simp] theorem setConn_regs (s : State) (n : Nat) (x : SafeConn) : (setConn s n x).regs = s.regs := rfl
@[simp] theorem setConn_snaps (s : State) (n : Nat) (x : SafeConn) : (setConn s n x).snaps = s.snaps := rfl
@[simp] theorem setConn_dram (s : State) (n : Nat) (x : SafeConn) : (setConn s n x).dram = s.dram := rfl
@[simp] theorem setConn_soundMem (s : State) (n : Nat) (x : SafeConn) : (setConn s n x).sound = s.sound := rfl
@[simp] theorem setConn_time (s : State) (n : Nat) (x : SafeConn) : (setConn s n x).time = s.time := rfl
@[simp] theorem setConn_ptp (s : State) (n : Nat) (x : SafeConn) : (setConn s n x).ptp = s.ptp := rfl
@[simp] theorem setConn_meridian (s : State) (n : Nat) (x : SafeConn) : (setConn s n x).meridian = s.meridian := rfl
@[simp] theorem setConn_lanes (s : State) (n : Nat) (x : SafeConn) : (setConn s n x).lanes = s.lanes := rfl
@[simp] theorem setConn_rejoin (s : State) (n : Nat) (x : SafeConn) : (setConn s n x).rejoin = s.rejoin := rfl
@[simp] theorem setConn_chrono (s : State) (n : Nat) (x : SafeConn) : (setConn s n x).chrono = s.chrono := rfl
@[simp] theorem setConn_jobs (s : State) (n : Nat) (x : SafeConn) : (setConn s n x).jobs = s.jobs := rfl
@[simp] theorem setConn_rings (s : State) (n : Nat) (x : SafeConn) : (setConn s n x).rings = s.rings := rfl
@[simp] theorem setConn_journal (s : State) (n : Nat) (x : SafeConn) : (setConn s n x).journal = s.journal := rfl
@[simp] theorem setConn_journalBuildSet (s : State) (n : Nat) (x : SafeConn) : (setConn s n x).journalBuildSet = s.journalBuildSet := rfl
@[simp] theorem setConn_journalSetup (s : State) (n : Nat) (x : SafeConn) : (setConn s n x).journalSetup = s.journalSetup := rfl
@[simp] theorem setConn_journalBad (s : State) (n : Nat) (x : SafeConn) : (setConn s n x).journalBad = s.journalBad := rfl
@[simp] theorem setConn_evq (s : State) (n : Nat) (x : SafeConn) : (setConn s n x).evq = s.evq := rfl
@[simp] theorem setConn_retain (s : State) (n : Nat) (x : SafeConn) : (setConn s n x).retain = s.retain := rfl
@[simp] theorem setConn_restart (s : State) (n : Nat) (x : SafeConn) : (setConn s n x).restart = s.restart := rfl
@[simp] theorem setConn_force (s : State) (n : Nat) (x : SafeConn) : (setConn s n x).force = s.force := rfl
@[simp] theorem setConn_net (s : State) (n : Nat) (x : SafeConn) : (setConn s n x).net = s.net := rfl
@[simp] theorem setConn_safe (s : State) (n : Nat) (x : SafeConn) : (setConn s n x).safe = tset safeConn0 s.safe n x := rfl
@[simp] theorem setConn_can (s : State) (n : Nat) (x : SafeConn) : (setConn s n x).can = s.can := rfl
@[simp] theorem setConn_filters (s : State) (n : Nat) (x : SafeConn) : (setConn s n x).filters = s.filters := rfl
@[simp] theorem setConn_isth (s : State) (n : Nat) (x : SafeConn) : (setConn s n x).isth = s.isth := rfl
@[simp] theorem setConn_holm (s : State) (n : Nat) (x : SafeConn) : (setConn s n x).holm = s.holm := rfl
@[simp] theorem setConn_motion (s : State) (n : Nat) (x : SafeConn) : (setConn s n x).motion = s.motion := rfl
@[simp] theorem setConn_fm (s : State) (n : Nat) (x : SafeConn) : (setConn s n x).fm = s.fm := rfl
@[simp] theorem setConn_pair (s : State) (n : Nat) (x : SafeConn) : (setConn s n x).pair = s.pair := rfl
@[simp] theorem setConn_skerry (s : State) (n : Nat) (x : SafeConn) : (setConn s n x).skerry = s.skerry := rfl
@[simp] theorem setConn_store (s : State) (n : Nat) (x : SafeConn) : (setConn s n x).store = s.store := rfl
@[simp] theorem setConn_recorder (s : State) (n : Nat) (x : SafeConn) : (setConn s n x).recorder = s.recorder := rfl
@[simp] theorem setConn_recQ (s : State) (n : Nat) (x : SafeConn) : (setConn s n x).recQ = s.recQ := rfl
@[simp] theorem setConn_svc (s : State) (n : Nat) (x : SafeConn) : (setConn s n x).svc = s.svc := rfl
@[simp] theorem setConn_tap (s : State) (n : Nat) (x : SafeConn) : (setConn s n x).tap = s.tap := rfl
@[simp] theorem setConn_out (s : State) (n : Nat) (x : SafeConn) : (setConn s n x).out = s.out := rfl
@[simp] theorem setConn_freeCount (s : State) (n : Nat) (x : SafeConn) : (setConn s n x).freeCount = s.freeCount := rfl

/-! ### A speed sensor's record replaced -/

@[simp] theorem setSensor_pending (s : State) (n : Nat) (x : Sensor) : (setSensor s n x).pending = s.pending := rfl
@[simp] theorem setSensor_regs (s : State) (n : Nat) (x : Sensor) : (setSensor s n x).regs = s.regs := rfl
@[simp] theorem setSensor_snaps (s : State) (n : Nat) (x : Sensor) : (setSensor s n x).snaps = s.snaps := rfl
@[simp] theorem setSensor_dram (s : State) (n : Nat) (x : Sensor) : (setSensor s n x).dram = s.dram := rfl
@[simp] theorem setSensor_soundMem (s : State) (n : Nat) (x : Sensor) : (setSensor s n x).sound = s.sound := rfl
@[simp] theorem setSensor_time (s : State) (n : Nat) (x : Sensor) : (setSensor s n x).time = s.time := rfl
@[simp] theorem setSensor_ptp (s : State) (n : Nat) (x : Sensor) : (setSensor s n x).ptp = s.ptp := rfl
@[simp] theorem setSensor_meridian (s : State) (n : Nat) (x : Sensor) : (setSensor s n x).meridian = s.meridian := rfl
@[simp] theorem setSensor_lanes (s : State) (n : Nat) (x : Sensor) : (setSensor s n x).lanes = s.lanes := rfl
@[simp] theorem setSensor_rejoin (s : State) (n : Nat) (x : Sensor) : (setSensor s n x).rejoin = s.rejoin := rfl
@[simp] theorem setSensor_chrono (s : State) (n : Nat) (x : Sensor) : (setSensor s n x).chrono = s.chrono := rfl
@[simp] theorem setSensor_jobs (s : State) (n : Nat) (x : Sensor) : (setSensor s n x).jobs = s.jobs := rfl
@[simp] theorem setSensor_rings (s : State) (n : Nat) (x : Sensor) : (setSensor s n x).rings = s.rings := rfl
@[simp] theorem setSensor_journal (s : State) (n : Nat) (x : Sensor) : (setSensor s n x).journal = s.journal := rfl
@[simp] theorem setSensor_journalBuildSet (s : State) (n : Nat) (x : Sensor) : (setSensor s n x).journalBuildSet = s.journalBuildSet := rfl
@[simp] theorem setSensor_journalSetup (s : State) (n : Nat) (x : Sensor) : (setSensor s n x).journalSetup = s.journalSetup := rfl
@[simp] theorem setSensor_journalBad (s : State) (n : Nat) (x : Sensor) : (setSensor s n x).journalBad = s.journalBad := rfl
@[simp] theorem setSensor_evq (s : State) (n : Nat) (x : Sensor) : (setSensor s n x).evq = s.evq := rfl
@[simp] theorem setSensor_retain (s : State) (n : Nat) (x : Sensor) : (setSensor s n x).retain = s.retain := rfl
@[simp] theorem setSensor_restart (s : State) (n : Nat) (x : Sensor) : (setSensor s n x).restart = s.restart := rfl
@[simp] theorem setSensor_force (s : State) (n : Nat) (x : Sensor) : (setSensor s n x).force = s.force := rfl
@[simp] theorem setSensor_net (s : State) (n : Nat) (x : Sensor) : (setSensor s n x).net = s.net := rfl
@[simp] theorem setSensor_safe (s : State) (n : Nat) (x : Sensor) : (setSensor s n x).safe = s.safe := rfl
@[simp] theorem setSensor_can (s : State) (n : Nat) (x : Sensor) : (setSensor s n x).can = s.can := rfl
@[simp] theorem setSensor_filters (s : State) (n : Nat) (x : Sensor) : (setSensor s n x).filters = s.filters := rfl
@[simp] theorem setSensor_isth (s : State) (n : Nat) (x : Sensor) : (setSensor s n x).isth = s.isth := rfl
@[simp] theorem setSensor_holm (s : State) (n : Nat) (x : Sensor) : (setSensor s n x).holm = s.holm := rfl
@[simp] theorem setSensor_motion (s : State) (n : Nat) (x : Sensor) : (setSensor s n x).motion = { s.motion with sensors := tset sensor0 s.motion.sensors n x } := rfl
@[simp] theorem setSensor_fm (s : State) (n : Nat) (x : Sensor) : (setSensor s n x).fm = s.fm := rfl
@[simp] theorem setSensor_pair (s : State) (n : Nat) (x : Sensor) : (setSensor s n x).pair = s.pair := rfl
@[simp] theorem setSensor_skerry (s : State) (n : Nat) (x : Sensor) : (setSensor s n x).skerry = s.skerry := rfl
@[simp] theorem setSensor_store (s : State) (n : Nat) (x : Sensor) : (setSensor s n x).store = s.store := rfl
@[simp] theorem setSensor_recorder (s : State) (n : Nat) (x : Sensor) : (setSensor s n x).recorder = s.recorder := rfl
@[simp] theorem setSensor_recQ (s : State) (n : Nat) (x : Sensor) : (setSensor s n x).recQ = s.recQ := rfl
@[simp] theorem setSensor_svc (s : State) (n : Nat) (x : Sensor) : (setSensor s n x).svc = s.svc := rfl
@[simp] theorem setSensor_tap (s : State) (n : Nat) (x : Sensor) : (setSensor s n x).tap = s.tap := rfl
@[simp] theorem setSensor_out (s : State) (n : Nat) (x : Sensor) : (setSensor s n x).out = s.out := rfl
@[simp] theorem setSensor_freeCount (s : State) (n : Nat) (x : Sensor) : (setSensor s n x).freeCount = s.freeCount := rfl

/-! ### Registers beside the updates of records -/

@[simp] theorem getReg_emitOut (s : State) (o : Out) (r : Nat) : getReg (emitOut s o) r = getReg s r := rfl
@[simp] theorem getReg_setLane (s : State) (l : Lane) (x : LaneSt) (r : Nat) : getReg (setLane s l x) r = getReg s r := rfl
@[simp] theorem getReg_setJob (s : State) (n : Nat) (j : JobSt) (r : Nat) : getReg (setJob s n j) r = getReg s r := rfl
@[simp] theorem getReg_setRing (s : State) (n : Nat) (x : RingSt) (r : Nat) : getReg (setRing n x s) r = getReg s r := rfl
@[simp] theorem getReg_setChan (s : State) (n : Nat) (x : CanCh) (r : Nat) : getReg (setChan s n x) r = getReg s r := rfl
@[simp] theorem getReg_setFlt (s : State) (n : Nat) (x : CanFlt) (r : Nat) : getReg (setFlt s n x) r = getReg s r := rfl
@[simp] theorem getReg_setConn (s : State) (n : Nat) (x : SafeConn) (r : Nat) : getReg (setConn s n x) r = getReg s r := rfl
@[simp] theorem getReg_setSensor (s : State) (n : Nat) (x : Sensor) (r : Nat) : getReg (setSensor s n x) r = getReg s r := rfl

/-! ### Records read back -/

/-- A task's job state reads as replaced. -/
theorem job_setJob_self (s : State) (n : Nat) (j : JobSt) : job (setJob s n j) n = j := tget_tset_same _ _ _ _

/-- Another task's job state stands. -/
theorem job_setJob_other (s : State) {m n : Nat} (h : m ≠ n) (j : JobSt) : job (setJob s n j) m = job s m :=
  tget_tset_other _ _ _ h _

/-- A ring's record reads as replaced. -/
theorem ringSt_setRing_self (s : State) (n : Nat) (x : RingSt) : ringSt (setRing n x s) n = x := tget_tset_same _ _ _ _

/-- Another ring's record stands. -/
theorem ringSt_setRing_other (s : State) {m n : Nat} (h : m ≠ n) (x : RingSt) : ringSt (setRing n x s) m = ringSt s m :=
  tget_tset_other _ _ _ h _

/-- A channel's record reads as replaced. -/
theorem chan_setChan_self (s : State) (n : Nat) (x : CanCh) : chan (setChan s n x) n = x := tget_tset_same _ _ _ _

/-- Another channel's record stands. -/
theorem chan_setChan_other (s : State) {m n : Nat} (h : m ≠ n) (x : CanCh) : chan (setChan s n x) m = chan s m :=
  tget_tset_other _ _ _ h _

/-- A speed sensor's record reads as replaced. -/
theorem sensor_setSensor_self (s : State) (n : Nat) (x : Sensor) : sensor (setSensor s n x) n = x := tget_tset_same _ _ _ _

/-- Another speed sensor's record stands. -/
theorem sensor_setSensor_other (s : State) {m n : Nat} (h : m ≠ n) (x : Sensor) : sensor (setSensor s n x) m = sensor s m :=
  tget_tset_other _ _ _ h _

end Sys2Proof.Machine
end

