-- ==== Sys2Proof/Tests/Slice0.lean ====
section
/-!
SUPPORT. The model's own tests: a smoke test of the checks on commands, and for every statement with hypotheses states that
meet them.
-/

namespace Sys2Proof.Tests

open Sys2Proof.Machine

/-! ### Small states -/

/-- What holds of the state that a command leads to; false where it leads to none. -/
def after (o : Host.Outcome State Fault Refusal) (p : State → Bool) : Bool :=
  match o with
  | .next t => p t
  | _ => false

/-- The command stops with a fault. -/
def faults (o : Host.Outcome State Fault Refusal) : Bool :=
  match o with
  | .fault _ => true
  | _ => false

/-- The state after reset with some registers written. -/
def withRegs (l : List (Nat × Word)) : State := l.foldl (fun s p => setReg s p.1 p.2) State.reset

/-- A bank with seven regions, one input image and a base cycle of 1,000 microticks. -/
def bankOf (flags : Nat) (es : List Entry) : Bank :=
  { header := { noHeader with
      flags := flags, bcLen := 1000, hpLen := 1, cw := 10,
      regions := [(0, 64), (64, 64), (128, 64), (192, 4096), (4288, 4096), (8384, 4096), (12480, 4096)], images := [(16576, 4096)] },
    tasks := [], entries := es }

/-- An ACTIVE module with a bank and some registers. -/
def activeWith (flags : Nat) (es : List Entry) (l : List (Nat × Word)) : State :=
  let s := withRegs ((Reg.modState, 6) :: l)
  { s with chrono := { s.chrono with bank0 := some (bankOf flags es) } }

/-- A descriptor with an opcode, flags, buffer length and operands. -/
def descOf (opcode flags len : Nat) (spec : Dword) : Desc :=
  ⟨BitVec.ofNat 16 opcode, BitVec.ofNat 16 flags, 1, 0x100000000, BitVec.ofNat 32 len, 7, spec⟩

/-- A ring 0 whose target is `target` and which holds one accepted descriptor. -/
def ringJ (target opcode len unit : Nat) (flags : Nat := 0) (spec : Dword := 0) (payload : List Byte := [])
    (l : List (Nat × Word) := []) : State :=
  { activeWith 0 [] ((Reg.ringCfg 0, BitVec.ofNat 32 (256 * target + 65536 * unit)) :: (Reg.ringAccepted 0, 1)
      :: (Reg.ringStatus 0, 1) :: l) with
    journal := [⟨0, .accepted, descOf opcode flags len spec, payload, .done, 0⟩] }

/-! ### Checks on commands -/

/-- A CAN frame longer than its DLC says. -/
theorem test_wf_can_frame : Instr.wellFormed (.canFrameRx 0 ⟨5, false, false, false, false, false, 0, [1]⟩ 0) = false := by decide

/-- An Ethernet frame of more than 1,514 bytes without its FCS. -/
theorem test_wf_eth_frame : Instr.wellFormed (.switchFrameRx 0 ⟨1, 2, none, true, .raw, List.replicate 1515 0⟩) = false := by
  simp only [Instr.wellFormed, EthFrame.wellFormed, List.length_replicate]
  rfl

/-- A crate cycle of more than 16 words. -/
theorem test_wf_bus_cycle : Instr.wellFormed (.busTimeout (List.replicate 17 0)) = false
    ∧ faults (exec (.busTimeout (List.replicate 17 0)) State.reset) = true := by decide

/-- A crate cycle ended by a slave after more than 16 words. -/
theorem test_wf_bus_end : Instr.wellFormed (.busCycleEnd (List.replicate 17 0) .ack) = false := by decide

/-- A cycle of another master with more than 16 words. -/
theorem test_wf_bus_monitor : Instr.wellFormed (.busMonitorCycle true 0 (List.replicate 17 0) .ack) = false := by decide

/-- A copied page that is not 4,096 bytes long. -/
theorem test_wf_strait_copy : Instr.wellFormed (.straitCopy (.page 0 [1])) = false := by decide

/-- A boot set that does not name seven slots. -/
theorem test_wf_svc_img : Instr.wellFormed (.svcImg ⟨0, 0, 0, 0⟩ 0 0 [1] 1) = false := by decide

/-- More register values than a request carries. -/
theorem test_wf_svc_reg_write : Instr.wellFormed (.svcRegWrite ⟨0, 0, 0, 0⟩ (List.replicate 367 0)) = false := by
  simp only [Instr.wellFormed, List.length_replicate]
  rfl

/-- More image data than a request carries. -/
theorem test_wf_svc_img_data : Instr.wellFormed (.svcImgData ⟨0, 0, 0, 0⟩ (List.replicate 1465 0)) = false := by
  simp only [Instr.wellFormed, List.length_replicate]
  rfl

/-! ### States of a CAN channel -/

/-- Channel 1 enabled, in a state. -/
def canIn (st : Word) : State := withRegs [(Reg.canChCfg 1, 1), (Reg.canChStatus 1, st)]
/-- Channel 1 enabled and error active. -/
def canOn : State := canIn 2
/-- A frame without data. -/
def frame1 : CanFrame := ⟨5, false, false, false, false, false, 0, []⟩
/-- A ring whose accepted frame channel 1 can take. -/
def canRing : State := ringJ 3 1 16 1 0 0 (List.replicate 16 0) [(Reg.canChCfg 1, 1), (Reg.canChStatus 1, 2)]
/-- One queued frame. -/
def canQueued : State := setChan canOn 1 { canCh0 with queue := [⟨frame1, .ring 0 1 false none, 0, none⟩] }
/-- One frame in transmission. -/
def canSending : State := setChan canOn 1 { canCh0 with queue := [⟨frame1, .ring 0 1 false none, 1, some 0⟩] }
/-- One queued frame past its deadline. -/
def canLate : State := setChan canOn 1 { canCh0 with queue := [⟨frame1, .ring 0 1 false (some 0), 0, none⟩] }
/-- A disabled channel with valid timing and a slot table in the OUTPUT region. -/
def canTimed : State := activeWith 0 [] [(Reg.canChNbtSvc 1, 0x1E7C0), (Reg.canChNbtRec 1, 0x1E7C0),
  (Reg.canChDbtSvc 1, 0x8A0), (Reg.canChDbtRec 1, 0x8A0)]

/-! ### States of the lanes -/

/-- SPLIT with lane A designated. -/
def splitA : State := activeWith 0 [] [(Reg.laneState, 0x2005)]
/-- SPLIT with the time compare of core 0 of lane A at 0. -/
def timerA : State := activeWith 0 [] [(Reg.laneState, 0x2005), (bankedKey 0 (Reg.laneTimecmpLo 0), 0),
  (bankedKey 0 (Reg.laneTimecmpHi 0), 0)]
/-- Three voting lanes. -/
def tripleOn : State := activeWith 0 [] [(Reg.laneState, 0x333)]
/-- Three voting lanes while the Chronograph runs. -/
def tripleRun : State := activeWith 0 [] [(Reg.laneState, 0x333), (Reg.chronoStatus, 1)]
/-- A set-up write of lane A waits for room. -/
def stalledA : State := { tripleOn with meridian := { meridian0 with stalled := ⟨[⟨0, 0x300010100, 5, 0, false⟩], [], []⟩ } }
/-- Lane A has made a set-up write, ten microticks ago. -/
def oneWrite : State := { tripleOn with
  meridian := { meridian0 with queue := ⟨[⟨0, 0x300010100, 5, 0, false⟩], [], []⟩ }, time := { time0 with mt := 10 } }
/-- Lane A was excluded in microtick 4, with AUTO_REJOIN set. -/
def exclA : State :=
  let s := activeWith 0 [] [(Reg.laneState, 0x1334), (Reg.laneCfg, 0x31), (Reg.laneExclCount, 1)]
  { s with lanes := ⟨{ lane0 with exclAt := some 4 }, lane0, lane0⟩, time := { time0 with mt := 5 } }
/-- Lane B rejoins from lanes A and C: a phase of the copy engine, pages to copy, dirty pages. -/
def copyState (phase : Nat) (toCopy dirty : List Nat) : State :=
  let s := activeWith 0 [] [(Reg.laneState, 0x1323), (Reg.laneRejoinStatus, BitVec.ofNat 32 (2 + 16 * 5 + 256 * phase))]
  { s with rejoin := { rejoin0 with toCopy := toCopy, dirty := dirty },
           time := { time0 with raw := 0x1000000000000 } }

/-! ### States of the Chronograph -/

/-- An entry of a KIND with OFFSET 0 in every cycle. -/
def entryOf (kind : Nat) (w1 : Dword) : Entry := ⟨BitVec.ofNat 64 kind, w1, false⟩
/-- An ACTIVE module with three voting lanes that runs a bank with some entries. -/
def runWith (es : List Entry) : State := activeWith 0 es [(Reg.laneState, 0x333), (Reg.chronoStatus, 1)]
/-- The same past the entries' microtick. -/
def lateRun : State := let s := runWith [entryOf 0 0]; { s with chrono := { s.chrono with offset := 5 } }
/-- A partner that listens, and a journal that it mirrors. -/
def mirrorState : State :=
  let s := activeWith 1 [entryOf 14 0] [(Reg.laneState, 0x333), (Reg.chronoStatus, 1), (Reg.pairStatus, 0xC00)]
  { s with pair := { pair0 with silent := false, mirroring := true, partner := some ⟨.standby, .triple, true, .alive, 0⟩ } }
/-- The same with an entry. -/
def mirrorWith (e : Entry) : State :=
  { mirrorState with chrono := { mirrorState.chrono with bank0 := some (bankOf 1 [e]) } }
/-- A job of task 1 is open in three lanes. -/
def jobOpenState : State :=
  let s := runWith [entryOf 6 1]
  setJob s 1 { noJob with count := 1, has := true, lanes := ⟨⟨0, false, false, false⟩, ⟨0, false, false, false⟩, ⟨0, false, false, false⟩⟩ }
/-- All three lanes have presented the same signature. -/
def jobAgreed : State :=
  let p : Present := ⟨0, 1, 1, 0, true, 9, 0⟩
  { jobOpenState with meridian := { meridian0 with present := ⟨[p], [p], [p]⟩ } }
/-- Task 1's job has ended well in three lanes, and its COLLECT is due. -/
def collectReady : State :=
  let s := runWith [entryOf 7 1]
  setJob s 1 { noJob with count := 1, has := true, lanes := ⟨⟨1, true, true, false⟩, ⟨1, true, true, false⟩, ⟨1, true, true, false⟩⟩ }
/-- Flow 3 sends 8 bytes to a group of plane A. -/
def emitReady : State := activeWith 0 [entryOf 8 0x10003] [(Reg.laneState, 0x333), (Reg.chronoStatus, 1),
  (Reg.netFlowCfg 3, 0x51), (Reg.netFlowData 3, 0x200000), (Reg.netFlowIp 3, 0xEF000001), (Reg.netIpA, 0x0A000001)]
/-- EMIT. -/
def emitIssued : State := issued emitNeeds 0 (entryOf 8 0x10003) emitReady
/-- A transfer 0 that is valid and reads, with the bridge's clock running. -/
def xferReady : State :=
  let s := activeWith 0 [entryOf 10 0] [(Reg.laneState, 0x333), (Reg.chronoStatus, 1), (Reg.isthXferCtl 0, 1)]
  setDom s .isth { domain0 with running := true }
/-- Channel 1 enabled, with a valid frame in slot 0 of its slot table. -/
def slotReady : State :=
  let s := activeWith 0 [entryOf 9 1] [(Reg.laneState, 0x333), (Reg.chronoStatus, 1), (Reg.canChCfg 1, 1), (Reg.canChStatus 1, 2)]
  { s with sound := writeByte s.sound 199 1 }
/-- Channel 1 enabled, with a reference message. -/
def refReady : State := activeWith 0 [entryOf 12 1] [(Reg.laneState, 0x333), (Reg.chronoStatus, 1), (Reg.canChCfg 1, 1),
  (Reg.canChStatus 1, 2), (Reg.canChRef 1, 0x20000005)]
/-- The states in which those entries have issued. -/
def slotIssued : State := issued canNeeds 0 (entryOf 9 1) slotReady
/-- REFERENCE. -/
def refIssued : State := issued refNeeds 0 (entryOf 12 1) refReady
/-- CHECKPOINT. -/
def jobIssued : State := issued (fun _ _ => ⟨none, [(.checkpointUnit, occCheckpoint)]⟩) 0 (entryOf 6 1) jobOpenState
/-- CHECKPOINT, with equal signatures. -/
def agreedIssued : State := issued (fun _ _ => ⟨none, [(.checkpointUnit, occCheckpoint)]⟩) 0 (entryOf 6 1) jobAgreed
/-- DRIVE. -/
def driveIssued : State :=
  issued (fun s _ => if sendsOutputs s then ⟨none, [(.holmLink, occDrive)]⟩ else noNeeds) 0 (entryOf 11 1) (runWith [entryOf 11 1])
/-- The SAFE domain runs, idle for 60 µs. -/
def domState (deferred : Option Nat) : State :=
  setDom { State.reset with time := { time0 with raw := 64000 * 60 } } .safe { domain0 with running := true, deferred := deferred }
/-- A slot with an Ephemeris of one entry, and the SHA-256 of its 1,040 bytes. -/
def ephemerisSlot : Slot :=
  let m := putBytes noMem 32 (leBytes 4 1040 ++ leBytes 32 0x5599be9cdfaa8cb3f4db13b46ee561ef56cf43245895d1fbe766f46fd38f19cc)
  let m := putBytes m 256 (leBytes 4 0x4B504550 ++ [1])
  ⟨.valid, 4, 1296, 1296, putBytes m 272 [250, 0, 0, 0, 1, 0, 20, 0, 1], false⟩
/-- A load of a slot is at its end; slot 3 holds a bank. -/
def loading (n : Nat) : State :=
  let s := { State.reset with store := { State.reset.store with slots := [(3, ephemerisSlot)] } }
  setDom { s with chrono := { s.chrono with loadSlot := some n } } .img { domain0 with running := true }
/-- Both banks loaded. -/
def twoBanks : State :=
  let s := activeWith 0 [] [(Reg.chronoStatus, 8)]
  { s with chrono := { s.chrono with bank1 := some (bankOf 0 []) } }
/-- BOOT with a bank, ready to start. -/
def startReady : State :=
  let s := activeWith 0 [] [(Reg.modState, 2)]
  { s with chrono := { s.chrono with startAt := some 0 } }
/-- The last microtick of a base cycle has passed. -/
def cycleOver : State := let s := runWith []; { s with chrono := { s.chrono with offset := 1000 } }
/-- A STANDBY whose Chronograph runs. -/
def standbyRun : State := activeWith 1 [] [(Reg.modState, 5), (Reg.laneState, 0x333), (Reg.chronoStatus, 1)]

/-! ### States of rings -/

/-- Ring 63, STOPPED, with a legal configuration. -/
def ringIdle : State := withRegs [(Reg.ringCfg 63, 0x304), (Reg.ringJquota 63, 2)]
/-- A running ring 63 with one descriptor to fetch; the bytes stand in lane C alone. -/
def fetchReady (bs : List Byte) : State :=
  let s := activeWith 0 [] [(Reg.laneState, 0x333), (Reg.chronoStatus, 1), (Reg.ringCfg 63, 0x304), (Reg.ringStatus 63, 1)]
  let s := setRing 63 { ring0 with fetchLeft := 1 } s
  { s with dram := s.dram.set .c (writeBytes (s.dram.get .c) 32 bs) }
/-- A running ring 63 with a fetched descriptor. -/
def acceptReady : State :=
  setRing 63 { ring0 with fetchLeft := 1, fetched := some (descOf 0 0 0 0, []) }
    (activeWith 0 [] [(Reg.ringCfg 63, 0x304), (Reg.ringStatus 63, 1), (Reg.ringJquota 63, 2)])

/-! ### States of tasks and forces -/

/-- The open job's task stops on an overrun. -/
def jobStops : State :=
  { jobOpenState with chrono := { jobOpenState.chrono with bank0 := some { bankOf 0 [] with tasks := [0, 4] } } }
/-- Lane A has presented FINAL. -/
def jobClosedA : State :=
  setJob jobOpenState 1 { job jobOpenState 1 with lanes := ⟨⟨0, true, false, false⟩, ⟨0, false, false, false⟩, ⟨0, false, false, false⟩⟩ }
/-- Service access is open, and MOD_FORCE_TARGET names DI 48. -/
def forceReady : State := activeWith 0 [] [(Reg.svcStatus, 1), (Reg.modForceTarget, 0x3001), (Reg.modForceMask, 1)]

/-! ### States of the Transit clock -/

/-- The PTP clock is the source on both ports; port 9 is a master with an answer due, port 8 follows a master. -/
def ptpOn : State :=
  let s := withRegs [(Reg.transitCfg, 1), (Reg.transitPtpCfg, 0xC00), (Reg.transitPortState, 0x43)]
  let s := { s with time := { s.time with raw := 0x1000000000000000 } }
  let s := setPtpPort s 8 { port0 with best := some (⟨5, 1⟩, (ownData s).2) }
  setPtpPort s 9 { port0 with due := [(.delayResp, ⟨5, 1⟩, 7, 0)] }
/-- SYNCED with no measurement for a long time, an old stamp in the queue, a driven pulse output. -/
def oldSync : State :=
  let s := withRegs [(Reg.transitStatus, 2), (Reg.transitPulseCfg, 0x10000)]
  { s with time := { s.time with raw := 64000000000000000, tsq := [⟨0, 0, 0, 7, 0, 0⟩], missing := false, lastPulse := none } }

/-! ### States of the train network -/

/-- A raw broadcast frame that fails its checks. -/
def rawEth : EthFrame := ⟨broadcast, 2, none, false, .raw, []⟩
/-- Port 7 with link at 1,000 Mbit/s and a frame queued with priority 3; an old cache entry of plane 1; a frame at the engine. -/
def netOn : State :=
  let s := activeWith 0 [] [(Reg.netPortStatus 7, 3), (Reg.netPortCfg 7, 1)]
  { s with
    time := { s.time with raw := 0x1000000000000000 }
    net := { s.net with egress := [(59, [rawEth])], arp := [⟨1, 9, some 7, 0, 3, 0⟩], engine := [(1, rawEth, 0)] } }
/-- Context 1023 is not VALID; its LEN is 8, at the start of OUTPUT. -/
def flowReady : State := activeWith 0 [] [(Reg.netFlowData 1023, 0x200000)]
/-- Context 3 answers pull requests, one of which waits; tunnel 7 holds a frame. -/
def pullReady : State :=
  let s := activeWith 0 [] [(Reg.netFlowCfg 3, 0x19), (Reg.netFlowData 3, 0x200000), (Reg.netTunCfg 7, 0x213)]
  let s := setFlow s 3 { flow0 with reply := some (0, 0xE0000001, 7) }
  { s with net := { s.net with tunnels := tset tunnel0 s.net.tunnels 7 { tunnel0 with held := [(frame1, 0)] } } }
/-- A message-data descriptor whose turn it is; plane A has link and an address. -/
def mdReady (op len : Nat) : State :=
  ringJ 1 op len 0 0 0 (List.replicate len 1) [(Reg.netPortStatus 0, 1), (Reg.netIpA, 0x0A000001)]
/-- Sends that have left and that stay unresolved, and a supervision entry that has expired. -/
def mdEnds : State :=
  let s := State.reset
  { s with
    time := { s.time with raw := 0x1000000000000000 }
    net := { s.net with sends := [⟨1, 1, [0], 0, [], []⟩, ⟨2, 1, [], 0, [0], []⟩], superv := [⟨1, 1, 5, 0⟩] } }

/-- Flow 3 is a SAFE process-data context that receives 21 bytes; connection 127 has a SID. -/
def safeReady : State := withRegs [(Reg.netFlowCfg 3, 0x2003), (Reg.netFlowData 3, 0x540000), (Reg.safeConnSid 127, 5)]

/-! ### States of the bridge -/

/-- DUAL with window 0 of 16 MiB at crate address 0. -/
def winOpen : State := activeWith 0 [] [(Reg.laneState, 0x1433), (Reg.isthWinCfg 0, 0x1701)]
/-- Windows 0 and, SAFE, 1 of a module in SPLIT. -/
def splitWin : State := activeWith 0 [] [(Reg.laneState, 0x2005), (Reg.isthWinCfg 0, 0x1701), (Reg.isthWinCfg 1, 0x1711)]
/-- The same with one load of lane A. -/
def winOne : State :=
  let a : WinAcc := ⟨.a, 0, .load, 0x400000000, 2, 0⟩
  { winOpen with isth := { winOpen.isth with
    counts := ⟨1, 0, 0⟩, order := 1,
    votes := [⟨none, 0, [a], none, 0, none, 0, 0, false, none, none, [], false⟩] } }
/-- A formed vote of long ago and a prefetched block. -/
def winFormed (k : WinKind) : State :=
  let a : WinAcc := ⟨.a, 0, k, 0x400000000, 2, 0⟩
  { winOpen with
    time := { winOpen.time with raw := 0x1000000000000 }
    isth := { winOpen.isth with
      fetched := [⟨9, false, 0, 0, [], [], 0⟩],
      votes := [⟨none, 0, [a], some a, 0, some 0, 0, 0, false, none, none, [], false⟩] } }
/-- Transfer 255 is due. -/
def crateDue : State := let s := activeWith 0 [] []; { s with isth := { s.isth with due := [255] } }
/-- A read of two words for transfer 0 in window 15. -/
def crateOp : BusOp := ⟨.xfer 0, 15, false, 0, false, 2, [], [], 0, 0⟩
/-- It is in progress. -/
def crateBusy : State :=
  let s := activeWith 0 [] [(Reg.isthXferCtl 0, 0x80001)]
  { s with
    time := { s.time with raw := 0x1000000000000 }
    isth := { s.isth with bus := some crateOp } }
/-- It waits for its repeat. -/
def crateWait : State := let s := activeWith 0 [] []; { s with isth := { s.isth with retry := [(crateOp, 0)] } }
/-- A ring transfer of two bytes in window 15. -/
def ringCrate (op : Nat) : State := ringJ 5 op 2 0 0 15 [1, 2] [(Reg.isthWinCfg 15, 0x801)]
/-- Interrupt line 7 is enabled and armed, one record waits, a reset is at its end. -/
def intReady : State :=
  let s := activeWith 0 [] [(Reg.isthIntCfg, 0x80), (Reg.isthIntStatus, 0x8000)]
  { s with isth := { s.isth with ints := [⟨0, [], []⟩], resetTo := some 0 } }
/-- Window 15 is enabled with 256 bytes. -/
def xferTarget : State := activeWith 0 [] [(Reg.isthWinCfg 15, 0x801)]

/-- The same, for a read into input image 0. -/
def xferImage : State := xferTarget

/-! ### States of the Holm island -/

/-- A long time after power-up. -/
def late (s : State) : State := { s with time := { s.time with raw := 0x1000000000000 } }
/-- A healthy island: group 4 DRIVEN with a refresh on its link and its supply good, group 3 SILENT, input 1 high. -/
def holmOn : State :=
  let s := late (activeWith 0 [] [(Reg.holmStatus, 1), (Reg.holmConnStatus 4, 0x5000), (Reg.holmConnStatus 3, 0x2000), (Reg.holmDiCfg 48, 1),
    (Reg.holmConnCfg 3, 0x10), (Reg.holmConnCfg 4, 0x10)])
  { s with holm := { holm0 with power := true, groups := [(4, { holmGroup0 with link := [(5, true)] })], ins := [(1, { holmIn0 with raw := true })] } }
/-- Output 24 of a DRIVEN group is ON; output 12 is in an off-pulse; output 13 has a latched fault. -/
def outOn : State :=
  let s := late (activeWith 0 [] [(Reg.holmStatus, 1), (Reg.holmConnStatus 4, 0x5000), (Reg.holmConnStatus 2, 0x4000),
    (Reg.holmDoStatus 24, 0x10), (Reg.holmDoCfg 24, 4), (Reg.holmDoStatus 13, 8)])
  { s with holm := { holm0 with power := true, outs := [(12, { holmOut0 with pulse := some 0 }), (24, { holmOut0 with command := true })] } }
/-- The motion unit enabled with all sensors: 3 and 4 implausible for long, over the limit, a selection on the link. -/
def motionOnS : State :=
  let s := late (activeWith 0 [] [(Reg.holmStatus, 1), (Reg.motionCfg, 0xF1), (Reg.motionStatus, 0x100F00)])
  { s with
    holm := { holm0 with power := true }
    motion := { motion0 with implaus := [(28, 0)], overAt := some 0, link := [(15, true)], selected := some 3 } }
/-- The same with a press to judge and one in progress; every sensor is well. -/
def motionPress : State :=
  let s := late (activeWith 0 [] ([(Reg.holmStatus, 1), (Reg.motionCfg, 0x31)] ++ [1, 2, 3, 4].map (fun i => (Reg.motionSensorStatus i, 1))))
  { s with
    holm := { holm0 with power := true }
    motion := { motion0 with judge := some (200, 0), press := some (0, 0, true) } }
/-- Sensors 1 and 2 set up. -/
def motionSet : State := activeWith 0 [] [(Reg.motionSensorCfg 1, 0x1320), (Reg.motionSensorCfg 2, 0x1320)]

/-! ### States of the pair -/

/-- An eligible standby whose partner has given up. -/
def standbyElig : State :=
  let s := late (activeWith 1 [] [(Reg.modState, 5), (Reg.laneState, 0x333), (Reg.chronoStatus, 1), (Reg.pairStatus, 0x44)])
  { s with pair := { pair0 with give := some .yield } }
/-- It has claimed mastery. -/
def standbyClaim : State := { standbyElig with pair := { pair0 with claimAt := some 0 } }
/-- The partner is master and an access has no result. -/
def standbyWaits : State :=
  let s := late (activeWith 1 [] [(Reg.modState, 5), (Reg.laneState, 0x333), (Reg.chronoStatus, 1), (Reg.pairStatus, 0x80)])
  { s with isth := { s.isth with votes := [⟨none, 0, [], some ⟨.a, 0, .load, 0x400000000, 2, 0⟩, 0, some 0, 0, 0, false, none, none, [], false⟩] } }
/-- A standby that has waited out a line fault. -/
def standbyNine : State := { standbyElig with
  regs := (withRegs [(Reg.modState, 5), (Reg.laneState, 0x333)]).regs
  pair := { pair0 with reason := 9 } }
/-- An ACTIVE module that has given up for a restart, with an eligible partner. -/
def activeElig : State :=
  let s := activeWith 1 [] [(Reg.laneState, 0x333), (Reg.chronoStatus, 1)]
  { s with
    pair := { pair0 with silent := false, gaveUp := some .yield, partner := some ⟨.standby, .triple, true, .mastery, 0⟩ }
    chrono := { s.chrono with req := { requests0 with restart := some (false, 0) } } }
/-- SAFE_HALT long ago, with AUTO_RESTART. -/
def haltDone : State := late (withRegs [(Reg.modState, 7), (Reg.pairCfg, 1)])
/-- SAFE_HALT with both lanes of the link up. -/
def haltLink : State :=
  let s := withRegs [(Reg.modState, 7), (Reg.pairStatus, 0xC00)]
  { s with pair := { pair0 with silent := false } }
/-- An ACTIVE module with a batch and a check open. -/
def activeOpen : State :=
  let s := activeWith 1 [] [(Reg.laneState, 0x333)]
  { s with pair := { pair0 with batchOpen := [(7, [])], checkOpen := [9] } }
/-- A joining module in a phase. -/
def joiningAt (phase : Nat) : State :=
  let s := late (activeWith 1 [] [(Reg.modState, 4), (Reg.laneState, 0x333), (Reg.pairJoin, BitVec.ofNat 32 (phase + 16))])
  { s with pair := { pair0 with eligCount := 255 } }
/-- An ACTIVE module whose partner has offered HELLO. -/
def activeJoin : State :=
  let s := activeWith 1 [] [(Reg.laneState, 0x333)]
  { s with pair := { pair0 with
      silent := false, hello := some ⟨0, 0, 0, 0, []⟩, partner := some ⟨.joining, .none, false, .alive, 0⟩ } }
/-- BOOT, started, with a partner that holds mastery. -/
def bootPair : State :=
  let s := activeWith 1 [] [(Reg.modState, 2), (Reg.pairStatus, 0x80)]
  { s with chrono := { s.chrono with startAt := some 0 } }

/-- A HELLO with a class has arrived there. -/
def helloBoot (c : BitVec 16) : State :=
  setFld { bootPair with pair := { bootPair.pair with hello := some { ownHello bootPair with pairClass := c }, silent := false } }
    Reg.pairClass 31 16 c.toNat

/-- A started module on side 1 in BOOT that finds no mastery. -/
def bootClaim : State :=
  let s := setReg bootPair Reg.pairStatus 0
  { s with time := { s.time with raw := 0x1000000000000 } }

/-! ### States of the fault manager and of Skerry -/

/-- A valid table entry for code 0x200 with YIELD, and a floor, while the Chronograph runs. -/
def faultTab : State := activeWith 0 [] [(Reg.chronoStatus, 1), (Reg.faultTable 63, 0x80040200), (Reg.faultSevFloor, 1)]
/-- With X_PWR valid. -/
def powered (s : State) : State := { s with skerry := { s.skerry with powered := true } }

/-- An unpowered module in a supply interruption after the warning, powered still. -/
def supplyOff : State :=
  let s := powered State.reset
  { s with skerry := { s.skerry with interruptRaw := some 0, warned := true } }
/-- SLEEP with every wake source enabled. -/
def asleep : State := powered (withRegs [(Reg.modState, 0), (Reg.skerryWakeEn, 0xFF)])
/-- The TCXO has been started and the raw counter is on the crystal. -/
def settling : State :=
  let s := withRegs [(Reg.skerryStatus, 2)]
  { s with time := { s.time with onCrystal := true } }
/-- The same with a RATE kept at SLEEP entry. -/
def settlingKept : State := { settling with time := { settling.time with keptRate := some 3 } }
/-- SLEEP in a supply interruption. -/
def asleepCut : State := { asleep with skerry := { asleep.skerry with interruptRaw := some 0 } }
/-- WAKING with the store charged. -/
def wakingS : State :=
  let s := powered (withRegs [(Reg.modState, 1)])
  { s with skerry := { s.skerry with charged := true } }
/-- Lane C in a step of its self-test, in BOOT. -/
def testAt (n : Nat) : State :=
  let s := withRegs [(Reg.modState, 2), (Reg.laneState, 0x111)]
  { s with lanes := ⟨lane0, lane0, { lane0 with testStep := n }⟩ }
/-- BOOT with everything loaded and the first `n` lanes ready. -/
def bootGate (n : Nat) : State :=
  let s := withRegs [(Reg.modState, 2), (Reg.laneState, 0)]
  let r := fun b => { lane0 with ready := b }
  { s with
    lanes := ⟨r (decide (0 < n)), r (decide (1 < n)), r (decide (2 < n))⟩
    store := { s.store with checksOk := true }
    chrono := { s.chrono with bootLoaded := true } }
/-- The set-up phase. -/
def setupReady : State := let s := bootGate 2; { s with chrono := { s.chrono with gateOpen := true } }
/-- The set-up phase of a start that may be warm, with data retained or none. -/
def setupRetain (ever : Bool) : State :=
  let s := setReg (setReg setupReady Reg.modRetainSize 1) Reg.modRestartCfg 0
  { s with retain := { s.retain with headPoison := false, invalid := false, ever := ever, appBuild := 0, size := 1, data := noMem } }
/-- BOOT with a boot set in bank 0 whose slots are empty. -/
def bootEmpty : State :=
  let s := bootGate 0
  { s with store := { s.store with checksOk := false, slots := [], boot0 := ⟨[0, 1, 2, 3, 4, 5, 6], 1, true⟩ } }
/-- Lane C in step 5 in a state of the module, the image checks passed. -/
def stepFive (m : Nat) : State :=
  let s := setReg (testAt 5) Reg.modState (BitVec.ofNat 32 m)
  { s with store := { s.store with checksOk := true } }
/-- A state of the module in which SLEEP is taken. -/
def sleepy (m : Nat) : State := withRegs [(Reg.modState, BitVec.ofNat 32 m), (Reg.skerryWakeEn, 1), (Reg.skerryStatus, 1)]
/-- A SLEEP entry in progress. -/
def entering : State := let s := asleep; { s with skerry := { s.skerry with entering := true } }
/-- A slot whose image has no payload: the header holds the SHA-256 of nothing. -/
def emptySlot : Slot :=
  ⟨.valid, 3, 256, 256, putBytes noMem 36 (leBytes 32 0x55b852781b9995a44c939b64e441ae2724b96f99c8f4fb9a141cfc9842c4b0e3), false⟩
/-- BOOT with both of them in the booted set. -/
def bootLoad : State :=
  let s := bootGate 0
  { s with
    store := { s.store with slots := [(2, emptySlot), (3, ephemerisSlot)], boot0 := ⟨[0, 1, 2, 3, 4, 5, 6], 1, true⟩ }
    chrono := { s.chrono with bootLoaded := false } }

/-! ### States of the image store and of service access -/

/-- An empty image store with IMG_ARG and IMG_LEN written. -/
def imgWith (arg len : Word) : State := withRegs [(Reg.imgArg, arg), (Reg.imgLen, len)]
/-- A store with one image in slot 0. -/
def imgEmpty : State := { State.reset with store := { State.reset.store with slots := [(0, emptySlot)] } }
/-- Slot 5 is open, slot 0 holds an image without payload; three lanes vote. -/
def imgOpened : State :=
  let s := activeWith 0 [] [(Reg.imgLen, 64), (Reg.laneState, 0x333), (Reg.chronoStatus, 1)]
  { s with store := { s.store with slots := [(0, emptySlot), (5, ⟨.open_, 1, 4096, 0, noMem, false⟩)] } }
/-- An ERASE is about to end. -/
def imgRuns : State :=
  setDom { State.reset with store := { State.reset.store with running := some (4, ⟨0, 0, 0, 0, 0, []⟩, false) } } .img
    { domain0 with running := true }
/-- The same while the image store's clock domain does not run. -/
def imgWaits : State := setDom imgRuns .img domain0
/-- A slot with an image of a type and no links; that of type 7 holds one issue record and one combination. -/
def typedSlot (t : Nat) : Slot :=
  let m := putBytes noMem 6 [BitVec.ofNat 8 t]
  ⟨.valid, t, 512, 512, if t = 7 then putBytes (putBytes m 256 [1, 0, 1, 0]) 272 (0x41 :: 0 :: 0 :: 0 :: List.replicate 12 0xFF) else m, false⟩
/-- The slots of a boot set for bank 0. -/
def imgSet : State :=
  let s := withRegs ((List.range 7).map (fun t => (Reg.imgBootset t, BitVec.ofNat 32 t)))
  { s with store := { s.store with slots := (List.range 7).map (fun t => (t, typedSlot (t + 1))) } }

/-- A record without content. -/
def noRecord : Record := ⟨0x0102, .info, .log, 0, 0, 0, 0, 0xFF⟩
/-- One record waits for the log. -/
def recQueued (code : Nat) : State := { powered State.reset with recQ := [{ noRecord with code := code }] }
/-- The record of a started application entry waits for the log. -/
def recApp : State :=
  let s := powered (ringJ 6 1 12 0 0 0x400 (List.replicate 12 0))
  match s.journal with
  | r :: _ =>
    let s := markRec s 0 r.desc.seq .started
    { s with recQ := [appRecord s 0 r.desc r.payload] }
  | [] => s
/-- A clear runs. -/
def recClears : State := { State.reset with recorder := { recorder0 with clearing := some (0, none) } }
/-- X_SVC has link in BOOT, a NONCE is valid, the log has an entry. -/
def svcOn : State :=
  let s := powered (withRegs [(Reg.modState, 2)])
  { s with
    svc := { s.svc with link := true, nonce := some (7, 0) }
    recorder := { recorder0 with log := [⟨noRecord, false, false, 1, 0, 0, false⟩] } }
/-- Access is LOCKED and LOCK_REMAIN has come to 0. -/
def svcLockedS : State := setFld svcOn Reg.svcStatus 1 0 2
/-- Access is open in MAINTENANCE for 1:2, and slot 5 has been opened over X_SVC. -/
def svcHolder : State :=
  let s := powered (withRegs [(Reg.modState, 3), (Reg.svcStatus, 1)])
  { s with
    svc := { s.svc with link := true, holder := some (1, 2) }
    store := { s.store with viaSvc := true, slots := [(5, ⟨.open_, 1, 4096, 0, noMem, false⟩)] } }

/-- Access is open for 1:2 in a SAFE_HALT of a common cause. -/
def svcHalted : State :=
  let s := setReg svcHolder Reg.modState 7
  { s with pair := { s.pair with common := true } }

/-- Ring 63 runs and its doorbell word in every lane is `d`. -/
def pollState (d : Nat) : State :=
  let s := activeWith 0 [] [(Reg.laneState, 0x333), (Reg.chronoStatus, 1), (Reg.ringCfg 63, 0x304), (Reg.ringStatus 63, 1), (Reg.ringCtrl 63, 1)]
  let m := writeBytes noMem 64 (leBytes 4 d)
  { s with dram := ⟨m, m, m⟩ }

/-! ### StepRunsTheFrontCommand -/

/-- Hypotheses of StepRunsTheFrontCommand. -/
theorem witness_step : { State.reset with pending := [.pairClearCounts] }.pending = [.pairClearCounts] ∧ State.reset.pending = []
    ∧ (powered State.reset).skerry.powered = true ∧ State.reset.skerry.powered = false ∧ State.reset.skerry.lostSupply = true := by decide

/-! ### EveryStepKeepsTheStateSound -/

/-- Hypotheses of EveryStepKeepsTheStateSound: reset, whose step is a clock edge. -/
theorem witness_sound : Sound State.reset = true ∧ (∃ t, step State.reset = .next t) := ⟨by decide, _, rfl⟩

/-! ### CommandsLeaveTheQueue -/

/-- Hypotheses of CommandsLeaveTheQueue. -/
theorem witness_queue : Sound State.reset = true ∧ (∃ t, exec .pairClearCounts State.reset = .next t) := ⟨by decide, _, rfl⟩

/-! ### WellFormedCommandsComplete -/

/-- Hypotheses of WellFormedCommandsComplete. -/
theorem witness_wf : Instr.wellFormed .pairClearCounts = true ∧ Instr.wellFormed (.busTimeout (List.replicate 17 0)) = false := by decide

/-! ### RaisedEventsAreRecordedAndContained -/

/-- Hypotheses of RaisedEventsAreRecordedAndContained: each of the three reactions, and a full store. -/
theorem witness_raise : (mkRecord State.reset Ev.takeover 0xFF 0 0).reaction = .log ∨ (mkRecord State.reset Ev.takeover 0xFF 0 0).reaction = .notify
    ∨ (mkRecord State.reset Ev.takeover 0xFF 0 0).reaction = .degrade := by decide
theorem witness_raise_2 : (mkRecord State.reset Ev.memSymbolStuck 0 0 0).reaction = .degrade ∧ State.reset.fm.pending.length < 16
    ∧ Sound State.reset = true ∧ (mkRecord State.reset Ev.nvFault 0 0 0).reaction = .notify
    ∧ (mkRecord State.reset Ev.memCorrected 0 0 0).reaction = .log ∧ sevCode Ev.memCorrected.sev < 3 := by decide

/-! ### ReactionOfAnEvent -/

/-- Hypotheses of ReactionOfAnEvent: a default of EXCLUDE_LANE with and without a lane, a valid table entry. -/
theorem witness_reaction : Sound State.reset = true ∧ reactionFor State.reset Ev.ringMinority = .excludeLane
    ∧ (mkRecord State.reset Ev.ringMinority 0 0 3).reaction ≠ .excludeLane ∧ (mkRecord State.reset Ev.ringMinority 0 0 2).reaction = .excludeLane
    ∧ reactionFor State.reset Ev.sigMinority = .excludeLane ∧ (mkRecord State.reset Ev.sigMinority 3 0 0).reaction = .degrade
    ∧ (mkRecord State.reset Ev.sigMinority 2 0 0).reaction = .excludeLane ∧ State.reset.fm.pending.length < 16
    ∧ wordFld (getReg faultTab (Reg.faultTable 63)) 31 31 = 1 ∧ Sound faultTab = true := by decide

/-! ### RecordsAreRoutedAndPlaced -/

/-- Hypotheses of RecordsAreRoutedAndPlaced. -/
theorem witness_route : mirrors State.reset = false ∧ fld (ringJ 3 0 0 0 0 0 [] [(Reg.ringCfg 0, 0x314)]) (Reg.ringCfg 0) 5 4 = 1
    ∧ ((findRec (markRec (ringJ 3 0 0 0) 0 1 .done) 0 (ringC (ringJ 3 0 0 0) 0 + 1)).map (·.state)) = some .done := by decide

/-! ### DoorbellsAreJudged -/

/-- Hypotheses of DoorbellsAreJudged: ring 63 polled in a state with a valid doorbell word of 0, and one with 99. -/
theorem witness_doorbell : ringState (pollState 0) 63 = 1 ∧ (ringSt (pollState 0) 63).fetchLeft = 0
    ∧ (voteDoorbell 63 (pollState 0)).1 = some 0 ∧ (voteDoorbell 63 (pollState 99)).1 = some 99 := by decide

/-! ### ValidBytesOfCanFrames -/

/-- Hypotheses of ValidBytesOfCanFrames. -/
theorem witness_dlc : ({ frame1 with rtr := true } : CanFrame).rtr = true ∧ frame1.rtr = false ∧ frame1.dlc.toNat ≤ 8
    ∧ frame1.fdf = false ∧ 9 ≤ ({ frame1 with dlc := 9 } : CanFrame).dlc.toNat ∧ frame1.wellFormed = true := by decide

/-! ### PositionFollowsTheGrayPair -/

/-- Hypotheses of PositionFollowsTheGrayPair. -/
theorem witness_gray : islandOk holmOn = true ∧ Sound holmOn = true ∧ (sensor holmOn 4).a = false ∧ (sensor holmOn 4).b = false
    ∧ bit holmOn (Reg.motionSensorCfg 4) 10 = false ∧ (sensor holmOn 4).run = none := by decide

/-! ### FaultLedShowsTheLevel -/

/-- Hypotheses of FaultLedShowsTheLevel. -/
theorem witness_led : (powered (withRegs [(Reg.modState, 6)])).skerry.powered = true ∧ modState (powered (withRegs [(Reg.modState, 6)])) ≠ .sleep
    ∧ modState (powered (withRegs [(Reg.modState, 6)])) ≠ .boot ∧ modState (withRegs [(Reg.modState, 2)]) = .boot
    ∧ msRaw 500 ≤ rawNow { State.reset with time := { time0 with raw := 0x1000000000000 } } - State.reset.restart.bootRaw ∧ fld (withRegs [(Reg.faultStatus, 5)]) Reg.faultStatus 2 0 = rankOf .safeHalt
    ∧ fld State.reset Reg.faultStatus 2 0 = rankOf .log := by decide

/-! ### ClockAndJobEntriesTakeEffect -/

/-- Hypotheses of ClockAndJobEntriesTakeEffect: one entry of each kind, due in the first cycle. -/
theorem witness_entries_clock : issues 0 (fun _ _ => noNeeds) 0 (entryOf 0 0) (runWith [entryOf 0 0]) = true
    ∧ issues 1 (fun _ _ => noNeeds) 0 (entryOf 1 8) (runWith [entryOf 1 8]) = true ∧ domOfBlock? (dfld (entryOf 1 8).w1 7 0) = some .safe
    ∧ issues 2 (fun _ _ => noNeeds) 0 (entryOf 2 8) (runWith [entryOf 2 8]) = true
    ∧ issues 15 (fun _ _ => ⟨none, [(.copyPort, occSnapshot)]⟩) 0 (entryOf 15 47) (runWith [entryOf 15 47]) = true
    ∧ issues 5 (fun _ _ => noNeeds) 0 (entryOf 5 47) (runWith [entryOf 5 47]) = true
    ∧ isSuppressed (issued (fun _ _ => noNeeds) 0 (entryOf 5 47) (runWith [entryOf 5 47])) (entryOf 5 47).task = false := by decide

/-- Hypotheses, CLOCK_DOWN of a running domain. -/
theorem witness_entries_clock_down : (domSt (setDom (startDomain (issued (fun _ _ => noNeeds) 0 (entryOf 2 8) (runWith [entryOf 2 8])) .safe)
    .safe { domSt (startDomain (issued (fun _ _ => noNeeds) 0 (entryOf 2 8) (runWith [entryOf 2 8])) .safe) .safe with lastUp := false }) .safe).running
    = true := by decide

/-! ### ImageEntriesTakeEffect -/

/-- Hypotheses of ImageEntriesTakeEffect. -/
theorem witness_entries_image : issues 3 sampleNeeds 0 (entryOf 3 0x100) (runWith [entryOf 3 0x100]) = true
    ∧ issues 4 deliverNeeds 0 (entryOf 4 0x100) (runWith [entryOf 4 0x100]) = true
    ∧ isSuppressed (takeMirrored 0 1 (issued deliverNeeds 0 (entryOf 4 0x100) (runWith [entryOf 4 0x100]))) 1 = false
    ∧ (job (takeMirrored 0 1 (issued deliverNeeds 0 (entryOf 4 0x100) (runWith [entryOf 4 0x100]))) 1).has = false
    ∧ running (takeMirrored 0 1 (issued deliverNeeds 0 (entryOf 4 0x100) (runWith [entryOf 4 0x100]))) = true := by decide

/-- Hypotheses, MIRROR: a listening partner. -/
theorem witness_entries_mirror : issues 14 mirrorNeeds 0 (entryOf 14 0) mirrorState = true ∧ dfld (entryOf 14 0).w1 1 0 = 0
    ∧ mirrorActs (issued mirrorNeeds 0 (entryOf 14 0) mirrorState) 0 = true
    ∧ modState (issued mirrorNeeds 0 (entryOf 14 0) mirrorState) = .active ∧ dfld (entryOf 14 1).w1 1 0 = 1
    ∧ issues 14 mirrorNeeds 0 (entryOf 14 1) (mirrorWith (entryOf 14 1)) = true
    ∧ dfld (entryOf 14 2).w1 1 0 = 2 ∧ issues 14 mirrorNeeds 0 (entryOf 14 2) (mirrorWith (entryOf 14 2)) = true := by decide

/-! ### VotingEntriesTakeEffect -/

/-- Hypotheses of VotingEntriesTakeEffect: an open job without a presentation. -/
theorem witness_entries_checkpoint : issues 6 (fun _ _ => ⟨none, [(.checkpointUnit, occCheckpoint)]⟩) 0 (entryOf 6 1) jobOpenState = true
    ∧ isVoting jobIssued = true ∧ (job jobIssued 1).has = true ∧ (job jobIssued 1).abandoned = false
    ∧ (job jobIssued 1).suppressed = false ∧ 2 ≤ ((votingLanes jobIssued).filter (tookPart jobIssued 1)).length
    ∧ (presented jobIssued 1 0 .a).isNone = true := by decide

/-- Hypotheses, agreement: three equal presentations; all three lanes pass. -/
theorem witness_entries_agree : lanesIn agreedIssued .rejoining = [] ∧ (∀ l ∈ (votingLanes agreedIssued).filter (tookPart agreedIssued 1),
      ((presented agreedIssued 1 0 l).map (fun p => decide (p.at_ = agreedIssued.time.mt) && decide (p.sig = 9))) = some true)
    ∧ after (exec (.checkpoint 0) jobAgreed) (fun t => ((job t 1).lanes.get .c).passed && (t.meridian.present.get .c).isEmpty) = true
    := by decide

/-- Hypotheses, COLLECT of one block: three lanes that passed their last checkpoint hold equal blocks. -/
theorem witness_entries_collect_block : issues 7 collectNeeds 0 (entryOf 7 1) (collectReady) = true
    ∧ dfld (entryOf 7 1).w1 51 40 = 0 ∧ (job (issued collectNeeds 0 (entryOf 7 1) collectReady) (entryOf 7 1).task).abandoned = false
    ∧ (ballot (((collectLanes (issued collectNeeds 0 (entryOf 7 1) collectReady) 1).filter
        (fun l => !((job (issued collectNeeds 0 (entryOf 7 1) collectReady) 1).lanes.get l).gone)).map
          (stageCopy (issued collectNeeds 0 (entryOf 7 1) collectReady) 0))) = .all (List.replicate 64 0)
    ∧ (∀ l ∈ allLanes, badWords (issued collectNeeds 0 (entryOf 7 1) collectReady).sound
        ((region (issued collectNeeds 0 (entryOf 7 1) collectReady) l.idx).1 + 64 * 0) 64 = []) := by decide

/-- COLLECT and POLL issue. -/
theorem witness_entries_collect : issues 7 collectNeeds 0 (entryOf 7 1) (runWith [entryOf 7 1]) = true
    ∧ issues 13 pollNeeds 0 (entryOf 13 0x100) (runWith [entryOf 13 0x100]) = true := by decide

/-! ### OutputEntriesTakeEffect -/

/-- Hypotheses of OutputEntriesTakeEffect: the entries issue. -/
theorem witness_entries_output : issues 8 emitNeeds 0 (entryOf 8 0) (runWith [entryOf 8 0]) = true
    ∧ issues 10 xferNeeds 0 (entryOf 10 0) xferReady = true
    ∧ sendsOutputs (issued xferNeeds 0 (entryOf 10 0) xferReady) = true
    ∧ (xferCtl (issued xferNeeds 0 (entryOf 10 0) xferReady) 0).getLsbD 0 = true
    ∧ voteMode (issued xferNeeds 0 (entryOf 10 0) xferReady) ≠ .split
    ∧ xferWrites (issued xferNeeds 0 (entryOf 10 0) xferReady) 0 = false := by decide

/-- Hypotheses, EMIT: a flow of 8 bytes to a group of plane A. -/
theorem witness_entries_emit : issues 8 emitNeeds 0 (entryOf 8 0x10003) emitReady = true ∧ dfld (entryOf 8 0x10003).w1 9 0 = 3
    ∧ sendsOutputs emitIssued = true ∧ emitUsable emitIssued 3 = true ∧ flowSafe emitIssued 3 = false
    ∧ withheld emitIssued (flowOffset emitIssued 3) 8 = false ∧ flowLen emitIssued 3 = 8 ∧ flowKind emitIssued 3 = 0
    ∧ poisonedBlock emitIssued (flowOffset emitIssued 3) 8 = none
    ∧ (resolveFlow 3 (emitPlanes emitIssued (entryOf 8 0x10003)) emitIssued).1 ≠ [] := by decide

/-- Hypotheses, DRIVE. -/
theorem witness_entries_drive : issues 11 (fun s _ => if sendsOutputs s then ⟨none, [(.holmLink, occDrive)]⟩ else noNeeds) 0 (entryOf 11 1)
      (runWith [entryOf 11 1]) = true
    ∧ sendsOutputs driveIssued = true ∧ withheld driveIssued 0 4 = false
    ∧ bit driveIssued Reg.motionCfg 0 = false ∧ isPoisoned driveIssued.sound 192 4 = false := by decide

/-- Hypotheses, CAN_SLOT: the first record of the slot table of channel 1 is a valid frame without data. -/
theorem witness_entries_can_slot : issues 9 canNeeds 0 (entryOf 9 1) slotReady = true ∧ sendsOutputs slotIssued = true
    ∧ chEnabled slotIssued 1 = true ∧ 0 ≤ fld slotIssued (Reg.canChSlots 1) 23 18
    ∧ withheld slotIssued ((slotPlace slotIssued 1 0).1 - (region slotIssued 3).1) (slotPlace slotIssued 1 0).2 = false
    ∧ isPoisoned slotIssued.sound (slotPlace slotIssued 1 0).1 (slotPlace slotIssued 1 0).2 = false
    ∧ (nth 0 (readBytes slotIssued.sound (slotPlace slotIssued 1 0).1 (slotPlace slotIssued 1 0).2) 7).toNat % 2 = 1
    ∧ badRecord (readBytes slotIssued.sound (slotPlace slotIssued 1 0).1 (slotPlace slotIssued 1 0).2) = false
    ∧ badFormat slotIssued 1 (frameOf (readBytes slotIssued.sound (slotPlace slotIssued 1 0).1 (slotPlace slotIssued 1 0).2)) = false
    ∧ 16 + (frameOf (readBytes slotIssued.sound (slotPlace slotIssued 1 0).1 (slotPlace slotIssued 1 0).2)).validBytes
        ≤ (slotPlace slotIssued 1 0).2 := by decide

/-- Hypotheses, REFERENCE. -/
theorem witness_entries_reference : issues 12 refNeeds 0 (entryOf 12 1) refReady = true ∧ sendsOutputs refIssued = true
    ∧ chEnabled refIssued 1 = true ∧ bit refIssued (Reg.canChRef 1) 29 = true
    ∧ (chan refIssued 1).queue.any (fun x => decide (x.src = .reference)) = false := by decide

/-! ### EntryFailuresAreReported -/

/-- Hypotheses of EntryFailuresAreReported: an entry whose microtick has gone by, and a poisoned one. -/
theorem witness_entry_fails : entryAt lateRun 0 = some (entryOf 0 0) ∧ entryDue lateRun 0 (entryOf 0 0) = true
    ∧ (entryFailure (passEntry lateRun 0) (entryOf 0 0) noNeeds).map (·.2.1) = some 2
    ∧ (entryFailure (passEntry (runWith []) 0) (entryOf 8 0) ⟨some .safe, []⟩).map (·.2.1) = some 1
    ∧ entryAt (runWith [{ entryOf 0 0 with poison := true }]) 0 = some { entryOf 0 0 with poison := true }
    ∧ entryDue (runWith [{ entryOf 0 0 with poison := true }]) 0 { entryOf 0 0 with poison := true } = true := by decide

/-! ### DomainsAndBankLoads -/

/-- Hypotheses of DomainsAndBankLoads. -/
theorem witness_domains : domReady (domState (some 7)) .safe = true ∧ (domSt (domState none) .safe).lastUp = false
    ∧ domBusy (domState none) .safe = false
    ∧ (domSt (domState none) .safe).lastUse + usRaw 50 ≤ rawNow (domState none)
    ∧ (domSt (domState (some 7)) .safe).deferred = some 7 ∧ domReady (domState none) .safe = true := by decide

/-- Hypotheses, loads and switches. -/
theorem witness_bank_loads : shadowState (setFld State.reset Reg.chronoLoad 7 0 255) ≠ 1
    ∧ bit (setFld State.reset Reg.chronoLoad 7 0 255) Reg.chronoStatus 4 = false
    ∧ shadowState (setFld (withRegs [(Reg.chronoStatus, 4)]) Reg.chronoLoad 7 0 3) = 1
    ∧ switchReason State.reset ≠ 0 ∧ switchReason (setReg twoBanks Reg.chronoBankSel 1) = 0
    ∧ (setReg twoBanks Reg.chronoBankSel 1).chrono.req.bankSwitch = none := by decide

/-- Hypotheses, the end of a load: of an empty slot, and of one with a bank. -/
theorem witness_load_done : (loading 9).chrono.loadSlot = some 9 ∧ domReady (loading 9) .img = true ∧ (loadResult (loading 9) 9).reason ≠ 0
    ∧ (loading 3).chrono.loadSlot = some 3 ∧ domReady (loading 3) .img = true := by decide

/-! ### CyclesRun -/

/-- Hypotheses of CyclesRun. -/
theorem witness_cycles : modState startReady = .boot ∧ startReady.chrono.startAt = some 0 ∧ 0 ≤ rawNow startReady
    ∧ (activeBank startReady).isSome = true ∧ alignDist startReady 0 = 0 ∧ pairBank startReady = false
    ∧ running cycleOver = true ∧ cycleOver.chrono.idle = 0 ∧ cycleOver.chrono.hpDue = false
    ∧ (header cycleOver).bcLen ≤ cycleOver.chrono.offset ∧ 0 < (header cycleOver).bcLen ∧ standsBy cycleOver = false
    ∧ ({ cycleOver with chrono := { cycleOver.chrono with hpDue := true } } : State).chrono.hpDue = true
    ∧ modState (heard standbyRun) = .standby ∧ running (heard standbyRun) = true := by decide

/-- The boundary counts the hyperperiod. -/
theorem test_hyperperiod : after (exec .hyperperiodBoundary { cycleOver with chrono := { cycleOver.chrono with hpDue := true } })
    (fun t => decide (hpNow t = 1)) = true := by decide

/-! ### SetupWritesAreVoted -/

/-- Hypotheses of SetupWritesAreVoted, SPLIT: the designated lane's write commits, another lane's does not. -/
theorem witness_setup_split : coreActs splitA .a 0 = true ∧ (0x300010100#40).toNat = 0x300000000 + Reg.laneSaBase 0
    ∧ voteMode splitA = .split ∧ designated splitA = .a ∧ isBanked (Reg.laneSaBase 0) = false
    ∧ after (exec (.setupWrite .a 0 0x300010100 5) splitA) (fun t => decide (getReg t (Reg.laneSaBase 0) = 5)) = true := by decide

/-- Hypotheses, vote: three voting lanes; the second of two equal writes commits. -/
theorem witness_setup_vote : coreActs tripleOn .a 0 = true ∧ loneWriter tripleOn = none ∧ oldest tripleOn (setupVoters tripleOn) = []
    ∧ (setupVoters tripleOn).contains .a = true ∧ (tripleOn.meridian.queue.get .a).length < 8
    ∧ tripleOn.meridian.stalled.get .a = [] ∧ tripleOn.meridian.owed.get .a = []
    ∧ after (exec (.setupWrite .a 0 0x300010100 5) tripleOn) (fun t => decide (getReg t (Reg.laneSaBase 0) = 0)
        && after (exec (.setupWrite .b 0 0x300010100 5) t) (fun t => decide (getReg t (Reg.laneSaBase 0) = 5))) = true := by decide

/-- Hypotheses, stall: a write stalls behind another, and waits for room. -/
theorem witness_setup_stall : ((stalledA.meridian.stalled.get .a).find? (fun r => decide (r.core = 0))).isSome = true
    ∧ (stalledA.meridian.queue.get .a).length < 8 ∧ coreActs stalledA .a 1 = true ∧ stalledA.meridian.stalled.get .a ≠ []
    ∧ (setupVoters stalledA).contains .a = true ∧ loneWriter stalledA = none := by decide

/-- Hypotheses, end of the window: one lane's write alone, ten microticks old. -/
theorem witness_setup_close : oldest (settleVotes 9 oneWrite) (setupVoters (settleVotes 9 oneWrite)) ≠ []
    ∧ oldestOpen (settleVotes 9 oneWrite) (oldest (settleVotes 9 oneWrite) (setupVoters (settleVotes 9 oneWrite)))
        + couplingWindow (settleVotes 9 oneWrite) ≤ (settleVotes 9 oneWrite).time.mt := by decide

/-- Hypotheses, W1C: a flag is cleared. -/
theorem witness_w1c : (regRow? Reg.canError).map (·.access) = some .w1c ∧ isBanked Reg.canError = false
    ∧ (0x300000000#40).toNat = 0x300000000 ∧ Reg.canError ≠ Reg.isthError ∧ Reg.canError < 0x130000 := by decide

/-! ### AccessFaultsAreRaised -/

/-- Hypotheses of AccessFaultsAreRaised: both kinds of fault, the ends of the MRAM window, reads that are served. -/
theorem witness_access_fault : coreActs tripleOn .a 0 = true ∧ mapFault tripleOn .a 0x200FFFFFF false = some true
    ∧ mapFault tripleOn .a 0x300130000 true = some false ∧ laneVotes tripleRun .a = true ∧ running tripleRun = true
    ∧ coreActs tripleRun .a 3 = true ∧ laneVotes splitA .a = false ∧ voteMode splitA = .split ∧ coreActs splitA .a 0 = true
    ∧ running tripleOn = false ∧ (0x501000000#40).toNat = 0x501000000 ∧ (0x5017FFFFF#40).toNat < 0x501800000 := by decide

/-- A rejoined lane in OBSERVE while the Chronograph runs: it does not vote. -/
theorem witness_mram_observe : ∃ s, s = setReg (copyState 5 [] []) Reg.chronoStatus 1
    ∧ coreActs s .b 0 = true ∧ laneVotes s .b = false ∧ running s = true ∧ voteMode s ≠ .split := ⟨_, rfl, by decide⟩

/-! ### LaneCoreWork -/

/-- Hypotheses of LaneCoreWork: a retirement without exception, a misaligned store, a store to no device, a poisoned load, an
instruction that names a poisoned word, the stall and its end, a compare that is met. -/
theorem witness_lane_core : coreActs tripleOn .a 0 = true ∧ (tripleOn.meridian.present.get .a).length < 64
    ∧ memTrap tripleOn .a ⟨false, none, none, none, none, none, false, none⟩ = none
    ∧ poisonMet tripleOn .a ⟨false, none, none, none, none, none, false, none⟩ = none
    ∧ memTrap tripleOn .a ⟨false, some ⟨0x1001, 3, 0⟩, none, none, none, none, false, none⟩ = some (6, 0x1001, none)
    ∧ memTrap tripleOn .a ⟨false, some ⟨0x600000000, 3, 0⟩, none, none, none, none, false, none⟩
        = some (7, 0x600000000, some (0x600000000, false))
    ∧ poisonMet tripleOn .a ⟨false, none, none, none, none, some 0x40, false, none⟩ = some 0x40 := by decide

/-- Hypotheses of LaneCoreWork, the end of a stall, and a compare that is met. -/
theorem witness_lane_stall :
    (({ tripleOn with meridian := { tripleOn.meridian with sigStalled := ⟨[⟨0, 0, 0, 0, true, 0, 0⟩], [], []⟩ } }
        : State).meridian.sigStalled.get .a).find? (fun p => p.core = 0) = some ⟨0, 0, 0, 0, true, 0, 0⟩
    ∧ voteMode timerA = .split ∧ laneState timerA .a = .splitRun
    ∧ (get64 timerA (bankedKey 0 (Reg.laneTimecmpLo 0))).toNat ≤ (corrected timerA).toNat := by decide

/-- Hypotheses of LaneCoreWork, stall: 64 presentations of the lane are unresolved, and its core executes. -/
theorem witness_sigpres_full : ∃ s : State, coreActs s .a 0 = true ∧ 64 ≤ (s.meridian.present.get .a).length :=
  ⟨{ tripleOn with meridian := { tripleOn.meridian with present := ⟨List.replicate 64 ⟨0, 0, 0, 0, true, 0, 0⟩, [], []⟩ } },
    by decide⟩

/-! ### InstructionStoreFrame -/

/-- A doubleword at the top of DRAM. -/
def topStore : Retire := ⟨false, some ⟨0x1FFFFFFF8, 3, 0x1122334455667788⟩, none, none, none, none, false, none⟩

/-- Hypotheses of InstructionStoreFrame. -/
theorem witness_store : Sound tripleOn = true ∧ coreActs tripleOn .a 0 = true ∧ topStore.trap = none
    ∧ memTrap tripleOn .a topStore = none ∧ poisonMet tripleOn .a topStore = none := by decide

/-- Its lowest byte is the data's lowest. -/
theorem witness_store_byte : after (exec (.instructionRetire .a 0 topStore) tripleOn)
    (fun t => decide (readByte (t.dram.get .a) 0x1FFFFFFF8 = 0x88)) = true := by decide

/-! ### LaneFaultsAndCommands -/

/-- Hypotheses of LaneFaultsAndCommands: a voting lane, an excluded one, lanes that are OFF. -/
theorem witness_lane_commands : laneState tripleOn .a ≠ .testing ∧ laneState tripleOn .a = .voting
    ∧ laneState State.reset .a = .off ∧ laneState exclA .a ≠ .voting ∧ laneState tripleOn .a ≠ .excluded
    ∧ (exclA.lanes.get .a).exclAt = some 4 ∧ laneState exclA .a = .excluded ∧ 4 < exclA.time.mt := by decide

/-- The same: a rejoin by itself, and an exclusion. -/
theorem witness_lane_commands_2 : inControl exclA = true ∧ bit exclA Reg.laneCfg 0 = true
    ∧ exclCount exclA .a ≤ fld exclA Reg.laneCfg 7 4
    ∧ after (exec (.laneCmdExclude .a) tripleOn) (fun t => decide (laneState t .a = .excluded)) = true := by decide

/-- Hypotheses of LaneFaultsAndCommands: a lane excluded more often than REJOIN_LIMIT allows. -/
theorem witness_lane_limit : fld (setReg exclA Reg.laneExclCount 9) Reg.laneCfg 7 4 < exclCount (setReg exclA Reg.laneExclCount 9) .a
    ∧ laneState (setReg exclA Reg.laneExclCount 9) .a = .excluded ∧ inControl (setReg exclA Reg.laneExclCount 9) = true := by decide

/-! ### LaneModeRequests -/

/-- Hypotheses of LaneModeRequests. -/
theorem witness_lane_mode : voteMode tripleOn = .triple ∧ pairBank tripleOn = false ∧ (2 : BitVec 2) ≠ 3
    ∧ voteMode splitA ≠ .triple ∧ voteMode splitA = .split ∧ fld splitA Reg.laneSaLock 0 0 = 0
    ∧ fld (setReg splitA Reg.laneSaLock 1) Reg.laneSaLock 0 0 = 1
    ∧ voteMode (activeWith 1 [] [(Reg.laneState, 0x333)]) = .triple ∧ pairBank (activeWith 1 [] [(Reg.laneState, 0x333)]) = true
    ∧ badExtent tripleOn = none
    ∧ badExtent (withRegs [(Reg.laneSaBase 15, 0x1FFFFF), (Reg.laneSaPages 15, 2)]) = some 15
    ∧ (∀ l ∈ allLanes, laneState tripleOn l ≠ .testing ∧ laneState tripleOn l ≠ .rejoining)
    ∧ laneState (copyState 3 [] []) .b = .rejoining := by decide

/-! ### RejoinCopyEngine -/

/-- Hypotheses of RejoinCopyEngine. -/
theorem witness_rejoin : copying (copyState 2 [7] []) = true ∧ (copyState 2 [7] []).rejoin.toCopy.contains 7 = true
    ∧ joinStep (copyState 2 [] [9]) 3 = false ∧ copyPhase (copyState 2 [] [9]) = 2
    ∧ copyPhase (copyState 3 [] [9]) = 3 ∧ (copyState 3 [] [9]).rejoin.waiting = false
    ∧ joinStep (copyState 3 [] []) 4 = false ∧ sourcesQuiet (copyState 3 [] []) = true ∧ finalFits (copyState 3 [] []) = true
    ∧ joinStep (copyState 4 [] []) 5 = false ∧ copyPhase (copyState 4 [] []) = 4 ∧ (copyState 4 [] []).rejoin.join = false
    ∧ laneState (copyState 3 [] []) .b = .rejoining
    ∧ msRaw (100 * max 1 (fld (copyState 3 [] []) Reg.laneCfg 27 16)) < rawNow (copyState 3 [] []) - ((copyState 3 [] []).lanes.get .b).rejoinRaw
      := by decide

/-- The copy of a page of blocks that agree has an effect, also on the last page. -/
theorem witness_rejoin_copy : (pageBlocks [noMem, noMem] 0x1FFFFF).2 = false
    ∧ (pageBlocks [noMem, noMem] 0x1FFFFF).1.any (·.isNone) = false := by decide

/-- Hypotheses of RejoinCopyEngine: a page with a block poisoned in every copy. -/
theorem witness_rejoin_poison :
    (pageBlocks [{ noMem with poison := [8] }, { noMem with poison := [8] }] 0).1.any (·.isNone) = true := by decide

/-! ### RingCommandsTakeEffect -/

/-- Hypotheses of RingCommandsTakeEffect: the last ring, configured and STOPPED; and rings in each other state. -/
theorem witness_ring_commands : (ringState ringIdle 63 = 0 ∧ 4 ≤ fld ringIdle (Reg.ringCfg 63) 3 0
      ∧ fld ringIdle (Reg.ringCfg 63) 3 0 ≤ 12 ∧ 1 ≤ ringTarget ringIdle 63 ∧ ringTarget ringIdle 63 ≤ 6
      ∧ ringIdle.journal.any (fun r => decide (r.ring = 63)) = false ∧ quotaExceeds ringIdle 63 = false
      ∧ ringIdle.journalBad = [])
    ∧ ringState (withRegs [(Reg.ringStatus 63, 3)]) 63 = 3 ∧ ringState (withRegs [(Reg.ringStatus 63, 1)]) 63 = 1 := by decide

/-- START runs the ring. -/
theorem test_ring_start : after (exec (.ringCmdStart 63) ringIdle)
    (fun t => decide (ringState t 63 = 1) && decide (ringA t 63 = getReg State.reset (Reg.ringSeqStart 63) - 1)) = true := by decide

/-! ### DescriptorsAreFetchedAndAccepted -/

/-- Hypotheses of DescriptorsAreFetchedAndAccepted: a running ring with a descriptor to fetch, equal in three lanes and then not. -/
theorem witness_descriptor_fetch : ringState (fetchReady []) 63 = 1 ∧ 0 < (ringSt (fetchReady []) 63).fetchLeft
    ∧ (ringSt (fetchReady []) 63).fetched = none ∧ running (fetchReady []) = true
    ∧ ballot ((ringLanes (fetchReady [])).map (laneCopy (fetchReady []) 32 32)) = .all (List.replicate 32 0)
    ∧ 4096 * fld (fetchReady []) (Reg.ringBase 63) 20 0 + 32 * ((nextSeq (fetchReady []) 63).toNat % ringSize (fetchReady []) 63) = 32
    ∧ ballot ((ringLanes (fetchReady [1])).map (laneCopy (fetchReady [1]) 32 32)) = .pair (List.replicate 32 0) .c := by decide

/-- Hypotheses, a descriptor that passes its checks. -/
theorem witness_descriptor_valid : ∃ s, s = setReg (setReg (setReg (fetchReady []) (Reg.ringAccepted 63) 0xFFFFFFFF) (Reg.ringCfg 63) 0x404)
        (Reg.ringJquota 63) 2
    ∧ nextSeq s 63 = 0 ∧ ballot ((ringLanes s).map (laneCopy s 0 32)) = .all (List.replicate 32 0)
    ∧ descReason s 63 0 (Machine.descOf (List.replicate 32 0)) = 0
    ∧ sendsBuffer (ringTarget s 63) (Machine.descOf (List.replicate 32 0)).opcode.toNat = false ∧ standsBy s = false :=
  ⟨_, rfl, by decide⟩

/-- Hypotheses, acceptance: a fetched descriptor with quota; NOP in its turn. -/
theorem witness_descriptor_accept : (ringSt acceptReady 63).fetched = some (descOf 0 0 0 0, []) ∧ ringsAct acceptReady = true
    ∧ ringState acceptReady 63 = 1 ∧ mirrors acceptReady = false ∧ targetFull acceptReady 63 (descOf 0 0 0 0) [] = false
    ∧ quotaUsed acceptReady 63 + recBlocks ⟨63, .accepted, descOf 0 0 0 0, [], .done, 0⟩ ≤ 64 * fld acceptReady (Reg.ringJquota 63) 8 0
    ∧ (nextRec (ringJ 3 0 0 0) 0).map (fun r => r.desc.opcode) = some 0 ∧ ringsAct (ringJ 3 0 0 0) = true := by decide

/-! ### QueueCommandsAndDelivery -/

/-- Hypotheses of QueueCommandsAndDelivery: a queue with a legal SIZE; a running one; a record in the pending store. -/
theorem witness_evq : evqRefused (withRegs [(Reg.evqCfg 3, 4)]) 3 = false ∧ (withRegs [(Reg.evqCfg 3, 4)]).journalBad = []
    ∧ Sound (withRegs [(Reg.evqCfg 3, 4)]) = true ∧ evqRunning (withRegs [(Reg.evqStatus 3, 1)]) 3 = true
    ∧ (withRegs [(Reg.evqCfg 3, 4)]).evq.part.any (fun x => decide (x.1 = 3)) = false
    ∧ (withRegs [(Reg.evqCfg 3, 4)]).evq.overflow.any (fun w => decide (w.queue = 3) && w.carried) = false
    ∧ (∀ c ∈ (withRegs [(Reg.evqCfg 3, 4)]).evq.codes ++ (withRegs [(Reg.evqCfg 3, 4)]).evq.catchAll, c.queue = 3 → c.carried = 0) := by decide

/-- Hypotheses, delivery: an active module and a standby with a record in the pending store. -/
theorem witness_delivery : (nextPending (raise Ev.doFault 48 0 1 (activeWith 0 [] [])).fm.pending).map (·.code) = some 0xB03
    ∧ modState (raise Ev.doFault 48 0 1 (activeWith 0 [] [])) ≠ .sleep
    ∧ standsBy (raise Ev.doFault 48 0 1 (activeWith 0 [] [])) = false
    ∧ standsBy (raise Ev.doFault 48 0 1 (setReg (activeWith 0 [] []) Reg.modState 4)) = true := by decide

/-- A RUNNING queue refuses its commands, and so does one with SIZE 13. -/
theorem witness_evq_refused : evqRefused (withRegs [(Reg.evqStatus 3, 1)]) 3 = true
    ∧ evqRefused (withRegs [(Reg.evqCfg 3, 13)]) 3 = true := by decide

/-! ### DeadlinesAreChecked -/

/-- Hypotheses of DeadlinesAreChecked: an open job at its deadline, with no FINAL and with one. -/
theorem witness_deadline : running jobOpenState = true ∧ (job jobOpenState 1).has = true ∧ (job jobOpenState 1).abandoned = false
    ∧ (job jobOpenState 1).checked = false ∧ (job jobOpenState 1).deadlineMt ≤ jobOpenState.time.mt
    ∧ isVoting jobOpenState = true ∧ votingLanes jobOpenState ≠ [] ∧ (votingLanes jobOpenState).any (jobClosed jobOpenState 1) = false
    ∧ taskFld (taskRecord jobOpenState 1) 2 2 = 0 ∧ taskFld (taskRecord jobStops 1) 2 2 = 1 ∧ (job jobStops 1).has = true
    ∧ (votingLanes jobClosedA).any (jobClosed jobClosedA 1) = true ∧ (job jobClosedA 1).has = true ∧ isVoting jobClosedA = true := by decide

/-- Hypotheses of DeadlinesAreChecked, SPLIT: lane A, designated, has presented FINAL, and then has not. -/
theorem witness_deadline_split : ∃ s u, s = setReg jobClosedA Reg.laneState 0x2005 ∧ u = setReg jobOpenState Reg.laneState 0x2005
    ∧ voteMode s = .split ∧ running s = true ∧ ((lanesIn s .splitRun).filter (fun l => !(jobClosed s 1 l))).contains (designated s) = false
    ∧ voteMode u = .split ∧ ((lanesIn u .splitRun).filter (fun l => !(jobClosed u 1 l))).contains (designated u) = true :=
  ⟨_, _, rfl, rfl, by decide⟩

/-! ### ForcesRetainAndRestart -/

/-- Hypotheses of ForcesRetainAndRestart: open service access with a target that is not safe, and none; a running module; the
states in which a restart takes effect at once, and the one that ignores it. -/
theorem witness_forces : (svcIsOpen forceReady = true ∧ targetValid forceReady (getReg forceReady Reg.modForceTarget) = true
      ∧ targetSafe forceReady (getReg forceReady Reg.modForceTarget) = false ∧ getReg forceReady Reg.modForceMask = 1
      ∧ setReason forceReady = 0)
    ∧ svcIsOpen State.reset = false ∧ setReason State.reset ≠ 0 ∧ (∀ x ∈ State.reset.force.changes, x.1 ≠ .removeAll)
    ∧ (modState (runWith []) ≠ .safeHalt ∧ running (runWith []) = true)
    ∧ (modState (withRegs [(Reg.modState, 3)]) = .maintenance ∧ running (withRegs [(Reg.modState, 3)]) = false) := by decide

/-- Hypotheses, the other states of a restart command. -/
theorem witness_restart : ∃ s b, s = withRegs [(Reg.modState, 7)] ∧ b = withRegs [(Reg.modState, 2)]
    ∧ modState s = .safeHalt ∧ s.pair.common = false ∧ running s = false
    ∧ ({ s with pair := { pair0 with common := true } } : State).pair.common = true :=
  ⟨_, _, rfl, rfl, by decide⟩

/-- A commit of one block is applied. -/
theorem test_retain_commit : after (exec .retainCommitDone
    { State.reset with retain := { State.reset.retain with log := some ⟨[(1, [7])], 2, 9, 0, 1⟩ } })
    (fun t => decide (readByte t.retain.data 64 = 7) && decide (getReg t Reg.modRetainGen = 1)) = true := by decide

/-! ### PtpMessagesTakeEffect -/

/-- Hypotheses of PtpMessagesTakeEffect: the clock takes part on both ports, of which 9 is a master; an answer is due. -/
theorem witness_ptp : clockOn ptpOn (clockPort 0) = true ∧ ptpDomain ptpOn = 0 ∧ ptpUdp ptpOn = false ∧ peerDelay ptpOn = false
    ∧ ownClock ptpOn ≠ 5 ∧ (ptpPort ptpOn (clockPort 0)).best.isSome = true ∧ (ptpPort ptpOn (clockPort 4)).best.isNone = true
    ∧ portState ptpOn (clockPort 4) = 4 ∧ clockOn ptpOn 9 = true
    ∧ announceTimeout ptpOn * intervalRaw (logAnnounce ptpOn) ≤ rawNow ptpOn - (ptpPort ptpOn 8).lastAnn
    ∧ intervalDue ptpOn 9 .announce (logAnnounce ptpOn) = true ∧ intervalDue ptpOn 9 .sync (logSync ptpOn) = true
    ∧ (ptpPort ptpOn 9).due.find? (fun d => d.1 = PtpKind.delayResp) = some (.delayResp, ⟨5, 1⟩, 7, 0)
    ∧ planeOfPort 0 ≠ planeOfPort 9 ∧ planeOfPort 9 = planeOfPort 7 := by decide

/-! ### StampsAndPulsesTakeEffect -/

/-- Hypotheses of StampsAndPulsesTakeEffect: SYNCED long ago; a queue that is not full, with an old stamp; a pulse due and one
missing. -/
theorem witness_stamps : syncState oldSync = 2
    ∧ msRaw (10 * max 1 (fld oldSync Reg.transitCfg 15 8)) ≤ rawNow oldSync - oldSync.time.lastMeas
    ∧ oldSync.time.tsq.length < 32 ∧ (oldSync.time.tsq.find? (fun e => decide (msRaw 10 ≤ rawNow oldSync - e.at_))).isSome = true
    ∧ Sound oldSync = true ∧ pulseDriven oldSync = true ∧ (corrected oldSync).toNat / outPeriod oldSync ≠ oldSync.time.pulseSlot
    ∧ (corrected oldSync).toNat % outPeriod oldSync ≤ 8 ∧ bit oldSync Reg.transitPulseCfg 18 = false ∧ oldSync.time.lastPulse = none
    ∧ oldSync.time.missing = false
    ∧ 64 * inPeriod oldSync * 3 ≤ 2 * (rawNow oldSync - oldSync.time.lastPulse.getD oldSync.restart.bootRaw) := by decide

/-! ### SwitchesTakeEffect -/

/-- Hypotheses of SwitchesTakeEffect: the highest port with link and a frame queued; an old cache entry; a frame at the engine. -/
theorem witness_switch : rawEth.wellFormed = true ∧ rawEth.body = .raw ∧ linkUp netOn 7 = true ∧ bit netOn (Reg.netPortCfg 7) 0 = true
    ∧ portGiga netOn 7 = true ∧ busyRes netOn (.ethPort 7) = false ∧ heldBack netOn 7 = false ∧ topQueue netOn 7 = some 3
    ∧ egressQ netOn 7 3 = [rawEth] ∧ (arpEntry netOn 1 9).isSome = true
    ∧ (arpEntry netOn 1 9).map (fun e => decide (e.at_ + msRaw 60000 ≤ rawNow netOn)) = some true
    ∧ (netOn.net.engine.find? (fun x => decide (x.1 = 1))).map (fun x => (x.2.1.checks, decide (x.2.1.body = .raw))) = some (false, true)
    := by decide

/-- Hypotheses, a change of link: loss of link, and a link-up that the enables admit and one that they do not. -/
theorem witness_link : linkUp netOn 7 = true ∧ linkUp netOn 6 = false
    ∧ bit (setReg netOn (Reg.netPortCfg 6) 0) (Reg.netPortCfg 6) 0 = false ∧ linkUp (setReg netOn (Reg.netPortCfg 6) 7) 6 = false
    ∧ bit (setReg netOn (Reg.netPortCfg 6) 7) (Reg.netPortCfg 6) 0 = true
    ∧ bit (setReg netOn (Reg.netPortCfg 6) 7) (Reg.netPortCfg 6) 1 = true := by decide

/-! ### ProcessDataAndTunnels -/

/-- Hypotheses of ProcessDataAndTunnels: an invalid context with a legal value, and a VALID one. -/
theorem witness_flow : (getReg flowReady (Reg.netFlowCfg 1023)).getLsbD 0 = false
    ∧ (committed flowReady (Reg.netFlowCfg 1023) 0x51).getLsbD 0 = true
    ∧ flowReason flowReady 1023 (committed flowReady (Reg.netFlowCfg 1023) 0x51) = 0
    ∧ flowReason flowReady 1023 (committed flowReady (Reg.netFlowCfg 1023) 0x41) ≠ 0
    ∧ (getReg (withRegs [(Reg.netFlowCfg 0, 1)]) (Reg.netFlowCfg 0)).getLsbD 0 = true
    ∧ (committed (withRegs [(Reg.netFlowCfg 0, 1)]) (Reg.netFlowCfg 0) 0x51).getLsbD 0 = true := by decide

/-- Hypotheses, pull reply and tunnel: a multicast destination, and one frame held with BATCH 0. -/
theorem witness_pull : (flow pullReady 3).reply = some (0, 0xE0000001, 7)
    ∧ standsBy (setFlow pullReady 3 { flow pullReady 3 with reply := none }) = false
    ∧ (flowCfg (setFlow pullReady 3 { flow pullReady 3 with reply := none }) 3).getLsbD 0 = true
    ∧ poisonedBlock pullReady (flowOffset pullReady 3) (flowLen pullReady 3) = none
    ∧ (resolve 0 0xE0000001 pullReady).1.isSome = true
    ∧ fld pullReady (Reg.netTunCfg 7) 19 16 + 1 ≤ (tget tunnel0 pullReady.net.tunnels 7).held.length
    ∧ bit pullReady (Reg.netTunCfg 7) 0 = true ∧ bit pullReady (Reg.netTunCfg 7) 1 = true := by decide

/-! ### MessageDataTakesEffect -/

/-- Hypotheses of MessageDataTakesEffect: one descriptor of each kind, with a plane that has link and an address. -/
theorem witness_md : (∀ op ∈ [1, 3, 5, 2, 4, 16],
      (startRec (mdReady op 32) 0 1 op).1.map (fun r => (decide (32 ≤ r.desc.len.toNat), mdPlanes r.desc, decide (sendField r.payload 24 4 ≠ 0)))
        = some (true, [0], true)
      ∧ planeLink (startRec (mdReady op 32) 0 1 op).2 0 = true ∧ planeIp (startRec (mdReady op 32) 0 1 op).2 0 ≠ 0
      ∧ (startRec (mdReady op 32) 0 1 op).2.net.superv.length < 32)
    ∧ (startRec (mdReady 1 31) 0 1 1).1.map (fun r => decide (r.desc.len.toNat < 32)) = some true := by decide

/-- Hypotheses, ends: a sent frame, an unresolved one, an expired entry, a short buffer and one that is long enough. -/
theorem witness_md_ends :
    (mdEnds.net.sends.find? (fun x => decide (x.ring = 1) && x.open_.isEmpty && !(x.frames.any (frameWaits mdEnds)))).isSome = true
    ∧ (mdEnds.net.sends.find? (fun x => decide (x.ring = 2) && !x.open_.isEmpty && decide (x.first + msRaw 100 ≤ rawNow mdEnds))).isSome = true
    ∧ (mdEnds.net.superv.find? (fun x => decide (x.session = 5) && decide (x.expires ≤ rawNow mdEnds))).isSome = true
    ∧ (startRec (ringJ 2 1 1535 0) 0 2 1).1.map (fun r => decide (r.desc.len.toNat < 1536)) = some true
    ∧ (startRec (ringJ 2 1 1536 0) 0 2 1).1.map (fun r => decide (1536 ≤ r.desc.len.toNat)) = some true := by decide

/-! ### SafeConnectionCommands -/

/-- Hypotheses of SafeConnectionCommands: a legal value for the last connection, an illegal one, a connection in FAULT. -/
theorem witness_safe_conn : Sound safeReady = true ∧ wordFld (committed safeReady (Reg.safeConnCfg 127) (0x30 ||| 1)) 0 0 = 1
    ∧ bit safeReady (Reg.safeConnCfg 127) 0 = false ∧ connReason safeReady 127 (committed safeReady (Reg.safeConnCfg 127) (0x30 ||| 1)) = 0
    ∧ connReason safeReady 127 (committed safeReady (Reg.safeConnCfg 127) (0 ||| 1)) ≠ 0
    ∧ wordFld (committed safeReady (Reg.safeConnCfg 127) (0x31 &&& ~~~1)) 0 0 = 0
    ∧ connState (withRegs [(Reg.safeConnStatus 127, 4)]) 127 = 4 ∧ connState safeReady 127 ≠ 4 := by decide

/-- Hypotheses of SafeConnectionCommands: a connection in WAIT that is enabled already. -/
theorem witness_safe_again : ∃ s, s = setReg (setReg (setReg safeReady (Reg.safeConnCfg 127) 0x31) (Reg.safeConnStatus 127) 1)
      (Reg.netFlowCfg 3) (getReg safeReady (Reg.netFlowCfg 3) ||| 2)
    ∧ bit s (Reg.safeConnCfg 127) 0 = true ∧ connReason s 127 (committed s (Reg.safeConnCfg 127) (0x31 ||| 1)) = 0
    ∧ wordFld (committed s (Reg.safeConnCfg 127) (0x31 ||| 1)) 0 0 = 1
    ∧ bit s (Reg.netFlowCfg (wordFld (committed s (Reg.safeConnCfg 127) (0x31 ||| 1)) 13 4)) 1 = decide (connState s 127 ≠ 5) :=
  ⟨_, rfl, by decide⟩

/-! ### CanReceptionTakesEffect -/

/-- Hypotheses of CanReceptionTakesEffect, receive error: the error is noted and REC counts 8. -/
theorem witness_can_rx_error : chOnBus canOn 1 = true ∧
    after (exec (.canRxError 0 .crc false true) canOn) (fun t => decide (rec_ t 1 = 8)) = true := by decide

/-- Hypotheses, frame: no filter takes it, and it counts as dropped. -/
theorem witness_can_frame_rx : frame1.wellFormed = true ∧ chOnBus canOn 1 = true ∧ chLoopback canOn 1 = false
    ∧ (frame1.fdf = true → bit canOn (Reg.canChCfg 1) 3 = true) ∧
    (enabledFilters canOn).find? (fltMatches canOn 1 frame1) = none ∧ bit canOn (Reg.canChCfg 1) 9 = false
    ∧ after (exec (.canFrameRx 0 frame1 0) canOn) (fun t => decide (fld t (Reg.canChCounts 1) 31 24 = 1)) = true := by decide

/-- Hypotheses, an FD frame on a classical channel. -/
theorem witness_can_frame_fd : ({ frame1 with fdf := true } : CanFrame).wellFormed = true ∧ chOnBus canOn 1 = true
    ∧ chLoopback canOn 1 = false ∧ bit canOn (Reg.canChCfg 1) 3 = false := by decide

/-- Hypotheses, buffers of 40 and of 80 bytes. -/
theorem witness_can_rx_buffer : ((startRec (ringJ 4 1 40 1) 0 4 1).1.map (·.desc.len)) = some 40
    ∧ ((startRec (ringJ 4 1 80 1) 0 4 1).1.map (·.desc.len)) = some 80 := by decide

/-! ### CanTransmissionTakesEffect -/

/-- Hypotheses of CanTransmissionTakesEffect: a ring's frame is taken, and then in the queue; one of a wrong length is refused. -/
theorem witness_can_tx_frame : ((startRec canRing 0 3 1).1.map (fun r =>
      txReason (startRec canRing 0 3 1).2 (ringUnit (startRec canRing 0 3 1).2 0) r.desc r.payload)) = some 0
    ∧ canShared (startRec canRing 0 3 1).2 1 < 31
    ∧ after (exec (.canTxFrame 0) canRing) (fun t => decide ((chan t 1).queue.length = 1)) = true
    ∧ ((startRec (ringJ 3 1 40 1) 0 3 1).1.map (fun r => txReason (startRec (ringJ 3 1 40 1) 0 3 1).2
      (ringUnit (startRec (ringJ 3 1 40 1) 0 3 1).2 0) r.desc r.payload)) = some 1 := by decide

/-- Hypotheses, attempt and suspend end. -/
theorem witness_can_tx_attempt : chOnBus canQueued 1 = true ∧ listenOnly canQueued 1 = false
    ∧ (chan canQueued 1).suspend = false ∧ (chan canQueued 1).queue.any (fun e => e.sof.isSome) = false
    ∧ canQueued.tap.acting = none ∧ winner canQueued (chan canQueued 1).queue = some 0
    ∧ (chan (setChan canQueued 1 { chan canQueued 1 with suspend := true }) 1).suspend = true := by decide

/-- Hypotheses, suspend end: a frame waits, or none. -/
theorem witness_can_suspend_end : ∃ s, s = setChan canQueued 1 { chan canQueued 1 with suspend := true }
    ∧ (chan s 1).suspend = true
    ∧ ((chan (setChan s 1 { chan s 1 with suspend := false }) 1).queue[0]?).isSome = true
    ∧ winner (setChan s 1 { chan s 1 with suspend := false }) (chan (setChan s 1 { chan s 1 with suspend := false }) 1).queue
        = some 0
    ∧ winner canOn (chan canOn 1).queue = none := ⟨_, rfl, by decide⟩

/-- Hypotheses, an error after an attempt. -/
theorem witness_can_flag_error : (inFlight canOn 1).isNone = true ∧ chOnBus canOn 1 = true ∧ listenOnly canOn 1 = false
    ∧ after (exec (.canTxError 0 (.flag true)) canOn) (fun t => decide (tec t 1 = 8)) = true := by decide

/-- Hypotheses, commit and error: a frame in transmission. -/
theorem witness_can_tx_commit : (inFlight canSending 1).isSome = true
    ∧ (inFlight canSending 1).map (fun p => p.1.src) = some (.ring 0 1 false none)
    ∧ after (exec (.canTxError 0 (.error .ack false false false)) canSending) (fun t => decide (tec t 1 = 8)) = true := by decide

/-- Hypotheses, deadline. -/
theorem witness_can_deadline : (chan canLate 1).queue.findIdx? (fun e => pastDeadline canLate e && e.sof.isNone) = some 0
    ∧ ((chan canLate 1).queue[0]?).map (·.src) = some (.ring 0 1 false (some 0)) := by decide

/-! ### CanRecoveryTakesEffect -/

/-- Hypotheses of CanRecoveryTakesEffect: bus-off with the delay passed, recovery, joining. -/
theorem witness_can_recovery : (chEnabled (canIn 4) 1 = true ∧ chState (canIn 4) 1 = 4 ∧ bit (canIn 4) (Reg.canChCfg 1) 6 = false
      ∧ (chan (canIn 4) 1).noSupply = false
      ∧ (chan (canIn 4) 1).busOffAt + msRaw (fld (canIn 4) (Reg.canChCfg 1) 23 16) ≤ rawNow (canIn 4))
    ∧ (Sound (canIn 5) = true ∧ chEnabled (canIn 5) 1 = true ∧ chState (canIn 5) 1 = 5)
    ∧ (chEnabled (canIn 1) 1 = true ∧ chState (canIn 1) 1 = 1) := by decide

/-- Hypotheses, RECOVER without supply and of a channel on the bus; integration of a channel in bus-off. -/
theorem witness_can_no_supply : ∃ s, s = setChan (canIn 4) 1 { canCh0 with noSupply := true, waitIdle := true }
    ∧ chEnabled s 1 = true ∧ chState s 1 = 4 ∧ (chan s 1).noSupply = true ∧ 4 ≤ chState s 1 ∧ chState canOn 1 ≠ 4 :=
  ⟨_, rfl, by decide⟩

/-- Hypotheses, supplies: the highest group has its supply; a return restores a channel that has lost it. -/
theorem witness_can_supply : bit (withRegs [(Reg.canGroupStatus, 0x1F)]) Reg.canGroupStatus 4 = true
    ∧ after (exec (.groupSupplyReturn 0) (setChan (canIn 4) 1 { canCh0 with noSupply := true, recovery := true }))
      (fun t => decide (chState t 1 = 5)) = true := by decide

/-! ### CanEnableTakesEffect -/

/-- Hypotheses of CanEnableTakesEffect: a disabled channel, with its reset timing; and a channel switched off. -/
theorem witness_can_enable : wordFld (getReg State.reset (Reg.canChCfg 1)) 0 0 = 0
    ∧ wordFld (committed State.reset (Reg.canChCfg 1) (0 ||| 1)) 0 0 = 1
    ∧ chReason State.reset 1 (committed State.reset (Reg.canChCfg 1) (0 ||| 1)) ≠ 0
    ∧ chReason canTimed 1 (committed canTimed (Reg.canChCfg 1) (0x20 ||| 1)) = 0 := by decide

/-- Hypotheses, disable. -/
theorem witness_can_disable : wordFld (getReg canOn (Reg.canChCfg 1)) 0 0 = 1
    ∧ wordFld (committed canOn (Reg.canChCfg 1) (0 &&& ~~~1)) 0 0 = 0
    ∧ wordFld (getReg canOn (Reg.canChCfg 1)) 5 3 = wordFld (committed canOn (Reg.canChCfg 1) (0 &&& ~~~1)) 5 3
    ∧ hasRingFrame (chan canOn 1).queue = false ∧ canWaiting canOn 1 = 0 ∧ hasRingFrame (chan canSending 1).queue = true := by
  decide

/-- Hypotheses, an enabled channel: MODE changes, FD would. -/
theorem witness_can_mode : wordFld (getReg canOn (Reg.canChCfg 1)) 0 0 = 1
    ∧ wordFld (committed canOn (Reg.canChCfg 1) (5 ||| 1)) 0 0 = 1
    ∧ wordFld (getReg canOn (Reg.canChCfg 1)) 5 3 = wordFld (committed canOn (Reg.canChCfg 1) (5 ||| 1)) 5 3
    ∧ wordFld (getReg canOn (Reg.canChCfg 1)) 5 3 ≠ wordFld (committed canOn (Reg.canChCfg 1) (8 ||| 1)) 5 3 := by decide

/-! ### WindowAccessesAreVoted -/

/-- Hypotheses of WindowAccessesAreVoted: the lowest and, faulting, the first address beyond the highest window. -/
theorem witness_window_access : coreActs winOpen .a 0 = true
    ∧ winFaults winOpen (accKind .load (winOf 0x400000000).2 2) 0x400000000 2 = false
    ∧ winFaults winOpen (accKind .load (winOf 0x410000000).2 2) 0x410000000 2 = true ∧ laneState winOpen .a = .voting
    ∧ winOpen.isth.votes = [] ∧ laneState winOne .b = .voting ∧ coreActs winOne .b 0 = true
    ∧ (winOne.isth.votes.find? (fun v => decide (v.stream = none) && decide (v.index = winOne.isth.counts.get .b))).map (fun v => (v.chosen, v.got))
      = some (none, [⟨.a, 0, .load, 0x400000000, 2, 0⟩])
    ∧ laneVotes winOne .a = true ∧ sameAccess ⟨.b, 0, .load, 0x400000000, 2, 0⟩ ⟨.a, 0, .load, 0x400000000, 2, 0⟩ = true
    ∧ winOne.isth.votes.any (fun v => voteDue { winOne with time := { winOne.time with mt := 5000 } } v
        && v.chosen.isNone && decide ((voters winOne v).length = 1)) = true := by decide

/-- Hypotheses, a lane in SPLIT. -/
theorem witness_window_split : coreActs splitWin .a 3 = true ∧ laneState splitWin .a = .splitRun ∧ winSafe splitWin 0 = false
    ∧ winSafe splitWin 1 = true ∧ winFaults splitWin (accKind .store (winOf 0x400000000).2 2) 0x400000000 2 = false := by decide

/-- Hypotheses, bounds: a read and a fence that formed long ago, a prefetched block. -/
theorem witness_window_bounds : ∀ s, s = winFormed .load → (s.isth.votes.find? (boundPassed s)).isSome = true ∧ standsBy s = false
    ∧ s.isth.fetched.any (fun p => !p.dead
      && decide (p.at_ + usRaw (16 * max 1 (fld s Reg.isthCfg 29 24)) ≤ rawNow s)) = true := by
  rintro _ rfl
  decide

/-- Hypotheses, a fence. -/
theorem witness_fence : ∀ s, s = winFormed .fence → (s.isth.votes.find? (fenceReady s)).isSome = true ∧ standsBy s = false := by
  rintro _ rfl
  decide

/-! ### CrateCyclesTakeEffect -/

/-- Hypotheses of CrateCyclesTakeEffect: a transfer due; a read of two words in progress, past its bound; one that waits. -/
theorem witness_crate : drivesCrate (retryWaiting crateDue) = true ∧ (retryWaiting crateDue).isth.bus = none
    ∧ (retryWaiting crateDue).tap.acting = none ∧ (retryWaiting crateDue).isth.due = [255]
    ∧ crateBusy.isth.bus = some crateOp ∧ crateOp.count = 2 ∧ crateOp.at_ + busLimit crateBusy ≤ rawNow crateBusy
    ∧ crateOp.retries < retryLimit (satAdd (setFld { crateBusy with isth := { crateBusy.isth with bus := none } }
        (Reg.isthWinStatus crateOp.window) 7 4 0) Reg.isthCounts 23 16 1) crateOp
    ∧ crateWait.isth.bus = none ∧ drivesCrate crateWait = true ∧ standsBy standbyRun = true := by decide

/-- Hypotheses, repeats: with RETRIES 0 none is left; the one that waits is a transfer's. -/
theorem witness_crate_repeat : ∃ f : BusOwner → Bool, (∀ w, f w = true ↔ ∃ i, w = .xfer i) ∧
    crateWait.isth.retry.find? (fun x => decide (x.2 ≤ rawNow crateWait)
      && (f x.1.owner || (crateWait.isth.due.isEmpty && !crateHeld crateWait))) = some (crateOp, 0)
    ∧ crateWait.tap.acting = none
    ∧ retryLimit (satAdd (setFld { crateWait with isth := { crateWait.isth with bus := none } }
        (Reg.isthWinStatus crateOp.window) 7 4 0) Reg.isthCounts 23 16 1) crateOp ≤ crateOp.retries := by
  refine ⟨fun w => match w with | .xfer _ => true | _ => false, ?_, by decide⟩
  intro w
  cases w <;> simp

/-- Hypotheses, ring transfers in window 15, and in a window that is not enabled. -/
theorem witness_ring_xfer : ((startRec (ringCrate 1) 0 5 1).1.map (fun r => ringReason (startRec (ringCrate 1) 0 5 1).2 r.desc))
      = some 0
    ∧ ((startRec (ringCrate 2) 0 5 2).1.map (fun r => ringReason (startRec (ringCrate 2) 0 5 2).2 r.desc)) = some 0
    ∧ (ringCrate 1).isth.rings = []
    ∧ ((startRec (ringJ 5 1 2 0 0 15 [1, 2]) 0 5 1).1.map (fun r =>
        decide (ringReason (startRec (ringJ 5 1 2 0 0 15 [1, 2]) 0 5 1).2 r.desc = 2))) = some true := by decide

/-! ### CrateInterruptsAndSetUp -/

/-- Hypotheses of CrateInterruptsAndSetUp: the highest line enabled and armed; a reset that ends; the largest legal window. -/
theorem witness_crate_setup : bit (setBit intReady Reg.isthIntStatus 7 true) Reg.isthIntCfg 7 = true
    ∧ bit (setBit intReady Reg.isthIntStatus 7 true) Reg.isthIntStatus 15 = true ∧ intReady.isth.ints.length = 1 ∧ intReady.isth.posted = [] ∧ intReady.isth.rings = [] ∧ modState intReady = .active
    ∧ modState State.reset ≠ .active ∧ modState State.reset ≠ .maintenance ∧ intReady.isth.resetTo = some 0
    ∧ wordFld (committed State.reset (Reg.isthWinCfg 15) (0x1700 ||| 1)) 0 0 = 1
    ∧ wordFld (committed State.reset (Reg.isthWinCfg 15) (0x1700 ||| 1)) 12 8 = 23 ∧ winBase State.reset 15 = 0
    ∧ (committed State.reset (Reg.isthWinCfg 15) (0x1700 ||| 1)).getLsbD 3 = false
    ∧ running xferTarget = false ∧ wordFld (committed xferTarget (Reg.isthXferCtl 255) (0xFF2 ||| 1)) 0 0 = 1
    ∧ winEnabled xferTarget (wordFld (committed xferTarget (Reg.isthXferCtl 255) (0xFF2 ||| 1)) 7 4) = true
    ∧ 2 * (wordFld (committed xferTarget (Reg.isthXferCtl 255) (0xFF2 ||| 1)) 11 8 + 1) = 32 ∧ xferFar xferTarget 255 = 0
    ∧ 32 ≤ winSize xferTarget 15 ∧ (committed xferTarget (Reg.isthXferCtl 255) (0xFF2 ||| 1)).getLsbD 1 = true
    ∧ inRegion xferTarget 3 (64 * fld xferTarget (Reg.isthXferData 255) 19 0) 32 = true := by decide

/-- Hypotheses, a read transfer's record in image 0. -/
theorem witness_xfer_read : (committed xferImage (Reg.isthXferCtl 0) (0xF0 ||| 1)).getLsbD 1 = false
    ∧ wordFld (committed xferImage (Reg.isthXferCtl 0) (0xF0 ||| 1)) 0 0 = 1 ∧ winEnabled xferImage 15 = true
    ∧ running xferImage = false
    ∧ wordFld (committed xferImage (Reg.isthXferCtl 0) (0xF0 ||| 1)) 7 4 = 15
    ∧ inImage xferImage (fld xferImage (Reg.isthXferData 0) 23 20) (16 * fld xferImage (Reg.isthXferData 0) 19 0)
        (16 + (2 + 15) / 16 * 16) = true := by decide

/-! ### InputsAndRefreshesTakeEffect -/

/-- Hypotheses of InputsAndRefreshesTakeEffect: a healthy island with the highest input high, a message on link 4, an old refresh. -/
theorem witness_holm_inputs : islandOk holmOn = true ∧ (classVolts holmOn (groupOfDi 48)).1 < 400 ∧ (classVolts holmOn (groupOfDi 48)).2.1 ≤ 400
    ∧ (din (setDin holmOn 48 { din holmOn 48 with volts := 400 }) 48).raw = false ∧ (din holmOn 1).raw ≠ diLevel holmOn 1
    ∧ filterRaw holmOn 1 ≤ rawNow holmOn - (din holmOn 1).since ∧ (group holmOn 4).link = [(5, true)]
    ∧ (group holmOn 4).lastBit ≠ some true ∧ groupState holmOn 4 ≠ 2 ∧ groupState holmOn 4 = 1
    ∧ msRaw (silenceMs (getReg holmOn (Reg.holmConnCfg 4))) ≤ rawNow holmOn - (group holmOn 4).refreshAt
    ∧ groupState holmOn 3 = 2 ∧ supplyOk holmOn 4 = true ∧ (100 < (classVolts holmOn 4).2.2.1) ∧ supplyOk holmOn 3 = false
    ∧ (classVolts holmOn 3).2.2.1 ≤ 240 ∧ 240 ≤ (classVolts holmOn 3).2.2.2 := by decide

/-! ### OutputFaultsAndPulses -/

/-- Hypotheses of OutputFaultsAndPulses: output 24 is ON, output 23 has a latched fault, output 22 is in an off-pulse. -/
theorem witness_holm_outputs : islandOk outOn = true ∧ doFaulted outOn 24 = false
    ∧ faultPossible outOn 24 .overload = true ∧ faultPossible outOn 24 .overtemp = true ∧ doFaulted outOn 13 = true
    ∧ doOn outOn 24 = true ∧ graceRaw outOn 24 < rawNow outOn - (dout outOn 24).changedAt
    ∧ (dout outOn 24).openLoad = false ∧ offAllowed outOn 24 = true ∧ (dout outOn 12).pulse = some 0
    ∧ supplyOk outOn (groupOfDo 12) = true := by decide

/-! ### MotionTakesEffect -/

/-- Hypotheses of MotionTakesEffect: sensors at rest and due for a tick; the unit enabled with sensors 3 and 4 implausible. -/
theorem witness_motion : islandOk holmOn = true ∧ Sound holmOn = true ∧ (sensor holmOn 4).a = false ∧ (sensor holmOn 4).b = false
    ∧ (sensor holmOn 4).run = none ∧ (corrected holmOn).toNat / 1000000 ≠ holmOn.motion.tickMs ∧ bit holmOn Reg.motionCfg 0 = false ∧ motionOn motionOnS = true
    ∧ bit motionOnS Reg.motionStatus 4 = false ∧ heldLong motionOnS (8 * 3 + 4) = true ∧ bit motionOnS Reg.motionCfg 0 = true
    ∧ (corrected motionOnS).toNat / 1000000 ≠ motionOnS.motion.tickMs
    ∧ motionOnS.motion.overAt = some 0 ∧ bit motionOnS Reg.motionStatus 3 = false
    ∧ msRaw (max 1 (fld motionOnS Reg.motionCfg 23 16)) ≤ rawNow motionOnS - 0 ∧ motionOnS.motion.link = [(15, true)]
    ∧ motionOnS.motion.lastBit ≠ some true ∧ motionOnS.motion.selected = some 3
    ∧ msRaw (min 1000 (max 1 (fld motionOnS Reg.motionSelSrc 27 18))) ≤ rawNow motionOnS - motionOnS.motion.selAt := by decide

/-! ### MotionResetAndEnable -/

/-- Hypotheses of MotionResetAndEnable: a press to judge without a latch and with one; a press of 6 s; two sensors set up. -/
theorem witness_motion_reset : motionPress.motion.judge = some (200, 0) ∧ motionOn motionPress = true ∧ anyLatch motionPress = false
    ∧ anyLatch (setBit motionPress Reg.motionStatus 4 true) = true
    ∧ resetClear (setBit motionPress Reg.motionStatus 4 true) ((corrected motionPress).toNat / 1000000 * 1000000) = true
    ∧ resetClear { setBit motionPress Reg.motionStatus 4 true with
        motion := { motionPress.motion with powerAt := rawNow motionPress } } ((corrected motionPress).toNat / 1000000 * 1000000) = false
    ∧ motionPress.motion.press = some (0, 0, true) ∧ 0 + 5000000000 < (corrected motionPress).toNat / 1000000 * 1000000
    ∧ msRaw 5000 < rawNow motionPress - 0
    ∧ bit motionPress Reg.motionStatus 7 = false ∧ (getReg motionSet Reg.motionCfg).getLsbD 0 = false
    ∧ (committed motionSet Reg.motionCfg (0x30 ||| 1)).getLsbD 0 = true
    ∧ motionReason motionSet (committed motionSet Reg.motionCfg (0x30 ||| 1)) = none
    ∧ motionReason motionSet (committed motionSet Reg.motionCfg (0x10 ||| 1)) = some (2, Reg.motionCfg)
    ∧ (getReg motionOnS Reg.motionCfg).getLsbD 0 = true ∧ (committed motionOnS Reg.motionCfg (0x31 ||| 1)).getLsbD 0 = true := by decide

/-! ### MasteryIsClaimedAndTaken -/

/-- An eligible standby whose partner has given up. -/
theorem witness_mastery : modState standbyElig = .standby ∧ bit standbyElig Reg.pairStatus 2 = true
    ∧ standbyElig.pair.give.isSome = true ∧ pairBank standbyElig = true ∧ standbyElig.pair.claimAt = none
    ∧ partnerMaster standbyElig = false ∧ standbyElig.pair.noMastery + usRaw 20 ≤ rawNow standbyElig
    ∧ standbyClaim.pair.claimAt = some 0 ∧ 0 + usRaw 60 ≤ rawNow standbyClaim ∧ running standbyClaim = true
    ∧ standbyClaim.chrono.offset = 0 ∧ standbyClaim.chrono.nextIndex = 0 ∧ standbyClaim.chrono.hpDue = false
    ∧ modState standbyClaim = .standby ∧ modState activeElig = .active ∧ eligiblePartner activeElig = true
    ∧ activeElig.pair.gaveUp = some .yield ∧ activeElig.chrono.req.restart = some (false, 0)
    ∧ { activeElig with chrono := chrono0 }.chrono.req.restart = none
    ∧ modState haltDone = .safeHalt ∧ bit haltDone Reg.pairCfg 0 = true ∧ haltDone.pair.common = false
    ∧ haltDone.pair.haltRaw + msRaw (100 * fld haltDone Reg.pairCfg 15 8) ≤ rawNow haltDone := by decide

/-- A standby without a result, one that has waited, a link that falls silent in SAFE_HALT, and an ACTIVE module with MST_IN. -/
theorem witness_mastery_2 : standsBy standbyWaits = true ∧ partnerMaster standbyWaits = true
    ∧ (standbyWaits.isth.votes.map (fun v => (v.stream, v.result, v.formed))) = [(none, none, some 0)]
    ∧ 0 + usRaw 200 ≤ rawNow standbyWaits ∧ modState standbyNine = .standby ∧ bit standbyNine Reg.pairStatus 2 = false
    ∧ standbyNine.pair.reason = 9 ∧ isVoting standbyNine = true ∧ linesOk standbyNine = true
    ∧ modState haltLink = .safeHalt ∧ haltLink.pair.silent = false ∧ bit haltLink Reg.pairStatus (10 + 1) = true
    ∧ modState (showScan (setFld activeElig Reg.pairStatus 7 6 2)) = .active
    ∧ (showScan (setFld activeElig Reg.pairStatus 7 6 2)).pair.silent = false
    ∧ after (exec .straitSilent haltLink) (fun t => t.pair.silent && decide (modState t = .safeHalt)) = true := by decide

/-- A started module in BOOT on side 1, and a standby that waited in vain, with reasons 7 and 8. -/
theorem witness_mastery_3 : modState bootClaim = .boot ∧ bootClaim.chrono.startAt.isSome = true ∧ pairBank bootClaim = true
    ∧ bootClaim.pair.claimAt = none ∧ partnerMaster bootClaim = false ∧ bit bootClaim Reg.pairStatus 12 = false
    ∧ bootClaim.pair.noMastery + usRaw 20 ≤ rawNow bootClaim
    ∧ eligCycles { standbyNine with pair := { standbyNine.pair with reason := 7, eligCount := 255 } } ≤ 255
    ∧ max 1 (fld standbyNine Reg.pairXchk 7 0) ≤ 255 := by decide

/-! ### StraitFramesTakeEffect -/

/-- Hypotheses of StraitFramesTakeEffect. -/
theorem witness_strait : standsBy standbyElig = true ∧ modState standbyElig = .standby ∧ bit standbyElig Reg.pairStatus 2 = true
    ∧ checkDiffers [⟨0, false, 0⟩] standbyElig.pair.digests = some 0 ∧ checkDiffers [] standbyElig.pair.digests = none
    ∧ modState (activeOpen) = .active ∧ activeOpen.pair.batchOpen = [(7, [])] ∧ activeOpen.pair.checkOpen = [9]
    ∧ pairBank activeOpen = true ∧ activeOpen.pair.gaveUp = none ∧ activeOpen.pair.partner = none
    ∧ modState haltLink = .safeHalt ∧ haltLink.pair.lineFault = false
    ∧ bit (setFld haltLink Reg.pairStatus 5 4 1) Reg.pairStatus 3 = false
    ∧ modState standbyElig ≠ .sleep ∧ modState standbyElig ≠ .waking
    ∧ after (exec (.straitStatus ⟨.active, .triple, false, .alive, 0⟩) haltLink) (fun t => decide (modState t = .safeHalt)
        && !t.pair.lineFault) = true
    ∧ after (exec (.straitHello ⟨0, 0, 0, 0, []⟩) activeOpen) (fun t => decide (t.out.length = 1)) = true := by decide

/-- A join attempt of an open copy. -/
theorem witness_strait_joining : modState (joiningAt 2) = .joining ∧ 1 ≤ joinPhase (joiningAt 2)
    ∧ (joiningAt 2).pair.retryRaw = none := by decide

/-! ### JoiningTakesEffect -/

/-- Hypotheses of JoiningTakesEffect. -/
theorem witness_joining : modState (joiningAt 2) = .joining ∧ joinPhase (joiningAt 2) = 2
    ∧ CopyContent.wellFormed (.page 0 (List.replicate 4096 0)) = true
    ∧ (joiningAt 2).pair.retryRaw = none ∧ (joiningAt 2).pair.joinRaw + msRaw 30000 ≤ rawNow (joiningAt 2)
    ∧ 0 + msRaw 1000 ≤ rawNow (joiningAt 2)
    ∧ joinPhase (joiningAt 6) = 6 ∧ eligCycles (joiningAt 6) ≤ (joiningAt 6).pair.eligCount
    ∧ isVoting (setFld (setModTo .standby (joiningAt 6)) Reg.pairJoin 2 0 0) = true
    ∧ (setFld (setModTo .standby (joiningAt 6)) Reg.pairJoin 2 0 0).pair.lineFault = false
    ∧ modState activeJoin = .active ∧ pairBank activeJoin = true
    ∧ activeJoin.pair.partner = some ⟨.joining, .none, false, .alive, 0⟩ ∧ activeJoin.pair.hello.isSome = true
    ∧ activeJoin.pair.mirroring = false ∧ activeJoin.pair.silent = false ∧ copyPhase activeJoin = 0 := by
  refine ⟨by decide, by decide, ?_, by decide, by decide, by decide, by decide, by decide, by decide, by decide, by decide,
    by decide, by decide, by decide, by decide, by decide, by decide⟩
  simp only [CopyContent.wellFormed, List.length_replicate]
  rfl

/-- HELLO in BOOT: alike, and of another class. -/
theorem witness_joining_2 : modState (helloBoot 9) = .boot ∧ (helloBoot 9).chrono.startAt.isSome = true
    ∧ pairBank (helloBoot 9) = true ∧ partnerMaster (helloBoot 9) = true ∧ (9 : BitVec 16) ≠ (ownHello (helloBoot 9)).pairClass
    ∧ modState (helloBoot 0) = .boot ∧ (helloBoot 0).chrono.startAt.isSome = true ∧ pairBank (helloBoot 0) = true
    ∧ partnerMaster (helloBoot 0) = true ∧ (ownHello bootPair).pairClass = (ownHello (helloBoot 0)).pairClass
    ∧ helloAlike (helloBoot 0) (ownHello bootPair) = true := by decide

/-- HELLO with another application. -/
theorem witness_joining_3 : helloAlike (helloBoot 0) { ownHello bootPair with appBuildId := 77 } = false
    ∧ ({ ownHello bootPair with appBuildId := 77 } : HelloInfo).pairClass = (ownHello (helloBoot 0)).pairClass := by decide

/-! ### FaultManagerTakesEffect -/

/-- Hypotheses of FaultManagerTakesEffect: levels, writes that lower and that do not, decoder results. -/
theorem witness_fault : fld (withRegs [(Reg.faultStatus, 3)]) Reg.faultStatus 2 0 < 4
    ∧ 4 ≤ fld (withRegs [(Reg.faultStatus, 4)]) Reg.faultStatus 2 0 ∧ Sound State.reset = true ∧ running State.reset = false
    ∧ lowersEntry (getReg State.reset (Reg.faultTable 63)) 0x80000000 = false ∧ wordFld 0x1200 15 8 ≤ 0x12 ∧ 0x12 < wordFld 0x1300 15 8
    ∧ running faultTab = true ∧ lowersEntry (getReg faultTab (Reg.faultTable 63)) 0x80030200 = true
    ∧ lowersFloor (getReg State.reset Reg.faultSevFloor) 5 = false ∧ lowersFloor (getReg faultTab Reg.faultSevFloor) 0 = true
    ∧ (powered State.reset).skerry.powered = true ∧ modState (powered State.reset) ≠ .sleep ∧ (11 : BitVec 4).toNat ≤ 11
:= by decide

/-- What the decoder finds: in the word of zeros, with one symbol in error, with the poison mark, with two symbols in error. -/
theorem witness_fault_2 : decode160 0 = .clean ∧ decode160 1 = .corrected 4
    ∧ decode160 0x5A5A5A5A00000000000000000000000000000000 = .poisoned ∧ decode160 0x101 = .uncorrectable := by decide +kernel

/-! ### SingleSymbolErrorsAreCorrected -/

/-- A code word for SingleSymbolErrorsAreCorrected: the spec's example, d_0 = 1. -/
theorem witness_code : decode160 0x0F36784000000000000000000000000000000001 = .clean := by decide +kernel

/-! ### SupplyAndSkerryTakeEffect -/

/-- Hypotheses of SupplyAndSkerryTakeEffect. -/
theorem witness_supply : State.reset.skerry.powered = false ∧ 60 ≤ (60 : BitVec 12).toNat ∧ (59 : BitVec 12).toNat < 60
    ∧ (powered State.reset).skerry.powered = true ∧ (54 : BitVec 12).toNat < 55 ∧ (powered State.reset).skerry.interruptRaw = none
    ∧ modState (powered State.reset) ≠ .sleep ∧ supplyOff.skerry.interruptRaw = some 0 ∧ supplyOff.skerry.powered = true
    ∧ 1600 < (1601 : BitVec 12).toNat ∧ (powered State.reset).skerry.warned = false ∧ modState (activeWith 1 [] []) = .active
    ∧ pairBank (activeWith 1 [] []) = true ∧ supplyOff.skerry.warned = true ∧ modState asleep = .sleep ∧ asleep.skerry.powered = true
    ∧ supplyOff.skerry.back = none := by decide

/-- The same: a supply that is back, the TCXO without and with a kept RATE, temperatures, an interruption in SLEEP. -/
theorem witness_supply_2 : (supplyBack 60 supplyOff).skerry.back = some 60 ∧ (supplyBack 60 supplyOff).skerry.warned = true
    ∧ (supplyBack 60 supplyOff).skerry.powered = true ∧ bit settling Reg.skerryStatus 1 = true
    ∧ bit settling Reg.skerryStatus 2 = false ∧ settling.time.onCrystal = true ∧ settling.time.keptRate = none
    ∧ settlingKept.time.keptRate = some 3 ∧ settlingKept.time.onCrystal = true ∧ bit settlingKept Reg.skerryStatus 1 = true
    ∧ bit settlingKept Reg.skerryStatus 2 = false ∧ State.reset.time.onCrystal = false ∧ 70 < (71 : Byte).toInt
    ∧ 88 < (89 : Byte).toInt ∧ 125 < (126 : Byte).toInt ∧ modState asleepCut = .sleep ∧ asleepCut.skerry.interruptRaw.isSome = true
    := by decide

/-! ### StartAndSleepTakeEffect -/

/-- Hypotheses of StartAndSleepTakeEffect: WAKING, the image checks without a boot set, self-test steps. -/
theorem witness_start : modState wakingS = .waking ∧ wakingS.skerry.powered = true ∧ wakingS.skerry.charged = true
    ∧ modState (bootGate 2) = .boot ∧ State.reset.store.checksOk = false ∧ selectBank State.reset = none
    ∧ laneState (testAt 1) .c = .testing ∧ ((testAt 1).lanes.get .c).testStep = 1 ∧ ((testAt 4).lanes.get .c).testStep = 4
    ∧ ((testAt 2).lanes.get .c).testStep = 2 ∧ ((testAt 5).lanes.get .c).testStep = 5
    ∧ inControl (testAt 5) = false := by decide

/-- The image checks with a boot set. -/
theorem witness_start_3 : modState bootEmpty = .boot ∧ bootEmpty.store.checksOk = false ∧ selectBank bootEmpty = some 0
    := by decide

/-- The start gate, with the first two lanes ready and with one. -/
theorem witness_gate : (bootGate 2).chrono.gateOpen = false
    ∧ (∀ l, ((bootGate 2).lanes.get l).ready = true ∨ laneState (bootGate 2) l = .off) ∧ 2 ≤ (readyLanes (bootGate 2)).length
    ∧ (∀ l, ((bootGate 1).lanes.get l).ready = true ∨ laneState (bootGate 1) l = .off) ∧ (readyLanes (bootGate 1)).length < 2
    ∧ (bootGate 2).store.checksOk = true ∧ (bootGate 2).chrono.bootLoaded = true := by
  refine ⟨by decide, ?_, by decide, ?_, by decide, by decide, by decide⟩ <;> intro l <;> cases l <;> decide

/-- The microcode's image and the Ephemeris' image load. -/
theorem witness_boot_load : modState bootLoad = .boot ∧ bootLoad.store.checksOk = true ∧ bootLoad.chrono.bootLoaded = false
    ∧ payloadReason (slotOf bootLoad (bootedSlot bootLoad 3)) = 0 ∧ payloadReason (slotOf bootLoad (bootedSlot bootLoad 4)) = 0
    ∧ (loadChecks (slotOf bootLoad (bootedSlot bootLoad 4)).content 256 (payloadLen (slotOf bootLoad (bootedSlot bootLoad 4)))).reason = 0
    := by decide +kernel

/-- Step 5 of lane C, in BOOT and in ACTIVE. -/
theorem witness_step5 : laneState (stepFive 2) .c = .testing ∧ (stepFive 2).store.checksOk = true
    ∧ ((stepFive 2).lanes.get .c).testStep = 5 ∧ inControl (stepFive 2) = false ∧ modState (stepFive 2) = .boot
    ∧ modState (stepFive 6) ≠ .boot ∧ laneState (stepFive 6) .c = .testing := by decide

/-- The set-up phase with nothing retained, with data retained and with data lost; SLEEP and wake. -/
theorem witness_start_2 : setupPhase setupReady = true ∧ setupReady.chrono.startAt = none ∧ mayBeWarm setupReady = false
    ∧ setupPhase (setupRetain true) = true ∧ (setupRetain true).chrono.startAt = none ∧ mayBeWarm (setupRetain true) = true
    ∧ lostReason (setupRetain true) = 0 ∧ mayBeWarm (setupRetain false) = true ∧ lostReason (setupRetain false) = 1
    ∧ setupPhase State.reset = false ∧ sleepReason State.reset ≠ 0 ∧ sleepReason (sleepy 3) = 0 ∧ modState (sleepy 3) = .maintenance
    ∧ sleepReason (sleepy 6) = 0 ∧ modState (sleepy 6) = .active ∧ entering.skerry.entering = true
    ∧ wakeSources entering 1 0 ≠ 0 ∧ entering.skerry.powered = true ∧ sleepAhead entering = true
    ∧ wakeSources asleep 1 0 ≠ 0 ∧ sleepAhead asleep = false ∧ modState asleep = .sleep := by decide

/-! ### ImageCommandsTakeEffect -/

/-- Hypotheses of ImageCommandsTakeEffect: a slot that OPEN takes. -/
theorem witness_image : (slotOf imgOpened 100).state = .empty ∧ (imgArgs (imgWith 0x164 256)).slot = 100
    ∧ (imgArgs (imgWith 0x164 256)).typ ≠ 0 ∧ openSlot imgEmpty = none ∧ (slotOf imgEmpty 100).state = .empty
    ∧ imgEmpty.store.running = none ∧ (256 + 131071) / 131072 * 131072 ≤ bankFree imgEmpty 0
    ∧ 256 ≤ (imgArgs (imgWith 0x164 256)).len ∧ (imgArgs (imgWith 0x164 256)).len ≤ 256 + largestPayload 1 := by decide

/-- The open slot, the slots that ERASE, LOAD and INFO take; the running command, its domain running and not. -/
theorem witness_image_3 : openSlot imgOpened = some 5 ∧ (imgArgs imgOpened).len = 64
    ∧ (slotOf imgOpened 5).written + 64 ≤ (slotOf imgOpened 5).alloc
    ∧ (voteDram 16385 0 64 [] [] imgOpened).1 = some (List.replicate 64 0)
    ∧ isBooted imgEmpty 0 = false ∧ imgEmpty.chrono.loadSlot ≠ some 0
    ∧ (slotOf imgOpened 0).state = .valid ∧ isPoisoned (slotOf imgOpened 0).content 0 32 = false
    ∧ payloadLen (slotOf imgOpened 0) = 0 ∧ imgRuns.store.running = some (4, ⟨0, 0, 0, 0, 0, []⟩, false)
    ∧ domReady imgRuns .img = true ∧ imgWaits.store.running.isSome = true ∧ domReady imgWaits .img = false := by decide

/-- The payload of a slot that is loaded, and a boot set that is taken. -/
theorem witness_image_2 : payloadReason (slotOf imgOpened 0) = 0 ∧ bootSetReason imgSet (imgArgs imgSet) = 0 := by decide +kernel

/-! ### RecorderTakesEffect -/

/-- Hypotheses of RecorderTakesEffect. -/
theorem witness_recorder : (powered State.reset).skerry.powered = true ∧ modState (powered State.reset) ≠ .sleep
    ∧ State.reset.recorder.poison = [] ∧ (recQueued 0x0102).recQ.length = 1 ∧ isApp noRecord = false
    ∧ (recQueued 0x0102).recorder.clearing = none ∧ (recQueued 0x0102).recorder.log.length < logSize
    ∧ recClears.recorder.clearing.isSome = true
    ∧ svcServed svcOn = true ∧ svcOn.recorder.clearing = none ∧ svcOn.recorder.log.length = 1
    ∧ (readClear (svcTouch ⟨1, 2, 0, 0⟩ svcOn)).2.recorder.log = svcOn.recorder.log
    ∧ (svcOn.recorder.log.all (fun e => !e.poison)) = true ∧ quantArea < (0xF000 : Word).toNat + 1
    ∧ (0xEFFF : Word).toNat + 1 ≤ quantArea := by decide

/-- A record of an application entry whose descriptor is started. -/
theorem witness_recorder_3 : recApp.skerry.powered = true ∧ recApp.recorder.clearing = none ∧ recApp.recQ.length = 1
    ∧ recApp.recQ.all isApp = true ∧ (recApp.recQ.head?.bind (fun r => findRec recApp r.source r.seq)).map (·.state) = some .started
    ∧ (startRec (ringJ 6 1 12 0 0 0x400) 0 6 1).1.map (fun r => (r.desc.len.toNat, dfld r.desc.spec 15 8)) = some (12, 4)
    ∧ (startRec (ringJ 6 1 13 0) 0 6 1).1.map (fun r => r.desc.len.toNat) = some 13
    ∧ (startRec (ringJ 6 1 12 0 0 0x500) 0 6 1).1.map (fun r => (r.desc.len.toNat, dfld r.desc.spec 15 8)) = some (12, 5) := by decide

/-- A full log whose entries all outrank a new INFO entry. -/
theorem witness_recorder_2 (e : LogEntry) (h : e.clear = true) (n : Nat) (hn : n = logSize) :
    logSize ≤ (List.replicate n e).length ∧ victim (List.replicate n e) 0 = none := by
  refine ⟨by rw [List.length_replicate, hn], ?_⟩
  have h1 : (List.replicate n e).filter (fun e => !e.clear) = [] := by simp [h]
  simp [victim, h1]

/-! ### ServiceRequestsAreServed -/

/-- Hypotheses of ServiceRequestsAreServed: a served request without access, of the holder, a NONCE, a slot opened over X_SVC. -/
theorem witness_service : svcServed svcOn = true ∧ svcIsLocked (svcTouch ⟨1, 2, 0, 0⟩ svcOn) = false
    ∧ svcIsLocked (svcTouch ⟨1, 2, 0, 0⟩ svcLockedS) = true ∧ svcServed svcLockedS = true
    ∧ svcIsOpen (svcTouch ⟨1, 2, 0, 0⟩ svcOn) = false ∧ validNonce (svcTouch ⟨1, 2, 0, 0⟩ svcOn) = some 7
    ∧ definedOps.contains (0xFF : Byte).toNat = false ∧ svcServed svcHolder = true
    ∧ svcHeld (svcTouch ⟨1, 2, 2, 0⟩ svcHolder) ⟨1, 2, 2, 0⟩ = true ∧ svcHeld (svcTouch ⟨1, 3, 2, 0⟩ svcHolder) ⟨1, 3, 2, 0⟩ = false
    ∧ modState (svcTouch ⟨1, 2, 2, 0⟩ svcHolder) = .maintenance ∧ regRange ⟨1, 2, 2, 0x12FFF8⟩ 2 = true
    ∧ imgBusy (svcTouch ⟨1, 2, 2, 0⟩ svcHolder) = false ∧ openSlot (svcTouch ⟨1, 2, 2, 0⟩ svcHolder) = some 5
    ∧ (svcTouch ⟨1, 2, 2, 0⟩ svcHolder).store.viaSvc = true
    ∧ (slotOf (svcTouch ⟨1, 2, 2, 0⟩ svcHolder) 5).written + 1024 ≤ (slotOf (svcTouch ⟨1, 2, 2, 0⟩ svcHolder) 5).alloc
    ∧ forceOnly ⟨1, 2, 2, BitVec.ofNat 32 Reg.modForceTarget⟩ 2 = true ∧ wordFld 4 3 0 = 4
    ∧ modState (svcTouch ⟨1, 2, 2, 0⟩ svcHalted) = .safeHalt ∧ (svcTouch ⟨1, 2, 2, 0⟩ svcHalted).pair.common = true
    ∧ svcHeld (svcTouch ⟨1, 2, 2, 0⟩ svcHalted) ⟨1, 2, 2, 0⟩ = true ∧ svcServed svcHalted = true := by decide

/-- A right and a wrong response to the NONCE 7. -/
theorem witness_response : expectedResponse svcOn 7 1 = secretBytes (BitVec.ofNat 256 (leVal (expectedResponse svcOn 7 1)))
    ∧ expectedResponse svcOn 7 1 ≠ secretBytes (0 : BitVec 256) := by decide +kernel

/-! ### ServiceAccessEndsAndScansAct -/

/-- Hypotheses of ServiceAccessEndsAndScansAct. -/
theorem witness_access : svcIsOpen svcHolder = true ∧ idleRaw (late svcHolder) ≤ rawNow (late svcHolder) - (late svcHolder).svc.lastReq
    ∧ svcIsOpen (late svcHolder) = true ∧ svcIsOpen svcOn = false ∧ (late svcOn).svc.nonce.isSome = true ∧ validNonce (late svcOn) = none
    ∧ Sound svcLockedS = true ∧ svcIsLocked svcLockedS = true ∧ fld svcLockedS Reg.svcStatus 17 8 = 0
    ∧ svcHolder.tap.acting = none ∧ svcHolder.skerry.powered = true ∧ modState svcHolder = .maintenance ∧ modState svcOn ≠ .maintenance
    ∧ svcOn.tap.acting = none ∧ svcOn.skerry.powered = true ∧ State.reset.skerry.powered = false ∧ 4 < (5 : Byte).toNat
    ∧ ({ svcHolder with tap := { svcHolder.tap with acting := some 0 } } : State).tap.acting.isSome = true := by decide

end Sys2Proof.Tests
end

section
/-!
PROOFS. Rings and event queues: where a record goes and which slot and PHASE bit it takes (R92, R103, R104, R115), and how a
voted doorbell is judged (R95, R97, R98).
-/

namespace Sys2Proof.Machine

/-! ### The bytes of a record -/

@[simp] theorem length_leBytes (n v : Nat) : (leBytes n v).length = n := by
  induction n generalizing v with
  | zero => rfl
  | succ n ih => simp [leBytes, ih]

/-- A record fills one slot (R90). -/
theorem length_recordBytes (r : Record) (phase : Bool) : (recordBytes r phase).length = 32 := by
  simp [recordBytes]

/-- Byte 30 of a record is its PHASE bit: the fields before it fill thirty bytes (R90). -/
theorem nth_recordBytes_phase (r : Record) (phase : Bool) :
    nth 0 (recordBytes r phase) 30 = if phase then 1 else 0 := by
  rw [recordBytes, List.append_assoc, nth, List.getElem?_append_right (by simp)]
  cases phase <;> simp [leBytes]

/-! ### The queue of a record -/

/-- The severities that R103 names are those of code 3 and above. -/
theorem three_le_sevCode_iff (v : Severity) : 3 ≤ sevCode v ↔ v = .fault ∨ v = .safety := by
  cases v <;> simp [sevCode]

/-- The queue of a detected record, by its severity and else by its source block (R103). -/
theorem routeQueue_eq (s : State) (code : Nat) (sev : Severity) :
    routeQueue s code sev = if sev = .fault ∨ sev = .safety then 0
      else if code / 256 < 16 then fld s Reg.evqRouteLo (2 * (code / 256) + 1) (2 * (code / 256))
      else fld s Reg.evqRouteHi (2 * (code / 256 - 16) + 1) (2 * (code / 256 - 16)) := by
  simp only [routeQueue, three_le_sevCode_iff]

/-- The queue of a ring's completions is the one RING_CFG names, 0 naming EVQ_1 (R115). -/
theorem ringQueue_eq (s : State) (n : Nat) :
    ringQueue s n = if fld s (Reg.ringCfg n) 5 4 = 0 then 1 else fld s (Reg.ringCfg n) 5 4 := by
  unfold ringQueue
  split <;> omega

/-- A DONE record at the head of a ring's order: one step of its completions (R100, R104). -/
theorem completeReady_succ_of_done {n : Nat} {r : JRecord} {s : State} (fuel : Nat)
    (hrec : findRec s n (ringC s n + 1) = some r) (hdone : r.state = .done) :
    completeReady n (fuel + 1) s = completeReady n fuel (showRing (addDelta (setReg
      (placeRecord (countRecord { s with journal := s.journal.erase r } (ringQueue s n)).2 (ringQueue s n) (completionOf s r))
      (Reg.ringCompleted n) r.desc.seq) (.freed n r.desc.seq)) n) := by
  simp only [completeReady, hrec, hdone, if_true]

/-! ### The slot of a record -/

/-- The slot of a running index, from the queue's base page and its size (R92, R104). -/
theorem evqSlot_eq (s : State) (m : Nat) (i : Word) :
    evqSlot s m i = 4096 * fld s (Reg.evqBase m) 20 0 + 32 * (i.toNat % 2 ^ fld s (Reg.evqCfg m) 3 0) := by
  rw [evqSlot, evqSize, Nat.mul_comm 4096]

/-- Without an acknowledging partner a record enters the lanes at once and T passes it (R104). -/
theorem writeRecord_of_alone {s : State} (h : mirrors s = false) (m : Nat) (r : Record) :
    writeRecord s m r =
      let u := toLanes s (evqSlot s m (evqNext s m)) (recordBytes r (phaseBit s m (evqNext s m)))
      splitIrq (showCredits (setReg { u with evq := { u.evq with part := u.evq.part ++ [(m, evqNext s m, r)] } }
        (Reg.evqTail m) (evqNext s m + 1)) m) m := by
  simp only [writeRecord, h, Bool.false_eq_true, if_false]

/-- With an acknowledging partner a record is only journaled for the batch (R330). -/
theorem writeRecord_of_mirrors {s : State} (h : mirrors s = true) (m : Nat) (r : Record) :
    writeRecord s m r =
      showCredits (addDelta { s with evq := { s.evq with part := s.evq.part ++ [(m, evqNext s m, r)] } }
        (.event m (evqNext s m) (tget 0 s.evq.counts m) r)) m := by
  simp only [writeRecord, h, if_true]

/-- Settles O9: each clause is what its function does, by the lemmas above. -/
theorem recordsAreRoutedAndPlaced : Obligations.RecordsAreRoutedAndPlaced := by
  unfold Obligations.RecordsAreRoutedAndPlaced
  refine ⟨?routed, ?completed, ?written, ?shown, ?bytes, ?firstPass⟩
  case routed =>
    rintro s r q rfl
    rw [← routeQueue_eq]
    rfl
  case completed =>
    rintro n r s q hrec hdone rfl
    rw [← ringQueue_eq]
    exact completeReady_succ_of_done 0 hrec hdone
  case written =>
    rintro s m r i size rfl rfl
    rw [← evqSlot_eq]
    exact ⟨fun h => ⟨_, rfl, writeRecord_of_alone h m r⟩, fun h => writeRecord_of_mirrors h m r⟩
  case shown =>
    rintro s m r i size rfl
    rw [← evqSlot_eq]
    exact ⟨_, rfl, rfl⟩
  case bytes => exact fun r b => ⟨length_recordBytes r b, nth_recordBytes_phase r b⟩
  case firstPass =>
    intro i size h
    rw [Nat.div_eq_of_lt h]
    rfl

/-! ### A ring halts -/

@[simp] theorem addDelta_regs (s : State) (i : JItem) : (addDelta s i).regs = s.regs := by
  unfold addDelta
  split <;> rfl

@[simp] theorem dropPending_regs (n : Nat) (s : State) : (dropPending n s).regs = s.regs := by
  simp only [dropPending]
  split
  · exact addDelta_regs _ _
  · rfl

/-- The ring registers lie behind RING_JOURNAL_USED. -/
theorem ringStatus_ne_ringJournalUsed (n : Nat) : Reg.ringStatus n ≠ Reg.ringJournalUsed := by
  unfold Reg.ringStatus Reg.ringJournalUsed
  omega

/-- The fields of RING_STATUS between STATE and IN_FLIGHT stay when the books are shown. -/
theorem fld_showRing_status (s : State) (n : Nat) {hi lo : Nat} (h2 : 2 ≤ lo) (hl : lo ≤ hi) (hh : hi < 16) :
    fld (showRing s n) (Reg.ringStatus n) hi lo = fld s (Reg.ringStatus n) hi lo := by
  have hne := ringStatus_ne_ringJournalUsed n
  have hfl (v : Nat) : fld (setFld s (Reg.ringStatus n) 28 16 v) (Reg.ringStatus n) hi lo = fld s (Reg.ringStatus n) hi lo :=
    fld_setFld_near s _ _ (by omega) hl (by omega) (by omega)
  simp only [showRing]
  rw [fld_setFld_other _ hne, fld_setFld_other _ hne]
  split
  · rw [fld_setFld_near _ _ _ (by omega) hl (by omega) (by omega), hfl]
  · exact hfl _

/-- A STOPPING or HALTED ring with nothing in flight is STOPPED when its books are shown; every other keeps its state (R95). -/
theorem ringState_showRing (s : State) (n : Nat) :
    ringState (showRing s n) n = if ringA s n = ringC s n ∧ 2 ≤ ringState s n then 0 else ringState s n := by
  have hne := ringStatus_ne_ringJournalUsed n
  have hst (v : Nat) : ringState (setFld s (Reg.ringStatus n) 28 16 v) n = ringState s n :=
    fld_setFld_near s _ _ (by omega) (by omega) (by omega) (by omega)
  have hnone : wsub (ringA s n) (ringC s n) = 0 ↔ ringA s n = ringC s n := by
    unfold wsub
    bv_omega
  simp only [showRing, hst, hnone]
  rw [ringState, fld_setFld_other _ hne, fld_setFld_other _ hne]
  split
  · exact fld_setFld_self _ _ _ (by omega) (by omega)
  · exact hst _

/-- HALT_REASON of a halted ring (R95). -/
theorem fld_haltRing_reason (n : Nat) {reason : Nat} (h : reason < 256) (s : State) :
    fld (haltRing n reason s) (Reg.ringStatus n) 15 8 = reason := by
  rw [haltRing, fld_showRing_status _ _ (by omega) (by omega) (by omega),
    fld_setFld_near _ _ _ (by omega) (by omega) (by omega) (by omega), fld_setFld_self _ _ _ (by omega) (by omega)]
  exact Nat.mod_eq_of_lt h

/-- A halted ring is HALTED, or STOPPED at once where nothing is in flight (R95). -/
theorem ringState_haltRing (n reason : Nat) (s : State) :
    ringState (haltRing n reason s) n = if ringA s n = ringC s n then 0 else 3 := by
  have hreg {k : Nat} (hk : k ≠ Reg.ringStatus n) (x : RingSt) : getReg (setFld (setFld (dropPending n (setRing n x s))
      (Reg.ringStatus n) 15 8 reason) (Reg.ringStatus n) 1 0 3) k = getReg s k := by
    rw [getReg_setFld_other _ hk, getReg_setFld_other _ hk, getReg_congr (dropPending_regs _ _), getReg_setRing]
  have hhalted (t : State) : ringState (setFld t (Reg.ringStatus n) 1 0 3) n = 3 :=
    fld_setFld_self t _ _ (by omega) (by omega)
  have hA : Reg.ringAccepted n ≠ Reg.ringStatus n := by unfold Reg.ringAccepted Reg.ringStatus; omega
  have hC : Reg.ringCompleted n ≠ Reg.ringStatus n := by unfold Reg.ringCompleted Reg.ringStatus; omega
  rw [haltRing, ringState_showRing, hhalted]
  refine if_congr ?_ rfl rfl
  rw [ringA, ringC, hreg hA, hreg hC]
  exact and_iff_left (by omega)

/-- A sticky flag of RING_ERROR leaves A and C of every ring. -/
theorem ringBooks_stick_ringError (s : State) (n i : Nat) :
    ringA (stick s Reg.ringError i) n = ringA s n ∧ ringC (stick s Reg.ringError i) n = ringC s n := by
  have hA : Reg.ringAccepted n ≠ Reg.ringError := by unfold Reg.ringAccepted Reg.ringError; omega
  have hC : Reg.ringCompleted n ≠ Reg.ringError := by unfold Reg.ringCompleted Reg.ringError; omega
  exact ⟨getReg_setBit_other s hA i true, getReg_setBit_other s hC i true⟩

/-! ### A voted doorbell -/

/-- R97 in distances from C. -/
theorem validDoorbell_iff (s : State) (n : Nat) (d : Word) :
    validDoorbell s n d = true ↔ (d - ringC s n).toNat ≤ 2 ^ fld s (Reg.ringCfg n) 3 0 ∧
      (ringA s n - ringC s n).toNat ≤ (d - ringC s n).toNat := by
  rw [validDoorbell, Bool.and_eq_true, decide_eq_true_eq, decide_eq_true_eq]
  rfl

/-- A POLL of a running ring at rest whose vote gives a word judges that word (R96). -/
theorem pollRing_of_voted {n : Nat} {d : Word} {s v : State} (hrun : ringState s n = 1) (hrest : (ringSt s n).fetchLeft = 0)
    (hvote : voteDoorbell n s = (some d, v)) :
    pollRing n s = if validDoorbell v n d then
        setRing n { ringSt v n with doorbell := d, fetched := none, voted := [],
                                    fetchLeft := min 64 (wsub d (ringA v n) - pendingRecs v n) } v
      else raise Ev.doorbellInvalid n 0 d.toNat (haltRing n 6 (stick v Reg.ringError 0)) := by
  rw [pollRing, if_neg (by omega), hvote]

/-- Settles O10: the POLL judges the word by R97, and either the ring's record takes it or the ring halts. -/
theorem doorbellsAreJudged : Obligations.DoorbellsAreJudged := by
  unfold Obligations.DoorbellsAreJudged
  intro n d s v hrun hrest hvote
  rw [← validDoorbell_iff, pollRing_of_voted hrun hrest hvote]
  constructor
  · intro hvalid
    rw [if_pos hvalid]
    refine ⟨_, rfl, ringSt_setRing_self v n _, ?_, rfl⟩
    rw [ringSt_setRing_self]
    rfl
  · intro hinvalid
    rw [if_neg hinvalid]
    obtain ⟨hA, hC⟩ := ringBooks_stick_ringError v n 0
    refine ⟨_, rfl, rfl, fld_haltRing_reason n (by omega) _, ?_⟩
    rw [ringState_haltRing, hA, hC]

end Sys2Proof.Machine
end

section
/-!
PROOFS. CAN frames: what VALID_BYTES is in each column of the table of R233, and the data bytes of a frame given to the module.
-/

namespace Sys2Proof

/-! ### VALID_BYTES by DLC, FDF and RTR -/

section
variable {f : CanFrame}

/-- A remote frame holds no data bytes, whatever its DLC (R233). -/
theorem CanFrame.validBytes_of_rtr (hrtr : f.rtr = true) : f.validBytes = 0 := by
  rw [validBytes, if_pos hrtr]

/-- Up to 8 the DLC is the number of data bytes, in both formats (R233). -/
theorem CanFrame.validBytes_of_dlc_le (hrtr : f.rtr = false) (hdlc : f.dlc.toNat ≤ 8) :
    f.validBytes = f.dlc.toNat := by
  simp only [validBytes, hrtr, hdlc, Bool.false_eq_true, if_false, if_true]

/-- A classical frame holds no more than 8 data bytes (R233). -/
theorem CanFrame.validBytes_of_classical (hrtr : f.rtr = false) (hfdf : f.fdf = false) (hdlc : 9 ≤ f.dlc.toNat) :
    f.validBytes = 8 := by
  have hlong : ¬f.dlc.toNat ≤ 8 := by omega
  simp only [validBytes, hrtr, hfdf, hlong, Bool.false_eq_true, if_false]

/-- The long DLC codes of an FD frame, in the columns 9 to 15 of the table of R233. -/
theorem CanFrame.validBytes_of_fd (hrtr : f.rtr = false) (hfdf : f.fdf = true) :
    (f.dlc = 9 → f.validBytes = 12) ∧ (f.dlc = 10 → f.validBytes = 16) ∧ (f.dlc = 11 → f.validBytes = 20) ∧
    (f.dlc = 12 → f.validBytes = 24) ∧ (f.dlc = 13 → f.validBytes = 32) ∧ (f.dlc = 14 → f.validBytes = 48) ∧
    (f.dlc = 15 → f.validBytes = 64) := by
  and_intros <;> intro hdlc <;> simp [validBytes, hrtr, hfdf, hdlc]

/-- A well-formed frame carries as many data bytes as VALID_BYTES says (R233). -/
theorem CanFrame.length_data_of_wellFormed (hwf : f.wellFormed = true) : f.data.length = f.validBytes := by
  simp only [wellFormed, Bool.and_eq_true, decide_eq_true_eq] at hwf
  obtain ⟨⟨⟨hlen, _⟩, _⟩, _⟩ := hwf
  exact hlen

end

/-- Settles O11: the columns of the table of R233, one lemma for each kind of frame. -/
theorem validBytesOfCanFrames : Obligations.ValidBytesOfCanFrames := by
  unfold Obligations.ValidBytesOfCanFrames
  exact ⟨fun _ => CanFrame.validBytes_of_rtr, fun _ => CanFrame.validBytes_of_dlc_le,
    fun _ => CanFrame.validBytes_of_classical, fun _ => CanFrame.validBytes_of_fd,
    fun _ => CanFrame.length_data_of_wellFormed⟩

end Sys2Proof
end

section
/-!
PROOFS. Speed sensors: what latching a sensor fault leaves unchanged, and how POSITION follows the sampled pair (R301).
-/

namespace Sys2Proof.Machine

/-! ### What events and sensor faults leave unchanged -/

/-- The safe motion unit's record stands over an event. -/
@[simp] theorem raise_motion (e : EvDef) (src dA dB : Nat) (s : State) : (raise e src dA dB s).motion = s.motion := by
  obtain ⟨_, hrest⟩ := raise_ev e src dA dB s (ev_refl s)
  rw [hrest]

/-- The Holm island's record stands over an event. -/
@[simp] theorem raise_holm (e : EvDef) (src dA dB : Nat) (s : State) : (raise e src dA dB s).holm = s.holm := by
  obtain ⟨_, hrest⟩ := raise_ev e src dA dB s (ev_refl s)
  rw [hrest]

/-- A register outside `eventRegs` stands over an event. -/
theorem getReg_raise {k : Nat} (hk : k ∉ eventRegs) (e : EvDef) (src dA dB : Nat) (s : State) :
    getReg (raise e src dA dB s) k = getReg s k :=
  (raise_ev e src dA dB s (ev_refl s)).1 k hk

/-- The registers that a latched sensor fault can change (R302). -/
def sensorFaultRegs (i : Nat) : List Nat :=
  [Reg.motionSensorStatus i, Reg.motionStatus, Reg.motionError] ++ eventRegs

/-- A latched sensor fault leaves every sensor's record as it is. -/
@[simp] theorem sensorFault_motion (i why : Nat) (s : State) : (sensorFault i why s).motion = s.motion := by
  unfold sensorFault
  split
  · exact raise_motion _ _ _ _ _
  · rfl

/-- A latched sensor fault leaves the Holm island as it is. -/
@[simp] theorem sensorFault_holm (i why : Nat) (s : State) : (sensorFault i why s).holm = s.holm := by
  unfold sensorFault
  split
  · exact raise_holm _ _ _ _ _
  · rfl

/-- A register outside `sensorFaultRegs` stands over a latched sensor fault. -/
theorem getReg_sensorFault {i k : Nat} (hk : k ∉ sensorFaultRegs i) (why : Nat) (s : State) :
    getReg (sensorFault i why s) k = getReg s k := by
  simp only [sensorFaultRegs, List.cons_append, List.nil_append, List.mem_cons, not_or] at hk
  obtain ⟨hstatus, hmotion, herror, hevents⟩ := hk
  unfold sensorFault
  split
  · rw [getReg_raise hevents, stick, getReg_setBit_other _ herror, getReg_setBit_other _ hmotion,
      getReg_setFld_other _ hstatus, getReg_setBit_other _ hstatus]
  · rfl

/-- A speed sensor's record depends on the safe motion unit alone. -/
theorem sensor_congr {s t : State} (h : s.motion = t.motion) (i : Nat) : sensor s i = sensor t i := by
  rw [sensor, sensor, h]

/-- A bit depends on its own register alone. -/
theorem bit_congr_getReg {s t : State} {k : Nat} (h : getReg s k = getReg t k) (j : Nat) : bit s k j = bit t k j := by
  rw [bit, bit, fld, fld, h]

/-- The island's health depends on its supply and HOLM_STATUS alone. -/
theorem islandOk_congr {s t : State} (hholm : s.holm = t.holm) (hreg : getReg s Reg.holmStatus = getReg t Reg.holmStatus) :
    islandOk s = islandOk t := by
  rw [islandOk, islandOk, hholm, bit_congr_getReg hreg]

/-! ### The registers of the four sensors -/

/-- No latched fault writes a POSITION register. -/
theorem sensorPos_notMem_faultRegs (i : Fin 4) :
    Reg.motionSensorPos (i.val + 1) ∉ sensorFaultRegs (i.val + 1) := by
  revert i; decide

/-- No latched fault writes a sensor's configuration. -/
theorem sensorCfg_notMem_faultRegs (i : Fin 4) :
    Reg.motionSensorCfg (i.val + 1) ∉ sensorFaultRegs (i.val + 1) := by
  revert i; decide

/-- No latched sensor fault writes HOLM_STATUS. -/
theorem holmStatus_notMem_faultRegs (i : Fin 4) : Reg.holmStatus ∉ sensorFaultRegs (i.val + 1) := by
  revert i; decide

theorem sensorPos_ne_sensorStatus (n : Nat) : Reg.motionSensorPos n ≠ Reg.motionSensorStatus n := by
  simp [Reg.motionSensorPos, Reg.motionSensorStatus]

theorem sensorCfg_ne_sensorPos (n : Nat) : Reg.motionSensorCfg n ≠ Reg.motionSensorPos n := by
  simp [Reg.motionSensorCfg, Reg.motionSensorPos]

theorem holmStatus_ne_sensorPos (n : Nat) : Reg.holmStatus ≠ Reg.motionSensorPos n := by
  unfold Reg.holmStatus Reg.motionSensorPos; omega

/-! ### A transition to an adjacent Gray state (R301) -/

/-- A sensor's record put, with its POSITION shown. -/
def putPosition (i : Nat) (x : Sensor) (s : State) : State :=
  setReg (setSensor s i x) (Reg.motionSensorPos i) (BitVec.ofInt 32 x.pos)

/-- A transition in which one channel changes puts the new pair and the moved POSITION; the sixteenth edge in a row on one
channel then latches CHANNEL_LOST (R302). -/
theorem positionStep_of_adjacent {i : Nat} {a b : Bool} {s : State} (hok : islandOk s = true)
    (hadj : decide (a ≠ (sensor s i).a) ≠ decide (b ≠ (sensor s i).b)) :
    ∃ (x : Sensor) (run : Nat), positionStep i a b s =
        (if 16 ≤ run then sensorFault i 2 (putPosition i x s) else putPosition i x s) ∧
      x.a = a ∧ x.b = b ∧ x.pos = (sensor s i).pos
        + (if leads (sensor s i).a (sensor s i).b a b = bit s (Reg.motionSensorCfg i) 10 then -1 else 1) := by
  have hstep : ¬(¬islandOk s ∨ decide (a ≠ (sensor s i).a) = decide (b ≠ (sensor s i).b)) := by
    rw [not_or, not_not]
    exact ⟨hok, hadj⟩
  exact ⟨_, _, if_neg hstep, rfl, rfl, rfl⟩

/-- The sensor moved by `d` to the pair (a, b), its POSITION shown, and all that the next step depends on as before. -/
structure SteppedBy (i : Nat) (a b : Bool) (d : Int) (s t : State) : Prop where
  chanA : (sensor t i).a = a
  chanB : (sensor t i).b = b
  pos : (sensor t i).pos = (sensor s i).pos + d
  shown : getReg t (Reg.motionSensorPos i) = BitVec.ofInt 32 (sensor t i).pos
  invert : bit t (Reg.motionSensorCfg i) 10 = bit s (Reg.motionSensorCfg i) 10
  island : islandOk t = islandOk s

/-- A sensor's record put with a POSITION moved by `d` is a step by `d`. -/
theorem steppedBy_putPosition (i : Nat) (x : Sensor) (s : State) {d : Int} (hpos : x.pos = (sensor s i).pos + d) :
    SteppedBy i x.a x.b d s (putPosition i x s) := by
  have hsensor : sensor (putPosition i x s) i = x := sensor_setSensor_self s i x
  refine ⟨by rw [hsensor], by rw [hsensor], by rw [hsensor, hpos], ?_, bit_congr_getReg ?_ 10, islandOk_congr rfl ?_⟩
  · rw [hsensor, putPosition, getReg_setReg_self]
  · rw [putPosition, getReg_setReg_other _ (sensorCfg_ne_sensorPos i), getReg_setSensor]
  · rw [putPosition, getReg_setReg_other _ (holmStatus_ne_sensorPos i), getReg_setSensor]

/-- A sensor fault latched after a step leaves it the step it was. -/
theorem SteppedBy.sensorFault {i : Fin 4} {a b : Bool} {d : Int} {s t : State} (h : SteppedBy (i.val + 1) a b d s t)
    (why : Nat) : SteppedBy (i.val + 1) a b d s (sensorFault (i.val + 1) why t) := by
  have hsensor := sensor_congr (sensorFault_motion (i.val + 1) why t) (i.val + 1)
  refine ⟨hsensor ▸ h.chanA, hsensor ▸ h.chanB, hsensor ▸ h.pos, ?_, ?_, ?_⟩
  · rw [getReg_sensorFault (sensorPos_notMem_faultRegs i), hsensor, h.shown]
  · rw [← h.invert]
    exact bit_congr_getReg (getReg_sensorFault (sensorCfg_notMem_faultRegs i) _ _) 10
  · rw [← h.island]
    exact islandOk_congr (sensorFault_holm _ _ _) (getReg_sensorFault (holmStatus_notMem_faultRegs i) _ _)

/-- A POSITION_STEP in which one channel changes is a step by one: up when A leads B, and INVERT reverses it. -/
theorem steppedBy_positionStep (i : Fin 4) {a b : Bool} {s : State} (hok : islandOk s = true)
    (hadj : decide (a ≠ (sensor s (i.val + 1)).a) ≠ decide (b ≠ (sensor s (i.val + 1)).b)) :
    SteppedBy (i.val + 1) a b
      (if leads (sensor s (i.val + 1)).a (sensor s (i.val + 1)).b a b = bit s (Reg.motionSensorCfg (i.val + 1)) 10
        then -1 else 1) s (positionStep (i.val + 1) a b s) := by
  obtain ⟨x, run, hstep, rfl, rfl, hpos⟩ := positionStep_of_adjacent hok hadj
  have hput := steppedBy_putPosition (i.val + 1) x s hpos
  rw [hstep]
  by_cases hrun : 16 ≤ run
  · rw [if_pos hrun]
    exact hput.sensorFault 2
  · rw [if_neg hrun]
    exact hput

/-- The transitions in which A leads B, as the pair before and the pair after: 00, 10, 11, 01, 00. -/
def forwardTransitions : List (Bool × Bool × Bool × Bool) :=
  [(false, false, true, false), (true, false, true, true), (true, true, false, true), (false, true, false, false)]

/-- The transitions in which B leads A: 00, 01, 11, 10, 00. -/
def backwardTransitions : List (Bool × Bool × Bool × Bool) :=
  [(false, false, false, true), (false, true, true, true), (true, true, true, false), (true, false, false, false)]

/-- In a forward transition one channel changes and A leads. -/
theorem leads_of_mem_forward : ∀ pa pb a b : Bool, (pa, pb, a, b) ∈ forwardTransitions →
    decide (a ≠ pa) ≠ decide (b ≠ pb) ∧ leads pa pb a b = true := by decide

/-- In a backward transition one channel changes and A does not lead. -/
theorem not_leads_of_mem_backward : ∀ pa pb a b : Bool, (pa, pb, a, b) ∈ backwardTransitions →
    decide (a ≠ pa) ≠ decide (b ≠ pb) ∧ leads pa pb a b = false := by decide

/-- A transition in which A leads B moves POSITION by +1, or by -1 with INVERT. -/
theorem steppedBy_forward (i : Fin 4) {a b : Bool} {s : State} (hok : islandOk s = true)
    (hmem : ((sensor s (i.val + 1)).a, (sensor s (i.val + 1)).b, a, b) ∈ forwardTransitions) :
    SteppedBy (i.val + 1) a b (if bit s (Reg.motionSensorCfg (i.val + 1)) 10 then -1 else 1) s
      (positionStep (i.val + 1) a b s) := by
  obtain ⟨hadj, hleads⟩ := leads_of_mem_forward _ _ _ _ hmem
  have hstep := steppedBy_positionStep i hok hadj
  rw [hleads] at hstep
  cases hinv : bit s (Reg.motionSensorCfg (i.val + 1)) 10 <;> simpa [hinv] using hstep

/-- A transition in which B leads A moves POSITION by -1, or by +1 with INVERT. -/
theorem steppedBy_backward (i : Fin 4) {a b : Bool} {s : State} (hok : islandOk s = true)
    (hmem : ((sensor s (i.val + 1)).a, (sensor s (i.val + 1)).b, a, b) ∈ backwardTransitions) :
    SteppedBy (i.val + 1) a b (if bit s (Reg.motionSensorCfg (i.val + 1)) 10 then 1 else -1) s
      (positionStep (i.val + 1) a b s) := by
  obtain ⟨hadj, hleads⟩ := not_leads_of_mem_backward _ _ _ _ hmem
  have hstep := steppedBy_positionStep i hok hadj
  rw [hleads] at hstep
  cases hinv : bit s (Reg.motionSensorCfg (i.val + 1)) 10 <;> simpa [hinv] using hstep

/-- One period of a sensor that is not inverted, from 00 through 10, 11 and 01 back to 00, moves POSITION by four. -/
theorem pos_of_forward_period (i : Fin 4) {s : State} (hok : islandOk s = true) (ha : (sensor s (i.val + 1)).a = false)
    (hb : (sensor s (i.val + 1)).b = false) (hinv : bit s (Reg.motionSensorCfg (i.val + 1)) 10 = false) :
    (sensor (positionStep (i.val + 1) false false (positionStep (i.val + 1) false true (positionStep (i.val + 1) true true
      (positionStep (i.val + 1) true false s)))) (i.val + 1)).pos = (sensor s (i.val + 1)).pos + 4 := by
  have h1 := steppedBy_forward i (a := true) (b := false) hok (by simp [forwardTransitions, ha, hb])
  have ok1 := h1.island.trans hok
  have h2 := steppedBy_forward i (a := true) (b := true) ok1 (by simp [forwardTransitions, h1.chanA, h1.chanB])
  have ok2 := h2.island.trans ok1
  have h3 := steppedBy_forward i (a := false) (b := true) ok2 (by simp [forwardTransitions, h2.chanA, h2.chanB])
  have ok3 := h3.island.trans ok2
  have h4 := steppedBy_forward i (a := false) (b := false) ok3 (by simp [forwardTransitions, h3.chanA, h3.chanB])
  rw [h4.pos, h3.pos, h2.pos, h1.pos, h3.invert, h2.invert, h1.invert, hinv]
  simp only [Bool.false_eq_true, if_false]
  omega

/-! ### A sample in which both channels change (R301) -/

/-- A sensor's record put, with the error counted in its status register (R302). -/
def putQuadError (i : Nat) (x : Sensor) (s : State) : State :=
  satAdd (setSensor s i x) (Reg.motionSensorStatus i) 15 8 1

/-- A quadrature error on a healthy island puts a record of the same POSITION and counts the error; the fourth within 1 s then
latches QUAD. -/
theorem quadError_of_islandOk (i : Nat) {s : State} (hok : islandOk s = true) :
    ∃ (x : Sensor) (errors : Nat), quadError i s =
        (if 4 ≤ errors then sensorFault i 1 (putQuadError i x s) else putQuadError i x s) ∧
      x.pos = (sensor s i).pos :=
  ⟨_, _, if_neg (not_not.mpr hok), rfl⟩

/-- A sensor's record put with a counted error gives its POSITION, and leaves the register that shows it. -/
theorem position_putQuadError (i : Nat) (x : Sensor) (s : State) :
    (sensor (putQuadError i x s) i).pos = x.pos ∧
    getReg (putQuadError i x s) (Reg.motionSensorPos i) = getReg s (Reg.motionSensorPos i) := by
  constructor
  · exact congrArg Sensor.pos (sensor_setSensor_self s i x)
  · rw [putQuadError, satAdd, getReg_setFld_other _ (sensorPos_ne_sensorStatus i), getReg_setSensor]

/-- A quadrature error leaves POSITION and the register that shows it unchanged, on a healthy island or not. -/
theorem position_quadError (i : Fin 4) (s : State) :
    (sensor (quadError (i.val + 1) s) (i.val + 1)).pos = (sensor s (i.val + 1)).pos ∧
    getReg (quadError (i.val + 1) s) (Reg.motionSensorPos (i.val + 1)) = getReg s (Reg.motionSensorPos (i.val + 1)) := by
  by_cases hok : islandOk s = true
  · obtain ⟨x, errors, hquad, hpos⟩ := quadError_of_islandOk (i.val + 1) hok
    rw [hquad, ← hpos]
    split
    · rw [sensor_congr (sensorFault_motion _ _ _), getReg_sensorFault (sensorPos_notMem_faultRegs i)]
      exact position_putQuadError _ x s
    · exact position_putQuadError _ x s
  · rw [quadError, if_pos hok]
    exact ⟨rfl, rfl⟩

/-- Settles O12: the two directions by `steppedBy_forward` and `steppedBy_backward`, a period by four steps in one direction,
and the quadrature error by `position_quadError`. -/
theorem positionFollowsTheGrayPair : Obligations.PositionFollowsTheGrayPair := by
  unfold Obligations.PositionFollowsTheGrayPair
  refine ⟨?_, ?_, fun i s => ⟨_, rfl, position_quadError i s⟩⟩
  · rintro i _ _ a b s hok rfl rfl
    constructor
    · intro hmem
      have h := steppedBy_forward i hok hmem
      exact ⟨_, rfl, h.chanA, h.chanB, h.pos, h.shown⟩
    · intro hmem
      have h := steppedBy_backward i hok hmem
      exact ⟨_, rfl, h.chanA, h.chanB, h.pos, h.shown⟩
  · intro i s hok ha hb hinv _
    exact ⟨_, _, _, _, rfl, rfl, rfl, rfl, pos_of_forward_period i hok ha hb hinv⟩

end Sys2Proof.Machine
end

section
/-!
PROOFS. Reactions to events: which reaction is computed (R348), which lane an exclusion finds (R344, R345), and what DEGRADE
changes (R346, R351).
-/

namespace Sys2Proof.Machine

/-! ### The strongest reaction -/

/-- The strength of the stronger of two reactions. -/
@[simp] theorem rankOf_stronger (a b : Reaction) : rankOf (stronger a b) = max (rankOf a) (rankOf b) := by
  unfold stronger
  split <;> omega

/-- The stronger of two reactions is one of them. -/
theorem stronger_eq_or (a b : Reaction) : stronger a b = a ∨ stronger a b = b := by
  unfold stronger
  split
  · exact .inr rfl
  · exact .inl rfl

/-- LOG, the weakest reaction, strengthens none. -/
@[simp] theorem stronger_log (a : Reaction) : stronger a .log = a := if_neg (Nat.not_lt_zero _)

/-- The strongest of a list of reactions is at least as strong as the first one and as every one listed. -/
theorem rankOf_le_foldl_stronger (l : List Reaction) (r : Reaction) :
    rankOf r ≤ rankOf (l.foldl stronger r) ∧ ∀ a ∈ l, rankOf a ≤ rankOf (l.foldl stronger r) := by
  induction l generalizing r with
  | nil => exact ⟨Nat.le_refl _, fun _ h => absurd h List.not_mem_nil⟩
  | cons b l ih =>
    obtain ⟨hfirst, hrest⟩ := ih (stronger r b)
    rw [rankOf_stronger, Nat.max_le] at hfirst
    exact ⟨hfirst.1, List.forall_mem_cons.2 ⟨hfirst.2, hrest⟩⟩

/-- The strongest of a list of reactions is the first one or one of those listed. -/
theorem foldl_stronger_eq_or_mem (l : List Reaction) (r : Reaction) :
    l.foldl stronger r = r ∨ l.foldl stronger r ∈ l := by
  induction l generalizing r with
  | nil => exact .inl rfl
  | cons b l ih =>
    rw [List.foldl_cons, List.mem_cons]
    rcases ih (stronger r b) with h | h
    · rw [h]
      exact (stronger_eq_or r b).imp_right .inl
    · exact .inr (.inr h)

/-! ### Listed registers -/

/-- In a table with rising keys, a listed entry is what its key reads. -/
theorem tget_of_mem {α : Type} {t : Tab α} (hup : tabUp t) {k : Nat} {v : α} (hmem : (k, v) ∈ t) (d : α) : tget d t k = v := by
  induction t with
  | nil => exact absurd hmem List.not_mem_nil
  | cons x r ih =>
    obtain ⟨k', v'⟩ := x
    rw [tabUp, List.map_cons, List.pairwise_cons] at hup
    rcases List.mem_cons.1 hmem with heq | hrest
    · cases heq
      exact if_pos rfl
    · have hlt : k' < k := hup.1 k (List.mem_map_of_mem hrest)
      rw [tget, if_neg (Nat.ne_of_lt hlt)]
      exact ih hup.2 hrest

/-- A key that does not read the default is listed. -/
theorem mem_of_tget_ne {α : Type} {d : α} {t : Tab α} {k : Nat} (h : tget d t k ≠ d) : (k, tget d t k) ∈ t := by
  induction t with
  | nil => exact absurd rfl h
  | cons x r ih =>
    obtain ⟨k', v'⟩ := x
    rw [tget] at h ⊢
    split at h
    case isTrue heq =>
      rw [if_pos heq, heq]
      exact List.mem_cons_self
    case isFalse hne =>
      rw [if_neg hne]
      exact List.mem_cons_of_mem _ (ih h)

/-- In a sound state a listed register reads as listed. -/
theorem getReg_of_mem {s : State} (hs : Sound s = true) {k : Nat} {v : Word} (hmem : (k, v) ∈ s.regs) : getReg s k = v := by
  obtain ⟨hregs, _⟩ := (sound_iff s).1 hs
  exact tget_of_mem ((tabWf_iff _ _).1 hregs).1 hmem _

/-! ### FAULT_TABLE -/

/-- The keys of FAULT_TABLE are those of its 64 entries (R360). -/
theorem faultTableKey_iff (key : Nat) :
    (Reg.faultTable 0 ≤ key ∧ key < Reg.faultTable 64 ∧ key % 4 = 0) ↔ ∃ k, k < 64 ∧ key = Reg.faultTable k := by
  simp only [Reg.faultTable]
  constructor
  · rintro ⟨hlow, hhigh, halign⟩
    exact ⟨(key - 0xE0100) / 4, by omega, by omega⟩
  · rintro ⟨k, hk, rfl⟩
    omega

/-- What stands under a key is a valid FAULT_TABLE entry for the code (R348). -/
def isTableEntry (code : Nat) (x : Nat × Word) : Bool :=
  decide (Reg.faultTable 0 ≤ x.1 ∧ x.1 < Reg.faultTable 64 ∧ x.1 % 4 = 0 ∧ wordFld x.2 31 31 = 1 ∧ wordFld x.2 15 0 = code)

/-- The REACTION of every listed FAULT_TABLE entry that is valid for the code. -/
def tableReactions (s : State) (code : Nat) : List Reaction :=
  (s.regs.filter (isTableEntry code)).map (fun x => reactionOf (wordFld x.2 18 16))

/-- The table's reaction is the strongest of its valid entries for the code. -/
theorem tableReaction_eq (s : State) (code : Nat) : tableReaction s code = (tableReactions s code).foldl stronger .log := by
  rw [tableReactions, List.foldl_map, List.foldl_filter]
  simp only [isTableEntry, decide_eq_true_eq]
  rfl

/-- A FAULT_TABLE entry resets to 0 (R360). -/
theorem resetVal_faultTable {k : Nat} (hk : k < 64) : resetVal (Reg.faultTable k) = 0 := by
  have h : ∀ i : Fin 64, resetVal (Reg.faultTable i.val) = 0 := by decide
  exact h ⟨k, hk⟩

/-- A valid entry is listed: it differs from its reset value. -/
theorem faultTable_mem_regs {s : State} {k : Nat} (hk : k < 64) (hvalid : wordFld (getReg s (Reg.faultTable k)) 31 31 = 1) :
    (Reg.faultTable k, getReg s (Reg.faultTable k)) ∈ s.regs := by
  refine mem_of_tget_ne fun hreset => ?_
  rw [getReg, hreset, resetVal_faultTable hk] at hvalid
  exact absurd hvalid (by decide)

/-- In a sound state the reactions of the table are those of its valid entries, by their index. -/
theorem mem_tableReactions_iff {s : State} (hs : Sound s = true) (code : Nat) (a : Reaction) :
    a ∈ tableReactions s code ↔ ∃ k, k < 64 ∧ wordFld (getReg s (Reg.faultTable k)) 31 31 = 1 ∧
      wordFld (getReg s (Reg.faultTable k)) 15 0 = code ∧ a = reactionOf (wordFld (getReg s (Reg.faultTable k)) 18 16) := by
  simp only [tableReactions, List.mem_map, List.mem_filter, isTableEntry, decide_eq_true_eq]
  constructor
  · rintro ⟨⟨key, v⟩, ⟨hmem, hlow, hhigh, halign, hvalid, hcode⟩, rfl⟩
    obtain ⟨k, hk, rfl⟩ := (faultTableKey_iff key).1 ⟨hlow, hhigh, halign⟩
    rw [← getReg_of_mem hs hmem] at hvalid hcode ⊢
    exact ⟨k, hk, hvalid, hcode, rfl⟩
  · rintro ⟨k, hk, hvalid, hcode, rfl⟩
    obtain ⟨hlow, hhigh, halign⟩ := (faultTableKey_iff _).2 ⟨k, hk, rfl⟩
    exact ⟨_, ⟨faultTable_mem_regs hk hvalid, hlow, hhigh, halign, hvalid, hcode⟩, rfl⟩

/-! ### The reaction computed (R348) -/

/-- The reaction computed is as strong as the strongest of default, table and floor. -/
theorem rankOf_reactionFor (s : State) (e : EvDef) : rankOf (reactionFor s e) =
    max (max (rankOf e.reaction) (rankOf (tableReaction s e.code))) (rankOf (floorReaction s e.sev)) := by
  rw [reactionFor, rankOf_stronger, rankOf_stronger]

/-- The reaction computed is the default, the floor or that of an entry. -/
theorem reactionFor_eq_or (s : State) (e : EvDef) : reactionFor s e = e.reaction ∨
    reactionFor s e = floorReaction s e.sev ∨ reactionFor s e ∈ tableReactions s e.code := by
  have htable := foldl_stronger_eq_or_mem (tableReactions s e.code) .log
  rw [← tableReaction_eq] at htable
  rw [reactionFor]
  rcases stronger_eq_or (stronger e.reaction (tableReaction s e.code)) (floorReaction s e.sev) with h | h
  · rw [h]
    rcases htable with hlog | hentry
    · exact .inl (by rw [hlog, stronger_log])
    · rcases stronger_eq_or e.reaction (tableReaction s e.code) with h | h
      · exact .inl h
      · exact .inr (.inr (by rwa [h]))
  · exact .inr (.inl h)

/-! ### The lane that an event names (R344, R345) -/

/-- An index names no lane exactly above 2. -/
theorem ofIdx?_eq_none_iff (n : Nat) : Lane.ofIdx? n = none ↔ 2 < n := by
  match n with
  | 0 | 1 | 2 | n + 3 => simp [Lane.ofIdx?]

/-- The four minority events name their lane in DETAIL_B bits 1:0, every other event in SOURCE_INDEX. -/
theorem namedLane_eq_none_iff (code source detailB : Nat) : namedLane code source detailB = none ↔
    if code = Ev.ringMinority.code ∨ code = Ev.descMinority.code ∨ code = Ev.evqHeadMinority.code ∨ code = Ev.winMinority.code
    then 2 < detailB % 4 else 2 < source := by
  simp only [namedLane, namesLaneInB, Bool.or_eq_true, decide_eq_true_eq, or_assoc]
  split <;> exact ofIdx?_eq_none_iff _

/-- The reaction recorded: EXCLUDE_LANE without a lane becomes DEGRADE. -/
theorem mkRecord_reaction (e : EvDef) (src dA dB : Nat) (s : State) : (mkRecord s e src dA dB).reaction =
    if reactionFor s e = .excludeLane ∧ namedLane e.code src dB = none then .degrade else reactionFor s e := rfl

/-- An EXCLUDE_LANE reaction that is not recorded as such is recorded as DEGRADE. -/
theorem mkRecord_reaction_of_ne {e : EvDef} {src dA dB : Nat} {s : State} (hexcl : reactionFor s e = .excludeLane)
    (hne : (mkRecord s e src dA dB).reaction ≠ .excludeLane) : (mkRecord s e src dA dB).reaction = .degrade := by
  rw [mkRecord_reaction] at hne ⊢
  split at hne
  case isTrue h => exact if_pos h
  case isFalse => exact absurd hexcl hne

/-! ### What the level and the status of a reaction change -/

@[simp] theorem raiseLevel_fm (s : State) (code : Nat) (r : Reaction) : (raiseLevel s code r).fm = s.fm := by
  unfold raiseLevel
  split <;> rfl

@[simp] theorem raiseLevel_lanes (s : State) (code : Nat) (r : Reaction) : (raiseLevel s code r).lanes = s.lanes := by
  unfold raiseLevel
  split <;> rfl

/-- The level stands in FAULT_STATUS, its cause in FAULT_LAST_CODE. -/
theorem getReg_raiseLevel_other (s : State) {k : Nat} (hstatus : k ≠ Reg.faultStatus) (hlast : k ≠ Reg.faultLastCode)
    (code : Nat) (r : Reaction) : getReg (raiseLevel s code r) k = getReg s k := by
  unfold raiseLevel
  split
  · rw [getReg_setReg_other _ hlast, getReg_setFld_other _ hstatus]
  · rfl

/-- The bits of FAULT_STATUS above the level stand over a change of level. -/
theorem bit_raiseLevel (s : State) (code : Nat) (r : Reaction) {i : Nat} (hlow : 2 < i) (hhigh : i < 32) :
    bit (raiseLevel s code r) Reg.faultStatus i = bit s Reg.faultStatus i := by
  unfold raiseLevel
  split
  · rw [bit, fld, getReg_setReg_other _ (by decide), ← fld,
      fld_setFld_near _ _ _ (by decide) (Nat.le_refl i) hhigh (.inr hlow), ← bit]
  · rfl

@[simp] theorem queueRec_fm (r : Record) (s : State) : (queueRec r s).fm = s.fm := rfl
@[simp] theorem queueRec_lanes (r : Record) (s : State) : (queueRec r s).lanes = s.lanes := rfl

/-- A queued record shows in REC_STATUS alone. -/
theorem getReg_queueRec_other (r : Record) (s : State) {k : Nat} (h : k ≠ Reg.recStatus) : getReg (queueRec r s) k = getReg s k :=
  getReg_setFld_other _ h _ _ _

/-- The status of a DEGRADE reaction: queued for the recorder, NOTIFIED, DEGRADED, and the level (R344, R346). -/
theorem applyStatus_of_degrade {r : Record} (h : r.reaction = .degrade) (s : State) : applyStatus s r =
    raiseLevel (setBit (setBit (queueRec r s) Reg.faultStatus 4 true) Reg.faultStatus 3 true) r.code .degrade := by
  simp [applyStatus, h, rankOf]

@[simp] theorem setPending_fm (s : State) (l : List Record) : (setPending s l).fm = { s.fm with pending := l } := rfl
@[simp] theorem setPending_lanes (s : State) (l : List Record) : (setPending s l).lanes = s.lanes := rfl

/-- The pending store shows in FAULT_STATUS alone. -/
theorem getReg_setPending_other (s : State) (l : List Record) {k : Nat} (h : k ≠ Reg.faultStatus) :
    getReg (setPending s l) k = getReg s k := by
  rw [setPending, getReg_setFld_other _ h, getReg_setFld_other _ h]
  rfl

/-! ### An event whose record finds room -/

/-- With room in the pending store the record enters it and its reaction is applied (R351). -/
theorem raise_of_room {s : State} (hroom : s.fm.pending.length < 16) (e : EvDef) (src dA dB : Nat) :
    raise e src dA dB s = applyReaction (raiseF 4 0) 0 (mkRecord s e src dA dB)
      (setPending s (s.fm.pending ++ [mkRecord s e src dA dB])) := by
  simp [raise, raiseF, reactTo, pushPending, hroom]

/-- DEGRADE has no effect beyond the record's status (R344). -/
theorem applyReaction_of_degrade {r : Record} (h : r.reaction = .degrade) (rz : RaiseFn) (task : Nat) (s : State) :
    applyReaction rz task r s = applyStatus s r := by
  simp only [applyReaction, h]

/-- With room in the pending store, an event recorded as DEGRADE enters it and sets DEGRADED, and no lane changes. -/
theorem raise_of_degrade {e : EvDef} {src dA dB : Nat} {s : State} (hroom : s.fm.pending.length < 16)
    (hdeg : (mkRecord s e src dA dB).reaction = .degrade) :
    (raise e src dA dB s).fm.pending = s.fm.pending ++ [mkRecord s e src dA dB] ∧
    bit (raise e src dA dB s) Reg.faultStatus 3 = true ∧
    (raise e src dA dB s).lanes = s.lanes ∧ getReg (raise e src dA dB s) Reg.laneState = getReg s Reg.laneState := by
  rw [raise_of_room hroom, applyReaction_of_degrade hdeg, applyStatus_of_degrade hdeg]
  refine ⟨by simp, ?_, by simp, ?_⟩
  · rw [bit_raiseLevel _ _ _ (by decide) (by decide), bit_setBit_self _ _ _ (by decide)]
  · rw [getReg_raiseLevel_other _ (by decide) (by decide), getReg_setBit_other _ (by decide),
      getReg_setBit_other _ (by decide), getReg_queueRec_other _ _ (by decide), getReg_setPending_other _ _ (by decide)]

/-- Settles O8: the strongest by `rankOf_reactionFor` and `reactionFor_eq_or`, the lane by `namedLane_eq_none_iff`, and DEGRADE
by `raise_of_degrade`. -/
theorem reactionOfAnEvent : Obligations.ReactionOfAnEvent := by
  unfold Obligations.ReactionOfAnEvent
  refine ⟨fun e s hs => ⟨?default, ?floor, ?table, ?oneOf⟩, ?recorded, ?degraded⟩
  case default =>
    rw [rankOf_reactionFor]
    omega
  case floor =>
    rw [rankOf_reactionFor, floorReaction]
    omega
  case table =>
    intro k hk hvalid hcode
    have hentry := (mem_tableReactions_iff hs e.code _).2 ⟨k, hk, hvalid, hcode, rfl⟩
    have hle := (rankOf_le_foldl_stronger (tableReactions s e.code) .log).2 _ hentry
    rw [← tableReaction_eq] at hle
    rw [rankOf_reactionFor]
    omega
  case oneOf =>
    rw [← mem_tableReactions_iff hs]
    exact reactionFor_eq_or s e
  case recorded =>
    intro e src dA dB s
    rw [mkRecord_reaction]
    simp only [namedLane_eq_none_iff]
  case degraded =>
    intro e src dA dB s hroom hexcl hne
    have hdeg := mkRecord_reaction_of_ne hexcl hne
    obtain ⟨hpending, hbit, hlanes, hstate⟩ := raise_of_degrade hroom hdeg
    exact ⟨hpending, hdeg, hbit, hlanes, hstate⟩

end Sys2Proof.Machine
end

section
/-!
PROOFS. The front LEDs: what the FAULT LED shows (R347), and its place among them (R412).
-/

namespace Sys2Proof.Machine

/-- What the FAULT LED shows at each module level (R347). -/
def levelLed : Reaction → Led
  | .log => .off
  | .notify | .excludeLane | .degrade => .slow
  | .yield | .safeHalt => .steady

/-- The FAULT LED shows the level that stands in FAULT_STATUS. -/
theorem ledFault_of_level {s : State} {r : Reaction} (h : fld s Reg.faultStatus 2 0 = rankOf r) : ledFault s = levelLed r := by
  rw [ledFault, h]
  cases r <;> rfl

/-- Powered, awake and past the lamp test of BOOT, the front shows each LED's own function (R412). -/
theorem leds_of_shown {s : State} (hpower : s.skerry.powered = true) (hawake : modState s ≠ .sleep)
    (hboot : modState s = .boot → msRaw 500 ≤ rawNow s - s.restart.bootRaw) :
    leds s = [ledRun s, ledVote s, ledPair s, ledForce s, ledFault s, ledSvc s] := by
  have hon : ¬(¬s.skerry.powered ∨ modState s = .sleep) := not_or.mpr ⟨not_not.mpr hpower, hawake⟩
  have htested : ¬(modState s = .boot ∧ rawNow s - s.restart.bootRaw < msRaw 500) :=
    fun ⟨hb, hlt⟩ => Nat.not_le.mpr hlt (hboot hb)
  rw [leds, if_neg hon, if_neg htested]

/-- Settles O13: the level by `ledFault_of_level`, the place by `leds_of_shown`. -/
theorem faultLedShowsTheLevel : Obligations.FaultLedShowsTheLevel := by
  unfold Obligations.FaultLedShowsTheLevel
  constructor
  · intro s
    exact ⟨ledFault_of_level, ledFault_of_level, ledFault_of_level, ledFault_of_level, ledFault_of_level, ledFault_of_level⟩
  · intro s hpower hawake hboot
    rw [leds_of_shown hpower hawake hboot]
    rfl

end Sys2Proof.Machine
end

section
/-!
PROOFS. Rules that several proofs share: what a fold keeps, and a lane's part of what stands once per lane.
-/

namespace Sys2Proof

/-- A lane's part reads as replaced. -/
@[simp] theorem PerLane.get_set_self {α : Type} (p : PerLane α) (l : Lane) (x : α) : (p.set l x).get l = x := by
  cases l <;> rfl

/-- Another lane's part stands. -/
theorem PerLane.get_set_other {α : Type} (p : PerLane α) {l m : Lane} (h : m ≠ l) (x : α) : (p.set l x).get m = p.get m := by
  cases l <;> cases m <;> simp_all [PerLane.get, PerLane.set]

namespace Machine

/-- A fold whose step keeps a part keeps that part. -/
theorem foldl_keeps {α β γ : Type} {f : α → β → α} {part : α → γ} (h : ∀ a b, part (f a b) = part a) (l : List β) (a : α) :
    part (l.foldl f a) = part a := by
  induction l generalizing a with
  | nil => rfl
  | cons b l ih => rw [List.foldl_cons, ih, h]

end Machine

end Sys2Proof
end

section
/-!
PROOFS. Folds that write one register or field after another.
-/

namespace Sys2Proof.Machine

/-! ### Registers alone -/

/-- From `s` to `t` nothing changed but registers. -/
def OnlyRegs (s t : State) : Prop := t = { s with regs := t.regs }

theorem OnlyRegs.refl (s : State) : OnlyRegs s s := rfl

/-- One change of registers after another. -/
theorem OnlyRegs.trans {s t u : State} (h : OnlyRegs s t) (k : OnlyRegs t u) : OnlyRegs s u := by
  unfold OnlyRegs at *
  rw [k, h]

theorem OnlyRegs.setReg (s : State) (k : Nat) (v : Word) : OnlyRegs s (setReg s k v) := rfl

theorem OnlyRegs.setFld (s : State) (k hi lo v : Nat) : OnlyRegs s (setFld s k hi lo v) := rfl

theorem OnlyRegs.setBit (s : State) (k i : Nat) (b : Bool) : OnlyRegs s (setBit s k i b) := rfl

/-- A fold of changes of registers. -/
theorem OnlyRegs.foldl {α : Type} {f : State → α → State} (h : ∀ s a, OnlyRegs s (f s a)) (l : List α) (s : State) :
    OnlyRegs s (l.foldl f s) := by
  induction l generalizing s with
  | nil => exact .refl s
  | cons a l ih => exact (h s a).trans (ih _)

/-! ### One field after another -/

/-- A register that no step of a fold writes stands. -/
theorem getReg_foldl_setFld_other {α : Type} {key : α → Nat} {k : Nat} {l : List α} (h : ∀ a ∈ l, k ≠ key a) (hi lo v : Nat)
    (s : State) : getReg (l.foldl (fun s a => Machine.setFld s (key a) hi lo v) s) k = getReg s k := by
  induction l generalizing s with
  | nil => rfl
  | cons a l ih =>
    rw [List.foldl_cons, ih fun b hb => h b (List.mem_cons_of_mem a hb), getReg_setFld_other s (h a List.mem_cons_self)]

/-- A field beside the one that a fold writes stands. -/
theorem fld_foldl_setFld_beside {α : Type} (key : α → Nat) (l : List α) {hi lo hi' lo' : Nat} (hl : lo ≤ hi) (hl' : lo' ≤ hi')
    (hh : hi' < 32) (hd : hi' < lo ∨ hi < lo') (v k : Nat) (s : State) :
    fld (l.foldl (fun s a => Machine.setFld s (key a) hi lo v) s) k hi' lo' = fld s k hi' lo' := by
  refine foldl_keeps (part := fun s => fld s k hi' lo') (fun s a => ?_) l s
  by_cases h : k = key a
  · subst h
    exact fld_setFld_near s _ v hl hl' hh hd
  · exact fld_setFld_other s h hi lo v hi' lo'

/-- A field that a fold writes reads as written. -/
theorem fld_foldl_setFld_of_mem {α : Type} {key : α → Nat} {l : List α} {a : α} (ha : a ∈ l) {hi lo : Nat} (hl : lo ≤ hi)
    (hh : hi < 32) (v : Nat) (s : State) :
    fld (l.foldl (fun s a => Machine.setFld s (key a) hi lo v) s) (key a) hi lo = v % 2 ^ (hi - lo + 1) := by
  have hstep : ∀ (k : Nat) (l : List α) (s : State), fld s k hi lo = v % 2 ^ (hi - lo + 1) →
      fld (l.foldl (fun s a => Machine.setFld s (key a) hi lo v) s) k hi lo = v % 2 ^ (hi - lo + 1) := by
    intro k l
    induction l with
    | nil => exact fun s h => h
    | cons b l ih =>
      intro s h
      refine ih _ ?_
      by_cases hk : k = key b
      · rw [hk]
        exact fld_setFld_self s _ v hl hh
      · rw [fld_setFld_other s hk, h]
  induction l generalizing s with
  | nil => exact absurd ha List.not_mem_nil
  | cons b l ih =>
    rcases List.mem_cons.1 ha with rfl | hrest
    · exact hstep _ l _ (fld_setFld_self s _ v hl hh)
    · exact ih hrest _

end Sys2Proof.Machine
end

section
/-!
PROOFS. The state after reset: empty and in canonical form, every register at the Reset column of its table.
-/

namespace Sys2Proof.Machine

/-- After reset a register reads as its table's Reset column: none is listed. -/
theorem getReg_reset (k : Nat) : getReg State.reset k = resetVal k := rfl

/-- Settles O2: nothing is listed, held or poisoned. -/
theorem resetIsSound : Obligations.ResetIsSound := by
  unfold Obligations.ResetIsSound
  have hdram : ∀ l, State.reset.dram.get l = noMem := fun l => by cases l <;> rfl
  have hready : ∀ l, (State.reset.lanes.get l).ready = false := fun l => by cases l <;> rfl
  refine ⟨(sound_iff _).2 ⟨rfl, noMem_wf, noMem_wf, noMem_wf, noMem_wf⟩, rfl, hdram, rfl, hready, rfl, rfl, rfl, rfl, rfl, rfl,
    rfl, fun l a => ?_⟩
  rw [hdram l]
  rfl

/-- Settles O3: a register reads as its reset value (`getReg_reset`), and the tables' rows give those. -/
theorem resetValuesOfTheRegisters : Obligations.ResetValuesOfTheRegisters := by
  unfold Obligations.ResetValuesOfTheRegisters
  simp only [getReg_reset]
  refine ⟨by decide +kernel, by decide, by decide, by decide, by decide, fun l => ?_⟩
  cases l <;> decide

end Sys2Proof.Machine
end

section
/-!
PROOFS. A step, and the raw counter of the clock edge that an empty queue leaves (R165, R166, R395).
-/

namespace Sys2Proof.Machine

/-! ### The raw counter -/

/-- No event turns the clock. -/
theorem raise_time (e : EvDef) (src dA dB : Nat) (s : State) : (raise e src dA dB s).time = s.time :=
  by
  rw [(raise_ev e src dA dB s (ev_refl s)).2]

/-- A completed alignment shows in CHRONO_STATUS and an event; the clock stands. -/
theorem alignDone_time (late : Nat) (s : State) : (alignDone late s).time = s.time := by
  unfold alignDone
  split
  · exact raise_time ..
  · rfl

/-- A microtick edge counts; the raw counter stands. -/
theorem microtickEdge_raw (n : Nat) (s : State) : (microtickEdge n s).time.raw = s.time.raw := by
  simp only [microtickEdge]
  split
  · rfl
  · split
    · split
      · rw [alignDone_time]
      · rfl
    · rfl

/-- The output pulse falls; the raw counter stands. -/
theorem pulseFall_raw (s : State) : (pulseFall s).time.raw = s.time.raw := by
  unfold pulseFall
  split <;> rfl

/-- The lockout counts down; the clock stands. -/
theorem lockTick_time (before : Nat) (s : State) : (lockTick before s).time = s.time := by
  unfold lockTick
  split <;> rfl

/-- The peer delays are shown; the clock stands. -/
theorem showPdelays_time (s : State) : (showPdelays s).time = s.time := by
  unfold showPdelays
  split <;> rfl

/-- A clock edge of a counter that runs: it gains the units of its source. -/
theorem tick_raw {s : State} (h : counterRuns s = true) : (tick s).time.raw = s.time.raw + edgeUnits s := by
  simp only [tick, if_pos h, showPdelays_time, lockTick_time, pulseFall_raw]
  split
  · rw [microtickEdge_raw]
  · rfl

/-! ### The step -/

/-- With a command at the front, a step is its meaning on the queue's rest. -/
theorem step_cons {c : Instr} {rest : List Instr} {s : State} (h : s.pending = c :: rest) :
    step s = exec c { s with pending := rest } := by
  rw [step, h]

/-- On an empty queue a step is a clock edge. -/
theorem step_nil {s : State} (h : s.pending = []) : step s = .next (tick s) := by
  rw [step, h]

/-- Settles O1: `step_cons` and `step_nil` for the queue, `tick_raw` for the counter. -/
theorem stepRunsTheFrontCommand : Obligations.StepRunsTheFrontCommand := by
  unfold Obligations.StepRunsTheFrontCommand
  refine ⟨fun _ _ _ => step_cons, fun _ => step_nil, fun s h => ?_, fun s hoff hlost => ?_⟩
  · have hruns : counterRuns s = true := by
      rcases h with h | h <;> simp [counterRuns, h]
    exact tick_raw hruns
  · have hstands : ¬counterRuns s = true := by simp [counterRuns, hoff, hlost]
    exact if_neg hstands

end Sys2Proof.Machine
end

section
/-!
PROOFS. What every command keeps (Laws/Keep): each well-formed command completes and keeps queue and canonical form (R26).
-/

namespace Sys2Proof.Machine

/-- The command answers a next state, which keeps whatever queue stands and the canonical form. -/
def Completes (c : Instr) (s : State) : Prop := ∃ t, exec c s = .next t ∧ ∀ q, Ok q s → Ok q t

/-- Every well-formed command completes: each arm answers its operation's state, and the operation keeps. -/
theorem exec_completes (c : Instr) (s : State) (hwf : c.wellFormed = true) : Completes c s := by
  cases c with
  | setupWrite => exact ⟨_, rfl, fun _ => setupWrite_ok _ _ _ _ _⟩
  | setupVoteClose => exact ⟨_, rfl, fun _ => setupVoteClose_ok _⟩
  | setupQueueStallEnd => exact ⟨_, rfl, fun _ => setupStallEnd_ok _ _ _⟩
  | w1cClear => exact ⟨_, rfl, fun _ => w1cClear_ok _ _ _⟩
  | accessFault => exact ⟨_, rfl, fun _ => mapAccess_ok _ _ _ _ _⟩
  | mramWindowAccess => exact ⟨_, rfl, fun _ => mramAccess_ok _ _ _ _ _⟩
  | instructionRetire => exact ⟨_, rfl, fun _ => retire_ok _ _ _ _⟩
  | sigpres => exact ⟨_, rfl, fun _ => present_ok _ _ _ _ _ _⟩
  | sigpresStallEnd => exact ⟨_, rfl, fun _ => presentStallEnd_ok _ _ _⟩
  | laneClockFault => exact ⟨_, rfl, fun _ => clockFault_ok _ _ _⟩
  | lanePowerFault => exact ⟨_, rfl, fun _ => powerFault_ok _ _ _⟩
  | laneTimerInterrupt => exact ⟨_, rfl, fun _ => timerInterrupt_ok _ _ _⟩
  | autoRejoin => exact ⟨_, rfl, fun _ => autoRejoin_ok _ _⟩
  | laneCmdExclude => exact ⟨_, rfl, fun _ => laneExclude_ok _ _ _⟩
  | laneCmdRejoin => exact ⟨_, rfl, fun _ => laneRejoin_ok _ _ _⟩
  | laneCmdPowerOff => exact ⟨_, rfl, fun _ => lanePowerOff_ok _ _ _⟩
  | laneCmdPowerOn => exact ⟨_, rfl, fun _ => lanePowerOn_ok _ _ _⟩
  | laneModeSplit => exact ⟨_, rfl, fun _ => modeSplit_ok _ _⟩
  | laneModeJoin => exact ⟨_, rfl, fun _ => modeJoin_ok _⟩
  | laneModeCancel => exact ⟨_, rfl, fun _ => modeCancel_ok _⟩
  | laneSaLockWrite => exact ⟨_, rfl, fun _ => saLock_ok _ _⟩
  | selftestStepDone => exact ⟨_, rfl, fun _ => selftestStep_ok _ _ _⟩
  | rejoinPageCopy => exact ⟨_, rfl, fun _ => copyPage_ok _ _⟩
  | rejoinBulkDone => exact ⟨_, rfl, fun _ => bulkDone_ok _⟩
  | rejoinPassDone => exact ⟨_, rfl, fun _ => passDone_ok _⟩
  | rejoinFinalStart => exact ⟨_, rfl, fun _ => finalStart_ok _⟩
  | rejoinFinalDone => exact ⟨_, rfl, fun _ => finalDone_ok _⟩
  | rejoinTimeout => exact ⟨_, rfl, fun _ => rejoinTimeout_ok _ _⟩
  | chronographStart => exact ⟨_, rfl, fun _ => chronographStart_ok _⟩
  | baseCycleEnd => exact ⟨_, rfl, fun _ => baseCycleEnd_ok _⟩
  | hyperperiodBoundary => exact ⟨_, rfl, fun _ => hyperperiod_ok _⟩
  | nop => exact ⟨_, rfl, fun _ => fun h => issueEntry_ok _ _ _ _ _ h fun _ _ h => h⟩
  | clockUp => exact ⟨_, rfl, fun _ => fun h => issueEntry_ok _ _ _ _ _ h fun e _ h => by
      cases domOfBlock? (dfld e.w1 7 0) with
      | none => exact h
      | some d => exact clockUp_ok _ _ h⟩
  | clockDown => exact ⟨_, rfl, fun _ => fun h => issueEntry_ok _ _ _ _ _ h fun e _ h => by
      cases domOfBlock? (dfld e.w1 7 0) with
      | none => exact h
      | some d => exact clockDown_ok _ _ _ h⟩
  | sample => exact ⟨_, rfl, fun _ => fun h => issueEntry_ok _ _ _ _ _ h fun _ _ h => sampleBody_ok _ _ h⟩
  | snapshot => exact ⟨_, rfl, fun _ => fun h => issueEntry_ok _ _ _ _ _ h fun _ _ h => snapshotBody_ok _ _ h⟩
  | deliver => exact ⟨_, rfl, fun _ => fun h => issueEntry_ok _ _ _ _ _ h fun _ _ h => deliverBody_ok _ _ _ h⟩
  | release => exact ⟨_, rfl, fun _ => fun h => issueEntry_ok _ _ _ _ _ h fun _ _ h => releaseBody_ok _ _ h⟩
  | checkpoint => exact ⟨_, rfl, fun _ => fun h => issueEntry_ok _ _ _ _ _ h fun _ _ h => checkpointBody_ok _ _ _ h⟩
  | collect => exact ⟨_, rfl, fun _ => fun h => issueEntry_ok _ _ _ _ _ h fun _ _ h => collectBody_ok _ _ _ h⟩
  | emit => exact ⟨_, rfl, fun _ => fun h => issueEntry_ok _ _ _ _ _ h fun _ _ h => emitBody_ok _ _ h⟩
  | canSlot => exact ⟨_, rfl, fun _ => fun h => issueEntry_ok _ _ _ _ _ h fun _ _ h => canSlotBody_ok _ _ h⟩
  | crateXfer => exact ⟨_, rfl, fun _ => fun h => xferNotMade_ok _ _ _ (issueEntry_ok _ _ _ _ _ h fun _ _ h => xferBody_ok _ _ h)⟩
  | drive => exact ⟨_, rfl, fun _ => fun h => issueEntry_ok _ _ _ _ _ h fun _ _ h => driveBody_ok _ _ h⟩
  | reference => exact ⟨_, rfl, fun _ => fun h => issueEntry_ok _ _ _ _ _ h fun _ _ h => referenceBody_ok _ _ h⟩
  | poll => exact ⟨_, rfl, fun _ => fun h => issueEntry_ok _ _ _ _ _ h fun _ _ h => pollBody_ok _ _ h⟩
  | mirror => exact ⟨_, rfl, fun _ => fun h => issueEntry_ok _ _ _ _ _ h fun _ _ h => mirrorBody_ok _ _ h⟩
  | entryPoison => exact ⟨_, rfl, fun _ => entryPoison_ok _ _⟩
  | domainReady => exact ⟨_, rfl, fun _ => domainReady_ok _ _⟩
  | domainIdleStop => exact ⟨_, rfl, fun _ => domainIdleStop_ok _ _⟩
  | clockDownDeferred => exact ⟨_, rfl, fun _ => clockDownDeferred_ok _ _⟩
  | chronoLoadStart => exact ⟨_, rfl, fun _ => loadStart_ok _ _⟩
  | bankLoadDone => exact ⟨_, rfl, fun _ => loadDone_ok _⟩
  | bankSwitchRequest => exact ⟨_, rfl, fun _ => switchRequest_ok _⟩
  | bankSwitchCancel => exact ⟨_, rfl, fun _ => switchCancel_ok _⟩
  | ringCmdStart => exact ⟨_, rfl, fun _ => ringStartCmd_ok _ _ _⟩
  | ringCmdResume => exact ⟨_, rfl, fun _ => ringResume_ok _ _ _⟩
  | ringCmdStop => exact ⟨_, rfl, fun _ => ringStop_ok _ _ _⟩
  | ringCmdDiscard => exact ⟨_, rfl, fun _ => ringDiscard_ok _ _ _⟩
  | descriptorFetch => exact ⟨_, rfl, fun _ => fetchDesc_ok _ _⟩
  | descriptorAccepted => exact ⟨_, rfl, fun _ => writeDesc_ok _ _⟩
  | descriptorNop => exact ⟨_, rfl, fun _ => nopDesc_ok _ _⟩
  | evqCmdStart => exact ⟨_, rfl, fun _ => evqStart_ok _ _ _⟩
  | evqCmdResume => exact ⟨_, rfl, fun _ => evqResume_ok _ _ _⟩
  | eventRecordDelivery => exact ⟨_, rfl, fun _ => deliverEvent_ok _⟩
  | deadlineCheck => exact ⟨_, rfl, fun _ => deadlineCheck_ok _ _⟩
  | taskCmdClearResp => exact ⟨_, rfl, fun _ => clearResp_ok _ _⟩
  | taskCmdClearCount => exact ⟨_, rfl, fun _ => clearCount_ok _ _⟩
  | modRestartWarm => exact ⟨_, rfl, fun _ => restartCmd_ok _ _ _⟩
  | modRestartCold => exact ⟨_, rfl, fun _ => restartCmd_ok _ _ _⟩
  | retainCommitDone => exact ⟨_, rfl, fun _ => retainDone_ok _⟩
  | xchgReportWrite => exact ⟨_, rfl, fun _ => raise_ok _ _ _ _ _⟩
  | xchgSummaryWrite => exact ⟨_, rfl, fun _ => raise_ok _ _ _ _ _⟩
  | forceSet => exact ⟨_, rfl, fun _ => forceSet_ok _ _⟩
  | forceRemove => exact ⟨_, rfl, fun _ => commitForce_ok _ _⟩
  | forceRemoveAll => exact ⟨_, rfl, fun _ => commitForce_ok _ _⟩
  | ptpMessageRx => exact ⟨_, rfl, fun _ => ptpRx_ok _ _ _⟩
  | syncLost => exact ⟨_, rfl, fun _ => syncLost_ok _⟩
  | ptpMessageTx => exact ⟨_, rfl, fun _ => ptpTx_ok _ _ _⟩
  | ptpEventForward => exact ⟨_, rfl, fun _ => forwardPtp_ok _ _ _ _⟩
  | timestampEnqueue => exact ⟨_, rfl, fun _ => enqueueStamp_ok _ _ _ _ _⟩
  | tsqEntryExpiry => exact ⟨_, rfl, fun _ => expireStamp_ok _⟩
  | transitCapture => exact ⟨_, rfl, fun _ => capture_ok _⟩
  | transitClearCounts => exact ⟨_, rfl, fun _ => clearTsqCounts_ok _⟩
  | pulseOut => exact ⟨_, rfl, fun _ => pulseOut_ok _⟩
  | pulseInEdge => exact ⟨_, rfl, fun _ => pulseIn_ok _ _ _⟩
  | pulseInMissing => exact ⟨_, rfl, fun _ => pulseMissing_ok _⟩
  | switchFrameRx => exact ⟨_, if_pos hwf, fun _ => switchRx_ok _ _ _⟩
  | egressFrameStart => exact ⟨_, rfl, fun _ => egressStart_ok _ _⟩
  | macAgeing => exact ⟨_, rfl, fun _ => macAge_ok _ _ _⟩
  | linkChanged => exact ⟨_, rfl, fun _ => linkChange_ok _ _ _⟩
  | frameReceive => exact ⟨_, rfl, fun _ => frameReceive_ok _ _⟩
  | pullReplyTx => exact ⟨_, rfl, fun _ => pullReply_ok _ _⟩
  | arpRefresh => exact ⟨_, rfl, fun _ => arpRefresh_ok _ _ _⟩
  | mdNotify => exact ⟨_, rfl, fun _ => mdSend_ok _ _ _⟩
  | mdRequest => exact ⟨_, rfl, fun _ => mdSend_ok _ _ _⟩
  | mdReply => exact ⟨_, rfl, fun _ => mdSend_ok _ _ _⟩
  | mdReplyQuery => exact ⟨_, rfl, fun _ => mdSend_ok _ _ _⟩
  | mdConfirm => exact ⟨_, rfl, fun _ => mdSend_ok _ _ _⟩
  | rawFrame => exact ⟨_, rfl, fun _ => mdSend_ok _ _ _⟩
  | mdSendCommit => exact ⟨_, rfl, fun _ => mdCommit_ok _ _⟩
  | mdReplyTimeout => exact ⟨_, rfl, fun _ => mdReplyTimeout_ok _ _⟩
  | mdUnresolvedTimeout => exact ⟨_, rfl, fun _ => mdUnresolved_ok _ _⟩
  | netRxBuffer => exact ⟨_, rfl, fun _ => netRxBuffer_ok _ _⟩
  | tunnelDatagramSend => exact ⟨_, rfl, fun _ => tunnelSend_ok _ _⟩
  | netClearCounts => exact ⟨_, rfl, fun _ => netClear_ok _⟩
  | netArpFlush => exact ⟨_, rfl, fun _ => arpFlush_ok _⟩
  | netFlowCfgWrite => exact ⟨_, rfl, fun _ => writeFlowCfg_ok _ _ _⟩
  | safeConnEnable => exact ⟨_, rfl, fun _ => writeConnCfg_ok _ _ _⟩
  | safeConnDisable => exact ⟨_, rfl, fun _ => writeConnCfg_ok _ _ _⟩
  | safeResetFault => exact ⟨_, rfl, fun _ => resetFault_ok _ _⟩
  | safeClearCounts => exact ⟨_, rfl, fun _ => safeClear_ok _⟩
  | canFrameRx => exact ⟨_, if_pos hwf, fun _ => frameRx_ok _ _ _ _⟩
  | canTxFrame => exact ⟨_, rfl, fun _ => txFrame_ok _ _⟩
  | canRxBuffer => exact ⟨_, rfl, fun _ => rxBuffer_ok _ _⟩
  | canTxAttempt => exact ⟨_, rfl, fun _ => txAttempt_ok _ _ _⟩
  | canTxCommit => exact ⟨_, rfl, fun _ => txCommit_ok _ _⟩
  | canTxError => exact ⟨_, rfl, fun _ => txError_ok _ _ _⟩
  | canSuspendEnd => exact ⟨_, rfl, fun _ => suspendEnd_ok _ _ _⟩
  | canRecoveryStart => exact ⟨_, rfl, fun _ => recoveryStart_ok _ _⟩
  | canRecoveryDone => exact ⟨_, rfl, fun _ => recoveryDone_ok _ _⟩
  | canIntegration => exact ⟨_, rfl, fun _ => integration_ok _ _⟩
  | canDeadlineExpiry => exact ⟨_, rfl, fun _ => deadlineExpiry_ok _ _⟩
  | canCmdRecover => exact ⟨_, rfl, fun _ => cmdRecover_ok _ _⟩
  | canClearCounts => exact ⟨_, rfl, fun _ => canClear_ok _ _⟩
  | canChEnable => exact ⟨_, rfl, fun _ => writeChCfg_ok _ _ _⟩
  | canChDisable => exact ⟨_, rfl, fun _ => writeChCfg_ok _ _ _⟩
  | groupSupplyFault => exact ⟨_, rfl, fun _ => supplyFault_ok _ _⟩
  | groupSupplyReturn => exact ⟨_, rfl, fun _ => supplyReturn_ok _ _⟩
  | windowAccess => exact ⟨_, rfl, fun _ => fun h => matchResults_ok _ (windowAccess_ok _ _ _ _ _ _ _ h)⟩
  | windowVoteClose => exact ⟨_, rfl, fun _ => fun h => retryWaiting_ok _ (winVoteClose_ok _ h)⟩
  | windowAccessTimeout => exact ⟨_, rfl, fun _ => winTimeout_ok _⟩
  | fenceComplete => exact ⟨_, rfl, fun _ => fenceComplete_ok _⟩
  | busCycleStart => exact ⟨_, rfl, fun _ => busStart_ok _⟩
  | busCycleEnd => exact ⟨_, if_pos (of_decide_eq_true hwf), fun _ => busEnd_ok _ _ _⟩
  | busTimeout => exact ⟨_, if_pos (of_decide_eq_true hwf), fun _ => busTimedOut_ok _⟩
  | crateRetry => exact ⟨_, rfl, fun _ => crateRetry_ok _⟩
  | prefetchHoldExpiry => exact ⟨_, rfl, fun _ => holdExpiry_ok _⟩
  | crateInt => exact ⟨_, rfl, fun _ => crateInt_ok _ _⟩
  | crateIntRecord => exact ⟨_, rfl, fun _ => crateIntRecord_ok _⟩
  | isthRevive => exact ⟨_, rfl, fun _ => revive_ok _ _⟩
  | isthArm => exact ⟨_, rfl, fun _ => isthArm_ok _ _⟩
  | isthCrateReset => exact ⟨_, rfl, fun _ => crateReset_ok _⟩
  | crateResetEnd => exact ⟨_, rfl, fun _ => crateResetEnd_ok _⟩
  | isthClearCounts => exact ⟨_, rfl, fun _ => isthClear_ok _⟩
  | isthWrite => exact ⟨_, rfl, fun _ => ringStart_ok _ _ _⟩
  | isthRead => exact ⟨_, rfl, fun _ => ringStart_ok _ _ _⟩
  | isthIntCfgWrite => exact ⟨_, rfl, fun _ => writeIntCfg_ok _ _⟩
  | isthWinEnable => exact ⟨_, rfl, fun _ => writeWinCfg_ok _ _ _⟩
  | isthXferValidate => exact ⟨_, rfl, fun _ => writeXferCtl_ok _ _ _⟩
  | busMonitorCycle => exact ⟨_, if_pos (of_decide_eq_true hwf), fun _ => monitorCycle_ok _ _ _ _ _⟩
  | diRawChange => exact ⟨_, rfl, fun _ => diRaw_ok _ _ _⟩
  | diFilterAccept => exact ⟨_, rfl, fun _ => diFilter_ok _ _⟩
  | holmRefreshRx => exact ⟨_, rfl, fun _ => refreshRx_ok _ _ _⟩
  | logicSilence => exact ⟨_, rfl, fun _ => silence_ok _ _⟩
  | fieldSupplyLoss => exact ⟨_, rfl, fun _ => fieldLoss_ok _ _ _⟩
  | fieldSupplyReturn => exact ⟨_, rfl, fun _ => fieldReturn_ok _ _ _⟩
  | islandFault => exact ⟨_, rfl, fun _ => islandFault_ok _ _⟩
  | demagPulse => exact ⟨_, rfl, fun _ => demagPulse_ok _ _ _⟩
  | doFaultDetect => exact ⟨_, rfl, fun _ => faultDetect_ok _ _ _⟩
  | doOpenLoad => exact ⟨_, rfl, fun _ => openLoad_ok _ _ _⟩
  | offPulseStart => exact ⟨_, rfl, fun _ => offStart_ok _ _⟩
  | offPulseEnd => exact ⟨_, rfl, fun _ => offEnd_ok _ _ _⟩
  | holmRearm => exact ⟨_, rfl, fun _ => holmRearm_ok _ _⟩
  | holmClearFault => exact ⟨_, rfl, fun _ => holmClearFault_ok _ _⟩
  | positionStep => exact ⟨_, rfl, fun _ => positionStep_ok _ _ _ _⟩
  | motionTick => exact ⟨_, rfl, fun _ => motionTick_ok _⟩
  | plausFault => exact ⟨_, rfl, fun _ => plausFault_ok _ _ _⟩
  | slsViolation => exact ⟨_, rfl, fun _ => slsViolation_ok _⟩
  | motionSelectionRx => exact ⟨_, rfl, fun _ => selectionRx_ok _ _⟩
  | selDefault => exact ⟨_, rfl, fun _ => selDefault_ok _⟩
  | resetJudge => exact ⟨_, rfl, fun _ => resetJudge_ok _⟩
  | resetJammed => exact ⟨_, rfl, fun _ => resetJammed_ok _⟩
  | motionEnable => exact ⟨_, rfl, fun _ => writeMotionCfg_ok _ _⟩
  | mstInChange => exact ⟨_, rfl, fun _ => mstInChange_ok _ _⟩
  | masteryClaim => exact ⟨_, rfl, fun _ => claim_ok _⟩
  | takeover => exact ⟨_, rfl, fun _ => takeover_ok _⟩
  | crateDriversRelease => exact ⟨_, rfl, fun _ => driversRelease_ok _⟩
  | safeHaltAutoRestart => exact ⟨_, rfl, fun _ => autoRestart_ok _⟩
  | straitStatus => exact ⟨_, rfl, fun _ => statusRx_ok _ _⟩
  | straitCycleMark => exact ⟨_, rfl, fun _ => cycleMark_ok _ _ _ _⟩
  | straitImage => exact ⟨_, rfl, fun _ => imageRx_ok _ _⟩
  | straitJournal => exact ⟨_, rfl, fun _ => journalRx_ok _ _ _⟩
  | straitCheck => exact ⟨_, rfl, fun _ => checkRx_ok _ _⟩
  | straitAck => exact ⟨_, rfl, fun _ => ackRx_ok _ _ _ _⟩
  | straitWindowResult => exact ⟨_, rfl, fun _ => windowResultRx_ok _ _⟩
  | straitNotice => exact ⟨_, rfl, fun _ => noticeRx_ok _ _⟩
  | straitGiveUp => exact ⟨_, rfl, fun _ => giveUpRx_ok _ _⟩
  | straitCopy => exact ⟨_, if_pos hwf, fun _ => copyRx_ok _ _⟩
  | straitHello => exact ⟨_, rfl, fun _ => helloRx_ok _ _⟩
  | straitResend => exact ⟨_, rfl, fun _ => linkError_ok _⟩
  | straitFrameError => exact ⟨_, rfl, fun _ => frameError_ok _ _⟩
  | straitSilent => exact ⟨_, rfl, fun _ => straitSilent_ok _⟩
  | straitLaneDown => exact ⟨_, rfl, fun _ => laneDown_ok _ _⟩
  | statusFrameTx => exact ⟨_, rfl, fun _ => statusTx_ok _⟩
  | standbyResultTimeout => exact ⟨_, rfl, fun _ => resultTimeout_ok _⟩
  | eligibilityRegained => exact ⟨_, rfl, fun _ => regain_ok _⟩
  | joinJournalDone => exact ⟨_, rfl, fun _ => journalDone_ok _⟩
  | joinTimeout => exact ⟨_, rfl, fun _ => joinTimeout_ok _⟩
  | joinComplete => exact ⟨_, rfl, fun _ => joinComplete_ok _⟩
  | joinRetry => exact ⟨_, rfl, fun _ => joinRetry_ok _⟩
  | pairHandover => exact ⟨_, rfl, fun _ => pairHandover_ok _ _⟩
  | pairClearCounts => exact ⟨_, rfl, fun _ => fun h => setReg_ok h _ _⟩
  | faultClearLevel => exact ⟨_, rfl, fun _ => clearLevel_ok _⟩
  | faultClearCounts => exact ⟨_, rfl, fun _ => clearCounts_ok _⟩
  | faultTableWrite => exact ⟨_, rfl, fun _ => writeFaultTable_ok _ _ _⟩
  | faultSevFloorWrite => exact ⟨_, rfl, fun _ => writeSevFloor_ok _ _⟩
  | scrubRead => exact ⟨_, rfl, fun _ => scrubRead_ok _ _ _ _⟩
  | correctionAgeOut => exact ⟨_, rfl, fun _ => correctionAgeOut_ok _ _ _⟩
  | fmSelfFault => exact ⟨_, rfl, fun _ => raise_ok _ _ _ _ _⟩
  | powerValid => exact ⟨_, rfl, fun _ => powerValid_ok _ _⟩
  | supplyInterruptionBegin => exact ⟨_, rfl, fun _ => interruptBegin_ok _ _⟩
  | supplyInterruptionEnd => exact ⟨_, rfl, fun _ => interruptEnd_ok _ _⟩
  | supplyHigh => exact ⟨_, rfl, fun _ => supplyHigh_ok _ _⟩
  | powerFailWarning => exact ⟨_, rfl, fun _ => powerFail_ok _⟩
  | powerDown => exact ⟨_, rfl, fun _ => powerDown_ok _⟩
  | skerryMinute => exact ⟨_, rfl, fun _ => skerryMinute_ok _⟩
  | skerrySleepHour => exact ⟨_, rfl, fun _ => sleepHour_ok _⟩
  | xtalFault => exact ⟨_, rfl, fun _ => xtalFault_ok _⟩
  | tcxoSettled => exact ⟨_, rfl, fun _ => tcxoSettles_ok _⟩
  | wakingDone => exact ⟨_, rfl, fun _ => wakingDone_ok _ _ _⟩
  | imageChecksDone => exact ⟨_, rfl, fun _ => imageChecks_ok _⟩
  | bootLoadsDone => exact ⟨_, rfl, fun _ => bootLoads_ok _⟩
  | startGate => exact ⟨_, rfl, fun _ => startGate_ok _⟩
  | modStart => exact ⟨_, rfl, fun _ => modStart_ok _⟩
  | modStartMaintenance => exact ⟨_, rfl, fun _ => modMaintenance_ok _⟩
  | modSleep => exact ⟨_, rfl, fun _ => modSleep_ok _⟩
  | sleepEntryComplete => exact ⟨_, rfl, fun _ => sleepComplete_ok _⟩
  | wake => exact ⟨_, rfl, fun _ => wake_ok _ _ _⟩
  | imgOpen => exact ⟨_, rfl, fun _ => imgCommand_ok _ _ _ _⟩
  | imgWrite => exact ⟨_, rfl, fun _ => imgCommand_ok _ _ _ _⟩
  | imgClose => exact ⟨_, rfl, fun _ => imgCommand_ok _ _ _ _⟩
  | imgErase => exact ⟨_, rfl, fun _ => imgCommand_ok _ _ _ _⟩
  | imgLoad => exact ⟨_, rfl, fun _ => imgCommand_ok _ _ _ _⟩
  | imgSetBoot => exact ⟨_, rfl, fun _ => imgCommand_ok _ _ _ _⟩
  | imgInfo => exact ⟨_, rfl, fun _ => imgCommand_ok _ _ _ _⟩
  | imgCmdComplete => exact ⟨_, rfl, fun _ => imgComplete_ok _⟩
  | tempHigh => exact ⟨_, rfl, fun _ => tempHigh_ok _ _ _ _⟩
  | tempCritical => exact ⟨_, rfl, fun _ => tempCritical_ok _ _ _ _⟩
  | recorderSample => exact ⟨_, rfl, fun _ => recorderSample_ok _ _ _ _ _ _ _ _⟩
  | logEntryWrite => exact ⟨_, rfl, fun _ => logEntryWrite_ok _⟩
  | recAppEntry => exact ⟨_, rfl, fun _ => recAppEntry_ok _ _⟩
  | recCmdClear => exact ⟨_, rfl, fun _ => recCmdClear_ok _ _⟩
  | recClearDone => exact ⟨_, rfl, fun _ => recClearDone_ok _⟩
  | recInfo => exact ⟨_, rfl, fun _ => fun h => svcServe_ok _ _ _ h fun _ h => recInfo_ok _ _ h⟩
  | recQuant => exact ⟨_, rfl, fun _ => fun h => svcServe_ok _ _ _ h fun _ h => recQuant_ok _ _ h⟩
  | recLog => exact ⟨_, rfl, fun _ => fun h => svcServe_ok _ _ _ h fun _ h => recLog_ok _ _ h⟩
  | recClear => exact ⟨_, rfl, fun _ => fun h => svcServe_ok _ _ _ h fun _ h => recClear_ok _ _ h⟩
  | svcInfo => exact ⟨_, rfl, fun _ => fun h => svcServe_ok _ _ _ h fun _ h => svcInfo_ok _ _ h⟩
  | svcChallenge => exact ⟨_, rfl, fun _ => fun h => svcServe_ok _ _ _ h fun _ h => svcChallenge_ok _ _ h⟩
  | svcOpen => exact ⟨_, rfl, fun _ => fun h => svcServe_ok _ _ _ h fun _ h => svcOpen_ok _ _ _ _ h⟩
  | svcClose => exact ⟨_, rfl, fun _ => fun h => svcServe_ok _ _ _ h fun _ h => svcClose_ok _ _ h⟩
  | svcSetSecret => exact ⟨_, rfl, fun _ => fun h => svcServe_ok _ _ _ h fun _ h => svcSetSecret_ok _ _ _ _ _ h⟩
  | svcRegRead => exact ⟨_, rfl, fun _ => fun h => svcServe_ok _ _ _ h fun _ h => svcRegRead_ok _ _ h⟩
  | svcRegWrite => exact ⟨_, if_pos (of_decide_eq_true hwf), fun _ => fun h => svcServe_ok _ _ _ h fun _ h => svcRegWrite_ok _ _ _ h⟩
  | svcImg => exact ⟨_, if_pos (of_decide_eq_true hwf), fun _ => fun h => svcServe_ok _ _ _ h fun _ h => svcImg_ok _ _ _ _ _ _ h⟩
  | svcImgData => exact ⟨_, if_pos (of_decide_eq_true hwf), fun _ => fun h => svcServe_ok _ _ _ h fun _ h => svcImgData_ok _ _ _ h⟩
  | svcKeyEnrol => exact ⟨_, rfl, fun _ => fun h => svcServe_ok _ _ _ h fun _ h => svcKeyEnrol_ok _ _ _ _ h⟩
  | svcRestart => exact ⟨_, rfl, fun _ => fun h => svcServe_ok _ _ _ h fun _ h => svcRestart_ok _ _ h⟩
  | svcUnknownOp => exact ⟨_, rfl, fun _ => svcUnknown_ok _ _ _⟩
  | svcCmdClose => exact ⟨_, rfl, fun _ => svcCmdClose_ok _⟩
  | svcIdleTimeout => exact ⟨_, rfl, fun _ => svcIdle_ok _⟩
  | svcLinkLoss => exact ⟨_, rfl, fun _ => fun h => svcShut_ok _ _ (ok_of_same h rfl rfl rfl rfl)⟩
  | nonceExpiry => exact ⟨_, rfl, fun _ => nonceExpiry_ok _⟩
  | lockoutEnd => exact ⟨_, rfl, fun _ => lockoutEnd_ok _⟩
  | jtagExtest => exact ⟨_, rfl, fun _ => tapDrive_ok _ _⟩
  | jtagSamplePreload => exact ⟨_, rfl, fun _ => samplePreload_ok _ _⟩
  | jtagIdcode => exact ⟨_, rfl, fun _ => jtagIdcode_ok _⟩
  | jtagClamp => exact ⟨_, rfl, fun _ => tapDrive_ok _ _⟩
  | jtagHighz => exact ⟨_, rfl, fun _ => tapDrive_ok _ _⟩
  | jtagBypass => exact ⟨_, rfl, fun _ => jtagBypass_ok _ _⟩
  | tapReset => exact ⟨_, rfl, fun _ => tapReset_ok _⟩
  | quadratureError => exact ⟨_, rfl, fun _ => quadError_ok _ _⟩
  | canRxError => exact ⟨_, rfl, fun _ => rxError_ok _ _ _ _ _⟩
  | announceReceiptTimeout => exact ⟨_, rfl, fun _ => announceLost_ok _ _⟩
  | holdUpStoreCharged => exact ⟨_, rfl, fun _ => storeCharged_ok _⟩
  | skerrySupplyLoss => exact ⟨_, rfl, fun _ => skerryLoss_ok _⟩
  | svcLinkUp => exact ⟨_, rfl, fun _ => svcLinkUp_ok _⟩
  | straitLaneUp => exact ⟨_, rfl, fun _ => fun h => setBit_ok _ _ _ _ (heard_ok _ h)⟩

/-- A command that is not well formed stops with the model's one fault. -/
theorem exec_of_not_wellFormed {c : Instr} (h : c.wellFormed = false) (s : State) : exec c s = .fault .illFormed := by
  unfold Instr.wellFormed at h
  split at h
  case h_1 | h_2 | h_6 => exact if_neg (Bool.eq_false_iff.1 h)
  case h_10 => cases h
  all_goals exact if_neg (of_decide_eq_false h)

/-- A command that answers a next state keeps queue and canonical form. -/
theorem exec_ok {c : Instr} {s t : State} (h : exec c s = .next t) {q : List Instr} (hs : Ok q s) : Ok q t := by
  cases hwf : c.wellFormed with
  | false => rw [exec_of_not_wellFormed hwf] at h; cases h
  | true =>
    obtain ⟨u, hu, hkeep⟩ := exec_completes c s hwf
    rw [h] at hu
    cases hu
    exact hkeep q hs

/-- Settles O6: `exec_completes` and `exec_of_not_wellFormed`. -/
theorem wellFormedCommandsComplete : Obligations.WellFormedCommandsComplete := by
  unfold Obligations.WellFormedCommandsComplete
  intro c s
  refine ⟨fun hwf => ?_, fun hwf => exec_of_not_wellFormed hwf s⟩
  obtain ⟨t, ht, _⟩ := exec_completes c s hwf
  exact ⟨t, ht⟩

/-- Settles O5: `exec_ok` for the commands, `tick_ok` for the clock edge. -/
theorem commandsLeaveTheQueue : Obligations.CommandsLeaveTheQueue := by
  unfold Obligations.CommandsLeaveTheQueue
  exact ⟨fun c s t hs h => (exec_ok h ⟨rfl, hs⟩).1, fun s hs => (tick_ok s ⟨rfl, hs⟩).1⟩

/-- Settles O4: by what stands at the front of the queue, `exec_ok` or `tick_ok`; the queue's rest is no part of the canonical
form. -/
theorem everyStepKeepsTheStateSound : Obligations.EveryStepKeepsTheStateSound := by
  unfold Obligations.EveryStepKeepsTheStateSound
  intro s t hs h
  unfold step at h
  split at h
  case h_1 c rest _ => exact (exec_ok h (q := rest) ⟨rfl, hs⟩).2
  case h_2 =>
    cases h
    exact (tick_ok s ⟨rfl, hs⟩).2

end Sys2Proof.Machine
end

section
/-!
PROOFS. The 160/128 code (R354 to R356): syndromes are linear, so those of a word in error are those of the error alone.
-/

namespace Sys2Proof.Machine

/-! ### Multiplication by powers of α -/

/-- Doubling is linear. -/
theorem gfDouble_xor (a b : Byte) : gfDouble (a ^^^ b) = gfDouble a ^^^ gfDouble b := by
  simp only [gfDouble, BitVec.getLsbD_xor, BitVec.shiftLeft_xor_distrib]
  have hcancel : a <<< 1 ^^^ b <<< 1 = (a <<< 1 ^^^ 0x1D) ^^^ (b <<< 1 ^^^ 0x1D) := by
    calc a <<< 1 ^^^ b <<< 1 = (a <<< 1 ^^^ b <<< 1) ^^^ (0x1D ^^^ 0x1D) := by rw [BitVec.xor_self, BitVec.xor_zero]
      _ = (a <<< 1 ^^^ 0x1D) ^^^ (b <<< 1 ^^^ 0x1D) := by ac_rfl
  cases a.getLsbD 7 <;> cases b.getLsbD 7
  · rfl
  · exact BitVec.xor_assoc ..
  · simp only [Bool.xor_false, if_true, Bool.false_eq_true, if_false]
    ac_rfl
  · exact hcancel

/-- Only 0 doubled is 0. -/
theorem gfDouble_ne_zero : ∀ a : Byte, a ≠ 0 → gfDouble a ≠ 0 := by decide

/-- A power of α times 0. -/
theorem gfShift_zero (n : Nat) : gfShift 0 n = 0 := by
  induction n with
  | zero => rfl
  | succ n ih => rw [gfShift, ih]; rfl

/-- A power of α times a symbol other than 0. -/
theorem gfShift_ne_zero {a : Byte} (h : a ≠ 0) (n : Nat) : gfShift a n ≠ 0 := by
  induction n with
  | zero => exact h
  | succ n ih => exact gfDouble_ne_zero _ ih

/-- A power of α times a sum. -/
theorem gfShift_xor (a b : Byte) (n : Nat) : gfShift (a ^^^ b) n = gfShift a n ^^^ gfShift b n := by
  induction n with
  | zero => rfl
  | succ n ih => rw [gfShift, ih, gfDouble_xor, ← gfShift, ← gfShift]

/-- Powers of α multiply. -/
theorem gfShift_gfShift (a : Byte) (m n : Nat) : gfShift (gfShift a m) n = gfShift a (m + n) := by
  induction n with
  | zero => rfl
  | succ n ih => rw [gfShift, ih, ← Nat.add_assoc, gfShift]

/-- No power of α from 1 to 19 fixes a symbol other than 0. -/
theorem gfShift_ne_self : ∀ d : Fin 20, d.val ≠ 0 → ∀ e : Byte, e ≠ 0 → gfShift e d.val ≠ e := by decide +kernel

/-- The first 20 powers of α take a symbol other than 0 to different symbols: two syndromes give the place of an error. -/
theorem gfShift_inj {e : Byte} (he : e ≠ 0) {p q : Nat} (hp : p < 20) (hq : q < 20) (h : gfShift e p = gfShift e q) : p = q := by
  wlog hle : p ≤ q generalizing p q
  · exact (this hq hp h.symm (Nat.le_of_not_le hle)).symm
  by_contra hne
  refine gfShift_ne_self ⟨q - p, by omega⟩ (by simp only; omega) (gfShift e p) (gfShift_ne_zero he p) ?_
  rw [gfShift_gfShift, Nat.add_sub_cancel' hle, h]

/-! ### Syndromes -/

/-- The value of a sum of polynomials. -/
theorem polyAt_zipWith_xor (j : Nat) (cs ds : List Byte) (h : cs.length = ds.length) :
    polyAt j (List.zipWith (· ^^^ ·) cs ds) = polyAt j cs ^^^ polyAt j ds := by
  induction cs generalizing ds with
  | nil =>
    cases List.length_eq_zero_iff.1 h.symm
    exact BitVec.xor_self.symm
  | cons c cs ih =>
    obtain ⟨d, ds, rfl⟩ := List.exists_cons_of_length_eq_add_one h.symm
    rw [List.zipWith_cons_cons, polyAt, ih ds (Nat.succ.inj h), gfShift_xor, polyAt, polyAt]
    ac_rfl

/-- The value of the polynomial 0. -/
theorem polyAt_replicate_zero (j n : Nat) : polyAt j (List.replicate n 0) = 0 := by
  induction n with
  | zero => rfl
  | succ n ih => rw [List.replicate_succ, polyAt, ih, gfShift_zero]; rfl

/-- The value of a monomial. -/
theorem polyAt_set_zeros (j : Nat) (e : Byte) {n p : Nat} (h : p < n) :
    polyAt j ((List.replicate n 0).set p e) = gfShift e (p * j) := by
  induction n generalizing p with
  | zero => exact absurd h (Nat.not_lt_zero p)
  | succ n ih =>
    cases p with
    | zero => rw [List.replicate_succ, List.set_cons_zero, polyAt, polyAt_replicate_zero, gfShift_zero]; simp [gfShift]
    | succ p =>
      rw [List.replicate_succ, List.set_cons_succ, polyAt, ih (Nat.lt_of_succ_lt_succ h), gfShift_gfShift, Nat.succ_mul]
      exact BitVec.zero_xor

/-- Where symbol c_p stands in the word (R354). -/
def symbolAt (p : Nat) : Nat := if p < 4 then 128 + 8 * p else 8 * (p - 4)

/-- The symbols of a word in their order. -/
theorem codeSymbols_eq (w : BitVec 160) : codeSymbols w = (List.range 20).map (fun p => w.extractLsb' (symbolAt p) 8) := rfl

/-- A word has 20 symbols. -/
theorem length_codeSymbols (w : BitVec 160) : (codeSymbols w).length = 20 := rfl

/-- The symbols of a sum of words. -/
theorem codeSymbols_xor (w v : BitVec 160) :
    codeSymbols (w ^^^ v) = List.zipWith (· ^^^ ·) (codeSymbols w) (codeSymbols v) := by
  simp only [codeSymbols_eq, List.zipWith_map, List.zipWith_self, BitVec.extractLsb'_xor]

/-- Syndromes are linear. -/
theorem syndrome_xor (w v : BitVec 160) (j : Nat) : syndrome (w ^^^ v) j = syndrome w j ^^^ syndrome v j := by
  rw [syndrome, codeSymbols_xor]
  exact polyAt_zipWith_xor j _ _ ((length_codeSymbols w).trans (length_codeSymbols v).symm)

/-- A word that decodes CLEAN has the syndromes 0. -/
theorem syndrome_of_clean {w : BitVec 160} (h : decode160 w = .clean) {j : Nat} (hj : j < 4) : syndrome w j = 0 := by
  simp only [decode160] at h
  split at h
  case isTrue h0 =>
    obtain ⟨h0, h1, h2, h3⟩ := h0
    match j, hj with
    | 0, _ => exact h0
    | 1, _ => exact h1
    | 2, _ => exact h2
    | 3, _ => exact h3
  case isFalse =>
    split at h
    · cases h
    · split at h <;> cases h

/-! ### An error in one symbol -/

/-- The error `e` in symbol c_p, as a word. -/
def symbolError (p : Nat) (e : Byte) : BitVec 160 := e.setWidth 160 <<< symbolAt p

/-- A symbol of an error: 0 but for the one in error. -/
theorem extract_symbolError {i p : Nat} (hi : i < 20) (hp : p < 20) (e : Byte) :
    (symbolError p e).extractLsb' (symbolAt i) 8 = if p = i then e else 0 := by
  apply BitVec.eq_of_getLsbD_eq
  intro k hk
  rw [symbolError, BitVec.getLsbD_extractLsb', BitVec.getLsbD_shiftLeft, BitVec.getLsbD_setWidth]
  have hin : symbolAt i + k < 160 := by unfold symbolAt; split <;> omega
  by_cases h : p = i
  · subst h
    simp [hk, hin, Nat.lt_trans hk]
  · have hout : symbolAt i + k < symbolAt p ∨ 8 ≤ symbolAt i + k - symbolAt p := by
      unfold symbolAt
      split <;> split <;> omega
    rcases hout with hlow | hhigh
    · simp [h, hlow]
    · simp [h, BitVec.getLsbD_of_ge e _ hhigh]

/-- The symbols of an error: 0 but for the one in error. -/
theorem codeSymbols_symbolError {p : Nat} (hp : p < 20) (e : Byte) :
    codeSymbols (symbolError p e) = (List.replicate 20 0).set p e := by
  refine List.ext_getElem (by simp [length_codeSymbols]) fun i hi _ => ?_
  have hi20 : i < 20 := by rwa [length_codeSymbols] at hi
  simp only [codeSymbols_eq, List.getElem_set, List.getElem_map, List.getElem_range, extract_symbolError hi20 hp,
    List.getElem_replicate]

/-- The syndromes of an error in one symbol. -/
theorem syndrome_symbolError {p : Nat} (hp : p < 20) (e : Byte) (j : Nat) : syndrome (symbolError p e) j = gfShift e (p * j) := by
  rw [syndrome, codeSymbols_symbolError hp, polyAt_set_zeros j e hp]

/-- A clean word with an error in one symbol has the error's syndromes. -/
theorem syndrome_of_error {w : BitVec 160} (hw : decode160 w = .clean) {p : Nat} (hp : p < 20) (e : Byte) {j : Nat} (hj : j < 4) :
    syndrome (w ^^^ symbolError p e) j = gfShift e (p * j) := by
  rw [syndrome_xor, syndrome_of_clean hw hj, syndrome_symbolError hp]
  exact BitVec.zero_xor

/-- An error in one symbol decodes CORRECTED at its place. -/
theorem decode160_of_error {w : BitVec 160} (hw : decode160 w = .clean) {p : Nat} (hp : p < 20) {e : Byte} (he : e ≠ 0) :
    decode160 (w ^^^ symbolError p e) = .corrected p := by
  have hfind : (List.range 20).find? (fun q => decide (e ≠ 0) && decide (gfShift e p = gfShift e q)
      && decide (gfShift e (p * 2) = gfShift (gfShift e p) q) && decide (gfShift e (p * 3) = gfShift (gfShift e (p * 2)) q))
      = some p := by
    rw [List.find?_range_eq_some]
    refine ⟨by simpa [gfShift_gfShift, Nat.mul_succ] using he, List.mem_range.2 hp, fun q hq => ?_⟩
    have hother : gfShift e p ≠ gfShift e q := fun h => Nat.ne_of_gt hq (gfShift_inj he hp (Nat.lt_trans hq hp) h)
    simp [hother]
  have hs0 : syndrome (w ^^^ symbolError p e) 0 = e := syndrome_of_error hw hp e (by decide)
  have hs1 := syndrome_of_error hw hp e (j := 1) (by decide)
  rw [Nat.mul_one] at hs1
  simp only [decode160, hs0, hs1, syndrome_of_error hw hp e (j := 2) (by decide), syndrome_of_error hw hp e (j := 3) (by decide),
    he, false_and, if_false, hfind]

/-- The correction of an error in one symbol gives the data of the clean word. -/
theorem correctedBytes_of_error {w : BitVec 160} (hw : decode160 w = .clean) {p : Nat} (hp : p < 20) (e : Byte) :
    correctedBytes (w ^^^ symbolError p e) p = (List.range 16).map (fun i => w.extractLsb' (8 * i) 8) := by
  have hs0 : syndrome (w ^^^ symbolError p e) 0 = e := syndrome_of_error hw hp e (by decide)
  have hback : setNth (codeSymbols (w ^^^ symbolError p e)) p (nth 0 (codeSymbols (w ^^^ symbolError p e)) p ^^^ e)
      = codeSymbols w := by
    refine List.ext_getElem (by simp [setNth, length_codeSymbols]) fun i _ hi => ?_
    have hi20 : i < 20 := by rwa [length_codeSymbols] at hi
    simp only [setNth, nth, codeSymbols_eq, List.getElem_set, List.getElem_map, List.getElem_range, BitVec.extractLsb'_xor,
      extract_symbolError hi20 hp]
    split
    case isTrue h =>
      subst h
      simp [hp, extract_symbolError hp hp]
    case isFalse => exact BitVec.xor_zero
  simp only [correctedBytes, hs0, hback]
  rfl

/-! ### The poison mark -/

/-- Coefficients 0 above a polynomial do not change its value. -/
theorem polyAt_append_zeros (j : Nat) (cs : List Byte) (n : Nat) : polyAt j (cs ++ List.replicate n 0) = polyAt j cs := by
  induction cs with
  | nil => exact polyAt_replicate_zero j n
  | cons c cs ih => rw [List.cons_append, polyAt, ih, polyAt]

/-- The poison mark has the syndromes that the decoder looks for. -/
theorem syndrome_poisonMark (j : Nat) : syndrome ((0x5A5A5A5A : BitVec 160) <<< 128) j = markSyndrome j :=
  polyAt_append_zeros j [0x5A, 0x5A, 0x5A, 0x5A] 16

/-- The word with the poison mark decodes POISONED. -/
theorem decode160_of_mark {w : BitVec 160} (hw : decode160 w = .clean) :
    decode160 (w ^^^ (0x5A5A5A5A : BitVec 160) <<< 128) = .poisoned := by
  have hs : ∀ {j}, j < 4 → syndrome (w ^^^ (0x5A5A5A5A : BitVec 160) <<< 128) j = markSyndrome j := fun hj => by
    rw [syndrome_xor, syndrome_of_clean hw hj, syndrome_poisonMark]
    exact BitVec.zero_xor
  have hmark : markSyndrome 0 = 0 ∧ markSyndrome 1 ≠ 0 := by decide
  obtain ⟨h0, h1⟩ := hmark
  have hs0 : syndrome (w ^^^ (0x5A5A5A5A : BitVec 160) <<< 128) 0 = 0 := (hs (by decide)).trans h0
  rw [decode160, if_neg fun h => h1 ((hs (by decide)).symm.trans h.2.1),
    if_pos ⟨hs0, hs (by decide), hs (by decide), hs (by decide)⟩]

/-- Settles O54: `decode160_of_error`, `correctedBytes_of_error` and `decode160_of_mark`. -/
theorem singleSymbolErrorsAreCorrected : Obligations.SingleSymbolErrorsAreCorrected := by
  unfold Obligations.SingleSymbolErrorsAreCorrected
  exact fun w hw => ⟨fun p e he => ⟨decode160_of_error hw p.isLt he, correctedBytes_of_error hw p.isLt e⟩, decode160_of_mark hw⟩

end Sys2Proof.Machine
end

section
/-!
PROOFS. The issue of an entry that is poisoned or fails (R42, R48).
-/

namespace Sys2Proof.Machine

/-- A due entry of the kind that fails at issue answers the failure's report. -/
theorem issueEntry_of_failure {kind : Nat} {i : BitVec 16} {needs : State → Entry → Needs} {e : Entry} {ev : EvDef} {flag b : Nat}
    {s : State} (hat : entryAt s i.toNat = some e) (hdue : entryDue s i.toNat e = true) (hclean : e.poison = false)
    (hkind : e.kind = kind)
    (hfail : entryFailure (passEntry s i.toNat) e (needs (passEntry s i.toNat) e) = some (ev, flag, b))
    (body : Entry → State → State) :
    issueEntry kind i needs body s = failEntry (passEntry s i.toNat) ev flag i.toNat kind b := by
  simp [issueEntry, hat, hdue, hclean, hkind, hfail]

/-- A due entry that is poisoned answers the report of ENTRY_POISON, whatever its kind. -/
theorem issueEntry_of_poison {i : BitVec 16} {e : Entry} {s : State} (hat : entryAt s i.toNat = some e)
    (hdue : entryDue s i.toNat e = true) (hpoison : e.poison = true) (kind : Nat) (needs : State → Entry → Needs)
    (body : Entry → State → State) : issueEntry kind i needs body s = failPoison (passEntry s i.toNat) i.toNat := by
  simp [issueEntry, hat, hdue, hpoison]

/-- The first failure in R48's order is that of the scan. -/
theorem entryFailure_late {e : Entry} {s : State} (h : e.offset < s.chrono.offset ∨ 4 ≤ s.chrono.mtIssued) (n : Needs) :
    entryFailure s e n = some (Ev.scanLate, 2, min (s.chrono.offset - e.offset) (2 ^ 32 - 1)) := if_pos h

/-- An entry in time fails first by the gated domain that it needs. -/
theorem entryFailure_notReady {e : Entry} {n : Needs} {s : State} (h : ¬(e.offset < s.chrono.offset ∨ 4 ≤ s.chrono.mtIssued))
    {d : Domain} (hd : n.domain = some d) (hready : domReady s d = false) :
    entryFailure s e n = some (Ev.clockNotReady, 1, domBlock d) := by
  simp [entryFailure, h, hd, hready]

/-- An entry in time whose domain is ready fails by the first of its resources that is occupied. -/
theorem entryFailure_busy {e : Entry} {n : Needs} {s : State} (h : ¬(e.offset < s.chrono.offset ∨ 4 ≤ s.chrono.mtIssued))
    (hready : ∀ d, n.domain = some d → domReady s d = true) :
    entryFailure s e n = (n.resources.find? (fun x => busyRes s x.1)).map (fun x => (Ev.entryBusy, 0, resCode x.1)) := by
  rw [entryFailure, if_neg h]
  split
  · rename_i d hd
    rw [if_pos (hready d hd)]
    rfl
  · rfl

/-- The command ENTRY_POISON reports a due entry that is poisoned. -/
theorem execEntryPoison_of_poison {i : BitVec 16} {e : Entry} {s : State} (hat : entryAt s i.toNat = some e)
    (hdue : entryDue s i.toNat e = true) (hpoison : e.poison = true) :
    exec (.entryPoison i) s = .next (failPoison (passEntry s i.toNat) i.toNat) := by
  simp [exec, execEntryPoison, entryPoison, hat, hdue, hpoison]

/-- Settles O18: the reports by `issueEntry_of_failure` and `issueEntry_of_poison`, the order of the failures by
`entryFailure_late`, `entryFailure_notReady` and `entryFailure_busy`. -/
theorem entryFailuresAreReported : Obligations.EntryFailuresAreReported := by
  unfold Obligations.EntryFailuresAreReported
  refine ⟨fun kind i needs body e ev flag b s hat hdue hclean hkind hfail =>
      issueEntry_of_failure hat hdue hclean hkind hfail body,
    fun e n s h => entryFailure_late h n, fun e n s hoff hroom => ?_, fun kind i needs body e s hat hdue hpoison => ?_⟩
  · have hintime : ¬(e.offset < s.chrono.offset ∨ 4 ≤ s.chrono.mtIssued) := by omega
    exact ⟨fun d hd => entryFailure_notReady hintime hd, entryFailure_busy hintime⟩
  · exact ⟨issueEntry_of_poison hat hdue hpoison .., execEntryPoison_of_poison hat hdue hpoison,
      congrArg Host.Outcome.next (issueEntry_of_poison hat hdue hpoison ..)⟩

end Sys2Proof.Machine
end

section
/-!
PROOFS. Raising an event: the record that enters the pending store and what its status shows (R344, R346, R351, R352).
-/

namespace Sys2Proof.Machine

/-! ### The module level (R346) -/

/-- The level after a reaction is the stronger of the two. -/
theorem level_raiseLevel (s : State) (code : Nat) (r : Reaction) :
    fld (raiseLevel s code r) Reg.faultStatus 2 0 = max (fld s Reg.faultStatus 2 0) (rankOf r) := by
  unfold raiseLevel
  split
  case isTrue h =>
    have hsmall : rankOf r < 2 ^ (2 - 0 + 1) := by cases r <;> decide
    rw [fld, getReg_setReg_other _ (by decide), ← fld, fld_setFld_self _ _ _ (by decide) (by decide), Nat.mod_eq_of_lt hsmall]
    omega
  case isFalse h => omega

/-- A bit above the level stands beside it. -/
theorem level_setBit (s : State) {i : Nat} (hi : 2 < i) (b : Bool) :
    fld (setBit s Reg.faultStatus i b) Reg.faultStatus 2 0 = fld s Reg.faultStatus 2 0 :=
  fld_setFld_near s _ _ (Nat.le_refl i) (by decide) (by decide) (.inl hi)

/-- A record queued for the recorder leaves the level. -/
theorem level_queueRec (r : Record) (s : State) : fld (queueRec r s) Reg.faultStatus 2 0 = fld s Reg.faultStatus 2 0 := by
  rw [fld, getReg_queueRec_other r s (by decide), ← fld]

/-- The pending store leaves the level. -/
theorem level_setPending (s : State) (l : List Record) : fld (setPending s l) Reg.faultStatus 2 0 = fld s Reg.faultStatus 2 0 := by
  rw [setPending, fld_setFld_near _ _ _ (by decide) (by decide) (by decide) (.inl (by decide)),
    fld_setFld_near _ _ _ (by decide) (by decide) (by decide) (.inl (by decide))]
  rfl

/-! ### The status of a reaction (R344, R346) -/

/-- LOG alone has the lowest rank. -/
theorem rankOf_eq_zero_iff (r : Reaction) : rankOf r = 0 ↔ r = .log := by
  cases r <;> simp [rankOf]

/-- A reaction above LOG queues its record for the recorder and sets NOTIFIED. -/
theorem applyStatus_of_ne_log {r : Record} (h : r.reaction ≠ .log) (s : State) : applyStatus s r =
    raiseLevel (if r.reaction = .degrade then setBit (setBit (queueRec r s) Reg.faultStatus 4 true) Reg.faultStatus 3 true
      else setBit (queueRec r s) Reg.faultStatus 4 true) r.code r.reaction := by
  have hrank : 1 ≤ rankOf r.reaction := Nat.one_le_iff_ne_zero.2 (mt (rankOf_eq_zero_iff _).1 h)
  simp [applyStatus, hrank]

/-- LOG changes the level alone. -/
theorem applyStatus_of_log {r : Record} (h : r.reaction = .log) (s : State) :
    applyStatus s r = raiseLevel s r.code r.reaction := by
  simp [applyStatus, h, rankOf]

@[simp] theorem applyStatus_fm (s : State) (r : Record) : (applyStatus s r).fm = s.fm := by
  by_cases h : r.reaction = .log
  · rw [applyStatus_of_log h, raiseLevel_fm]
  · rw [applyStatus_of_ne_log h, raiseLevel_fm]
    split <;> rfl

@[simp] theorem raiseLevel_recQ (s : State) (code : Nat) (r : Reaction) : (raiseLevel s code r).recQ = s.recQ := by
  unfold raiseLevel
  split <;> rfl

/-- The level that a record's status leaves. -/
theorem level_applyStatus (s : State) (r : Record) :
    fld (applyStatus s r) Reg.faultStatus 2 0 = max (fld s Reg.faultStatus 2 0) (rankOf r.reaction) := by
  by_cases h : r.reaction = .log
  · rw [applyStatus_of_log h, level_raiseLevel]
  · rw [applyStatus_of_ne_log h, level_raiseLevel]
    split
    · rw [level_setBit _ (by decide), level_setBit _ (by decide), level_queueRec]
    · rw [level_setBit _ (by decide), level_queueRec]

/-- LOG leaves the recorder's queue. -/
theorem recQ_applyStatus_of_log {r : Record} (h : r.reaction = .log) (s : State) : (applyStatus s r).recQ = s.recQ := by
  rw [applyStatus_of_log h, raiseLevel_recQ]

/-- Every other reaction puts its record into the recorder's queue. -/
theorem recQ_applyStatus_of_ne_log {r : Record} (h : r.reaction ≠ .log) (s : State) :
    (applyStatus s r).recQ = s.recQ ++ [r] := by
  rw [applyStatus_of_ne_log h, raiseLevel_recQ]
  split <;> rfl

/-- Every reaction above LOG sets NOTIFIED. -/
theorem notified_applyStatus {r : Record} (h : r.reaction ≠ .log) (s : State) :
    bit (applyStatus s r) Reg.faultStatus 4 = true := by
  rw [applyStatus_of_ne_log h, bit_raiseLevel _ _ _ (by decide) (by decide)]
  split
  · rw [bit, setBit, fld_setFld_near _ _ _ (by decide) (by decide) (by decide) (.inr (by decide)), ← bit,
      bit_setBit_self _ _ _ (by decide)]
  · exact bit_setBit_self _ _ _ (by decide) _

/-- DEGRADE sets DEGRADED. -/
theorem degraded_applyStatus {r : Record} (h : r.reaction = .degrade) (s : State) :
    bit (applyStatus s r) Reg.faultStatus 3 = true := by
  rw [applyStatus_of_degrade h, bit_raiseLevel _ _ _ (by decide) (by decide), bit_setBit_self _ _ _ (by decide)]

/-! ### An event of LOG, NOTIFY or DEGRADE -/

/-- LOG, NOTIFY and DEGRADE have no effect beyond the record's status (R344). -/
theorem applyReaction_of_status {r : Record} (h : r.reaction = .log ∨ r.reaction = .notify ∨ r.reaction = .degrade) (rz : RaiseFn)
    (task : Nat) (s : State) : applyReaction rz task r s = applyStatus s r := by
  rcases h with h | h | h <;> simp only [applyReaction, h]

/-- With room in the pending store, an event of LOG, NOTIFY or DEGRADE enters it, and its status is shown. -/
theorem raise_of_status {e : EvDef} {src dA dB : Nat} {s : State} (hroom : s.fm.pending.length < 16)
    (h : (mkRecord s e src dA dB).reaction = .log ∨ (mkRecord s e src dA dB).reaction = .notify ∨
      (mkRecord s e src dA dB).reaction = .degrade) :
    raise e src dA dB s =
      applyStatus (setPending s (s.fm.pending ++ [mkRecord s e src dA dB])) (mkRecord s e src dA dB) := by
  rw [raise_of_room hroom, applyReaction_of_status h]

/-! ### A full pending store (R352) -/

@[simp] theorem showIsth_fm (s : State) : (showIsth s).fm = s.fm := rfl

@[simp] theorem showOverflow_fm (s : State) : (showOverflow s).fm = s.fm := rfl

@[simp] theorem countRecord_fm (s : State) (q : Nat) : (countRecord s q).2.fm = s.fm := rfl

/-- A record counted leaves the pending store. -/
@[simp] theorem toCounters_fm (s : State) (q : Nat) (r : Record) : (toCounters s q r).fm = s.fm := by
  simp only [toCounters, showOverflow_fm]
  split <;> rfl

/-- The entry of a failed posted write leaves the pending store. -/
@[simp] theorem freeEntry_fm (r : Record) (s : State) : (freeEntry r s).fm = s.fm := by
  unfold freeEntry
  split
  · split <;> rfl
  · rfl

/-- A full store takes no record below FAULT: it is counted. -/
theorem pushPending_of_full {s : State} {r : Record} (hfull : 16 ≤ s.fm.pending.length) (hsev : sevCode r.sev < 3) :
    (pushPending s r).1.fm = s.fm ∧ (pushPending s r).2 = false := by
  rw [pushPending, if_neg (Nat.not_lt.2 hfull), if_pos hsev]
  exact ⟨by rw [freeEntry_fm, setBit_fm, toCounters_fm, countRecord_fm], rfl⟩

/-- Settles O7: the frame by `raise_ev`, the record that finds room by `raise_of_status`, the full store by
`pushPending_of_full`. -/
theorem raisedEventsAreRecordedAndContained : Obligations.RaisedEventsAreRecordedAndContained := by
  unfold Obligations.RaisedEventsAreRecordedAndContained
  refine ⟨fun e src dA dB s => raise_ev e src dA dB s (ev_refl s), fun _ _ _ _ _ => ⟨rfl, rfl, rfl, rfl, rfl, rfl⟩, ?room, ?full⟩
  case room =>
    intro e src dA dB s r hr hroom hreaction
    subst hr
    rw [raise_of_status hroom hreaction]
    refine ⟨rfl, by simp, fun h => ?_, fun h => ?_, fun h => notified_applyStatus h _, fun h => degraded_applyStatus h _, ?_⟩
    · rw [recQ_applyStatus_of_log h]
      rfl
    · rw [recQ_applyStatus_of_ne_log h]
      rfl
    · rw [level_applyStatus, level_setPending]
  case full =>
    intro e src dA dB s hfull hsev hlog
    obtain ⟨hfm, hover⟩ := pushPending_of_full (r := mkRecord s e src dA dB) hfull hsev
    have hraise : raise e src dA dB s = applyStatus (pushPending s (mkRecord s e src dA dB)).1 (mkRecord s e src dA dB) := by
      simp [raise, raiseF, reactTo, hover, applyReaction_of_status (.inl hlog)]
    rw [hraise, applyStatus_fm, hfm]

end Sys2Proof.Machine
end

section
/-!
PROOFS. What a core's accesses, retirements, presentations and timer do (R26, R27, R57, R60, R62, R63, R77, R84, R148).
-/

namespace Sys2Proof.Machine

/-! ### Access faults -/

/-- An access of a core that executes and that the map faults. -/
theorem mapAccess_of_fault {l : Lane} {core : Fin 4} {addr : BitVec 40} {store excludes : Bool} {s : State}
    (hacts : coreActs s l core = true) (hfault : mapFault s l addr.toNat store = some excludes) :
    mapAccess l core addr store s = accessFault l core addr store excludes s := by
  simp [mapAccess, hacts, hfault]

/-- Accesses of the MRAM window by a core that executes. -/
theorem mramAccess_of_window {l : Lane} {core : Fin 4} {addr : BitVec 40} {s : State} (hacts : coreActs s l core = true)
    (hlow : 0x501000000 ≤ addr.toNat) (hhigh : addr.toNat < 0x501800000) (store : Bool) :
    mramAccess l core addr store s =
      if laneVotes s l ∧ (store ∨ running s) then accessFault l core addr store true s
      else if store then accessFault l core addr store false s
      else if ¬running s ∨ voteMode s = .split then s
      else accessFault l core addr store false s := by
  have hin : ¬(¬coreActs s l core ∨ addr.toNat < 0x501000000 ∨ 0x501800000 ≤ addr.toNat) := by
    simp only [hacts, not_true_eq_false, false_or]
    omega
  rw [mramAccess, if_neg hin]

/-- No lane votes in SPLIT. -/
theorem laneVotes_of_split {s : State} (h : voteMode s = .split) (l : Lane) : laneVotes s l = false := by
  simp [laneVotes, isVoting, h]

/-- Settles O22: `mapAccess_of_fault` and `mramAccess_of_window`. -/
theorem accessFaultsAreRaised : Obligations.AccessFaultsAreRaised := by
  unfold Obligations.AccessFaultsAreRaised
  refine ⟨fun l core addr store excludes s hacts hfault => ⟨_, rfl, congrArg Host.Outcome.next (mapAccess_of_fault hacts hfault)⟩,
    fun l core addr store s hacts hlow hhigh => ?_⟩
  have hexec : exec (.mramWindowAccess l core addr store) s = .next (mramAccess l core addr store s) := rfl
  rw [hexec, mramAccess_of_window hacts hlow hhigh]
  refine ⟨fun hvotes h => ?_, fun hvotes h => ?_, fun hread hstands => ?_, fun hread hvotes hsplit => ?_,
    fun hread hvotes hruns hmode => ?_⟩
  · simp [hvotes, h, accessFault]
  · simp [hvotes, h, accessFault]
  · simp [hread, hstands]
  · simp [hread, hvotes, hsplit]
  · simp [hread, hvotes, hruns, hmode, accessFault]

/-! ### Retirement -/

/-- An instruction with what the module answers to its read. -/
def answered (s : State) (l : Lane) (core : Fin 4) (w : Retire) : Retire :=
  { w with reg := w.reg.map (fun r => { r with value :=
    match w.load with
    | some ld => (readValue s l core r.fp ld).getD r.value
    | none => r.value }) }

/-- An instruction without exception: its register takes what the module answers to its read. -/
theorem instrOutcome_of_plain {l : Lane} {core : Fin 4} {w : Retire} {s : State} (htrap : w.trap = none)
    (hmem : memTrap s l w = none) (hpoison : poisonMet s l w = none) : instrOutcome s l core w = answered s l core w := by
  obtain ⟨machine, store, reg, trap, msnapsel, poisoned, parity, load⟩ := w
  obtain rfl : trap = none := htrap
  simp only [instrOutcome, hmem, hpoison]
  cases reg <;> cases load <;> rfl

/-- A core's retirement up to its store: the signals taken, the words folded, the registers written. -/
def retired (l : Lane) (core : Fin 4) (x : Retire) (s : State) : State :=
  coreWrites l core.val x ((foldWords x).foldl (fun t y => foldCore t l core.val y) (takeSignal l core s))

/-- A core that executes retires what its instruction comes to, its store after its words. -/
theorem retire_of_acts {l : Lane} {core : Fin 4} {s : State} (hacts : coreActs s l core = true) (w : Retire) :
    retire l core w s = raiseTrap l w s (match (instrOutcome s l core w).store with
      | some st => laneStore l st (retired l core (instrOutcome s l core w) s)
      | none => retired l core (instrOutcome s l core w) s) := if_pos hacts

/-- An instruction without exception raises nothing. -/
theorem raiseTrap_of_plain {l : Lane} {w : Retire} {before : State} (htrap : w.trap = none) (hmem : memTrap before l w = none)
    (hpoison : poisonMet before l w = none) (s : State) : raiseTrap l w before s = s := by
  simp only [raiseTrap, htrap, hmem, hpoison]

/-- The retirement of an instruction without exception. -/
theorem retire_of_plain {l : Lane} {core : Fin 4} {w : Retire} {s : State} (hacts : coreActs s l core = true)
    (htrap : w.trap = none) (hmem : memTrap s l w = none) (hpoison : poisonMet s l w = none) :
    (w.store = none → retire l core w s = retired l core (answered s l core w) s) ∧
    (∀ st, w.store = some st → retire l core w s = laneStore l st (retired l core (answered s l core w) s)) := by
  have hstore : (answered s l core w).store = w.store := rfl
  rw [retire_of_acts hacts, raiseTrap_of_plain htrap hmem hpoison, instrOutcome_of_plain htrap hmem hpoison, hstore]
  exact ⟨fun h => by rw [h], fun st h => by rw [h]⟩

/-- An access that faults or is misaligned is the instruction's exception. -/
theorem instrOutcome_of_memTrap {l : Lane} {core : Fin 4} {w : Retire} {code : BitVec 5} {mtval : Dword} {s : State}
    {ev : Option (BitVec 40 × Bool)} (htrap : w.trap = none) (hmem : memTrap s l w = some (code, mtval, ev)) :
    instrOutcome s l core w = trapped w code mtval := by
  simp only [instrOutcome, htrap, hmem]

/-- A poisoned word is the instruction's exception. -/
theorem instrOutcome_of_poison {l : Lane} {core : Fin 4} {w : Retire} {a : BitVec 40} {s : State} (htrap : w.trap = none)
    (hmem : memTrap s l w = none) (hpoison : poisonMet s l w = some a) :
    instrOutcome s l core w = trapped w 5 (a.zeroExtend 64) := by
  simp only [instrOutcome, htrap, hmem, hpoison]

/-- An instruction with an exception stores nothing. -/
theorem retire_of_trapped {l : Lane} {core : Fin 4} {w : Retire} {code : BitVec 5} {mtval : Dword} {s : State}
    (hacts : coreActs s l core = true) (hout : instrOutcome s l core w = trapped w code mtval) :
    retire l core w s = raiseTrap l w s (retired l core (trapped w code mtval) s) := by
  rw [retire_of_acts hacts, hout]
  rfl

/-! ### A store (R77) -/

@[simp] theorem retired_dram (l : Lane) (core : Fin 4) (x : Retire) (s : State) : (retired l core x s).dram = s.dram :=
  foldl_keeps (part := State.dram) (f := fun t y => foldCore t l core.val y) (fun _ _ => rfl) _ _

@[simp] theorem retired_sound (l : Lane) (core : Fin 4) (x : Retire) (s : State) : (retired l core x s).sound = s.sound :=
  foldl_keeps (part := State.sound) (f := fun t y => foldCore t l core.val y) (fun _ _ => rfl) _ _

/-- An abandoned FINAL leaves the memories. -/
theorem abortFinal_memories (s : State) : (abortFinal s).dram = s.dram ∧ (abortFinal s).sound = s.sound := by
  unfold abortFinal setCopyPhase
  split
  · split <;> exact ⟨rfl, rfl⟩
  · exact ⟨rfl, rfl⟩

/-- The dirty pages are shown; the memories stand. -/
theorem showDirty_memories (s : State) : (showDirty s).dram = s.dram ∧ (showDirty s).sound = s.sound := by
  simp only [showDirty]
  split <;> exact ⟨rfl, rfl⟩

/-- A dirty page leaves the memories. -/
theorem markDirty_memories (page : Nat) (s : State) : (markDirty page s).dram = s.dram ∧ (markDirty page s).sound = s.sound := by
  simp only [markDirty]
  split
  case isFalse => exact ⟨rfl, rfl⟩
  case isTrue =>
    obtain ⟨hd, hs⟩ := abortFinal_memories { s with rejoin := { s.rejoin with dirty := risingPut s.rejoin.dirty page } }
    rw [(showDirty_memories _).1, (showDirty_memories _).2]
    split <;> split <;> simp [hd, hs]

/-- A store to a lane's own DRAM changes that lane's DRAM alone. -/
theorem laneStore_memories (l : Lane) {w : StoreWord} (h : w.addr.toNat < 2 ^ 33) (s : State) :
    (laneStore l w s).dram = s.dram.set l (writeBytes (s.dram.get l) w.addr.toNat (leBytes (2 ^ w.size.toNat) w.data.toNat)) ∧
    (laneStore l w s).sound = s.sound := by
  simp only [laneStore, if_pos h]
  split
  · exact markDirty_memories _ _
  · exact ⟨rfl, rfl⟩

/-- A byte of a little-endian number. -/
theorem getElem_leBytes (n v : Nat) {i : Nat} (h : i < (leBytes n v).length) : (leBytes n v)[i] = BitVec.ofNat 8 (v / 256 ^ i) := by
  induction n generalizing v i with
  | zero => exact absurd h (Nat.not_lt_zero i)
  | succ n ih =>
    cases i with
    | zero => simp [leBytes]
    | succ i => simp only [leBytes, List.getElem_cons_succ, ih, Nat.div_div_eq_div_mul, Nat.pow_succ, Nat.mul_comm]

/-- Settles O24: the retirement by `retire_of_plain`, its store by `laneStore_memories`. -/
theorem instructionStoreFrame : Obligations.InstructionStoreFrame := by
  unfold Obligations.InstructionStoreFrame
  intro l core w st s hs hacts htrap hmem hpoison hstore haddr
  have hwf : Memory.wf (s.dram.get l) = true := ok_dram_get ⟨rfl, hs⟩ l
  refine ⟨_, congrArg Host.Outcome.next ((retire_of_plain hacts htrap hmem hpoison).2 st hstore), ?_⟩
  obtain ⟨hdram, hsound⟩ := laneStore_memories l haddr (retired l core (answered s l core w) s)
  simp only [hdram, hsound, retired_dram, retired_sound, PerLane.get_set_self]
  refine ⟨fun a ha => readByte_writeBytes_other _ _ (by rwa [length_leBytes]), fun i hi => ?_,
    fun m hm => PerLane.get_set_other _ hm _, trivial⟩
  have hlen : i < (leBytes (2 ^ st.size.toNat) st.data.toNat).length := by rwa [length_leBytes]
  rw [readByte_writeBytes_in _ hwf _ _ hlen, getElem_leBytes]

/-! ### Presentations -/

/-- The core's signals, words and registers leave the presentations. -/
theorem foldCore_present (s : State) (l : Lane) (core : Nat) (w : Sig) :
    (foldCore s l core w).meridian.present = s.meridian.present := rfl

/-! ### The timer of a core (R84) -/

/-- A bit of the timers' mask is its core's compare. -/
theorem testBit_timerBits (s : State) (l : Lane) (core : Fin 4) : (timerBits s l).testBit core.val =
    decide ((get64 s (bankedKey l.idx (Reg.laneTimecmpLo core.val))).toNat ≤ (corrected s).toNat) := by
  have hmask : ∀ (p : Fin 4 → Bool) (n : Fin 4),
      ([(if p 0 then 2 ^ 0 else 0), (if p 1 then 2 ^ 1 else 0), (if p 2 then 2 ^ 2 else 0), (if p 3 then 2 ^ 3 else 0)].sum : Nat).testBit
        n.val = p n := by decide
  have h := hmask (fun n => decide ((get64 s (bankedKey l.idx (Reg.laneTimecmpLo n.val))).toNat ≤ (corrected s).toNat)) core
  simp only [decide_eq_true_eq] at h
  exact h

/-- A lane's banked register is not LANE_STATE. -/
theorem bankedKey_ne_laneState (lane key : Nat) : Reg.laneState ≠ bankedKey lane key := by
  unfold bankedKey Reg.laneState
  omega

/-- A lane's interrupts in SPLIT: the timers shown and enabled. -/
theorem showIrqs_of_split {s : State} (l : Lane) (hmode : voteMode s = .split) (hlane : laneState s l = .splitRun) :
    (showIrqs l s).regs = (setFld s (bankedKey l.idx Reg.laneIrqPend) 3 0 (timerBits s l)).regs ∧
    ((showIrqs l s).lanes.get l).timerIrq = [0, 1, 2, 3].filter (fun n =>
      (fld (setFld s (bankedKey l.idx Reg.laneIrqPend) 3 0 (timerBits s l)) (bankedKey l.idx Reg.laneIrqPend) 3 0 &&&
        fld (setFld s (bankedKey l.idx Reg.laneIrqPend) 3 0 (timerBits s l)) (bankedKey l.idx Reg.laneIrqEn) 3 0).testBit n) := by
  have hother := fun hi lo => fld_setFld_other s (bankedKey_ne_laneState l.idx Reg.laneIrqPend) 3 0 (timerBits s l) hi lo
  have hmode' : voteMode (setFld s (bankedKey l.idx Reg.laneIrqPend) 3 0 (timerBits s l)) = .split := by
    rw [voteMode, hother, ← voteMode, hmode]
  have hlane' : laneState (setFld s (bankedKey l.idx Reg.laneIrqPend) 3 0 (timerBits s l)) l = .splitRun := by
    rw [laneState, hother, ← laneState, hlane]
  refine ⟨setLane_regs .., ?_⟩
  simp only [showIrqs, hmode', hlane', setLane, PerLane.get_set_self, decide_true, Bool.and_self, if_true]

/-- Settles O23: the retirement by `retire_of_plain` and `retire_of_trapped`, the timer by `testBit_timerBits`. -/
theorem laneCoreWork : Obligations.LaneCoreWork := by
  unfold Obligations.LaneCoreWork
  refine ⟨fun l core w x s hacts htrap hmem hpoison hx => ⟨_, rfl, ?_, ?_⟩,
    fun l core w code mtval s hacts htrap => ⟨retired l core (trapped w code mtval) s, rfl, fun hmem => ?_, fun a ex hmem => ?_,
      fun a hmem hpoison hcode hmtval => ?_⟩,
    fun l core v rd machine s hacts => ?_, fun l core p s hfind hroom => ?_, fun l core s hmode hlane hmet => ?_⟩
  · subst hx
    exact fun h => congrArg Host.Outcome.next ((retire_of_plain hacts htrap hmem hpoison).1 h)
  · subst hx
    exact fun st h => congrArg Host.Outcome.next ((retire_of_plain hacts htrap hmem hpoison).2 st h)
  · refine congrArg Host.Outcome.next ((retire_of_trapped hacts (instrOutcome_of_memTrap htrap hmem)).trans ?_)
    simp only [raiseTrap, htrap, hmem]
  · refine congrArg Host.Outcome.next ((retire_of_trapped hacts (instrOutcome_of_memTrap htrap hmem)).trans ?_)
    simp only [raiseTrap, htrap, hmem]
  · subst hcode hmtval
    refine congrArg Host.Outcome.next ((retire_of_trapped hacts (instrOutcome_of_poison htrap hmem hpoison)).trans ?_)
    simp only [raiseTrap, htrap, hmem, hpoison]
  · refine ⟨_, _, _, rfl, rfl, rfl, ?_⟩
    have hexec : exec (.sigpres l core v rd machine) s = .next (present l core v rd machine s) := rfl
    rw [hexec, present, if_pos hacts]
    refine ⟨fun h => congrArg Host.Outcome.next (if_pos ?_), fun h => congrArg Host.Outcome.next (if_neg (Nat.not_lt.2 ?_))⟩
    · split <;> exact h
    · split <;> exact h
  · refine congrArg Host.Outcome.next ?_
    simp only [presentStallEnd, hfind, if_pos hroom]
  · obtain ⟨hregs, htimer⟩ := showIrqs_of_split l hmode hlane
    have hbit : (timerBits s l).testBit core.val = true := by rw [testBit_timerBits, decide_eq_true hmet]
    exact ⟨_, _, rfl, congrArg Host.Outcome.next (if_pos ⟨hmode, hlane, hbit⟩), htimer, hregs⟩

end Sys2Proof.Machine
end

section
/-!
PROOFS. The cycle watchdog's check of a job at its deadline, and the TASK commands (R134 to R142).
-/

namespace Sys2Proof.Machine

/-- A module whose lanes vote is not in SPLIT. -/
theorem voteMode_ne_split {s : State} (h : isVoting s = true) : voteMode s ≠ .split := by
  intro hsplit
  simp [isVoting, hsplit] at h

/-- The check of a job that is due marks it as checked, and looks at the lanes that run it. -/
theorem deadlineCheck_of_due {t : Fin 48} {s : State} (hruns : running s = true) (hhas : (job s t.val).has = true)
    (hopen : (job s t.val).abandoned = false) (hfresh : (job s t.val).checked = false)
    (hdue : (job s t.val).deadlineMt ≤ s.time.mt) : deadlineCheck t s =
      (let s := setJob s t.val { job s t.val with checked := true }
      let ended := fun (s : State) => setFld s (Reg.taskOverrunCount t.val) 19 16 0
      if voteMode s = .split then
        let d := designated s
        let late := (lanesIn s .splitRun).filter (fun l => !(jobClosed s t.val l))
        let s := (late.filter (fun l => decide (l ≠ d))).foldl (fun s l => overrunLane t.val l s) s
        if late.contains d then overrun t s else ended s
      else if (votingLanes s).isEmpty then s
      else if (votingLanes s).any (jobClosed s t.val) then ended s
      else overrun t s) :=
  if_pos ⟨hruns, hhas, by simp [hopen], by simp [hfresh], hdue⟩

/-- In a module whose lanes vote, the job has ended where a voting lane has presented FINAL, and is an overrun otherwise. -/
theorem deadlineCheck_of_voting {t : Fin 48} {s : State} (hruns : running s = true) (hhas : (job s t.val).has = true)
    (hopen : (job s t.val).abandoned = false) (hfresh : (job s t.val).checked = false)
    (hdue : (job s t.val).deadlineMt ≤ s.time.mt) (hvotes : isVoting s = true) (hlanes : votingLanes s ≠ []) {u : State}
    (hu : u = setJob s t.val { job s t.val with checked := true }) : deadlineCheck t s =
      if (votingLanes s).any (jobClosed u t.val) then setFld u (Reg.taskOverrunCount t.val) 19 16 0 else overrun t u := by
  subst hu
  refine (deadlineCheck_of_due hruns hhas hopen hfresh hdue).trans ?_
  refine (if_neg (voteMode_ne_split hvotes)).trans (if_neg ?_)
  rw [List.isEmpty_iff]
  exact hlanes

/-- In SPLIT each late lane that is not the designated one is handled alone, and then the designated lane. -/
theorem deadlineCheck_of_split {t : Fin 48} {s : State} (hruns : running s = true) (hhas : (job s t.val).has = true)
    (hopen : (job s t.val).abandoned = false) (hfresh : (job s t.val).checked = false)
    (hdue : (job s t.val).deadlineMt ≤ s.time.mt) (hsplit : voteMode s = .split) {u v : State} {late : List Lane}
    (hu : u = setJob s t.val { job s t.val with checked := true })
    (hlate : late = (lanesIn u .splitRun).filter (fun l => !(jobClosed u t.val l)))
    (hv : v = (late.filter (fun l => decide (l ≠ designated u))).foldl (fun x l => overrunLane t.val l x) u) :
    deadlineCheck t s =
      if late.contains (designated u) then overrun t v else setFld v (Reg.taskOverrunCount t.val) 19 16 0 := by
  subst hv hlate hu
  exact (deadlineCheck_of_due hruns hhas hopen hfresh hdue).trans (if_pos hsplit)

/-- A job that is not due, or that needs no check, is left alone. -/
theorem deadlineCheck_of_not_due {t : Fin 48} {s : State}
    (h : (job s t.val).checked = true ∨ (job s t.val).abandoned = true ∨ s.time.mt < (job s t.val).deadlineMt) :
    deadlineCheck t s = s := by
  refine if_neg fun ⟨_, _, hopen, hfresh, hdue⟩ => ?_
  rcases h with h | h | h
  · exact hfresh h
  · exact hopen h
  · exact absurd hdue (Nat.not_le.2 h)

/-- Settles O31: `deadlineCheck_of_voting`, `deadlineCheck_of_split` and `deadlineCheck_of_not_due`. -/
theorem deadlinesAreChecked : Obligations.DeadlinesAreChecked := by
  unfold Obligations.DeadlinesAreChecked
  refine ⟨fun t s u hruns hhas hopen hfresh hdue hvotes hlanes hu => ?voting,
    fun t late s u v hruns hhas hopen hfresh hdue hsplit hu hlate hv => ?split,
    fun t s h => congrArg Host.Outcome.next (deadlineCheck_of_not_due h), fun t s _ => ?commands⟩
  case voting =>
    have hexec : exec (.deadlineCheck t) s = .next (deadlineCheck t s) := rfl
    rw [hexec, deadlineCheck_of_voting hruns hhas hopen hfresh hdue hvotes hlanes hu]
    refine ⟨fun hfinal => by rw [if_pos hfinal], fun hnone hstop => ?_, fun hnone hgoes => ⟨_, _, rfl, rfl, ?_⟩⟩
    · rw [if_neg (by simp [hnone]), overrun, if_pos hstop]
      rfl
    · rw [if_neg (by simp [hnone]), overrun, if_neg (by simp [hgoes])]
      rfl
  case split =>
    have hexec : exec (.deadlineCheck t) s = .next (deadlineCheck t s) := rfl
    rw [hexec, deadlineCheck_of_split hruns hhas hopen hfresh hdue hsplit hu hlate hv]
    exact ⟨fun h => by rw [if_neg (by simp only [h, Bool.false_eq_true, not_false_eq_true])], fun h => by rw [if_pos h]⟩
  case commands =>
    exact ⟨clearResp t.val s, clearCount t.val s, rfl, rfl, getReg_setReg_self .., getReg_setReg_self ..,
      fun k hk => getReg_setReg_other s hk _, fun k hk => getReg_setReg_other s hk _, rfl, rfl⟩

end Sys2Proof.Machine
end

section
/-!
PROOFS. The commands of safe connections (R213, R216, R219, R222).
-/

namespace Sys2Proof.Machine

/-! ### A connection enters a state -/

/-- The registers of a connection's configuration and status, and SAFE_STATUS, are different ones. -/
theorem safeConn_keys (c d : Nat) : Reg.safeConnCfg c ≠ Reg.safeConnStatus d ∧ Reg.safeConnCfg c ≠ Reg.safeStatus ∧
    Reg.safeConnStatus c ≠ Reg.safeStatus := by
  simp only [Reg.safeConnCfg, Reg.safeConnStatus, Reg.safeStatus]
  omega

/-- SAFE_STATUS follows a connection's state; every other register stands. -/
theorem getReg_setConnState_other (c st : Nat) (s : State) {k : Nat} (hconn : k ≠ Reg.safeConnStatus c)
    (hall : k ≠ Reg.safeStatus) : getReg (setConnState c st s) k = getReg s k := by
  simp only [setConnState, getReg_setFld_other _ hall, getReg_setFld_other _ hconn]

/-- The state that a connection has entered. -/
theorem connState_setConnState (c : Nat) {st : Nat} (hst : st < 8) (s : State) : connState (setConnState c st s) c = st := by
  have hkey := (safeConn_keys c c).2.2
  simp only [connState, setConnState, fld_setFld_other _ hkey]
  rw [fld_setFld_self _ _ _ (by decide) (by decide)]
  exact Nat.mod_eq_of_lt hst

theorem OnlyRegs.setConnState (c st : Nat) (s : State) : OnlyRegs s (setConnState c st s) := rfl

/-! ### Writes of SAFE_CONN_CFG -/

/-- A configuration written with its connection's state: what reads, and what stands. -/
theorem written_conn (c : Nat) {st : Nat} (hst : st < 8) (w : Word) (s : State) :
    getReg (setConnState c st (setReg s (Reg.safeConnCfg c) w)) (Reg.safeConnCfg c) = w ∧
    connState (setConnState c st (setReg s (Reg.safeConnCfg c) w)) c = st ∧
    OnlyRegs s (setConnState c st (setReg s (Reg.safeConnCfg c) w)) ∧
    ∀ k, k ≠ Reg.safeConnCfg c → k ≠ Reg.safeConnStatus c → k ≠ Reg.safeStatus →
      getReg (setConnState c st (setReg s (Reg.safeConnCfg c) w)) k = getReg s k := by
  obtain ⟨hstatus, hall, _⟩ := safeConn_keys c c
  refine ⟨?_, connState_setConnState c hst _, rfl, fun k hcfg hconn hk => ?_⟩
  · rw [getReg_setConnState_other c st _ hstatus hall, getReg_setReg_self]
  · rw [getReg_setConnState_other c st _ hconn hk, getReg_setReg_other s hcfg]

/-- A write with ENABLE that fails a check is refused. -/
theorem writeConnCfg_of_refused {c : Nat} {w : Word} {s : State} (hon : wordFld w 0 0 = 1) (hwhy : connReason s c w ≠ 0) :
    writeConnCfg c w s = refuseSafe c (connReason s c w) s := by
  simp only [writeConnCfg, if_pos hon, if_pos hwhy]

/-- A write with ENABLE that passes every check. -/
theorem writeConnCfg_of_passed {c : Nat} {w : Word} {s : State} (hon : wordFld w 0 0 = 1) (hwhy : connReason s c w = 0) :
    writeConnCfg c w s =
      if bit s (Reg.safeConnCfg c) 0 ∧ bit s (Reg.netFlowCfg (wordFld w 13 4)) 1 = decide (connState s c ≠ 5)
      then setReg s (Reg.safeConnCfg c) w
      else setConnState c (if bit s (Reg.netFlowCfg (wordFld w 13 4)) 1 then 1 else 5) (setReg s (Reg.safeConnCfg c) w) := by
  simp only [writeConnCfg, if_pos hon, hwhy, ne_eq, not_true_eq_false, if_false]

/-- A write without ENABLE leaves the connection DISABLED. -/
theorem writeConnCfg_of_off {c : Nat} {w : Word} {s : State} (hoff : wordFld w 0 0 = 0) :
    writeConnCfg c w s = setConnState c 0 (setReg s (Reg.safeConnCfg c) w) := by
  simp [writeConnCfg, hoff]

/-- A refusal shows its reason and is reported. -/
theorem refuseSafe_frame (c reason : Nat) (s : State) : ∃ u t,
    u = setReg s Reg.safeCfgResult (BitVec.ofNat 32 (reason + c * 256)) ∧ refuseSafe c reason s = t ∧
    t = raise Ev.safeCfgRefused c (connFlow u c) reason u ∧ OnlyEvents u t :=
  ⟨_, _, rfl, rfl, rfl, raise_ev _ _ _ _ _ (ev_refl _)⟩

/-- Settles O38: the writes by `writeConnCfg_of_passed`, `writeConnCfg_of_refused` and `writeConnCfg_of_off` with `written_conn`,
CLEAR_COUNTS by the rules of folds. -/
theorem safeConnectionCommands : Obligations.SafeConnectionCommands := by
  unfold Obligations.SafeConnectionCommands
  refine ⟨fun c v w s _ hw hon hoff hwhy => ?enable, fun c v w s hw hon honBefore hwhy hway => ?again,
    fun c v w s hw hon hwhy => ?refused, fun c v w s _ hw hoff => ?disable, fun c s _ hfault => ?reset,
    fun c s hfault => ?resetRefused, fun c s _ => ?clear⟩
  case enable =>
    have hrun : writeConnCfg c.val w s = setConnState c.val (if bit s (Reg.netFlowCfg (wordFld w 13 4)) 1 then 1 else 5)
        (setReg s (Reg.safeConnCfg c.val) w) := by
      rw [writeConnCfg_of_passed hon hwhy, if_neg (by simp [hoff])]
    have hst : (if bit s (Reg.netFlowCfg (wordFld w 13 4)) 1 then 1 else 5) < 8 := by split <;> decide
    subst hw
    exact ⟨_, congrArg Host.Outcome.next hrun, written_conn c.val hst _ s⟩
  case again =>
    subst hw
    exact congrArg Host.Outcome.next ((writeConnCfg_of_passed hon hwhy).trans (if_pos ⟨honBefore, hway⟩))
  case refused =>
    subst hw
    obtain ⟨u, t, hu, ht, hraise, hev⟩ := refuseSafe_frame c.val (connReason s c.val (committed s (Reg.safeConnCfg c.val) (v ||| 1))) s
    exact ⟨u, t, hu, congrArg Host.Outcome.next ((writeConnCfg_of_refused hon hwhy).trans ht), hraise, hev⟩
  case disable =>
    subst hw
    exact ⟨_, congrArg Host.Outcome.next (writeConnCfg_of_off hoff), written_conn c.val (by decide) _ s⟩
  case reset =>
    exact ⟨_, congrArg Host.Outcome.next (if_pos hfault), connState_setConnState c.val (by decide) s, rfl,
      fun k hconn hk => getReg_setConnState_other c.val 1 s hconn hk⟩
  case resetRefused =>
    obtain ⟨u, t, hu, ht, hraise, hev⟩ := refuseSafe_frame c.val 7 s
    exact ⟨u, t, hu, congrArg Host.Outcome.next ((if_neg hfault).trans ht), hraise, hev⟩
  case clear =>
    refine ⟨safeClear s, rfl, ?_, ?_, OnlyRegs.foldl (fun s c => OnlyRegs.setFld s _ 31 16 0) _ s, fun k hk => ?_⟩
    · exact fld_foldl_setFld_of_mem (key := Reg.safeConnStatus) (List.mem_range.2 c.isLt) (by decide) (by decide) 0 s
    · exact fld_foldl_setFld_beside Reg.safeConnStatus _ (by decide) (by decide) (by decide) (.inl (by decide)) 0 _ s
    · exact getReg_foldl_setFld_other (key := Reg.safeConnStatus) (fun d hd => hk d (List.mem_range.1 hd)) 31 16 0 s

end Sys2Proof.Machine
end

section
/-!
PROOFS. The entries that the Chronograph executes on its own parts, where they issue (R39 to R48): clocks, SNAPSHOT, RELEASE,
SAMPLE, DELIVER and MIRROR.
-/

namespace Sys2Proof.Machine

/-! ### What an issue occupies -/

/-- From `s` to `t` nothing changed but the Chronograph. -/
def OnlyChrono (s t : State) : Prop := t = { s with chrono := t.chrono }

/-- One change of the Chronograph after another. -/
theorem OnlyChrono.trans {s t u : State} (h : OnlyChrono s t) (k : OnlyChrono t u) : OnlyChrono s u := by
  unfold OnlyChrono at *
  rw [k, h]

/-- Occupying what an entry needs changes the Chronograph alone. -/
theorem takeIssue_onlyChrono (s : State) (n : Needs) : OnlyChrono s (takeIssue s n) := by
  have hfold : ∀ (l : List (Res × Nat)) (s : State), OnlyChrono s (l.foldl (fun s (r, d) => occupy s r d) s) := by
    intro l
    induction l with
    | nil => exact fun s => rfl
    | cons x l ih => exact fun s => OnlyChrono.trans (t := occupy s x.1 x.2) rfl (ih _)
  refine .trans ?_ (hfold n.resources _)
  unfold useDomain
  split <;> rfl

/-- An entry that has issued has changed the Chronograph alone. -/
theorem issued_onlyChrono (needs : State → Entry → Needs) (i : BitVec 16) (e : Entry) (s : State) :
    OnlyChrono s (issued needs i e s) :=
  OnlyChrono.trans (t := passEntry s i.toNat) rfl (takeIssue_onlyChrono _ _)

/-! ### SNAPSHOT (R41) -/

/-- Showing a lane's interrupts writes its LANE_IRQ_PEND alone. -/
theorem getReg_showIrqs_other (l : Lane) (s : State) {k : Nat} (h : k ≠ bankedKey l.idx Reg.laneIrqPend) :
    getReg (showIrqs l s) k = getReg s k := by
  simp only [showIrqs, getReg_setLane]
  exact getReg_setFld_other s h ..

/-- The interrupts of all lanes shown, before a SNAPSHOT captures the registers. -/
def irqsShown (s : State) : State := allLanes.foldl (fun s l => showIrqs l s) s

/-- Registers but the lanes' LANE_IRQ_PEND stand. -/
theorem getReg_irqsShown_other (s : State) {k : Nat} (h : ∀ l : Lane, k ≠ bankedKey l.idx Reg.laneIrqPend) :
    getReg (irqsShown s) k = getReg s k :=
  foldl_keeps (part := fun s => getReg s k) (fun s l => getReg_showIrqs_other l s (h l)) allLanes s

/-- Showing a lane's interrupts leaves slots and memories. -/
theorem showIrqs_frame (l : Lane) (s : State) :
    (showIrqs l s).snaps = s.snaps ∧ (showIrqs l s).sound = s.sound ∧ (showIrqs l s).dram = s.dram := by
  simp only [showIrqs, setLane_snaps, setLane_soundMem, setLane_dram, setFld_snaps, setFld_soundMem, setFld_dram, and_self]

/-- Slots and memories stand. -/
theorem irqsShown_frame (s : State) :
    (irqsShown s).snaps = s.snaps ∧ (irqsShown s).sound = s.sound ∧ (irqsShown s).dram = s.dram :=
  ⟨foldl_keeps (part := State.snaps) (fun s l => (showIrqs_frame l s).1) allLanes s,
    foldl_keeps (part := State.sound) (fun s l => (showIrqs_frame l s).2.1) allLanes s,
    foldl_keeps (part := State.dram) (fun s l => (showIrqs_frame l s).2.2) allLanes s⟩

/-- A SNAPSHOT puts the registers as shown into its task's slot, and notes in the pair that the slot is due. -/
theorem snapshotBody_eq (e : Entry) (s : State) : ∃ pair, snapshotBody e s =
    { irqsShown s with snaps := tput (irqsShown s).snaps e.task (irqsShown s).regs, pair := pair } := by
  unfold snapshotBody irqsShown
  exact ⟨_, rfl⟩

/-- The slot of a SNAPSHOT's task holds the registers as they then stand. -/
theorem slotRegs_snapshotBody_same (e : Entry) (s : State) : slotRegs (snapshotBody e s) e.task = (snapshotBody e s).regs := by
  obtain ⟨pair, hbody⟩ := snapshotBody_eq e s
  rw [hbody]
  exact tget_tput_same ..

/-- Slots of other tasks stand. -/
theorem slotRegs_snapshotBody_other (e : Entry) (s : State) {k : Nat} (hk : k ≠ e.task) :
    slotRegs (snapshotBody e s) k = slotRegs s k := by
  obtain ⟨pair, hbody⟩ := snapshotBody_eq e s
  rw [hbody, slotRegs, tget_tput_other _ _ hk, (irqsShown_frame s).1, slotRegs]

/-- Registers but the lanes' LANE_IRQ_PEND stand. -/
theorem getReg_snapshotBody_other (e : Entry) (s : State) {k : Nat} (hk : ∀ l : Lane, k ≠ bankedKey l.idx Reg.laneIrqPend) :
    getReg (snapshotBody e s) k = getReg s k := by
  obtain ⟨pair, hbody⟩ := snapshotBody_eq e s
  have hregs : (snapshotBody e s).regs = (irqsShown s).regs := by rw [hbody]
  rw [getReg_congr hregs, getReg_irqsShown_other s hk]

/-- The memories stand. -/
theorem snapshotBody_memories (e : Entry) (s : State) :
    (snapshotBody e s).sound = s.sound ∧ (snapshotBody e s).dram = s.dram := by
  obtain ⟨pair, hbody⟩ := snapshotBody_eq e s
  rw [hbody, (irqsShown_frame s).2.1, (irqsShown_frame s).2.2]
  exact ⟨rfl, rfl⟩

/-! ### RELEASE (R40) -/

/-- Settles O14: each entry's effect on the state in which it has issued, by `issueEntry_issues`. -/
theorem clockAndJobEntriesTakeEffect : Obligations.ClockAndJobEntriesTakeEffect := by
  unfold Obligations.ClockAndJobEntriesTakeEffect
  refine ⟨fun i e s h => congrArg Host.Outcome.next (issueEntry_issues h _), fun i e d s u h hd hu => ?up,
    fun i e d s u h hd hu hruns => ?down, fun i e s h => ?snapshot, fun i e s h => ⟨_, _, rfl, rfl, fun hgoes => ?release⟩⟩
  case up =>
    subst hu
    refine congrArg Host.Outcome.next ((issueEntry_issues h _).trans ?_)
    simp only [hd, clockUp]
  case down =>
    subst hu
    refine congrArg Host.Outcome.next ((issueEntry_issues h _).trans ?_)
    simp only [hd, clockDown, hruns, Bool.not_true, Bool.false_eq_true, if_false]
  case snapshot =>
    have hchrono := issued_onlyChrono (fun _ _ => ⟨none, [(.copyPort, occSnapshot)]⟩) i e s
    refine ⟨_, congrArg Host.Outcome.next (issueEntry_issues h _), slotRegs_snapshotBody_same .., fun k hk => ?_, fun k hk => ?_,
      ?_, ?_⟩
    · rw [getReg_snapshotBody_other _ _ hk, hchrono]
      rfl
    · rw [slotRegs_snapshotBody_other _ _ hk, hchrono]
      rfl
    · rw [(snapshotBody_memories _ _).1, hchrono]
    · rw [(snapshotBody_memories _ _).2, hchrono]
  case release =>
    refine congrArg Host.Outcome.next ((issueEntry_issues h _).trans (if_neg ?_))
    simp [hgoes]

/-! ### DELIVER (R40, R64) -/

/-- Before a task's first job, a DELIVER finds no previous one. -/
theorem judgePrevious_of_first {t : Fin 48} {s : State} (h : (job s t.val).has = false) : judgePrevious t s = s := by
  simp [judgePrevious, h]

/-- A DELIVER before a task's first job is the copy, where the Chronograph runs. -/
theorem deliverBody_of_first {i : Nat} {e : Entry} {s u : State} (hu : u = takeMirrored (dfld e.w1 3 0) e.task s)
    (hgoes : isSuppressed u e.task = false) (hfirst : (job u e.task).has = false) (hruns : running u = true) :
    deliverBody i e s = deliverCopy (dfld e.w1 3 0) e.task i u := by
  subst hu
  have hprev : (if h : e.task < 48 then judgePrevious ⟨e.task, h⟩ (takeMirrored (dfld e.w1 3 0) e.task s)
      else takeMirrored (dfld e.w1 3 0) e.task s) = takeMirrored (dfld e.w1 3 0) e.task s := by
    split
    · exact judgePrevious_of_first hfirst
    · rfl
  simp only [deliverBody, hgoes, Bool.false_eq_true, if_false, hprev, hruns, if_true]

/-! ### MIRROR (R330) -/

/-- Only an ACTIVE module's MIRROR has an effect. -/
theorem active_of_mirrorActs {s : State} {content : Nat} (h : mirrorActs s content = true) : modState s = .active := by
  simp only [mirrorActs, partnerListens, Bool.and_eq_true, decide_eq_true_eq] at h
  obtain ⟨⟨⟨⟨_, hactive⟩, _⟩, _⟩, _⟩ := h
  exact hactive

/-- Settles O15: each entry's effect on the state in which it has issued, by `issueEntry_issues`. -/
theorem imageEntriesTakeEffect : Obligations.ImageEntriesTakeEffect := by
  unfold Obligations.ImageEntriesTakeEffect
  refine ⟨fun i e s h => ⟨_, congrArg Host.Outcome.next (issueEntry_issues h _), rfl, tget_tput_same ..⟩,
    fun i e s u h hu hgoes hfirst hruns => ?deliver, fun i e s u h hu hcontent hacts => ?journal,
    fun i e s u v h hu hactive => ⟨fun hcontent hv => ?image, fun hcontent hv => ?checks⟩⟩
  case deliver => exact congrArg Host.Outcome.next ((issueEntry_issues h _).trans (deliverBody_of_first hu hgoes hfirst hruns))
  case journal =>
    subst hu
    refine congrArg Host.Outcome.next ((issueEntry_issues h _).trans ?_)
    simp only [mirrorBody, hcontent, hacts, active_of_mirrorActs hacts, ne_eq, not_true_eq_false, if_false, if_true]
    rfl
  case image =>
    subst hu hv
    refine congrArg Host.Outcome.next ((issueEntry_issues h _).trans ?_)
    simp only [mirrorBody, hcontent, hactive, ne_eq, not_true_eq_false, if_false]
  case checks =>
    subst hu hv
    refine congrArg Host.Outcome.next ((issueEntry_issues h _).trans ?_)
    simp only [mirrorBody, hcontent, hactive, ne_eq, not_true_eq_false, if_false]

end Sys2Proof.Machine
end

section
/-!
PROOFS. The entries that vote, where they issue: CHECKPOINT, COLLECT and POLL (R40, R49, R64, R67, R69).
-/

namespace Sys2Proof.Machine

/-! ### CHECKPOINT (R49, R67) -/

/-- The voting lanes that a CHECKPOINT compares: two or more that took part in a released job that is neither abandoned nor
suppressed. -/
structure Compares (s : State) (t : Nat) (voters : List Lane) : Prop where
  took : voters = (votingLanes s).filter (tookPart s t)
  voting : isVoting s = true
  released : (job s t).has = true
  kept : (job s t).abandoned = false
  unsuppressed : (job s t).suppressed = false
  two : 2 ≤ voters.length

/-- The microtick up to which the voters' presentations count: the coupling window after the first of them. -/
def checkLimit (s : State) (t chk : Nat) (voters : List Lane) : Nat :=
  match ((voters.filterMap (fun l => (presented s t chk l).map (fun p => (l, p)))).map (fun x => x.2.at_)).min? with
  | some f => min (f + couplingWindow s) s.time.mt
  | none => s.time.mt

/-- The signature that a lane has presented in time. -/
def inTime (s : State) (t chk : Nat) (voters : List Lane) (l : Lane) : Option Sig :=
  ((presented s t chk l).filter (fun p => decide (p.at_ ≤ checkLimit s t chk voters))).map (·.sig)

/-- The signatures that the voters have presented in time. -/
def sigsInTime (s : State) (t chk : Nat) (voters : List Lane) : List (Lane × Sig) :=
  voters.filterMap (fun l => (inTime s t chk voters l).map (fun v => (l, v)))

/-- A CHECKPOINT that compares drops its presentations, and judges the signatures in time. -/
theorem checkpointBody_of_compares {i : Nat} {e : Entry} {s : State} {voters : List Lane} (h : Compares s e.task voters) :
    ∃ observed seen, (lanesIn s .rejoining = [] → observed = []) ∧ checkpointBody i e s =
      if (sigsInTime s e.task (dfld e.w1 15 8) voters).length < 2 then
        noQuorum i e.task (dfld e.w1 15 8) ((sigsInTime s e.task (dfld e.w1 15 8) voters).map (·.1))
          (dropPresented e.task (dfld e.w1 15 8) s)
      else compareSigs e.task (dfld e.w1 15 8) (sigsInTime s e.task (dfld e.w1 15 8) voters)
        (voters.filter (fun l => (inTime s e.task (dfld e.w1 15 8) voters l).isNone)) observed seen
        (dropPresented e.task (dfld e.w1 15 8) s) := by
  obtain ⟨rfl, hvoting, hhas, hkept, hgoes, htwo⟩ := h
  have hdrop : isVoting (dropPresented e.task (dfld e.w1 15 8) s) = true := hvoting
  refine ⟨_, _, fun hnone => ?_, if_neg ?_⟩
  · rw [hnone]
    rfl
  · simpa [hdrop, hhas, hkept, hgoes] using Nat.lt_of_succ_le htwo

/-- Where no voter has presented, no signature is in time. -/
theorem sigsInTime_of_none {s : State} {t chk : Nat} {voters : List Lane} (h : ∀ l ∈ voters, presented s t chk l = none) :
    sigsInTime s t chk voters = [] := by
  refine List.filterMap_eq_nil_iff.2 fun l hl => ?_
  simp [inTime, h l hl]

/-- Where every voter has presented now, each presentation is in time. -/
theorem inTime_of_now {s : State} {t chk : Nat} {voters : List Lane} {v : Sig}
    (h : ∀ l ∈ voters, ∃ p, presented s t chk l = some p ∧ p.at_ = s.time.mt ∧ p.sig = v) {l : Lane} (hl : l ∈ voters) :
    inTime s t chk voters l = some v := by
  have hlimit : checkLimit s t chk voters = s.time.mt := by
    unfold checkLimit
    split
    case h_1 f hf =>
      obtain ⟨x, hx, rfl⟩ := List.mem_map.1 (List.min?_mem hf)
      obtain ⟨m, hm, hmap⟩ := List.mem_filterMap.1 hx
      obtain ⟨p, hp, hat, _⟩ := h m hm
      rw [hp, Option.map_some, Option.some.injEq] at hmap
      subst hmap
      simp [hat]
    case h_2 => rfl
  obtain ⟨p, hp, hat, hsig⟩ := h l hl
  simp [inTime, hp, hat, hsig, hlimit]

/-- Where every voter has presented the same signature now, the signatures in time are all the voters'. -/
theorem sigsInTime_of_now {s : State} {t chk : Nat} {voters : List Lane} {v : Sig}
    (h : ∀ l ∈ voters, ∃ p, presented s t chk l = some p ∧ p.at_ = s.time.mt ∧ p.sig = v) :
    sigsInTime s t chk voters = voters.map (fun l => (l, v)) :=
  List.filterMap_eq_map_iff_forall_eq_some.2 fun l hl => by rw [inTime_of_now h hl]; rfl

/-- Where every voter has presented now, none is late. -/
theorem late_of_now {s : State} {t chk : Nat} {voters : List Lane} {v : Sig}
    (h : ∀ l ∈ voters, ∃ p, presented s t chk l = some p ∧ p.at_ = s.time.mt ∧ p.sig = v) :
    voters.filter (fun l => (inTime s t chk voters l).isNone) = [] :=
  List.filter_eq_nil_iff.2 fun l hl => by simp [inTime_of_now h hl]

/-- Where all signatures agree, they have a majority, no minority and nothing to report. -/
theorem compareSigs_of_agreed {t chk : Nat} {ls : List Lane} (v : Sig) (htwo : 2 ≤ ls.length) (seen : Lane → Option Sig)
    (s : State) : compareSigs t chk (ls.map (fun l => (l, v))) [] [] seen s = setPassed t ls s := by
  have hall : (ls.map (fun l => (l, v))).filter (fun x => decide (x.2 = v)) = ls.map (fun l => (l, v)) :=
    List.filter_eq_self.2 fun x hx => by obtain ⟨_, _, rfl⟩ := List.mem_map.1 hx; exact decide_eq_true rfl
  have hout : (ls.map (fun l => (l, v))).filter (fun x => decide (x.2 ≠ v)) = [] :=
    List.filter_eq_nil_iff.2 fun x hx => by obtain ⟨_, _, rfl⟩ := List.mem_map.1 hx; simp
  have hmajority : majority (ls.map (fun l => (l, v))) = some v := by
    cases ls with
    | nil => exact absurd htwo (by decide)
    | cons l ls =>
      have hmost : 2 ≤ ((((l, v) :: ls.map (fun l => (l, v)))).filter (fun x => decide (x.2 = v))).length := by
        rw [← List.map_cons (f := fun l => (l, v)), hall, List.length_map]
        exact htwo
      rw [majority, List.map_cons, List.find?_cons_of_pos, Option.map_some]
      exact decide_eq_true hmost
  have hnames : (ls.map (fun l => (l, v))).map (·.1) = ls := by rw [List.map_map]; exact List.map_id ls
  simp only [compareSigs, hmajority, hall, hout, hnames, List.map_nil, raiseLanes, List.foldl_nil]

/-! ### COLLECT (R69) -/

/-- A consumer that meets no bad word reports nothing. -/
theorem meetSound_of_clean {a n : Nat} {s : State} (h : badWords s.sound a n = []) : meetSound a n s = s := by
  simp [meetSound, meetBad, h]

/-- A block whose copies agree, none of them poisoned, is written to OUTPUT with the forces applied. -/
theorem collectBlock_of_agreed {ls : List Lane} {src dst : Nat} {bs : List Byte} {s : State}
    (hclean : ∀ l ∈ ls, badWords s.sound ((region s l.idx).1 + 64 * src) 64 = [])
    (hall : ballot (ls.map (stageCopy s src)) = .all bs) (r : Tally) :
    collectBlock ls src dst (r, s) = ({ r with wrote := r.wrote ++ [dst] },
      { s with sound := writeBytes s.sound ((region s 3).1 + 64 * dst) (forceBlock s dst bs) }) := by
  have hmeet : ls.foldl (fun s l => meetSound ((region s l.idx).1 + 64 * src) 64 s) s = s := by
    clear hall
    induction ls with
    | nil => rfl
    | cons l ls ih =>
      rw [List.foldl_cons, meetSound_of_clean (hclean l List.mem_cons_self),
        ih fun m hm => hclean m (List.mem_cons_of_mem l hm)]
  simp only [collectBlock, hmeet, hall]

/-- A COLLECT without minority and with every block voted reports nothing. -/
theorem collectEvents_of_agreed (t : Nat) (wrote : List Nat) (s : State) : collectEvents t ⟨wrote, [], []⟩ s = s := by
  simp [collectEvents, raiseLanes]

/-- Settles O16: each entry's effect on the state in which it has issued, by `issueEntry_issues`. -/
theorem votingEntriesTakeEffect : Obligations.VotingEntriesTakeEffect := by
  unfold Obligations.VotingEntriesTakeEffect
  refine ⟨fun i e s u voters h hu htook hvoting hhas hkept hgoes htwo hnone => ?noQuorum,
    fun i e s u voters v h hu htook hvoting hhas hkept hgoes htwo hrejoining hnow => ?agreed,
    fun i e s h => congrArg Host.Outcome.next (issueEntry_issues h _),
    fun i e s u v w ls bs h hu hone hkept hls hall hclean hv hw => ?collect,
    fun i e s h => ⟨_, rfl, congrArg Host.Outcome.next (issueEntry_issues h _)⟩⟩
  case noQuorum =>
    subst hu
    obtain ⟨observed, seen, _, hbody⟩ := checkpointBody_of_compares (i := i.toNat) ⟨htook, hvoting, hhas, hkept, hgoes, htwo⟩
    refine congrArg Host.Outcome.next ((issueEntry_issues h _).trans (hbody.trans ?_))
    rw [sigsInTime_of_none hnone]
    rfl
  case agreed =>
    subst hu
    obtain ⟨observed, seen, hobserved, hbody⟩ :=
      checkpointBody_of_compares (i := i.toNat) ⟨htook, hvoting, hhas, hkept, hgoes, htwo⟩
    refine congrArg Host.Outcome.next ((issueEntry_issues h _).trans (hbody.trans ?_))
    rw [sigsInTime_of_now hnow, late_of_now hnow, hobserved hrejoining, if_neg (by rw [List.length_map]; exact Nat.not_lt.2 htwo)]
    exact compareSigs_of_agreed v htwo seen _
  case collect =>
    subst hu
    have hblock := collectBlock_of_agreed (dst := dfld e.w1 39 24) hclean hall ⟨[], [], []⟩
    refine congrArg Host.Outcome.next ((issueEntry_issues h _).trans ?_)
    simp only [collectBody, hkept, hone, Bool.false_eq_true, if_false, Nat.zero_add, List.range_one, List.foldl_cons,
      List.foldl_nil, Nat.add_zero, ← hls, hblock, ← hv, List.nil_append, collectEvents_of_agreed, ← hw]
    rfl

end Sys2Proof.Machine
end

section
/-!
PROOFS. The entries that send, where they issue: EMIT, CAN_SLOT, CRATE_XFER, DRIVE and REFERENCE (R192, R239, R243, R273, R289,
R307).
-/

namespace Sys2Proof.Machine

/-- Settles O17: each entry's effect on the state in which it has issued, by `issueEntry_issues`. -/
theorem outputEntriesTakeEffect : Obligations.OutputEntriesTakeEffect := by
  unfold Obligations.OutputEntriesTakeEffect
  refine ⟨fun i e s h => congrArg Host.Outcome.next (issueEntry_issues h _),
    fun i e s u v f len dests h hu hf hsends husable hunsafe hlen hkept hsound hdests hsome => ?emit,
    fun i e s u n slot h hu hn hslot hsends hen hin hkept hsound hsend hgood hformat hfits => ?canSlot,
    fun i e s u k h hu hk hsends hvalid hmode hread => ?crateXfer,
    fun i e s u a h hu hsends ha hkept hsel hsound => ⟨_, rfl, ?drive⟩,
    fun i e s u n h hu hn hsends hen hent hfree => ⟨_, rfl, ?reference⟩⟩
  all_goals subst hu
  case emit =>
    subst hf hlen
    refine congrArg Host.Outcome.next ((issueEntry_issues h _).trans ?_)
    simp only [emitBody, hsends, husable, hunsafe, not_true_eq_false, if_false, Bool.false_eq_true, false_and,
      decide_eq_true_eq, hkept, hsound, hdests, List.isEmpty_iff, hsome]
  case canSlot =>
    subst hn hslot
    refine congrArg Host.Outcome.next ((issueEntry_issues h _).trans ?_)
    simp only [canSlotBody, hsends, hen, not_true_eq_false, or_self, if_false, Nat.not_lt.2 hin, hkept, hsound, hsend, hgood,
      hformat, Nat.not_lt.2 hfits, Bool.false_eq_true, Nat.one_ne_zero]
  case crateXfer =>
    subst hk
    refine congrArg Host.Outcome.next ((xferNotMade_issues h _).trans ((issueEntry_issues h _).trans ?_))
    simp [xferBody, hsends, hvalid, hmode, hread]
  case drive =>
    subst ha
    refine congrArg Host.Outcome.next ((issueEntry_issues h _).trans ?_)
    simp [driveBody, hsends, hkept, hsel, hsound]
  case reference =>
    subst hn
    refine congrArg Host.Outcome.next ((issueEntry_issues h _).trans ?_)
    simp [referenceBody, hsends, hen, hent, hfree]

end Sys2Proof.Machine
end

section
/-!
PROOFS. Gated clocks, bank loads and switch requests (R45, R46, R51 to R54), and the run of the Chronograph: its start, the end of a
base cycle, the hyperperiod boundary and the partner's marks (R32 to R36, R328, R372).
-/

namespace Sys2Proof.Machine

/-- Settles O19: each command by the branch that its conditions take. -/
theorem domainsAndBankLoads : Obligations.DomainsAndBankLoads := by
  unfold Obligations.DomainsAndBankLoads
  refine ⟨fun d s h => congrArg Host.Outcome.next (if_pos h), fun d s hready hlast hidle huse => ?idleStop,
    fun d detail s hdeferred hidle => ?deferred, fun n s u hu hload hswitch => ?starts, fun n s u hu hbusy => ?busy,
    fun n r s hslot hready hr => ⟨_, _, _, rfl, rfl, rfl, fun h => ?loaded, fun h => ?rejected⟩,
    fun s u hu hwhy hnone => ?request, fun s u hu hwhy => ?refused, fun s => ⟨_, rfl, rfl⟩⟩
  case idleStop => exact congrArg Host.Outcome.next (if_pos ⟨hready, by rw [hlast]; decide, by rw [hidle]; decide, huse⟩)
  case deferred =>
    refine congrArg Host.Outcome.next ?_
    simp only [clockDownDeferred, hdeferred, hidle, Bool.false_eq_true, if_false]
  case starts =>
    subst hu
    refine congrArg Host.Outcome.next ?_
    simp only [loadStart, hload, hswitch, Bool.false_eq_true, or_self, if_false, setBit_chrono, setFld_chrono]
  case busy =>
    subst hu
    have hactive : activeNo (setFld s Reg.chronoLoad 7 0 n.toNat) = activeNo s :=
      
      fld_setFld_other s (by decide) ..
    refine congrArg Host.Outcome.next ?_
    simp only [loadStart, if_pos hbusy, hactive]
  case loaded =>
    subst hr
    refine congrArg Host.Outcome.next ?_
    simp [loadDone, hslot, hready, h]
  case rejected =>
    subst hr
    refine congrArg Host.Outcome.next ?_
    simp [loadDone, hslot, hready, h]
  case request =>
    subst hu
    refine congrArg Host.Outcome.next ?_
    simp only [switchRequest, hwhy, ne_eq, not_true_eq_false, if_false, hnone, Option.isSome_none, Bool.false_eq_true,
      setBit_chrono, setBit_time, setReg_time]
  case refused =>
    subst hu
    exact congrArg Host.Outcome.next (if_pos hwhy)

/-- A STANDBY module stands by. -/
theorem standsBy_of_standby {s : State} (h : modState s = .standby) : standsBy s = true := by
  simp [standsBy, h]

/-- Settles O20: each command by the branch that its conditions take. -/
theorem cyclesRun : Obligations.CyclesRun := by
  unfold Obligations.CyclesRun
  refine ⟨fun t s hboot hat ht hbank halign halone => ⟨_, _, _, rfl, rfl, rfl, ?start⟩,
    fun s u late n hrun hidle hdue hend hlen hfree hlate hn hu => ⟨_, _, rfl, rfl, ?cycleEnd⟩,
    fun s hrun hdue => ⟨_, rfl, congrArg Host.Outcome.next (if_pos ⟨hrun, hdue⟩)⟩,
    fun hp cycle time s u v hu hmode hrun hv => ⟨fun h => ?sameCount, fun h => ?newCount⟩⟩
  case start =>
    refine congrArg Host.Outcome.next (if_pos ⟨hboot, ?_, hbank, halign, .inl (by rw [halone]; decide)⟩)
    rw [hat]
    exact decide_eq_true ht
  case cycleEnd =>
    refine congrArg Host.Outcome.next ?_
    simp only [baseCycleEnd, hrun, hidle, hdue, hend, hlen, hfree, Bool.false_eq_true, not_false_eq_true, false_and, and_self,
      if_true, ← hlate, ← hn, ← hu]
  case sameCount =>
    subst hu hv
    refine congrArg Host.Outcome.next ?_
    simp only [cycleMark, hrun, not_true_eq_false, false_and, and_false, if_false, standsBy_of_standby hmode, and_self, if_true]
    exact if_pos h
  case newCount =>
    subst hu hv
    refine congrArg Host.Outcome.next ?_
    simp only [cycleMark, hrun, not_true_eq_false, false_and, and_false, if_false, standsBy_of_standby hmode, and_self, if_true]
    exact if_neg h

end Sys2Proof.Machine
end

section
/-!
PROOFS. The set-up writes of the lanes and their votes (R7, R13 to R18).
-/

namespace Sys2Proof.Machine

/-- The other voters' writes that match a write at its place, not yet withdrawn from their queues. -/
def sameAt (l : Lane) (place : Nat) (r : SetupReq) (s : State) : List SetupReq :=
  ((setupVoters s).filter (fun m => decide (m ≠ l))).filterMap (fun m =>
    match (s.meridian.queue.get m)[place]? with
    | some x => if sameWrite x r then some x else none
    | none => none)

/-- The matching writes of a place marked as written. -/
def markedAt (place : Nat) (r : SetupReq) (s : State) : State :=
  allLanes.foldl (fun s m => setQueueOf m (markWritten place r (s.meridian.queue.get m)) s) s

/-- A write that finds no other like it at its place commits nothing. -/
theorem commitSecond_of_alone {l : Lane} {place : Nat} {r : SetupReq} {s : State} (h : sameAt l place r s = []) :
    commitSecond l place r s = s :=
  if_pos (List.isEmpty_iff.2 h)

/-- The second of two matching writes, none of them written before, commits the register. -/
theorem commitSecond_of_unwritten {l : Lane} {place : Nat} {r : SetupReq} {s : State} (h : sameAt l place r s ≠ [])
    (hnew : ∀ x ∈ sameAt l place r s, x.written = false) :
    commitSecond l place r s = commitVoted (r.addr.toNat - 0x300000000) r.value (markedAt place r s) := by
  have hany : (sameAt l place r s).any (·.written) = false :=
    List.any_eq_false.2 fun x hx => by rw [hnew x hx]; decide
  exact (if_neg (fun k => h (List.isEmpty_iff.1 k))).trans (if_neg (ne_true_of_eq_false hany))

/-- A further matching write, behind one that has committed the register, is only marked. -/
theorem commitSecond_of_written {l : Lane} {place : Nat} {r : SetupReq} {s : State} {x : SetupReq}
    (hx : x ∈ sameAt l place r s) (hold : x.written = true) : commitSecond l place r s = markedAt place r s :=
  (if_neg (fun k => List.ne_nil_of_mem hx (List.isEmpty_iff.1 k))).trans (if_pos (List.any_eq_true.2 ⟨x, hx, hold⟩))

/-- While the window of the oldest vote has not passed, no vote completes before a write is paired. -/
theorem closePassed_of_open {s : State} (n : Nat) (h : oldest s (setupVoters s) = [] ∨
    s.time.mt ≤ oldestOpen s (oldest s (setupVoters s)) + couplingWindow s) : closePassed n s = s := by
  cases n with
  | zero => rfl
  | succ n =>
    refine if_neg fun ⟨hsome, hpast⟩ => ?_
    rcases h with h | h
    · exact hsome (List.isEmpty_iff.2 h)
    · exact Nat.not_le.2 hpast h

/-- A voter's write that owes nothing enters the queue at its place, and the complete votes are settled. -/
theorem enterSetup_of_voter {l : Lane} (r : SetupReq) {s : State} (hclose : closePassed 9 s = s)
    (hvotes : (setupVoters s).contains l = true) (howed : s.meridian.owed.get l = []) :
    enterSetup l r s = settleVotes 9 (commitSecond l (s.meridian.queue.get l).length r
      (setQueueOf l (s.meridian.queue.get l ++ [r]) s)) := by
  have hvotes' : (setupVoters (setQueueOf l (s.meridian.queue.get l ++ [r]) s)).contains l = true := hvotes
  simp only [enterSetup, hclose, hvotes, true_or, not_true_eq_false, if_false, howed, hvotes', if_true]

/-- A write enters its lane's queue where there is room and nothing of the lane is stalled. -/
theorem queueSetup_of_room {l : Lane} {r : SetupReq} {s : State} (hroom : (s.meridian.queue.get l).length < 8)
    (hfree : s.meridian.stalled.get l = []) : queueSetup l r s = enterSetup l r s :=
  if_neg (by simp only [Nat.not_le.2 hroom, hfree, List.isEmpty_nil, not_true_eq_false, or_self, not_false_eq_true])

/-- What holds of a set-up write: its core acts, and its address is that of a register, aligned. -/
structure AtRegister (l : Lane) (core : Fin 4) (addr : BitVec 40) (key : Nat) (s : State) : Prop where
  acts : coreActs s l core = true
  addr_eq : addr.toNat = 0x300000000 + key
  key_lt : key < 0x130000
  aligned : key % 4 = 0

/-- A set-up write to a register is none of the address map's accesses. -/
theorem AtRegister.inMap {l : Lane} {core : Fin 4} {addr : BitVec 40} {key : Nat} {s : State} (h : AtRegister l core addr key s) :
    ¬(addr.toNat < 0x300000000 ∨ 0x300130000 ≤ addr.toNat ∨ addr.toNat % 4 ≠ 0) := by
  obtain ⟨_, haddr, hlt, hal⟩ := h
  omega

/-- Where one lane writes alone, a write to a register is not voted. -/
theorem setupWrite_of_lone {l w : Lane} {core : Fin 4} {addr : BitVec 40} {key : Nat} {v : Word} {s : State}
    (h : AtRegister l core addr key s) (hlone : loneWriter s = some w) :
    setupWrite l core addr v s = loneWrite l w key addr.toNat v s := by
  simp only [setupWrite, h.acts, not_true_eq_false, if_false, if_neg h.inMap, hlone]
  rw [h.addr_eq, Nat.add_sub_cancel_left]

/-- A voter's write to a register reaches the vote. -/
theorem setupWrite_of_voter {l : Lane} {core : Fin 4} {addr : BitVec 40} {key : Nat} {v : Word} {s : State}
    (h : AtRegister l core addr key s) (hlone : loneWriter s = none) (hvotes : (setupVoters s).contains l = true) :
    setupWrite l core addr v s = queueSetup l ⟨core, addr, v, s.time.mt, false⟩ s := by
  simp only [setupWrite, h.acts, not_true_eq_false, if_false, if_neg h.inMap, hlone, hvotes, true_or, if_true]

/-- A W1C write of a lane address is one of its register. -/
theorem w1cClear_of_register {addr : BitVec 40} {key : Nat} (haddr : addr.toNat = 0x300000000 + key) (v : Word) (s : State) :
    w1cClear addr v s = w1cWrite key v s := by
  have hin : 0x300000000 ≤ addr.toNat := by omega
  have hsub : addr.toNat - 0x300000000 = key := by omega
  rw [w1cClear, if_pos hin, hsub]

/-- A W1C write of a register that is not banked clears its flags; the entry of CHRONO_FAULT_ENTRY goes with the last fault. -/
theorem clearFlags_of_flat {key : Nat} {v : Word} {r : RegRow} {s t : State} (hrow : regRow? key = some r)
    (hw1c : r.access = .w1c) (hflat : isBanked key = false) (hplain : key ≠ Reg.isthError)
    (ht : t = setReg s key (getReg s key &&& ~~~(v &&& r.cmask))) :
    clearFlags key v s = if getReg t Reg.chronoFaultStatus = 0 then setBit t Reg.chronoFaultEntry 31 false else t := by
  have hclear : clearW1C s key v = t := by simp only [clearW1C, hrow, hw1c, if_true, ht]
  rw [clearFlags, hflat, if_neg Bool.false_ne_true, hclear, if_neg (fun h => hplain h.1)]

/-- Settles O21: a write by its place among the votes, the stalled write and the vote's end by their branches. -/
theorem setupWritesAreVoted : Obligations.SetupWritesAreVoted := by
  unfold Obligations.SetupWritesAreVoted
  refine ⟨fun l core addr key v s hacts haddr hlt hal hmode hflat => ⟨fun h => ?designated, fun h => ?other⟩,
    fun l core addr key v s hacts haddr hlt hal hlone hopen hvotes hroom hfree howed =>
      ⟨_, _, _, _, _, rfl, rfl, rfl, rfl, rfl, fun h => ?alone, fun h hnew => ?second, fun x hx hold => ?third⟩,
    fun l core addr key v s hacts haddr hlt hal hlone hvotes hfull => ?stalls,
    fun l core r s hr hroom => ?stallEnd, fun s u rs hu hrs hsome hpast => ?close,
    fun addr key v r s haddr hkey hrow hw1c hflat hplain => ⟨_, rfl, ?w1c⟩⟩
  case designated =>
    refine congrArg Host.Outcome.next ((setupWrite_of_lone ⟨hacts, haddr, hlt, hal⟩ (if_pos hmode)).trans ?_)
    simp only [loneWrite, hflat, Bool.false_eq_true, if_false, h, if_true]
  case other =>
    refine congrArg Host.Outcome.next ((setupWrite_of_lone ⟨hacts, haddr, hlt, hal⟩ (if_pos hmode)).trans ?_)
    simp only [loneWrite, hflat, Bool.false_eq_true, if_false, Ne.symm h]
  case alone =>
    refine congrArg Host.Outcome.next ((setupWrite_of_voter ⟨hacts, haddr, hlt, hal⟩ hlone hvotes).trans ?_)
    rw [queueSetup_of_room hroom hfree, enterSetup_of_voter _ (closePassed_of_open 9 hopen) hvotes howed,
      commitSecond_of_alone h]
  case second =>
    refine congrArg Host.Outcome.next ((setupWrite_of_voter ⟨hacts, haddr, hlt, hal⟩ hlone hvotes).trans ?_)
    rw [queueSetup_of_room hroom hfree, enterSetup_of_voter _ (closePassed_of_open 9 hopen) hvotes howed,
      commitSecond_of_unwritten h hnew, haddr, Nat.add_sub_cancel_left]
    rfl
  case third =>
    refine congrArg Host.Outcome.next ((setupWrite_of_voter ⟨hacts, haddr, hlt, hal⟩ hlone hvotes).trans ?_)
    rw [queueSetup_of_room hroom hfree, enterSetup_of_voter _ (closePassed_of_open 9 hopen) hvotes howed,
      commitSecond_of_written hx hold]
    rfl
  case stalls =>
    refine congrArg Host.Outcome.next ((setupWrite_of_voter ⟨hacts, haddr, hlt, hal⟩ hlone hvotes).trans (if_pos ?_))
    exact hfull.imp_right fun h k => h (List.isEmpty_iff.1 k)
  case stallEnd =>
    refine congrArg Host.Outcome.next ?_
    simp only [setupStallEnd, hr, hroom, if_true]
  case close =>
    subst hu hrs
    refine congrArg Host.Outcome.next (congrArg closeObserved (if_pos ⟨?_, hpast⟩))
    exact fun k => hsome (List.isEmpty_iff.1 k)
  case w1c =>
    refine congrArg Host.Outcome.next ((w1cClear_of_register haddr v s).trans ?_)
    simp only [w1cWrite, hrow, hkey, hw1c, and_self, if_true]
    exact clearFlags_of_flat hrow hw1c hflat hplain rfl

end Sys2Proof.Machine
end

section
/-!
PROOFS. Lane faults and lane commands (R59, R73, R86), mode requests and the state-area lock (R76, R82, R83, R85), and the copy
engine of a rejoin (R77 to R81).
-/

namespace Sys2Proof.Machine

/-- Settles O25: each fault and command by the branch that the lane's state takes. -/
theorem laneFaultsAndCommands : Obligations.LaneFaultsAndCommands := by
  unfold Obligations.LaneFaultsAndCommands
  refine ⟨fun l dev s h => congrArg Host.Outcome.next (if_neg h), fun l mv s h => ⟨_, _, rfl, rfl, ?powerFault⟩,
    fun l m s hat hstate hpast hcontrol hauto hcount => ?rejoins, fun l m s hat hstate hpast hcontrol hauto hcount => ⟨_, rfl, ?off⟩,
    fun l s h => congrArg Host.Outcome.next (if_pos h), fun l s h => congrArg Host.Outcome.next (if_pos h),
    fun l s h => ?powerOff, fun l s h => congrArg Host.Outcome.next (if_pos h),
    fun l s h => congrArg Host.Outcome.next (if_neg h), fun l s h => congrArg Host.Outcome.next (if_neg h),
    fun l s hexcluded htesting => congrArg Host.Outcome.next (if_neg (not_or.2 ⟨hexcluded, htesting⟩)),
    fun l s h => congrArg Host.Outcome.next (if_neg h)⟩
  case powerFault =>
    refine congrArg Host.Outcome.next ?_
    simp only [powerFault, h, if_false]
  case rejoins =>
    refine congrArg Host.Outcome.next ?_
    simp only [autoRejoin, hat, hstate, hpast, hcontrol, hauto, and_self, if_true, hcount]
  case off =>
    refine congrArg Host.Outcome.next ?_
    simp only [autoRejoin, hat, hstate, hpast, hcontrol, hauto, and_self, if_true, Nat.not_le.2 hcount, if_false]

  case powerOff =>
    have hstays : laneState s l ≠ .rejoining := by rcases h with h | h <;> rw [h] <;> decide
    refine congrArg Host.Outcome.next ((if_pos h).trans ?_)
    simp only [laneOff, hstays, if_false]

/-- Settles O26: each request by the branch that its conditions take. -/
theorem laneModeRequests : Obligations.LaneModeRequests := by
  unfold Obligations.LaneModeRequests
  refine ⟨fun d s hmode halone hd => ?split, fun d s hmode => congrArg Host.Outcome.next (if_pos hmode),
    fun d s hmode hpair => ?splitPair, fun s hmode halone => ?splitNone, fun s hmode hlock => ?join, fun s hmode hlock => ?joinUnlocked,
    fun s hmode => congrArg Host.Outcome.next (if_pos hmode), fun l s h => ?unlockRefused, fun s => rfl, fun s h => ?locks,
    fun n s h => ?lockRefused, fun s h => ?unlocks⟩
  case split =>
    refine congrArg Host.Outcome.next ?_
    simp only [modeSplit, hmode, ne_eq, not_true_eq_false, if_false, halone, Bool.false_eq_true, hd]
  case splitPair =>
    refine congrArg Host.Outcome.next ?_
    simp only [modeSplit, hmode, ne_eq, not_true_eq_false, if_false, hpair, if_true]
    rfl
  case splitNone =>
    refine congrArg Host.Outcome.next ?_
    simp only [modeSplit, hmode, ne_eq, not_true_eq_false, if_false, halone, Bool.false_eq_true, if_true]
    rfl
  case join =>
    refine congrArg Host.Outcome.next ?_
    simp only [modeJoin, hmode, ne_eq, not_true_eq_false, if_false, hlock, Nat.one_ne_zero]
  case joinUnlocked =>
    refine congrArg Host.Outcome.next ?_
    simp only [modeJoin, hmode, ne_eq, not_true_eq_false, if_false, hlock, if_true]
    rfl
  case unlockRefused =>
    have hbusy : allLanes.any (fun l => laneState s l = .testing ∨ laneState s l = .rejoining) = true :=
      List.any_eq_true.2 ⟨l, by cases l <;> decide, decide_eq_true h⟩
    exact congrArg Host.Outcome.next (if_pos hbusy)
  case locks =>
    refine congrArg Host.Outcome.next ?_
    simp [saLock, h]
  case lockRefused =>
    refine congrArg Host.Outcome.next ?_
    simp [saLock, h]
  case unlocks =>
    have hidle : ¬allLanes.any (fun l => laneState s l = .testing ∨ laneState s l = .rejoining) = true := by
      simp [h]
    exact congrArg Host.Outcome.next (if_neg hidle)

/-- The state in which the copy engine has read a page: off the list, its dirty bit clear, noted as copied. -/
def pageRead (page : Nat) (s : State) : State :=
  showDirty { s with rejoin := { s.rejoin with
    toCopy := s.rejoin.toCopy.erase page, dirty := risingDel s.rejoin.dirty page, copied := risingPut s.rejoin.copied page } }

/-- Showing the number of dirty pages leaves the engine as it is. -/
theorem showDirty_rejoin (s : State) : (showDirty s).rejoin = s.rejoin := by
  dsimp only [showDirty]
  split <;> simp only [setFld_rejoin]

/-- Reading a page leaves what the engine copies for. -/
theorem pageRead_fromPair (page : Nat) (s : State) : (pageRead page s).rejoin.fromPair = s.rejoin.fromPair := by
  rw [pageRead, showDirty_rejoin]

/-- A page whose copies agree is written to every target lane. -/
theorem copyPage_of_agreed {page : Nat} {bs : List (Option (List Byte))} {s : State} (hcopying : copying s = true)
    (hlisted : s.rejoin.toCopy.contains page = true) (hlanes : s.rejoin.fromPair = false)
    (hsame : pageBlocks ((sourceLanes (pageRead page s)).take 2 |>.map (fun l => (pageRead page s).dram.get l)) page = (bs, false))
    (hsound : bs.any (·.isNone) = false) :
    copyPage page s = (targetLanes (pageRead page s)).foldl (fun s l => { s with
      dram := s.dram.set l (writeBytes (s.dram.get l) (4096 * page) (bs.flatMap (fun b => b.getD []))) }) (pageRead page s) := by
  have hpair : (pageRead page s).rejoin.fromPair = false := (pageRead_fromPair page s).trans hlanes
  unfold copyPage
  rw [hcopying, hlisted, Bool.and_self, if_pos rfl]
  obtain ⟨rfl, hdiffer⟩ := Prod.ext_iff.1 hsame
  exact (if_neg (ne_true_of_eq_false hsound)).trans
    ((if_neg (ne_true_of_eq_false hdiffer)).trans (if_neg (ne_true_of_eq_false hpair)))

/-- A page with a block that is poisoned in every copy fails the rejoin of every target. -/
theorem copyPage_of_poisoned {page : Nat} {s : State} (hcopying : copying s = true)
    (hlisted : s.rejoin.toCopy.contains page = true) (hlanes : s.rejoin.fromPair = false)
    (hpoisoned : (pageBlocks ((sourceLanes (pageRead page s)).take 2 |>.map (fun l => (pageRead page s).dram.get l)) page).1.any
      (·.isNone) = true) :
    copyPage page s = (targetLanes (pageRead page s)).foldl (fun s l => rejoinFailed (raiseF 4 0) l 2 s) (pageRead page s) := by
  have hpair : (pageRead page s).rejoin.fromPair = false := (pageRead_fromPair page s).trans hlanes
  unfold copyPage
  rw [hcopying, hlisted, Bool.and_self, if_pos rfl]
  exact (if_pos hpoisoned).trans (if_neg (ne_true_of_eq_false hpair))

/-- Settles O27: each step of the engine by the branch that its conditions take. -/
theorem rejoinCopyEngine : Obligations.RejoinCopyEngine := by
  unfold Obligations.RejoinCopyEngine
  refine ⟨fun page bs s hcopying hlisted hlanes => ⟨pageRead page.toNat s, rfl,
      fun hsame hsound => congrArg Host.Outcome.next (copyPage_of_agreed hcopying hlisted hlanes hsame hsound),
      fun hpoisoned => congrArg Host.Outcome.next (copyPage_of_poisoned hcopying hlisted hlanes hpoisoned)⟩,
    fun s hjoin hphase hempty => ⟨_, rfl, ?bulkDone⟩, fun s hphase hempty hwaits => ?passDone,
    fun s hjoin hphase hquiet hfits => ⟨_, rfl, ?finalStart⟩, fun s hjoin hphase hempty hclean hrejoin => ⟨_, rfl, fun h => ?finalDone⟩,
    fun l s hstate hlate => congrArg Host.Outcome.next (if_pos ⟨hstate, hlate⟩)⟩
  case bulkDone =>
    refine congrArg Host.Outcome.next ?_
    simp only [bulkDone, hjoin, Bool.false_eq_true, if_false, hphase, hempty, List.isEmpty_nil, and_self, if_true]
  case passDone =>
    refine congrArg Host.Outcome.next ?_
    simp only [passDone, hphase, hempty, List.isEmpty_nil, hwaits, Bool.not_false, and_self, if_true, satAdd_rejoin]
  case finalStart =>
    refine congrArg Host.Outcome.next ?_
    simp only [finalStart, hjoin, Bool.false_eq_true, if_false, hphase, hquiet, hfits, decide_true, Bool.and_self, if_true]
  case finalDone =>
    refine congrArg Host.Outcome.next ?_
    simp only [finalDone, hjoin, Bool.false_eq_true, if_false, hphase, hempty, hclean, List.isEmpty_nil, and_self, if_true, h]

end Sys2Proof.Machine
end

section
/-!
PROOFS. The ring unit and the event queues: ring commands (R95, R112), the fetch, acceptance and completion of descriptors (R89, R98 to
R100), queue commands and the delivery of event records (R112, R116, R333, R351).
-/

namespace Sys2Proof.Machine

/-- With no bad word in the journal every record is read. -/
theorem readJournal_of_clean (n : Nat) (ids : List Word) {s : State} (h : s.journalBad = []) : readJournal n ids s = (false, s) := by
  rw [readJournal, h]
  rfl

/-- Recording the build and the set-up leaves the journal's bad words. -/
theorem noteBuild_journalBad (s : State) : (noteBuild s).journalBad = s.journalBad := by
  unfold noteBuild
  split <;> simp only [set64, setReg_journalBad]

/-- An item for the partner leaves the journal's bad words and the event queues. -/
theorem addDelta_frame (s : State) (i : JItem) : (addDelta s i).journalBad = s.journalBad ∧ (addDelta s i).evq = s.evq := by
  unfold addDelta
  split <;> exact ⟨rfl, rfl⟩

/-- Recording a ring's set-up leaves the journal's bad words. -/
theorem noteSetup_journalBad (n : Nat) (s : State) : (noteSetup n s).journalBad = s.journalBad := (addDelta_frame _ _).1

/-- Settles O28: each command by the branch that the ring's state takes. -/
theorem ringCommandsTakeEffect : Obligations.RingCommandsTakeEffect := by
  unfold Obligations.RingCommandsTakeEffect
  refine ⟨fun n s hstopped hmin hmax hlow hhigh hfree hquota => ⟨_, _, rfl, rfl, ?start⟩, fun n s hhalted => ?resumeHalted,
    fun n s hstopped hclean => ⟨_, _, rfl, rfl, ?resumeStopped⟩, fun n s hrunning => congrArg Host.Outcome.next (if_pos hrunning),
    fun n s hstopped => ⟨_, _, _, _, rfl, rfl, rfl, rfl, congrArg Host.Outcome.next (if_pos hstopped)⟩, fun n s h => ?startRefused,
    fun n s hstopped hhalted => congrArg Host.Outcome.next ((if_neg hstopped).trans (if_neg hhalted)),
    fun n s hrunning => congrArg Host.Outcome.next (if_neg hrunning), fun n s hstopped => congrArg Host.Outcome.next (if_neg hstopped)⟩
  case start =>
    have htarget : ringTarget s n.val ≠ 0 := Nat.ne_of_gt hlow
    refine congrArg Host.Outcome.next ?_
    simp only [ringStartCmd, hstopped, ne_eq, not_true_eq_false, Nat.not_lt.2 hmin, Nat.not_lt.2 hmax, htarget,
      Nat.not_le.2 (Nat.lt_succ_of_le hhigh), hfree, hquota, Bool.false_eq_true, or_self, if_false]
  case resumeHalted =>
    refine congrArg Host.Outcome.next ((if_neg ?_).trans (if_pos hhalted))
    rw [hhalted]
    decide
  case resumeStopped =>
    have hread : (noteSetup n.val (noteBuild s)).journalBad = [] := by rw [noteSetup_journalBad, noteBuild_journalBad, hclean]
    refine congrArg Host.Outcome.next ?_
    simp only [ringResume, hstopped, if_true, readJournal_of_clean _ _ hread]
  case startRefused =>
    exact congrArg Host.Outcome.next (if_pos h)

/-- Settles O29: fetch, acceptance and completion, each by the branch that its conditions take. -/
theorem descriptorsAreFetchedAndAccepted : Obligations.DescriptorsAreFetchedAndAccepted := by
  unfold Obligations.DescriptorsAreFetchedAndAccepted
  refine ⟨fun n seq bs s u hrunning hleft hnone hrun hseq hall hu => ?agreed,
    fun n seq bs l s u hrunning hleft hnone hrun hseq hpair hu => ?minority,
    fun n d payload r s hfetched hact hrunning halone hroom hr hquota => ⟨_, rfl, ?accepted⟩,
    fun n r s hnext hact hnop hclean => ?nop⟩
  case agreed =>
    subst hseq hu
    have hfetch : fetchDesc n.val s = takeDesc n.val (nextSeq s n.val) (descOf bs) (reportLanes (ringLanes s)
        (4096 * fld s (Reg.ringBase n.val) 20 0 + 32 * ((nextSeq s n.val).toNat % ringSize s n.val)) 32 s) := by
      simp only [fetchDesc, hrunning, ne_eq, not_true_eq_false, Nat.ne_of_gt hleft, hnone, Option.isSome_none, hrun,
        Bool.false_eq_true, or_self, if_false, hall]
    refine ⟨congrArg Host.Outcome.next hfetch, fun hvalid hbuffer hacts => congrArg Host.Outcome.next (hfetch.trans ?_)⟩
    simp only [takeDesc, hvalid, ne_eq, not_true_eq_false, if_false, hbuffer, Bool.false_eq_true, keepDesc, hacts]
  case minority =>
    subst hseq hu
    refine congrArg Host.Outcome.next ?_
    simp only [fetchDesc, hrunning, ne_eq, not_true_eq_false, Nat.ne_of_gt hleft, hnone, Option.isSome_none, hrun,
      Bool.false_eq_true, or_self, if_false, hpair]
    rfl
  case accepted =>
    subst hr
    refine congrArg Host.Outcome.next ?_
    simp only [writeDesc, hfetched, hact, hrunning, ne_eq, not_true_eq_false, or_self, if_false, halone, hroom, Bool.false_eq_true,
      Nat.not_lt.2 hquota]
  case nop =>
    refine congrArg Host.Outcome.next ?_
    simp only [nopDesc, hnext, hact, hnop, and_self, if_true, readJournal_of_clean _ _ hclean, Bool.false_eq_true, if_false]

/-- Recording the build leaves the event queues. -/
theorem noteBuild_evq (s : State) : (noteBuild s).evq = s.evq := by
  unfold noteBuild
  split <;> simp only [set64, setReg_evq]

/-- Nothing is left of an earlier run where no record of the queue stands unconsumed and no count of it is carried over. -/
theorem carriedOver_of_fresh {m : Nat} {s : State} (hpart : s.evq.part.any (fun x => decide (x.1 = m)) = false)
    (hover : s.evq.overflow.any (fun w => decide (w.queue = m) && w.carried) = false)
    (hcounts : ∀ c ∈ s.evq.codes ++ s.evq.catchAll, c.queue = m → c.carried = 0) : carriedOver s m = 0 := by
  have hzero : ∀ l : List CodeCounter, (∀ c ∈ l, c.queue = m → c.carried = 0) →
      (l.map (fun c => if c.queue = m then c.carried.toNat else 0)).sum = 0 := by
    intro l hl
    refine List.sum_eq_zero fun x hx => ?_
    obtain ⟨c, hc, rfl⟩ := List.mem_map.1 hx
    split
    case isTrue h => rw [hl c hc h]; rfl
    case isFalse => rfl
  have hnone : s.evq.part.filter (fun x => decide (x.1 = m)) = [] :=
    List.filter_eq_nil_iff.2 fun x hx => List.any_eq_false.1 hpart x hx
  have hkept : s.evq.overflow.filter (fun w => decide (w.queue = m) && w.carried) = [] :=
    List.filter_eq_nil_iff.2 fun x hx => List.any_eq_false.1 hover x hx
  simp only [carriedOver, hnone, hkept, List.length_nil, hzero _ fun c hc => hcounts c (List.mem_append_left _ hc),
    hzero _ fun c hc => hcounts c (List.mem_append_right _ hc), Nat.add_zero]

/-- After a START the books of the queue begin at 0. -/
theorem startBooks_books (m : Fin 4) (s : State) : evqTail (startBooks m.val s) m.val = 0 ∧ evqHead (startBooks m.val s) m.val = 0 ∧
    (startBooks m.val s).evq.counts = tset 0 s.evq.counts m.val 0 := by
  have hne : Reg.evqTail m.val ≠ Reg.evqHead m.val := by revert m; decide
  refine ⟨?_, getReg_setReg_self .., ?_⟩
  · exact (getReg_setReg_other _ hne _).trans (getReg_setReg_self ..)
  · simp only [startBooks, setReg_evq]

/-- Settles O30: each command and delivery by the branch that its conditions take. -/
theorem queueCommandsAndDelivery : Obligations.QueueCommandsAndDelivery := by
  unfold Obligations.QueueCommandsAndDelivery
  refine ⟨fun m s hlegal hclean => ⟨_, rfl, ?resume⟩,
    fun m s _ hlegal hpart hover hcounts => ⟨addDelta (startBooks m.val (noteBuild s)) (.started m.val), ?start, ?books⟩,
    fun m s h => ⟨congrArg Host.Outcome.next (if_pos h), congrArg Host.Outcome.next (if_pos h)⟩,
    fun r s u hr hawake hu => ⟨fun h => ?routed, fun h => ?standby⟩⟩
  case resume =>
    have hread : (noteBuild s).journalBad = [] := (noteBuild_journalBad s).trans hclean
    refine congrArg Host.Outcome.next ?_
    simp only [evqResume, hlegal, Bool.false_eq_true, if_false, readJournal_of_clean _ _ hread]
  case start =>
    have hfresh : carriedOver (noteBuild s) m.val = 0 := by
      unfold carriedOver
      rw [noteBuild_evq]
      exact carriedOver_of_fresh hpart hover hcounts
    refine congrArg Host.Outcome.next ?_
    simp only [evqStart, hlegal, Bool.false_eq_true, if_false, hfresh, Nat.lt_irrefl]
  case books =>
    obtain ⟨htail, hhead, hcount⟩ := startBooks_books m (noteBuild s)
    refine ⟨(getReg_congr (addDelta_regs _ _) _).trans htail, (getReg_congr (addDelta_regs _ _) _).trans hhead, ?_⟩
    rw [(addDelta_frame _ _).2, hcount, noteBuild_evq]
  case routed =>
    subst hu
    refine congrArg Host.Outcome.next ?_
    simp only [deliverEvent, hr, hawake, if_false, h, Bool.false_eq_true]
  case standby =>
    subst hu
    refine congrArg Host.Outcome.next ?_
    simp only [deliverEvent, hr, hawake, if_false, h, if_true]
    rfl

end Sys2Proof.Machine
end

section
/-!
PROOFS. Force commands (R159, R160), the end of a retain commit (R149), restart commands (R146) and exchange reports (R154).
-/

namespace Sys2Proof.Machine

/-- A SET that nothing but its target and mask could refuse is taken. -/
theorem setReason_of_plain {s : State} (hopen : svcIsOpen s = true) (hvalid : targetValid s (getReg s Reg.modForceTarget) = true)
    (hplain : targetSafe s (getReg s Reg.modForceTarget) = false) (hmask : getReg s Reg.modForceMask = 1) : setReason s = 0 := by
  have hone : ¬((1 : Word) = 0) := by decide
  simp only [setReason, hopen, hvalid, hplain, hmask, not_true_eq_false, if_false, Bool.false_eq_true, false_and, ne_eq,
    and_false, or_false, hone]

/-- Showing the force table leaves the changes that wait. -/
theorem showForces_force (s : State) : (showForces s).force = s.force := by
  simp only [showForces, setBit_force, setFld_force]

/-- A change that does not wait yet comes behind those that do, and goes to a partner that receives. -/
theorem commitForce_of_new {c : ForceChange} {s u : State} (hnew : ∀ x ∈ s.force.changes, x.1 ≠ c)
    (hu : u = showForces { s with force := { s.force with changes := s.force.changes ++ [(c, forceDue s)] } }) :
    commitForce c s = if linked u then emitOut u (.straitNotice (.force c (forceDue s).1 (forceDue s).2)) else u := by
  have hnone : s.force.changes.find? (fun x => decide (x.1 = c)) = none :=
    List.find?_eq_none.2 fun x hx => by simpa using hnew x hx
  have hkept : s.force.changes.filter (fun x => decide (x.1 ≠ c)) = s.force.changes :=
    List.filter_eq_self.2 fun x hx => decide_eq_true (hnew x hx)
  have hadd : addForce c (forceDue s) s = u := by simp only [addForce, hnone, hkept, hu]
  have hwaits : u.force.changes.find? (fun x => decide (x.1 = c)) = some (c, forceDue s) := by
    rw [hu, showForces_force]
    simp [List.find?_append, hnone]
  simp only [commitForce, hadd, hwaits]

/-- A commit in progress whose word is not yet written, its log sound, is written, copied and done. -/
theorem retainDone_of_sound {log : RetainLog} {s : State} (hlog : s.retain.log = some log) (hword : s.retain.wordWritten = false)
    (hclean : s.retain.logBad = []) : ∃ r, retainDone s = { setReg s Reg.modRetainGen (s.retain.generation + 1) with retain := r } ∧
    r = { s.retain with
      data := log.blocks.foldl (fun m x => writeBytes m (64 * x.1) x.2) s.retain.data, log := none, wordWritten := false,
      logBad := [], ever := true, generation := s.retain.generation + 1, appBuild := log.appBuild, size := log.size,
      lastRelease := tset 0 s.retain.lastRelease log.task log.time, invalid := coldAhead s, headPoison := false } := by
  refine ⟨_, ?_, rfl⟩
  simp only [retainDone, hlog, hword, Bool.false_eq_true, if_false, applyCommit, writeWord, meetLog, hclean, List.foldl_nil]
  rfl

/-- A restart command with the Chronograph stopped takes effect at once, where the module's state takes one. -/
theorem restartCmd_of_stopped (cold : Bool) (cause : Nat) {s : State} (hstopped : running s = false)
    (hmode : modState s = .maintenance ∨ (modState s = .safeHalt ∧ s.pair.common = false) ∨
      (modState s = .boot ∧ setupPhase s = true)) :
    restartCmd cold cause s =
      bootEntry cause cold true (if cold then { s with retain := { s.retain with invalid := true } } else s) := by
  have hhalt : ¬(modState s = .safeHalt ∧ s.pair.common = true) := by
    rintro ⟨hm, hcommon⟩
    simp [hm, hcommon] at hmode
  have hactive : modState s ≠ .active := by
    intro hm
    simp [hm] at hmode
  obtain ⟨t, ht⟩ : ∃ t, t = (if cold then { s with retain := { s.retain with invalid := true } } else s) := ⟨_, rfl⟩
  have hsame : running t = running s ∧ modState t = modState s ∧ setupPhase t = setupPhase s := by
    subst ht
    cases cold <;> exact ⟨rfl, rfl, rfl⟩
  obtain ⟨hrun, hstate, hphase⟩ := hsame
  simp only [restartCmd, hhalt, if_false, ← ht, hrun, hstate, hstopped, Bool.false_eq_true, hactive, and_false, or_self]
  rcases hmode with hm | ⟨hm, _⟩ | ⟨hm, hopen⟩
  · rw [hm]
  · rw [hm]
  · rw [hm, hphase, hopen]
    rfl

/-- Settles O32: each command by the branch that its conditions take. -/
theorem forcesRetainAndRestart : Obligations.ForcesRetainAndRestart := by
  unfold Obligations.ForcesRetainAndRestart
  refine ⟨fun n s h => congrArg Host.Outcome.next (if_neg h),
    fun s => ⟨fun h => if_pos (by rw [h]; decide), fun hopen hvalid hplain hmask => setReason_of_plain hopen hvalid hplain hmask⟩,
    fun n c s u v hnew hu hv => ⟨fun hc hwhy => ?set, fun hc => ?remove, fun hc => ?removeAll⟩,
    fun log s hlog hword hclean => ?commit, fun s hmode hrun => ?atBoundary,
    fun s hstopped hmode => ⟨congrArg Host.Outcome.next (restartCmd_of_stopped false 2 hstopped hmode),
      congrArg Host.Outcome.next (restartCmd_of_stopped true 2 hstopped hmode)⟩,
    fun s hmode hcommon => ⟨congrArg Host.Outcome.next (if_pos ⟨hmode, hcommon⟩), congrArg Host.Outcome.next (if_pos ⟨hmode, hcommon⟩)⟩,
    fun v s => ⟨rfl, rfl⟩⟩
  case set =>
    subst hc hv
    exact congrArg Host.Outcome.next ((if_pos hwhy).trans (commitForce_of_new hnew hu))
  case remove =>
    subst hc hv
    exact congrArg Host.Outcome.next (commitForce_of_new hnew hu)
  case removeAll =>
    subst hc hv
    exact congrArg Host.Outcome.next (commitForce_of_new hnew hu)
  case commit =>
    obtain ⟨r, hdone, hr⟩ := retainDone_of_sound hlog hword hclean
    refine ⟨_, congrArg Host.Outcome.next hdone, ?_⟩
    subst hr
    exact ⟨rfl, rfl, rfl, rfl, rfl, rfl, rfl, rfl⟩
  case atBoundary =>
    have hhalt : ¬(modState s = .safeHalt ∧ s.pair.common = true) := fun h => hmode h.1
    exact ⟨congrArg Host.Outcome.next ((if_neg hhalt).trans (if_pos (.inl hrun))),
      congrArg Host.Outcome.next ((if_neg hhalt).trans (if_pos (.inl hrun)))⟩

end Sys2Proof.Machine
end

section
/-!
PROOFS. PTP messages received, sent and forwarded (R170, R174 to R178, R183).
-/

namespace Sys2Proof.Machine

/-- A message from the engine's own port goes out at once. -/
theorem sendPtp_of_engine {p : Nat} (h : 8 ≤ p) (pcp : Nat) (m : PtpMsg) (s : State) :
    sendPtp p pcp m s = emitOut s (.ptp p m) :=
  if_neg (Nat.not_lt.2 h)

/-- Settles O33: each message by the branch that its kind and the port's state take. -/
theorem ptpMessagesTakeEffect : Obligations.PtpMessagesTakeEffect := by
  unfold Obligations.PtpMessagesTakeEffect
  refine ⟨fun p m s h => congrArg Host.Outcome.next (if_pos h),
    fun p m s hdomain hudp hkind hclock htwo hbest => ?syncRx,
    fun p m s hdomain hudp hkind hclock hother => ⟨fun hbetter => ?better, fun b hb hsender hworse => ?worse⟩,
    fun p m s hdomain hudp hkind hclock hend hmaster => ?delayReq,
    fun k s hclock hover => congrArg Host.Outcome.next (if_pos ⟨hclock, decide_eq_true hover⟩),
    fun p s hp hclock hmaster hdue => ⟨_, rfl, ?announce⟩, fun p s hp hclock hmaster hdue => ⟨_, rfl, ?sync⟩,
    fun p who seq t s hdue => ?delayResp, fun p q m s h => congrArg Host.Outcome.next (if_pos (.inr h)),
    fun p q m s hne hplane hudp hkind htwo hroom => ?forward⟩
  case syncRx =>
    refine congrArg Host.Outcome.next ?_
    simp only [ptpRx, hdomain, hudp, ne_eq, not_true_eq_false, or_self, if_false, hkind, hclock, htwo, hbest, decide_true,
      Bool.and_self, if_true]
  case better =>
    refine congrArg Host.Outcome.next ?_
    simp only [ptpRx, hdomain, hudp, ne_eq, not_true_eq_false, or_self, if_false, hkind, hclock, hother, not_false_eq_true,
      decide_true, Bool.and_self, if_true]
    congr 2
    split
    case h_1 b hb =>
      have h := hbetter b hb
      simp [h]
    case h_2 => rfl
  case worse =>
    refine congrArg Host.Outcome.next ?_
    simp only [ptpRx, hdomain, hudp, ne_eq, not_true_eq_false, or_self, if_false, hkind, hclock, hother, not_false_eq_true,
      decide_true, Bool.and_self, if_true, hb, hsender, decide_false, hworse, Bool.or_self, Bool.false_eq_true]
  case delayReq =>
    refine congrArg Host.Outcome.next ?_
    simp only [ptpRx, hdomain, hudp, ne_eq, not_true_eq_false, or_self, if_false, hkind, hclock, hend, hmaster, Bool.not_false,
      decide_true, Bool.and_self, if_true]
  case announce =>
    refine congrArg Host.Outcome.next ?_
    simp only [ptpTx, hp, decide_true, hclock, hmaster, hdue, Bool.and_self, if_true, sendPtp_of_engine hp]
  case sync =>
    refine congrArg Host.Outcome.next ?_
    simp only [ptpTx, hp, decide_true, hclock, hmaster, hdue, Bool.and_self, if_true, sendPtp_of_engine hp]
  case delayResp =>
    refine congrArg Host.Outcome.next ?_
    simp only [ptpTx, sendDue, hdue]
  case forward =>
    have hports : ¬(p.val = q.val ∨ planeOfPort p.val ≠ planeOfPort q.val) := not_or.2 ⟨fun h => hne (Fin.ext h), not_not.2 hplane⟩
    have hgoes : (decide (8 ≤ q.val) || egressRoom s q.val (ptpPcp s p.val)) = true := by simpa using hroom
    refine congrArg Host.Outcome.next ?_
    simp only [forwardPtp, hports, if_false, hudp, ne_eq, not_true_eq_false, hkind, htwo, if_true, noteForward, hgoes, eventType]

end Sys2Proof.Machine
end

section
/-!
PROOFS. Loss of synchronisation (R170), time stamps (R177), captures and counts (R169, R183) and time pulses (R180, R181).
-/

namespace Sys2Proof.Machine

/-- A written register pair reads as written. -/
theorem get64_set64_self (s : State) (k : Nat) (v : Dword) : get64 (set64 s k v) k = v := by
  rw [get64, set64, getReg_setReg_self, getReg_setReg_other _ (by omega), getReg_setReg_self]
  exact BitVec.eq_of_getLsbD_eq fun i hi => by
    simp only [BitVec.getLsbD_append, BitVec.getLsbD_extractLsb']
    split <;> grind

/-- Other registers stand when a pair is written. -/
theorem getReg_set64_other (s : State) {j k : Nat} (hlow : j ≠ k) (hhigh : j ≠ k + 4) (v : Dword) :
    getReg (set64 s k v) j = getReg s j := by
  rw [set64, getReg_setReg_other _ hhigh, getReg_setReg_other _ hlow]

/-- A pair of registers reads alike where both do. -/
theorem get64_congr {s t : State} {k : Nat} (hlow : getReg s k = getReg t k) (hhigh : getReg s (k + 4) = getReg t (k + 4)) :
    get64 s k = get64 t k := by
  rw [get64, get64, hlow, hhigh]

/-- A capture reads as the corrected time and raw counter of its instant, and changes no other register. -/
theorem capture_reads (s : State) : get64 (capture s) Reg.transitCapTimeLo = corrected s ∧
    get64 (capture s) Reg.transitCapRawLo = s.time.raw.extractLsb' 8 64 ∧
    fld (capture s) Reg.transitCapRawFrac 7 0 = (s.time.raw.extractLsb' 0 8).toNat ∧ OnlyRegs s (capture s) ∧
    (∀ k, k ∉ [Reg.transitCapTimeLo, Reg.transitCapTimeLo + 4, Reg.transitCapRawLo, Reg.transitCapRawLo + 4,
      Reg.transitCapRawFrac] → getReg (capture s) k = getReg s k) := by
  dsimp only [capture]
  refine ⟨?time, ?raw, ?frac, ((OnlyRegs.setReg _ _ _).trans (.setReg _ _ _)).trans
    (((OnlyRegs.setReg _ _ _).trans (.setReg _ _ _)).trans (.setReg _ _ _)), fun k hk => ?others⟩
  case time =>
    refine (get64_congr ?_ ?_).trans (get64_set64_self s Reg.transitCapTimeLo (corrected s))
    · rw [getReg_setReg_other _ (by decide), getReg_set64_other _ (by decide) (by decide)]
    · rw [getReg_setReg_other _ (by decide), getReg_set64_other _ (by decide) (by decide)]
  case raw =>
    refine (get64_congr ?_ ?_).trans 
      (get64_set64_self (set64 s Reg.transitCapTimeLo (corrected s)) Reg.transitCapRawLo (s.time.raw.extractLsb' 8 64))
    · exact getReg_setReg_other _ (by decide) _
    · exact getReg_setReg_other _ (by decide) _
  case frac =>
    rw [fld, getReg_setReg_self, wordFld]
    exact congrArg BitVec.toNat (BitVec.eq_of_getLsbD_eq fun i hi => by simp [hi]; omega)
  case others =>
    simp only [List.mem_cons, List.not_mem_nil, or_false, not_or] at hk
    obtain ⟨htime, htime', hraw, hraw', hfrac⟩ := hk
    rw [getReg_setReg_other _ hfrac, getReg_set64_other _ hraw hraw', getReg_set64_other _ htime htime']

/-- Settles O34: each command by the branch that its conditions take. -/
theorem stampsAndPulsesTakeEffect : Obligations.StampsAndPulsesTakeEffect := by
  unfold Obligations.StampsAndPulsesTakeEffect
  refine ⟨fun s hsync hlate => ⟨_, rfl, congrArg Host.Outcome.next (if_pos ⟨hsync, hlate⟩)⟩,
    fun p dom mtype seq s hroom => congrArg Host.Outcome.next (if_pos hroom), fun e s hold => ?expires, fun s _ => ⟨_, rfl, capture_reads s⟩,
    fun s _ => ⟨_, rfl, ?clears⟩, fun s hdriven hslot hnear => congrArg Host.Outcome.next (if_pos ⟨hdriven, hslot, hnear⟩),
    fun rising w s hedge => ⟨fun hwide hapart => ⟨_, _, rfl, rfl, ?stamped⟩, ?otherEdge⟩, fun s hnew hsilent => ⟨_, rfl, ?missing⟩⟩
  case expires =>
    refine congrArg Host.Outcome.next ?_
    simp only [expireStamp, hold]
  case clears =>
    dsimp only [clearTsqCounts]
    refine ⟨?_, fld_setFld_self _ _ 0 (by decide) (by decide), ?_, (OnlyRegs.setFld _ _ _ _ _).trans (.setFld _ _ _ _ _), fun k hk => ?_⟩
    · rw [fld_setFld_near _ _ _ (by decide) (by decide) (by decide) (by decide),
        fld_setFld_self _ _ _ (by decide) (by decide), Nat.zero_mod]
    · rw [fld_setFld_near _ _ _ (by decide) (by decide) (by decide) (by decide),
        fld_setFld_near _ _ _ (by decide) (by decide) (by decide) (by decide)]
    · rw [getReg_setFld_other _ hk, getReg_setFld_other _ hk]
  case stamped =>
    refine congrArg Host.Outcome.next (if_pos ⟨hedge, hwide, ?_⟩)
    cases hlast : s.time.lastPulse with
    | none => rfl
    | some t => exact congrArg (! ·) (decide_eq_false (Nat.not_lt.2 (hapart t hlast)))
  case otherEdge =>
    refine congrArg Host.Outcome.next (if_neg fun h => ?_)
    obtain ⟨hactive, _⟩ := h
    rw [hedge] at hactive
    simp at hactive
  case missing => exact congrArg Host.Outcome.next (if_pos ⟨by rw [hnew]; decide, hsilent⟩)

end Sys2Proof.Machine
end

section
/-!
PROOFS. The switches, their ports and the ARP cache (R186 to R188, R194, R195).
-/

namespace Sys2Proof.Machine

/-- A frame that is neither PAUSE nor PTP, at an enabled port with link, has its source learned and is forwarded. -/
theorem switchRx_of_frame {p : Nat} {f : EthFrame} {s : State} (hlink : linkUp s p = true)
    (hen : bit s (Reg.netPortCfg p) 0 = true) (hpause : f.body ≠ .pause) (hptp : ∀ m, f.body ≠ .ptp m) :
    switchRx p f s = forward p f (ingressTime s p - BitVec.ofNat 64 ((wireLen f + 4) * (if portGiga s p then 8 else 80)))
      (learn p f.src s) := by
  simp only [switchRx, hlink, hen, not_true_eq_false, or_self, if_false]

/-- A PAUSE frame has no effect. -/
theorem switchRx_of_pause {p : Nat} {f : EthFrame} {s : State} (h : f.body = .pause) : switchRx p f s = s := by
  simp only [switchRx, h, ite_self]

/-- A frame that is neither PAUSE nor PTP and fails its checks is only counted. -/
theorem classify_of_bad {plane : Nat} {f : EthFrame} {t : Dword} {s : State} (hpause : f.body ≠ .pause)
    (hptp : ∀ m, f.body ≠ .ptp m) (hbad : f.checks = false) : classify plane f t s = satAdd s Reg.netRxCounts 7 0 1 := by
  rw [classify]
  split
  case h_1 m h => exact absurd h (hptp m)
  case h_2 h => exact absurd h hpause
  case h_3 => exact if_pos (by rw [hbad]; decide)

/-- Settles O35: each command by the branch that its conditions take. -/
theorem switchesTakeEffect : Obligations.SwitchesTakeEffect := by
  unfold Obligations.SwitchesTakeEffect
  refine ⟨fun p f s hwf hlink hen hpause hptp => ?forwarded, fun p f s => ⟨fun hwf hpause => ?paused, fun hbad => ?illFormed⟩,
    fun p pcp f rest s hlink hidle hfree htop hqueue => ?starts, fun pl m s => ⟨_, rfl, rfl, fun x => ?aged⟩,
    fun p l up giga able s hup hgiga hable => ⟨fun h => ?noChange, fun hnew hadmits => ⟨_, _, rfl, rfl, ?changes⟩⟩,
    fun pl ip e s he hold => ?refresh, fun s => rfl, fun s => rfl,
    fun pl p f t s hfirst => ⟨_, rfl, ?taken, fun hpause hptp hbad => ?counted⟩⟩
  case forwarded => exact (if_pos hwf).trans (congrArg Host.Outcome.next (switchRx_of_frame hlink hen hpause hptp))
  case paused => exact (if_pos hwf).trans (congrArg Host.Outcome.next (switchRx_of_pause hpause))
  case illFormed => exact if_neg (ne_true_of_eq_false hbad)
  case starts =>
    refine congrArg Host.Outcome.next ?_
    simp only [egressStart, hlink, hidle, hfree, Bool.false_eq_true, not_false_eq_true, and_self, if_true, htop, hqueue] <;> rfl
  case aged =>
    simp only [macAge, List.mem_filter, Bool.not_eq_true', Bool.and_eq_false_iff, decide_eq_false_iff_not, not_and_or, or_assoc]
  case noChange =>
    subst hup hgiga hable
    exact congrArg Host.Outcome.next (if_pos (by simpa using h))
  case changes =>
    subst hup hgiga hable
    refine congrArg Host.Outcome.next ((if_neg (not_or.2 ⟨hnew, fun h => h.2 (hadmits h.1)⟩)).trans ?_)
    rfl
  case refresh =>
    refine congrArg Host.Outcome.next ?_
    simp only [arpRefresh, he, Nat.not_lt.2 hold, if_false]
  case taken =>
    refine congrArg Host.Outcome.next ?_
    simp only [frameReceive, hfirst]
  case counted =>
    refine congrArg Host.Outcome.next ?_
    simp only [frameReceive, hfirst, classify_of_bad hpause hptp hbad]

end Sys2Proof.Machine
end

section
/-!
PROOFS. Flow contexts, pull replies and tunnels (R191, R193, R203 to R206), and message data with its receive buffers (R198 to R202).
-/

namespace Sys2Proof.Machine

/-- A bit that is set reads 1 as a field. -/
theorem wordFld_of_bit {s : State} {k i : Nat} (h : bit s k i = true) : wordFld (getReg s k) i i = 1 := by
  unfold bit fld at h
  simpa using h

/-- A tunnel's held frames leave once they are a batch, or once the hold has passed. -/
theorem tunnelSend_of_due {k batch : Nat} {s u : State} {t : TunnelSt} (ht : t = tget tunnel0 s.net.tunnels k)
    (hbatch : batch = fld s (Reg.netTunCfg k) 19 16 + 1) (hheld : t.held ≠ [])
    (hdue : batch ≤ t.held.length ∨ nth 0 t.since 0 + usRaw (10 * fld s (Reg.netTunCfg k) 27 20) ≤ rawNow s)
    (hvalid : bit s (Reg.netTunCfg k) 0 = true) (hsends : bit s (Reg.netTunCfg k) 1 = true) (hacts : standsBy s = false)
    (hu : u = { s with net := { s.net with tunnels := tset tunnel0 s.net.tunnels k { t with
      held := t.held.drop batch, since := t.since.drop batch, counter := t.counter + 1 } } }) :
    tunnelSend k s = ([0, 1].filter (fun pl => (getReg s (Reg.netTunCfg k)).getLsbD (9 + pl) && decide (planeIp u pl ≠ 0))).foldl
      (fun t' plane =>
        match resolve plane (planeDest t' plane (getReg t' (Reg.netTunDst k))) t' with
        | (some mac, v) => engineSend plane {
            dst := mac, src := planeMac v plane, tag := some (1, 5), checks := true,
            body := .tunnel (trafficIp v plane) (planeDest t' plane (getReg t' (Reg.netTunDst k))) (tunPort v)
              ⟨BitVec.ofNat 8 k, BitVec.ofNat 8 (fld s (Reg.netTunCfg k) 8 4), t.counter + 1, t.held.take batch⟩,
            bytes := [] } v
        | (none, v) => v) u := by
  subst ht hbatch hu
  have hact : wordFld (getReg s (Reg.netTunCfg k)) 0 0 = 1 ∧ wordFld (getReg s (Reg.netTunCfg k)) 1 1 = 1 ∧ ¬standsBy s :=
    ⟨wordFld_of_bit hvalid, wordFld_of_bit hsends, by rw [hacts]; decide⟩
  have hsend : ¬((tget tunnel0 s.net.tunnels k).held.isEmpty = true ∨
      ((tget tunnel0 s.net.tunnels k).held.length < wordFld (getReg s (Reg.netTunCfg k)) 19 16 + 1 ∧
        rawNow s < nth 0 (tget tunnel0 s.net.tunnels k).since 0 + usRaw (10 * wordFld (getReg s (Reg.netTunCfg k)) 27 20))) := by
    rintro (h | ⟨hfew, hearly⟩)
    · exact hheld (List.isEmpty_iff.1 h)
    · rcases hdue with h | h
      · exact Nat.not_le.2 hfew h
      · exact Nat.not_le.2 hearly h
  dsimp only [tunnelSend]
  rw [if_neg hsend, if_pos hact, if_pos hact]
  refine congrArg (fun step => List.foldl step _ _) (funext₂ fun t plane => ?_)
  rcases resolve plane (planeDest t plane (getReg t (Reg.netTunDst k))) t with ⟨_ | mac, v⟩
  · rfl
  · rfl

/-- Settles O36: each command by the branch that its conditions take. -/
theorem processDataAndTunnels : Obligations.ProcessDataAndTunnels := by
  unfold Obligations.ProcessDataAndTunnels
  refine ⟨fun f v w s hw hinvalid hset => ⟨fun hfits => ?validated, fun hwhy => ?refused⟩, fun f v w s hw hvalid hset => ?kept,
    fun f v w s hw hvalid hclear => ⟨fun h => ?named, fun h => ?cleared⟩,
    fun f plane ip comId m s u v w hreply hu hsends hvalid hsound hdest hw => ?reply,
    fun k batch s u hbatch hheld hdue hvalid hsends hacts hu =>
      congrArg Host.Outcome.next (tunnelSend_of_due rfl hbatch hheld hdue hvalid hsends hacts hu)⟩
  case reply =>
    subst hu hw
    refine congrArg Host.Outcome.next ?_
    simp only [pullReply, hreply, hsends, hvalid, not_true_eq_false, or_self, if_false, hsound, hdest]
  all_goals
    subst hw
    refine congrArg Host.Outcome.next ?_
  case validated =>
    simp only [writeFlowCfg, hinvalid, hset, Bool.false_eq_true, false_and, if_false, if_true, hfits, ne_eq, not_true_eq_false]
  case refused => simp only [writeFlowCfg, hinvalid, hset, Bool.false_eq_true, false_and, if_false, if_true, if_pos hwhy]
  case kept => simp only [writeFlowCfg, hvalid, hset, and_self, if_true]
  case named => simp only [writeFlowCfg, hvalid, hclear, Bool.false_eq_true, and_false, if_false, if_true, h, and_self]
  case cleared => simp only [writeFlowCfg, hvalid, hclear, Bool.false_eq_true, and_false, if_false, if_true, h]

/-! ### Message data (R198 to R202) -/

section Sends

variable {op k : Nat} {r : JRecord} {s z u v : State} {x : MdSend} {planes : List Nat}

/-- A message that no supervision watches is tried on its planes with link and address. -/
theorem mdSend_of_unwatched (hop : op ∈ [1, 3, 5]) (hstart : startRec s k 1 op = (some r, z)) (hmin : 32 ≤ r.desc.len.toNat)
    (hmax : r.desc.len.toNat ≤ 1388)
    (hplanes : planes = (mdPlanes r.desc).filter (fun p => planeLink z p && decide (planeIp z p ≠ 0))) (hsome : planes ≠ [])
    (hu : u = markRec z k r.desc.seq .started) (hx : (x, v) = trySend op r ⟨k, r.desc.seq, [], rawNow u, planes, []⟩ u) :
    mdSend op k s = setSends v (v.net.sends ++ [x]) := by
  have hmd : op ≠ 16 := by rintro rfl; revert hop; decide
  have hplain : ¬(op = 2 ∨ op = 4) := by rintro (rfl | rfl) <;> (revert hop; decide)
  simp only [mdSend, hstart, hmd, if_false, Nat.not_lt.2 hmin, Nat.not_lt.2 hmax, or_self, decide_false, Bool.false_or, ← hplanes,
    List.isEmpty_iff, hsome, hplain, false_and, ← hu, ← hx]

/-- A request with a timeout takes a supervision entry before it is tried. -/
theorem mdSend_of_watched (hop : op ∈ [2, 4]) (hstart : startRec s k 1 op = (some r, z)) (hmin : 32 ≤ r.desc.len.toNat)
    (hmax : r.desc.len.toNat ≤ 1388)
    (hplanes : planes = (mdPlanes r.desc).filter (fun p => planeLink z p && decide (planeIp z p ≠ 0))) (hsome : planes ≠ [])
    (htimeout : sendField r.payload 24 4 ≠ 0) (hroom : z.net.superv.length < 32) (hu : u = markRec z k r.desc.seq .started)
    (hx : (x, v) = trySend op r ⟨k, r.desc.seq, [], rawNow u, planes, []⟩
      { u with net := { u.net with superv := u.net.superv ++ [⟨k, r.desc.seq,
        BitVec.ofNat 128 (beVal ((r.payload.drop 8).take 16)), rawNow u + usRaw (sendField r.payload 24 4)⟩] } }) :
    mdSend op k s = setSends v (v.net.sends ++ [x]) := by
  have hmd : op ≠ 16 := by rintro rfl; revert hop; decide
  have hwatched : op = 2 ∨ op = 4 := by simpa using hop
  have hnow : ∀ net, rawNow { u with net := net } = rawNow u := fun _ => rfl
  simp only [mdSend, hstart, hmd, if_false, Nat.not_lt.2 hmin, Nat.not_lt.2 hmax, or_self, decide_false, Bool.false_or, ← hplanes,
    List.isEmpty_iff, hsome, hwatched, htimeout, ne_eq, not_false_eq_true, and_self, true_and, Nat.not_le.2 hroom, if_true, ← hu,
    hnow, ← hx]

/-- A raw frame is tried on its planes with link. -/
theorem mdSend_of_raw (hstart : startRec s k 1 16 = (some r, z)) (hmin : 14 ≤ r.desc.len.toNat) (hmax : r.desc.len.toNat ≤ 1518)
    (hplanes : planes = (mdPlanes r.desc).filter (planeLink z)) (hsome : planes ≠ []) (hu : u = markRec z k r.desc.seq .started)
    (hx : (x, v) = trySend 16 r ⟨k, r.desc.seq, [], rawNow u, planes, []⟩ u) :
    mdSend 16 k s = setSends v (v.net.sends ++ [x]) := by
  have hplain : ¬(16 = 2 ∨ 16 = 4) := by decide
  simp only [mdSend, hstart, if_true, Nat.not_lt.2 hmin, Nat.not_lt.2 hmax, or_self, if_false, decide_true, Bool.true_or,
    Bool.and_true, ← hplanes, List.isEmpty_iff, hsome, hplain, false_and, ← hu, ← hx]

end Sends

/-- Settles O37: each descriptor by its opcode, and the ends by what they find. -/
theorem messageDataTakesEffect : Obligations.MessageDataTakesEffect := by
  unfold Obligations.MessageDataTakesEffect
  refine ⟨fun k op r s z u v x planes hop hstart hmin hmax hplanes hsome hu hx => ?plain,
    fun k op r s z u v x planes hop hstart hmin hmax hplanes hsome htimeout hroom hu hx => ?watched,
    fun k r s z u v x planes hstart hmin hmax hplanes hsome hu hx =>
      congrArg Host.Outcome.next (mdSend_of_raw hstart hmin hmax hplanes hsome hu hx),
    fun k r s z hstart hshort => ?short, fun k x s hx => ?commit, fun k x s hx => ?unresolved, fun id x s hx => ?timeout,
    fun k r s z hstart => ⟨fun h => ?small, fun h => ?stays⟩⟩
  case plain =>
    have h := mdSend_of_unwatched hop hstart hmin hmax hplanes hsome hu hx
    exact ⟨by rintro rfl; exact congrArg Host.Outcome.next h, by rintro rfl; exact congrArg Host.Outcome.next h,
      by rintro rfl; exact congrArg Host.Outcome.next h⟩
  case watched =>
    have h := mdSend_of_watched hop hstart hmin hmax hplanes hsome htimeout hroom hu hx
    exact ⟨by rintro rfl; exact congrArg Host.Outcome.next h, by rintro rfl; exact congrArg Host.Outcome.next h⟩
  all_goals refine congrArg Host.Outcome.next ?_
  case short => simp [mdSend, hstart, hshort]
  case commit => simp only [mdCommit, hx]
  case unresolved => simp only [mdUnresolved, hx]
  case timeout => simp only [mdReplyTimeout, hx]
  case small => simp only [netRxBuffer, hstart, h, if_true]
  case stays => simp only [netRxBuffer, hstart, Nat.not_lt.2 h, if_false]

end Sys2Proof.Machine
end

section
/-!
PROOFS. What a CAN channel does with received frames and errors (R225, R234, R236, R244), and with the frames it sends (R237, R238, R241,
R242, R244, R245, R248).
-/

namespace Sys2Proof.Machine

/-! ### Reception -/

/-- A time stamp is the time cut to the grid of 12.5 ns, in whole nanoseconds. -/
theorem toNat_canStamp (t : Dword) : (canStamp t).toNat = t.toNat * 2 / 25 * 25 / 2 := by
  have hle : t.toNat * 2 / 25 * 25 / 2 ≤ t.toNat := by omega
  rw [canStamp, BitVec.toNat_ofNat, Nat.mod_eq_of_lt (Nat.lt_of_le_of_lt hle t.isLt)]

/-- A frame of a format that the channel admits is received. -/
theorem frameRx_of_admitted {n : Nat} {f : CanFrame} {sofNs : Word} {s : State} (hbus : chOnBus s n = true)
    (hloop : chLoopback s n = false) (hfd : f.fdf = true → bit s (Reg.canChCfg n) 3 = true) :
    frameRx n f sofNs s = filterFrame n f (canStamp (corrected s - sofNs.setWidth 64))
      (seenFrame n f (canStamp (corrected s - sofNs.setWidth 64)) (refForeign n f (rxGood n s))) := by
  have hadmits : ¬(f.fdf = true ∧ ¬bit s (Reg.canChCfg n) 3 = true) := fun h => h.2 (hfd h.1)
  simp only [frameRx, hbus, not_true_eq_false, hloop, Bool.false_eq_true, or_self, if_false, hadmits]

/-- An FD frame on a channel that does not take FD joins again or counts as a form error. -/
theorem frameRx_of_foreignFormat {n : Nat} {f : CanFrame} {sofNs : Word} {s : State} (hbus : chOnBus s n = true)
    (hloop : chLoopback s n = false) (hfd : f.fdf = true) (hclassical : bit s (Reg.canChCfg n) 3 = false) :
    frameRx n f sofNs s = if bit s (Reg.canChCfg n) 4 then setChState s n 1 else rxError n .form false false s := by
  simp only [frameRx, hbus, not_true_eq_false, hloop, Bool.false_eq_true, or_self, if_false, hfd, hclassical, not_false_eq_true,
    and_self, if_true]

/-- Settles O39: each command by the branch that the channel's state takes. -/
theorem canReceptionTakesEffect : Obligations.CanReceptionTakesEffect := by
  unfold Obligations.CanReceptionTakesEffect
  refine ⟨fun c e dataPhase heavy s hbus => ⟨_, rfl, congrArg Host.Outcome.next (if_pos hbus)⟩,
    fun c f sofNs s hwf hbus hloop hfd => ⟨_, toNat_canStamp _, (if_pos hwf).trans (congrArg Host.Outcome.next
      (frameRx_of_admitted hbus hloop hfd))⟩,
    fun c f sofNs s hwf hbus hloop hfd hclassical => ?foreignFormat, fun n f sof s hnone hdrop => ?dropped, fun k r s z hstart => ?buffer⟩
  case foreignFormat =>
    refine (if_pos hwf).trans ((congrArg Host.Outcome.next (frameRx_of_foreignFormat hbus hloop hfd hclassical)).trans ?_)
    split <;> rfl
  case dropped => simp only [filterFrame, hnone, hdrop, Bool.false_eq_true, if_false, canDrop]
  case buffer =>
    refine congrArg Host.Outcome.next ?_
    simp only [rxBuffer, hstart]

/-! ### Transmission -/

/-- A channel on the bus that may send, with no frame in flight, starts the winner of arbitration. -/
theorem txAttempt_of_winner {n delay i : Nat} {e : TxEntry} {s : State} (hbus : chOnBus s n = true)
    (hsends : listenOnly s n = false) (hgoes : (chan s n).suspend = false)
    (hidle : (chan s n).queue.any (fun e => e.sof.isSome) = false) (hpins : s.tap.acting = none)
    (hwinner : winner s (chan s n).queue = some i) (he : (chan s n).queue[i]? = some e) :
    txAttempt n delay s = setChan s n { chan s n with
      loopDelay := (measureLoop s n delay e.frame).1
      ssp := (measureLoop s n delay e.frame).2
      queue := (chan s n).queue.modify i (fun e => { e with
        attempts := e.attempts + 1, sof := some (canStamp (corrected s)),
        frame := { e.frame with esi := e.frame.fdf && decide (chState s n = 3) } }) } := by
  simp only [txAttempt, hbus, hsends, Bool.false_eq_true, not_false_eq_true, hgoes, hidle, hpins, Option.isNone_none, and_self,
    if_true, hwinner, he]

/-- With no entry left to send, nothing starts. -/
theorem txAttempt_of_none {n delay : Nat} {s : State} (h : winner s (chan s n).queue = none) : txAttempt n delay s = s := by
  simp only [txAttempt, h, ite_self]

/-- Settles O40: each command by what is in flight and what the queue holds. -/
theorem canTransmissionTakesEffect : Obligations.CanTransmissionTakesEffect := by
  unfold Obligations.CanTransmissionTakesEffect
  refine ⟨fun k r s z n hstart hn hwhy => ?refused, fun k r s z n hstart hn hgood hroom => ?queued,
    fun c ld i e s hbus hsends hgoes hidle hpins hwinner he =>
      congrArg Host.Outcome.next (txAttempt_of_winner hbus hsends hgoes hidle hpins hwinner he),
    fun c e rest k seq single d s hflight hsrc => ⟨_, _, rfl, rfl, ?commit⟩, fun c e rest s hflight => ?lost,
    fun c e rest err dataPhase late s hflight => ⟨_, rfl, ?error⟩, fun c b s hflight hbus hsends => ⟨_, rfl, ?flag⟩,
    fun c ld s u hsuspend hu => ⟨?again, fun hnone => ?nothing⟩,
    fun c ld i e s u hsuspend hu hbus hsends hgoes hidle hpins hwinner he => ?resumes, fun c i f k seq single d n o s hi he => ?expires⟩
  case refused =>
    subst hn
    refine congrArg Host.Outcome.next ?_
    simp only [txFrame, hstart, if_pos hwhy]
  case queued =>
    subst hn
    refine congrArg Host.Outcome.next ?_
    simp only [txFrame, hstart, hgood, ne_eq, not_true_eq_false, if_false, Nat.not_le.2 hroom]
  case commit =>
    refine congrArg Host.Outcome.next ?_
    simp only [txCommit, hflight, hsrc]
  case lost =>
    refine congrArg Host.Outcome.next ?_
    simp [txError, hflight, clashRun]
  case error =>
    refine congrArg Host.Outcome.next ?_
    simp only [txError, hflight, Bool.false_eq_true, if_false]
  case flag =>
    refine congrArg Host.Outcome.next ?_
    simp only [txError, hflight, txFlagError, hbus, hsends, Bool.false_eq_true, not_false_eq_true, and_self, if_true]
  case again =>
    subst hu
    exact congrArg Host.Outcome.next (if_pos hsuspend)
  case nothing =>
    subst hu
    exact congrArg Host.Outcome.next ((if_pos hsuspend).trans (txAttempt_of_none hnone))
  case resumes =>
    subst hu
    exact congrArg Host.Outcome.next ((if_pos hsuspend).trans (txAttempt_of_winner hbus hsends hgoes hidle hpins hwinner he))
  case expires =>
    refine congrArg Host.Outcome.next ?_
    simp only [deadlineExpiry, hi, he]

end Sys2Proof.Machine
end

section
/-!
PROOFS. Bus-off recovery, integration and the supplies of the CAN groups (R230, R244, R247, R249, R250), and the enabling and
disabling of a channel (R251).
-/

namespace Sys2Proof.Machine

/-! ### Fields of a register of which a bit is written -/

/-- A field beside the written bit stays. -/
theorem fld_setBit_near (s : State) (k i : Nat) (b : Bool) {hi lo : Nat} (hl : lo ≤ hi) (hh : hi < 32) (hd : hi < i ∨ i < lo) :
    fld (setBit s k i b) k hi lo = fld s k hi lo :=
  fld_setFld_near s k _ (Nat.le_refl i) hl hh hd

/-- A field of another register stays. -/
theorem fld_setBit_other (s : State) {j k : Nat} (h : j ≠ k) (i : Nat) (b : Bool) (hi lo : Nat) :
    fld (setBit s k i b) j hi lo = fld s j hi lo :=
  fld_setFld_other s h ..

/-! ### Recovery (R244, R247) -/

/-- The state in which a channel's counters are 0 and it is shown error active. -/
def recoveredStatus (n : Nat) (s : State) : State :=
  setChState (setBit (setFld (setFld s (Reg.canChStatus n) 16 8 0) (Reg.canChStatus n) 31 24 0) (Reg.canChStatus n) 5 false) n 2

/-- The state in which a channel has recovered, before it reports so. -/
def recovered (n : Nat) (s : State) : State :=
  showListen n (setChan (recoveredStatus n s) n { chan (recoveredStatus n s) n with waitIdle := false })

/-- A channel's state is shown in its status register and in CAN_BUSOFF and CAN_PASSIVE. -/
structure StatusApart (n : Nat) : Prop where
  busoff : Reg.canChStatus n ≠ Reg.canBusoff
  passive : Reg.canChStatus n ≠ Reg.canPassive
  cfg : Reg.canChCfg n ≠ Reg.canChStatus n
  mod : Reg.modState ≠ Reg.canChStatus n

theorem statusApart (c : Fin 20) : StatusApart (c.val + 1) := by
  refine ⟨?_, ?_, ?_, ?_⟩ <;> (revert c; decide)

/-- What a channel's status shows beside LISTEN stands when LISTEN is shown. -/
theorem fld_showListen {n : Nat} (s : State) {hi lo : Nat} (hl : lo ≤ hi) (hh : hi < 32) (hd : hi < 4 ∨ 4 < lo) :
    fld (showListen n s) (Reg.canChStatus n) hi lo = fld s (Reg.canChStatus n) hi lo :=
  fld_setBit_near s _ 4 _ hl hh hd

/-- What a channel's status shows beside STATE stands when STATE is written. -/
theorem fld_setChState {n : Nat} (h : StatusApart n) (s : State) (st : Nat) {hi lo : Nat} (hl : lo ≤ hi) (hh : hi < 32)
    (hd : 2 < lo) : fld (setChState s n st) (Reg.canChStatus n) hi lo = fld s (Reg.canChStatus n) hi lo := by
  rw [setChState, fld_setBit_other _ h.passive, fld_setBit_other _ h.busoff, fld_setFld_near _ _ _ (by omega) hl hh (.inr hd)]

/-- STATE reads as written. -/
theorem chState_setChState {n : Nat} (h : StatusApart n) (s : State) {st : Nat} (hst : st < 8) : chState (setChState s n st) n = st := by
  rw [chState, setChState, fld_setBit_other _ h.passive, fld_setBit_other _ h.busoff, fld_setFld_self _ _ _ (by omega) (by omega)]
  exact Nat.mod_eq_of_lt hst

/-- Showing a channel's state changes registers alone. -/
theorem onlyRegs_setChState (n : Nat) (s : State) (st : Nat) : OnlyRegs s (setChState s n st) :=
  ((OnlyRegs.setFld _ _ _ _ _).trans (.setBit _ _ _ _)).trans (.setBit _ _ _ _)

/-- Registers but the channel's status, CAN_BUSOFF and CAN_PASSIVE stand. -/
theorem getReg_setChState_other {n k : Nat} (s : State) (st : Nat) (hstatus : k ≠ Reg.canChStatus n) (hbusoff : k ≠ Reg.canBusoff)
    (hpassive : k ≠ Reg.canPassive) : getReg (setChState s n st) k = getReg s k := by
  rw [setChState, getReg_setBit_other _ hpassive, getReg_setBit_other _ hbusoff, getReg_setFld_other _ hstatus]

/-- Whether a channel only listens does not depend on what its status shows. -/
theorem listenOnly_setBit_status {n : Nat} (h : StatusApart n) (s : State) (i : Nat) (b : Bool) :
    listenOnly (setBit s (Reg.canChStatus n) i b) n = listenOnly s n := by
  have hmod : modState (setBit s (Reg.canChStatus n) i b) = modState s := by
    rw [modState, modState, fld_setBit_other _ h.mod]
  have hen : chEnabled (setBit s (Reg.canChStatus n) i b) n = chEnabled s n := by
    rw [chEnabled, chEnabled, bit, bit, fld_setBit_other _ h.cfg]
  have hchan : chan (setBit s (Reg.canChStatus n) i b) n = chan s n := by rw [chan, chan, setBit_can]
  simp only [listenOnly, hen, standsBy, hmod, hchan, fld_setBit_other _ h.cfg]

/-- A recovered channel: its counters are 0, it is error active and shows whether it only listens; nothing but its status
registers and its record has changed. -/
theorem recovered_reads {n : Nat} (h : StatusApart n) (s : State) : tec (recovered n s) n = 0 ∧ rec_ (recovered n s) n = 0 ∧
    chState (recovered n s) n = 2 ∧ bit (recovered n s) (Reg.canChStatus n) 4 = listenOnly (recovered n s) n ∧
    recovered n s = { setChan s n { chan s n with waitIdle := false } with regs := (recovered n s).regs } ∧
    (∀ k, k ≠ Reg.canChStatus n → k ≠ Reg.canBusoff → k ≠ Reg.canPassive → getReg (recovered n s) k = getReg s k) := by
  refine ⟨?tec, ?rec, ?state, ?listen, ?frame, fun k hstatus hbusoff hpassive => ?others⟩
  case tec =>
    rw [tec, recovered, fld_showListen _ (by decide) (by decide) (by decide), fld_congr (setChan_regs ..), recoveredStatus,
      fld_setChState h _ _ (by decide) (by decide) (by decide), fld_setBit_near _ _ _ _ (by decide) (by decide) (by decide),
      fld_setFld_near _ _ _ (by decide) (by decide) (by decide) (by decide), fld_setFld_self _ _ _ (by decide) (by decide),
      Nat.zero_mod]
  case rec =>
    rw [rec_, recovered, fld_showListen _ (by decide) (by decide) (by decide), fld_congr (setChan_regs ..), recoveredStatus,
      fld_setChState h _ _ (by decide) (by decide) (by decide), fld_setBit_near _ _ _ _ (by decide) (by decide) (by decide),
      fld_setFld_self _ _ _ (by decide) (by decide), Nat.zero_mod]
  case state =>
    rw [chState, recovered, fld_showListen _ (by decide) (by decide) (by decide), fld_congr (setChan_regs ..)]
    exact chState_setChState h _ (by decide)
  case listen =>
    rw [recovered, showListen, bit_setBit_self _ _ _ (by decide), listenOnly_setBit_status h]
  case frame =>
    have ht : OnlyRegs s (recoveredStatus n s) :=
      (((OnlyRegs.setFld _ _ _ _ _).trans (.setFld _ _ _ _ _)).trans (.setBit _ _ _ _)).trans (onlyRegs_setChState n _ 2)
    rw [recovered, showListen, ht]
    rfl
  case others =>
    rw [recovered, showListen, getReg_setBit_other _ hstatus, getReg_congr (setChan_regs ..), recoveredStatus,
      getReg_setChState_other _ _ hstatus hbusoff hpassive, getReg_setBit_other _ hstatus, getReg_setFld_other _ hstatus,
      getReg_setFld_other _ hstatus]

/-- A recovering channel's sequence completes: it has recovered and reports so, then takes its profile. -/
theorem recoveryDone_of_recovering {n : Nat} {s : State} (hen : chEnabled s n = true) (hstate : chState s n = 5) :
    recoveryDone n s = integratedProfile n (raise Ev.busOffRecovered n (canDetail (recovered n s) n)
      ((rawNow s - (chan s n).busOffAt) / msRaw 1) (recovered n s)) := by
  unfold recoveryDone recovered recoveredStatus
  exact if_pos ⟨hen, hstate⟩

/-- Settles O41: each command by the branch that the channel's state takes. -/
theorem canRecoveryTakesEffect : Obligations.CanRecoveryTakesEffect := by
  unfold Obligations.CanRecoveryTakesEffect
  refine ⟨fun c s hen hstate hauto hsupply hdelay => ?starts, fun c s hen hstate hsupply => ?recover, fun c s hen hstate hsupply => ?waits,
    fun c s h => ?refused, fun c s _ hen hstate => ⟨recovered (c.val + 1) s, ?recovered⟩, fun c s hen hstate => ?joins,
    fun c s hen hstate => ?stays, fun c s => rfl, fun g s hsupply => ⟨_, rfl, ?fault⟩, fun g s => ⟨_, rfl, ?returns⟩⟩
  case starts =>
    exact congrArg Host.Outcome.next (if_pos ⟨hen, hstate, ne_true_of_eq_false hauto, ne_true_of_eq_false hsupply, hdelay⟩)
  case recover => exact congrArg Host.Outcome.next ((if_pos ⟨hen, hstate⟩).trans (if_neg (ne_true_of_eq_false hsupply)))
  case waits => exact congrArg Host.Outcome.next ((if_pos ⟨hen, hstate⟩).trans (if_pos hsupply))
  case refused =>
    refine congrArg Host.Outcome.next (if_neg fun ⟨hen, hstate⟩ => ?_)
    exact h.elim (fun h => ne_true_of_eq_false h hen) (fun h => h hstate)
  case recovered =>
    obtain ⟨htec, hrec, hshown, hlisten, hframe, hothers⟩ := recovered_reads (statusApart c) s
    have hdetail : canDetail (recovered (c.val + 1) s) (c.val + 1) = 0 := by rw [canDetail, htec, hrec]
    refine ⟨htec, hrec, hshown, hlisten, hframe, hothers, congrArg Host.Outcome.next ?_⟩
    rw [recoveryDone_of_recovering hen hstate, hdetail]
  case joins =>
    have hjoining : chState (setChan s (c.val + 1) { chan s (c.val + 1) with waitIdle := false }) (c.val + 1) = 1 := hstate
    refine congrArg Host.Outcome.next ((if_pos hen).trans ((if_pos ((Nat.le_of_eq hjoining).trans (by decide))).trans ?_))
    exact congrArg (fun t => showListen (c.val + 1) (integratedProfile (c.val + 1) t)) (if_pos hjoining)
  case stays =>
    have hoff : ¬chState (setChan s (c.val + 1) { chan s (c.val + 1) with waitIdle := false }) (c.val + 1) ≤ 3 :=
      Nat.not_le.2 hstate
    exact congrArg Host.Outcome.next ((if_pos hen).trans (if_neg hoff))
  case fault =>
    refine congrArg Host.Outcome.next ((if_pos hsupply).trans ?_)
    refine congrArg (fun f => List.foldl f _ _) (funext₂ fun s n => ?_)
    cases chEnabled s n with
    | false => rfl
    | true => rfl
  case returns =>
    refine congrArg (fun f => Host.Outcome.next (List.foldl f _ _)) (funext₂ fun s n => ?_)
    cases hsupply : (chan s n).noSupply with
    | false => rfl
    | true => rfl

/-! ### Set-up (R251) -/

/-- Settles O42: each write by the branch that the enable bits and the checks take. -/
theorem canEnableTakesEffect : Obligations.CanEnableTakesEffect := by
  unfold Obligations.CanEnableTakesEffect
  refine ⟨fun c v s hoff hwant hgood => ⟨_, rfl, ?enabled⟩, fun c v s hoff hwant hwhy => ?refused, fun c v s hon hwant hkept => ?rewritten,
    fun c v s hon hchanged => ?changed, fun c v s hon hclear h => ?stands, fun c v s hon hclear hkept hempty hnone => ⟨_, rfl, ?disabled⟩⟩
  all_goals refine congrArg Host.Outcome.next ?_
  case enabled =>
    simp only [writeChCfg, hoff, Nat.zero_ne_one, false_and, if_false, hwant, if_true, hgood, ne_eq, not_true_eq_false]
  case refused =>
    simp only [writeChCfg, hoff, Nat.zero_ne_one, false_and, if_false, hwant, if_true, if_pos hwhy]
  case rewritten =>
    simp only [writeChCfg, hon, hkept, not_true_eq_false, and_false, if_false, hwant, and_self, if_true]
  case changed =>
    exact if_pos ⟨hon, hchanged⟩
  case stands =>
    by_cases hkept : wordFld (getReg s (Reg.canChCfg (c.val + 1))) 5 3 =
      wordFld (committed s (Reg.canChCfg (c.val + 1)) (v &&& ~~~1)) 5 3
    · simp only [writeChCfg, hon, hkept, not_true_eq_false, and_false, if_false, hclear, Nat.zero_ne_one, if_true,
        h.resolve_left (fun k => k hkept)]
    · exact if_pos ⟨hon, hkept⟩
  case disabled =>
    simp only [writeChCfg, hon, hkept, not_true_eq_false, and_false, if_false, hclear, Nat.zero_ne_one, if_true, hempty, hnone,
      Bool.false_eq_true, Nat.lt_irrefl, or_self]

end Sys2Proof.Machine
end

section
/-!
PROOFS. Window accesses, their votes, bounds and fences (R257, R260 to R263, R265, R270).
-/

namespace Sys2Proof.Machine

/-- An access matches itself. -/
theorem sameAccess_refl (a : WinAcc) : sameAccess a a = true := by
  simp [sameAccess]

/-- The first access of its count opens a vote. -/
theorem joinVote_of_first {a : WinAcc} {s : State}
    (h : s.isth.votes.find? (fun v => decide (v.stream = none) && decide (v.index = s.isth.counts.get a.lane)) = none) :
    joinVote a s = openVote (s.isth.counts.get a.lane) a
      { s with isth := { s.isth with counts := s.isth.counts.set a.lane (s.isth.counts.get a.lane + 1) } } := by
  simp only [joinVote, h]

/-- An access that matches the one VOTING lane's access of an unformed vote forms it. -/
theorem joinVote_of_match {a b : WinAcc} {v : WinVote} {s u : State}
    (hv : s.isth.votes.find? (fun v => decide (v.stream = none) && decide (v.index = s.isth.counts.get a.lane)) = some v)
    (hunformed : v.chosen = none) (hopen : v.stuck = false) (hgot : v.got = [b]) (hvotes : laneVotes s b.lane = true)
    (hsame : sameAccess a b = true)
    (hu : u = mapVote { s with isth := { s.isth with counts := s.isth.counts.set a.lane (s.isth.counts.get a.lane + 1) } } v.order
      (fun x => { x with got := x.got ++ [a], openMt := v.openMt })) : joinVote a s = formVote v.order b u := by
  have hprior : ∀ isth, voters { s with isth := isth } v = [b] := fun isth => by
    have hvotes' : laneVotes { s with isth := isth } b.lane = true := hvotes
    simp only [voters, hgot, List.filter_cons, hvotes', if_true, List.filter_nil]
  simp only [joinVote, hv, hprior, List.isEmpty_cons, Bool.false_eq_true, if_false, hopen, hunformed, List.find?_cons, hsame, hgot,
    List.filter_cons, sameAccess_refl, Bool.not_true, List.filter_nil, List.foldl_nil, hu]

section Access

variable {l : Lane} {core : Fin 4} {kind : WinKind} {addr : BitVec 40} {size : BitVec 2} {data : Dword} {a : WinAcc} {s : State}

/-- A VOTING lane's access within the rules joins its vote. -/
theorem windowAccess_of_voting (ha : a = ⟨l, core, accKind kind (winOf addr).2 size.toNat, addr, size.toNat, data⟩)
    (hacts : coreActs s l core = true) (hlegal : winFaults s a.kind addr size.toNat = false) (hvoting : laneState s l = .voting) :
    windowAccess l core kind addr size data s = retryWaiting (joinVote a s) := by
  subst ha
  have hsplit : ¬(LaneState.voting = .splitRun) := by decide
  simp only [windowAccess, hacts, not_true_eq_false, if_false, hlegal, Bool.false_eq_true, hvoting, hsplit, false_and, or_self]

/-- A SPLIT_RUN lane's access to a window that is not SAFE forms a vote of its own. -/
theorem windowAccess_of_splitRun (ha : a = ⟨l, core, accKind kind (winOf addr).2 size.toNat, addr, size.toNat, data⟩)
    (hacts : coreActs s l core = true) (hlegal : winFaults s a.kind addr size.toNat = false) (hsplit : laneState s l = .splitRun)
    (hsafe : winSafe s (winOf addr).1 = false) :
    windowAccess l core kind addr size data s = formVote s.isth.order a (setVotes
      { s with isth := { s.isth with order := s.isth.order + 1 } } (s.isth.votes ++
        [⟨some l, 0, [a], none, s.time.mt, none, 0, s.isth.order, false, none, none, [], false⟩])) := by
  subst ha
  simp only [windowAccess, hacts, not_true_eq_false, if_false, hlegal, Bool.false_eq_true, hsplit, hsafe, and_false, or_self]

/-- An access that breaks the rules is an access fault. -/
theorem windowAccess_of_fault (hacts : coreActs s l core = true)
    (hfault : winFaults s (accKind kind (winOf addr).2 size.toNat) addr size.toNat = true ∨
      (laneState s l = .splitRun ∧ winSafe s (winOf addr).1 = true)) :
    windowAccess l core kind addr size data s = accessFault l core addr (decide (kind = .store)) false s := by
  simp only [windowAccess, hacts, not_true_eq_false, if_false]
  exact if_pos hfault

end Access

/-- Settles O43: accesses by the lane's state, the ends of votes by what they find. -/
theorem windowAccessesAreVoted : Obligations.WindowAccessesAreVoted := by
  unfold Obligations.WindowAccessesAreVoted
  refine ⟨fun l core kind addr size data a s ha hacts hlegal hvoting hfirst => ?opens,
    fun l core kind addr size data a b v s u ha hacts hlegal hvoting hv hunformed hopen hgot hvotes hsame hu => ?forms,
    fun l core kind addr size data a s ha hacts hlegal hsplit hsafe =>
      congrArg (fun t => Host.Outcome.next (matchResults t)) (windowAccess_of_splitRun ha hacts hlegal hsplit hsafe),
    fun l core kind addr size data s hacts hfault =>
      congrArg (fun t => Host.Outcome.next (matchResults t)) (windowAccess_of_fault hacts hfault),
    fun v a s hv hunformed hone => ⟨_, rfl, ?alone⟩, fun v s hv hacts => ?timeout, fun v f left s hv hacts hf hleft => ?fence,
    fun p s hp => ?hold⟩
  case opens =>
    have hlane : a.lane = l := by rw [ha]
    refine congrArg (fun t => Host.Outcome.next (matchResults t)) ((windowAccess_of_voting ha hacts hlegal hvoting).trans ?_)
    rw [joinVote_of_first (by rw [hlane]; exact hfirst), hlane]
    rfl
  case forms =>
    have hlane : a.lane = l := by rw [ha]
    subst hlane
    refine congrArg (fun t => Host.Outcome.next (matchResults t)) ((windowAccess_of_voting ha hacts hlegal hvoting).trans ?_)
    rw [joinVote_of_match hv hunformed hopen hgot hvotes hsame hu]
  all_goals refine congrArg Host.Outcome.next ?_
  case alone => simp only [winVoteClose, hv, hunformed, hone, winNoMajority]
  case timeout => simp only [winTimeout, hv, hacts, Bool.false_eq_true, if_false]
  case fence => simp only [fenceComplete, hv, hacts, Bool.false_eq_true, if_false, hf, hleft]
  case hold => simp only [holdExpiry, hp]

end Sys2Proof.Machine
end

section
/-!
PROOFS. O44: crate cycles, their ends and repeats, ring transfers and the bus monitor.
-/
namespace Sys2Proof.Machine

/-- The bus start on the state in which the waiting accesses have been tried again. -/
theorem busStart_of_due {s : State} {i : Nat} {rest : List Nat} (hb : (retryWaiting s).isth.bus = none)
    (hd : drivesCrate (retryWaiting s) = true) (ht : (retryWaiting s).tap.acting = none)
    (hx : (retryWaiting s).isth.due = i :: rest) :
    busStart s = startXfer i { retryWaiting s with isth := { (retryWaiting s).isth with due := rest } } := by
  simp only [busStart, hb, hd, ht, hx, Option.isSome_none, Bool.false_eq_true, not_true_eq_false, or_self, if_false]

/-- A cycle whose words were all acknowledged ends without a cause. -/
theorem busEnd_ack {s : State} {o : BusOp} {ws : List (BitVec 16)} (hb : s.isth.bus = some o) (hl : ws.length = o.count) :
    busEnd ws .ack s = settled { o with got := o.got ++ ws } .none
      (setFld { s with isth := { s.isth with bus := none } } (Reg.isthWinStatus o.window) 7 4 0) := by
  simp only [busEnd, hb, hl, Nat.lt_irrefl, decide_false, Bool.false_eq_true, false_and, and_false, ne_eq, not_true_eq_false,
    or_self, if_false, List.take_of_length_le (Nat.le_of_eq hl)]

/-- A cycle ended by BERR before its last word ends with cause BERR. -/
theorem busEnd_berr {s : State} {o : BusOp} {ws : List (BitVec 16)} (hb : s.isth.bus = some o) (hl : ws.length < o.count) :
    busEnd ws .berr s = settled o .berr (satAdd
      (setFld { s with isth := { s.isth with bus := none } } (Reg.isthWinStatus o.window) 7 4 0) Reg.isthCounts 7 0 1) := by
  simp only [busEnd, hb, hl, decide_true, not_true_eq_false, and_false, reduceCtorEq, false_and, or_self, if_false]

/-- A cycle ended by RETRY before its last word waits for its repeat, or with no repeat left ends with cause RETRY. -/
theorem busEnd_retry {s v : State} {o : BusOp} {ws : List (BitVec 16)} (hb : s.isth.bus = some o) (hl : ws.length < o.count)
    (hv : v = satAdd (setFld { s with isth := { s.isth with bus := none } } (Reg.isthWinStatus o.window) 7 4 0)
      Reg.isthCounts 23 16 1) :
    busEnd ws .retry s = if o.retries < retryLimit v o then
        { v with isth := { v.isth with
          retry := v.isth.retry ++ [({ restOp o ws with retries := o.retries + 1 }, rawNow v + retryGap v)] } }
      else settled o .retry v := by
  subst hv
  simp only [busEnd, hb, hl, decide_true, not_true_eq_false, and_false, reduceCtorEq, false_and, or_self, if_false]

/-- A test that names the owners of a transfer's operation is the split over the owners that the bridge makes. -/
theorem ownerSplit_eq {α : Type} {isXfer : BusOwner → Bool} (h : ∀ w, isXfer w = true ↔ ∃ i, w = .xfer i) (x y : α)
    (o : BusOwner) : (match o with | .xfer _ => x | _ => y) = if isXfer o then x else y := by
  cases o with
  | xfer i => exact (if_pos ((h _).2 ⟨i, rfl⟩)).symm
  | lane n => exact (if_neg fun hx => by obtain ⟨i, hi⟩ := (h _).1 hx; cases hi).symm
  | posted n => exact (if_neg fun hx => by obtain ⟨i, hi⟩ := (h _).1 hx; cases hi).symm
  | ring k q => exact (if_neg fun hx => by obtain ⟨i, hi⟩ := (h _).1 hx; cases hi).symm

/-- The first operation whose gap has passed is repeated: a transfer's before the checks of the others. -/
theorem crateRetry_of_found {isXfer : BusOwner → Bool} {o : BusOp} {t : Nat} {s u : State}
    (hi : ∀ w, isXfer w = true ↔ ∃ i, w = .xfer i) (hb : s.isth.bus = none) (hd : drivesCrate s = true)
    (ht : s.tap.acting = none)
    (hf : s.isth.retry.find? (fun x => decide (x.2 ≤ rawNow s) && (isXfer x.1.owner || (s.isth.due.isEmpty && !crateHeld s)))
      = some (o, t)) (hu : u = { s with isth := { s.isth with retry := s.isth.retry.erase (o, t) } }) :
    crateRetry s = if isXfer o.owner then
        (if winLost s o.window then settled o .lost u else if s.isth.resetTo.isSome then settled o .timeout u else startOp o u)
      else startOther o u := by
  have hg : s.isth.retry.find? (fun x => match x with
      | (o, t) => decide (t ≤ rawNow s) && (match o.owner with | .xfer _ => true | _ => s.isth.due.isEmpty && !crateHeld s))
      = some (o, t) := by
    rw [← hf]
    refine congrArg (fun f => List.find? f s.isth.retry) (funext fun x => ?_)
    obtain ⟨p, n⟩ := x
    refine congrArg (decide (n ≤ rawNow s) && ·) ((ownerSplit_eq hi true _ p.owner).trans ?_)
    cases isXfer p.owner <;> rfl
  subst hu
  unfold crateRetry
  simp only [hb, hd, ht, Option.isSome_none, Bool.false_eq_true, not_true_eq_false, or_self, if_false]
  split
  · rename_i o' t' h
    cases hg.symm.trans h
    exact ownerSplit_eq hi _ _ o.owner
  · rename_i h
    cases hg.symm.trans h

/-- A descriptor that passes the checks starts a ring transfer. -/
theorem ringStart_of_taken {op k : Nat} {r : JRecord} {s z : State} (hn : s.isth.rings.any (fun x => decide (x.ring = k)) = false)
    (hr : startRec s k 5 op = (some r, z)) (hw : ringReason z r.desc = 0) :
    ringStart op k s = setRings (domAcquire (markRec z k r.desc.seq .started) .isth)
      ((domAcquire (markRec z k r.desc.seq .started) .isth).isth.rings ++ [if op = 2 then ⟨k, r.desc.seq, 0, 0, []⟩ else
        ⟨k, r.desc.seq, r.detailA.toNat / 2 ^ 32 % 65536,
          ((blocksOf z r.desc).take (r.detailA.toNat / 2 ^ 32 % 65536)).foldl (fun n b => n + b.2) 0, []⟩]) := by
  unfold ringStart
  simp only [hn, Bool.false_eq_true, if_false, hr, hw, ne_eq, not_true_eq_false]

/-- A descriptor that fails a check is refused with its reason. -/
theorem ringStart_of_refused {op k : Nat} {r : JRecord} {s z : State}
    (hn : s.isth.rings.any (fun x => decide (x.ring = k)) = false)
    (hr : startRec s k 5 op = (some r, z)) (hw : ringReason z r.desc ≠ 0) :
    ringStart op k s = finishDesc z k r.desc.seq .refused (ringReason z r.desc) := by
  unfold ringStart
  simp only [hn, Bool.false_eq_true, if_false, hr, ne_eq, hw, not_false_eq_true, if_true]

/-- A module that stands by notes a monitored write cycle and acknowledges the ring WRITE that it carries on. -/
theorem monitorCycle_write {addr : BitVec 24} {ws : List (BitVec 16)} {s : State} (hs : standsBy s = true) :
    monitorCycle true addr ws .ack s = monitorRing addr.toNat (bytesOf ws)
      { s with isth := { s.isth with monitor := s.isth.monitor ++ [(addr, ws)] } } := by
  simp only [monitorCycle, hs, not_true_eq_false, if_false, if_true]

/-- A module that stands by takes the words of a monitored read cycle into its own transfers. -/
theorem monitorCycle_read {addr : BitVec 24} {ws : List (BitVec 16)} {s : State} (hs : standsBy s = true) :
    monitorCycle false addr ws .ack s = monitorReads addr.toNat ws s := by
  simp only [monitorCycle, hs, not_true_eq_false, if_false, Bool.false_eq_true, if_true]

/-- Settles O44. -/
theorem crateCyclesTakeEffect : Obligations.CrateCyclesTakeEffect := by
  unfold Obligations.CrateCyclesTakeEffect
  refine ⟨fun i rest s u hu hb hd ht hx => ?start, fun o ws s hb hl hc => ?acked, fun o ws s u hb hl hc hu => ?cut,
    fun o ws s hb hc ht => ?timedOut, fun isXfer o t s u hi hb hd ht hf hu => ?retry,
    fun k r s z u hn hw hu => ⟨fun hr => ⟨_, rfl, ?write⟩, fun hr => ?read⟩,
    fun k r s z hn hw => ⟨fun hr => ?writeRefused, fun hr => ?readRefused⟩,
    fun addr ws s hs hc => ⟨?monitorWrite, ?monitorRead⟩⟩
  case start =>
    subst hu
    exact congrArg Host.Outcome.next (busStart_of_due hb hd ht hx)
  case acked => exact (if_pos (hl ▸ hc)).trans (congrArg Host.Outcome.next (busEnd_ack hb hl))
  case cut =>
    subst hu
    refine ⟨(if_pos hc).trans (congrArg Host.Outcome.next (busEnd_berr hb hl)),
      fun hr => ⟨_, rfl, (if_pos hc).trans (congrArg Host.Outcome.next ((busEnd_retry hb hl rfl).trans (if_pos hr)))⟩,
      fun hr => (if_pos hc).trans (congrArg Host.Outcome.next ((busEnd_retry hb hl rfl).trans (if_neg (Nat.not_lt.2 hr))))⟩
  case timedOut =>
    refine (if_pos hc).trans (congrArg Host.Outcome.next ?_)
    simp only [busTimedOut, hb, Nat.not_lt.2 ht, if_false]
  case retry => exact congrArg Host.Outcome.next (crateRetry_of_found hi hb hd ht hf hu)
  case write =>
    subst hu
    exact congrArg Host.Outcome.next (ringStart_of_taken hn hr hw)
  case read =>
    subst hu
    exact congrArg Host.Outcome.next (ringStart_of_taken hn hr hw)
  case writeRefused => exact congrArg Host.Outcome.next (ringStart_of_refused hn hr hw)
  case readRefused => exact congrArg Host.Outcome.next (ringStart_of_refused hn hr hw)
  case monitorWrite => exact (if_pos hc).trans (congrArg Host.Outcome.next (monitorCycle_write hs))
  case monitorRead => exact (if_pos hc).trans (congrArg Host.Outcome.next (monitorCycle_read hs))

end Sys2Proof.Machine
end

section
/-!
PROOFS. O45: crate interrupts, reset and the set-up of windows and transfers.
-/
namespace Sys2Proof.Machine

/-- The ring transfer whose cycle is in progress on the crate bus. -/
def ringOnBus (s : State) : List RingXfer :=
  match s.isth.bus with
  | some ⟨.ring k seq, _, _, _, _, _, _, _, _, _⟩ => s.isth.rings.filter (fun x => decide (x.ring = k) && decide (x.seq = seq))
  | _ => []

/-- The ring transfer on the bus is one that stands and owns the cycle. -/
theorem mem_ringOnBus_iff (s : State) (x : RingXfer) :
    x ∈ ringOnBus s ↔ x ∈ s.isth.rings ∧ ∃ o, s.isth.bus = some o ∧ o.owner = .ring x.ring x.seq := by
  unfold ringOnBus
  cases s.isth.bus with
  | none => exact ⟨fun h => absurd h List.not_mem_nil, fun ⟨_, _, h, _⟩ => by cases h⟩
  | some o =>
    obtain ⟨owner, _⟩ := o
    cases owner with
    | ring k q =>
      constructor
      · intro h
        obtain ⟨hx, hk⟩ := List.mem_filter.1 h
        obtain ⟨rfl, rfl⟩ : x.ring = k ∧ x.seq = q := by simpa only [Bool.and_eq_true, decide_eq_true_eq] using hk
        exact ⟨hx, _, rfl, rfl⟩
      · rintro ⟨hx, o, ho, hw⟩
        cases ho
        cases hw
        exact List.mem_filter.2 ⟨hx, by simp only [decide_true, Bool.and_self]⟩
    | lane n => exact ⟨fun h => absurd h List.not_mem_nil, fun ⟨_, _, h, hw⟩ => by cases h; cases hw⟩
    | posted n => exact ⟨fun h => absurd h List.not_mem_nil, fun ⟨_, _, h, hw⟩ => by cases h; cases hw⟩
    | xfer n => exact ⟨fun h => absurd h List.not_mem_nil, fun ⟨_, _, h, hw⟩ => by cases h; cases hw⟩

/-- An enabled and armed line sensed low is disarmed and waits for the writes in progress. -/
theorem crateInt_of_armed {line : Nat} {s u : State} (hu : u = setBit s Reg.isthIntStatus line true)
    (he : bit u Reg.isthIntCfg line = true) (ha : bit u Reg.isthIntStatus (8 + line) = true) :
    crateInt line s = setBit { u with isth := { u.isth with
      ints := u.isth.ints ++ [⟨line, u.isth.posted.map (·.order), ringOnBus u⟩] } } Reg.isthIntStatus (8 + line) false := by
  subst hu
  exact if_pos ⟨he, ha⟩

/-- A refusal of ISTH_CMD names no window and no transfer. -/
theorem refuseIsth_isthCmd (reason : Nat) (s : State) : refuseIsth reason Reg.isthCmd s =
    raise Ev.isthCfgRefused 0xFF 0 reason
      (setReg s Reg.isthCfgResult (BitVec.ofNat 32 (reason + Reg.isthCmd % 65536 * 65536))) := by
  have ho : isthOrigin s Reg.isthCmd = (0xFF, 0) :=
    (if_neg (by decide)).trans (if_neg (by decide))
  simp only [refuseIsth, ho, refuseCfg]

/-- A window that passes the four checks takes its value. -/
theorem writeWinCfg_of_checked {w : Nat} {x : Word} {s : State} (h8 : 8 ≤ wordFld x 12 8)
    (h23 : wordFld x 12 8 ≤ 23) (ha : winBase s w % 2 ^ wordFld x 12 8 = 0)
    (hc : winBase s w + 2 ^ wordFld x 12 8 ≤ 0x1000000) (hp : x.getLsbD 3 = false ∨ x.getLsbD 4 = false) :
    writeWinCfg w x s = setReg s (Reg.isthWinCfg w) x := by
  have hp' : ¬ (x.getLsbD 3 = true ∧ x.getLsbD 4 = true) := fun ⟨h3, h4⟩ => by
    cases hp with
    | inl h => exact Bool.false_ne_true (h.symm.trans h3)
    | inr h => exact Bool.false_ne_true (h.symm.trans h4)
  simp only [writeWinCfg, Nat.not_lt.2 h8, Nat.not_lt.2 h23, or_self, ha, ne_eq, not_true_eq_false, Nat.not_lt.2 hc, hp',
    if_false, ite_self]

/-- A transfer entry that is not in use and passes the checks of its window goes on to the check of its data. -/
theorem writeXferCtl_of_checked {i n : Nat} {x : Word} {s : State} (hn : n = 2 * (wordFld x 11 8 + 1))
    (hr : running s = false ∨ xferNamed s i = false) (hv : wordFld x 0 0 = 1) (he : winEnabled s (wordFld x 7 4) = true)
    (hf : xferFar s i % 2 = 0) (hs : xferFar s i + n ≤ winSize s (wordFld x 7 4)) (hp : xferFar s i % 256 + n ≤ 256) :
    writeXferCtl i x s = if x.getLsbD 1 then
        if inRegion s 3 (64 * fld s (Reg.isthXferData i) 19 0) n then setReg s (Reg.isthXferCtl i) x
          else refuseIsth 7 (Reg.isthXferCtl i) s
      else if inImage s (fld s (Reg.isthXferData i) 23 20) (16 * fld s (Reg.isthXferData i) 19 0)
          (16 + (n + 15) / 16 * 16) then setReg (setXfer s i xfer0) (Reg.isthXferCtl i) x
        else refuseIsth 7 (Reg.isthXferCtl i) s := by
  subst hn
  have hr' : ¬ (running s = true ∧ xferNamed s i = true) := fun ⟨h1, h2⟩ => by
    cases hr with
    | inl h => exact Bool.false_ne_true (h.symm.trans h1)
    | inr h => exact Bool.false_ne_true (h.symm.trans h2)
  have hc : ¬ (¬ winEnabled s (wordFld x 7 4) = true ∨ xferFar s i % 2 = 1 ∨
      winSize s (wordFld x 7 4) < xferFar s i + 2 * (wordFld x 11 8 + 1) ∨
      256 < xferFar s i % 256 + 2 * (wordFld x 11 8 + 1)) := by
    rw [he]
    rintro (h | h | h | h)
    · exact h rfl
    · omega
    · omega
    · omega
  refine (if_neg hr').trans ((if_neg ?_).trans (if_neg hc))
  omega

/-- Settles O45. -/
theorem crateInterruptsAndSetUp : Obligations.CrateInterruptsAndSetUp := by
  unfold Obligations.CrateInterruptsAndSetUp
  refine ⟨fun l s u hu he ha => ⟨ringOnBus u, mem_ringOnBus_iff u, ?lineLow⟩, fun w s hf => ?record, fun lines s => ⟨_, rfl, rfl⟩,
    fun v w s hw => ?intCfg, fun w s => ⟨_, rfl, rfl⟩, fun s hm => congrArg Host.Outcome.next (if_pos hm),
    fun s h1 h2 => ⟨_, _, rfl, ?refused, rfl, raise_ev _ _ _ _ _ (ev_refl _)⟩, fun t s ht hle => ?resetEnd, fun s => rfl,
    fun w v x s hx hv h8 h23 ha hc hp => ?window, fun i v x n s hx hn hr hv he hf hs hp => ⟨fun hw hin => ?writes, fun hw hin => ?reads⟩⟩
  case lineLow => exact congrArg Host.Outcome.next (crateInt_of_armed hu he ha)
  case record =>
    refine congrArg Host.Outcome.next ?_
    simp only [crateIntRecord, hf]
  case intCfg =>
    subst hw
    rfl
  case refused =>
    exact congrArg Host.Outcome.next ((if_neg (not_or.2 ⟨h1, h2⟩)).trans (refuseIsth_isthCmd 8 s))
  case resetEnd =>
    refine congrArg Host.Outcome.next ?_
    simp only [crateResetEnd, ht, hle, if_true]
  case window =>
    subst hx
    exact congrArg Host.Outcome.next (writeWinCfg_of_checked h8 h23 ha hc hp)
  case writes =>
    subst hx
    exact congrArg Host.Outcome.next ((writeXferCtl_of_checked hn hr hv he hf hs hp).trans ((if_pos hw).trans (if_pos hin)))
  case reads =>
    subst hx
    exact congrArg Host.Outcome.next ((writeXferCtl_of_checked hn hr hv he hf hs hp).trans
      ((if_neg (Bool.eq_false_iff.1 hw)).trans (if_pos hin)))

end Sys2Proof.Machine
end

section
/-!
PROOFS. O46 and O47: the field inputs, refreshes, silence, outputs, faults and off-pulses of Holm.
-/
namespace Sys2Proof.Machine

/-! ### Inputs and refreshes -/

/-- A terminal voltage at or below the OFF threshold, or at or above the ON threshold, that changes the raw level. -/
theorem diRaw_of_change {n : Nat} {dv : BitVec 12} {b : Bool} {s u : State} (hi : islandOk s = true)
    (hb : (b = false ∧ dv.toNat ≤ (classVolts s (groupOfDi n)).1) ∨
      (b = true ∧ (classVolts s (groupOfDi n)).1 < dv.toNat ∧ (classVolts s (groupOfDi n)).2.1 ≤ dv.toNat))
    (hu : u = setDin s n { din s n with volts := dv.toNat }) (hr : (din u n).raw ≠ b) :
    diRaw n dv s = if filterRaw u n = 0 ∧ b ≠ diLevel u n then
        acceptDi n (setDin u n { din u n with
          raw := b, since := rawNow u, time := BitVec.ofNat 64 ((corrected u).toNat / 1000 * 1000),
          cleanTo := rawNow u + msRaw 1 })
      else setDin u n { din u n with
          raw := b, since := rawNow u, time := BitVec.ofNat 64 ((corrected u).toNat / 1000 * 1000),
          cleanTo := rawNow u + msRaw 1 } := by
  have hiu : islandOk u = true := by rw [hu]; exact hi
  have hcu : classVolts u (groupOfDi n) = classVolts s (groupOfDi n) := by rw [hu]; rfl
  rw [← hcu] at hb
  clear hcu hi
  unfold diRaw
  simp only [← hu, hiu, not_true_eq_false, if_false]
  generalize classVolts u (groupOfDi n) = cv at hb
  obtain ⟨off, on, lo, hi⟩ := cv
  cases hb with
  | inl h =>
    obtain ⟨rfl, hle⟩ := h
    simp only [hle, if_true, hr.symm, if_false]
    rfl
  | inr h =>
    obtain ⟨rfl, hlt, hle⟩ := h
    simp only [Nat.not_le.2 hlt, if_false, hle, if_true, hr.symm]
    rfl

/-- The next refresh on a group's link is taken off it; a good one with a new bit drives a group that is not SILENT. -/
theorem refreshRx_of_link {c values : Nat} {sq : Bool} {rest : List (Nat × Bool)} {s u : State} {crcOk : Bool}
    (hl : (group s c).link = (values, sq) :: rest) (hu : u = setGroup s c { group s c with link := rest })
    (hi : islandOk s = true) :
    refreshRx c crcOk s = if crcOk ∧ (group s c).lastBit ≠ some sq ∧ groupState s c ≠ 2 then acceptRefresh c values sq u
      else badRefresh c u := by
  subst hu
  simp only [refreshRx, hl]
  exact if_neg (not_not_intro hi)

/-- A field supply out of its range is shown as lost, with its voltage. -/
theorem fieldLoss_of_outside {c : Nat} {dv : BitVec 12} {s : State} (hi : islandOk s = true) (ho : supplyOk s c = true)
    (hv : dv.toNat < (classVolts s c).2.2.1 ∨ (classVolts s c).2.2.2 < dv.toNat) :
    fieldLoss c dv s = raise Ev.fieldSupply c 0 dv.toNat (stick
      (setFld (setSupplyOk c false s) (Reg.holmConnStatus c) 11 0 dv.toNat) Reg.holmError 3) := by
  unfold fieldLoss
  generalize classVolts s c = cv at hv ⊢
  obtain ⟨off, on, lo, hi'⟩ := cv
  have hv' : dv.toNat < lo ∨ hi' < dv.toNat := hv
  exact if_pos ⟨hi, ho, by omega⟩

/-- A field supply back within its range is shown as good, with its voltage. -/
theorem fieldReturn_of_inside {c : Nat} {dv : BitVec 12} {s : State} (hi : islandOk s = true) (ho : supplyOk s c = false)
    (hl : (classVolts s c).2.2.1 ≤ dv.toNat) (hh : dv.toNat ≤ (classVolts s c).2.2.2) :
    fieldReturn c dv s = setFld (setSupplyOk c true s) (Reg.holmConnStatus c) 11 0 dv.toNat := by
  unfold fieldReturn
  generalize classVolts s c = cv at hl hh ⊢
  obtain ⟨off, on, lo, hi'⟩ := cv
  exact if_pos ⟨hi, Bool.eq_false_iff.1 ho, hl, hh⟩

/-- Settles O46. -/
theorem inputsAndRefreshesTakeEffect : Obligations.InputsAndRefreshesTakeEffect := by
  unfold Obligations.InputsAndRefreshesTakeEffect
  refine ⟨fun c dv b s u v hi hb hu hr hv => ?raw, fun c s hi hr hf => congrArg Host.Outcome.next (if_pos ⟨hi, hr, hf⟩),
    fun c values sq rest s u hl hu hi => ⟨fun hb hs => ?accepted, fun hb => ?discarded, ?badCrc⟩,
    fun c s hi hg hq => congrArg Host.Outcome.next (if_pos ⟨hi, hg, hq⟩), fun c s hg => ?rearm, fun c s hg => ?refused,
    fun c dv s hi ho hv => congrArg Host.Outcome.next (fieldLoss_of_outside hi ho hv),
    fun c dv s hi ho hl hh => congrArg Host.Outcome.next (fieldReturn_of_inside hi ho hl hh),
    fun k s hi => congrArg Host.Outcome.next (if_pos hi)⟩
  case raw =>
    refine congrArg Host.Outcome.next ((diRaw_of_change hi hb hu hr).trans ?_)
    subst hv hu
    rfl
  case accepted => exact congrArg Host.Outcome.next ((refreshRx_of_link hl hu hi).trans (if_pos ⟨rfl, hb, hs⟩))
  case discarded =>
    refine congrArg Host.Outcome.next ((refreshRx_of_link hl hu hi).trans (if_neg ?_))
    rintro ⟨-, hb', hs⟩
    exact hb.elim hb' hs
  case badCrc =>
    exact congrArg Host.Outcome.next ((refreshRx_of_link hl hu hi).trans (if_neg fun h => Bool.false_ne_true h.1))
  case rearm =>
    exact congrArg Host.Outcome.next ((if_pos ⟨Nat.le_add_left 1 _, c.isLt, hg⟩).trans (if_pos hg))
  case refused => exact congrArg Host.Outcome.next (if_neg fun h => hg h.2.2)

/-! ### Outputs, faults and off-pulses -/

/-- A demagnetisation pulse is shown, kept for a second, and reported by itself and in its group's total. -/
theorem demagPulse_of_ok {n mj : Nat} {s u v : State} {kept : List (Nat × Nat × Nat)} {total : Nat} (hi : islandOk s = true)
    (hk : kept = s.holm.demag.filter (fun x => decide (rawNow s < x.1 + msRaw 1000)) ++ [(rawNow s, groupOfDo n, mj)])
    (ht : total = ((kept.filter (fun x => decide (x.2.1 = groupOfDo n))).map (fun x => x.2.2)).sum)
    (hu : u = { setFld s (Reg.holmDoStatus n) 25 16 (min 1023 mj) with holm := { s.holm with demag := kept } })
    (hv : v = if 400 < mj then raise Ev.demagLimit n 0 mj (stick u Reg.holmError 2) else u) :
    demagPulse n mj s = if 2000 < total then raise Ev.demagLimit (groupOfDo n) 0 total (stick v Reg.holmError 2) else v := by
  subst hv hu ht hk
  exact if_neg (not_not_intro hi)

/-- The read-back of an output takes what the latched cause says of it. -/
theorem readbackOfCause (cause : DoCause) (v a b : State) :
    (match cause with | .stuckOn | .pulse => a | .stuckOff => b | _ => v) =
      if cause = .stuckOn ∨ cause = .pulse then a else if cause = .stuckOff then b else v := by
  cases cause <;> rfl

/-- A fault that can be met in a channel without one latches. -/
theorem faultDetect_of_possible {n : Nat} {cause : DoCause} {s : State} (hi : islandOk s = true)
    (hf : doFaulted s n = false) (hp : faultPossible s n cause = true) : faultDetect n cause s = latchFault n cause s := by
  simp only [faultDetect, hi, hf, hp, Bool.not_false, Bool.and_self, if_true]

/-- A channel with a latched fault latches no further one. -/
theorem faultDetect_of_faulted {n : Nat} {cause : DoCause} {s : State} (hf : doFaulted s n = true) :
    faultDetect n cause s = s := by
  simp only [faultDetect, hf, Bool.not_true, Bool.and_false, Bool.false_and, Bool.false_eq_true, if_false]

/-- The end of an off-pulse: a read-back of ON with a good supply is a fault; else the channel goes on. -/
theorem offEnd_of_over {n t : Nat} {readback : Bool} {s : State} (hp : (dout s n).pulse = some t) (hi : islandOk s = true)
    (ht : t ≤ rawNow s) : offEnd n readback s = if readback ∧ supplyOk s (groupOfDo n) then latchFault n .pulse s
      else putSwitch n (setDout s n { dout s n with pulse := none }) := by
  simp only [offEnd, hp, hi, ht, and_self, if_true]

/-- Settles O47. -/
theorem outputFaultsAndPulses : Obligations.OutputFaultsAndPulses := by
  unfold Obligations.OutputFaultsAndPulses
  refine ⟨fun c mj s u v kept total hi hk ht hu hv => congrArg Host.Outcome.next (demagPulse_of_ok hi hk ht hu hv),
    fun c cause s u v w hi hf hp hu hv hw => congrArg Host.Outcome.next ((faultDetect_of_possible hi hf hp).trans ?latched),
    fun c cause s hf => congrArg Host.Outcome.next (faultDetect_of_faulted hf),
    fun c ua s hi hon hua hg ho => congrArg Host.Outcome.next (if_pos ⟨hi, hon, hua, hg, Bool.eq_false_iff.1 ho⟩),
    fun c s ho => congrArg Host.Outcome.next (if_pos ho), fun c t s hp hi ht => ⟨?goesOn, fun ho => ?pulseFault⟩,
    fun c s hf => ?cleared, fun c s hf => ?refused⟩
  case latched =>
    have hw' := hw.trans (readbackOfCause cause v _ _).symm
    subst hw' hv hu
    rfl
  case goesOn =>
    exact congrArg Host.Outcome.next ((offEnd_of_over hp hi ht).trans (if_neg fun h => Bool.false_ne_true h.1))
  case pulseFault => exact congrArg Host.Outcome.next ((offEnd_of_over hp hi ht).trans (if_pos ⟨rfl, ho⟩))
  case cleared => exact congrArg Host.Outcome.next (if_pos ⟨Nat.le_add_left 1 _, c.isLt, hf⟩)
  case refused => exact congrArg Host.Outcome.next (if_neg fun h => Bool.eq_false_iff.1 hf h.2.2)

end Sys2Proof.Machine
end

section
/-!
PROOFS. O48 and O49: position steps, ticks, limits, latches, the reset input and the enabling of the motion unit.
-/
namespace Sys2Proof.Machine

/-! ### Position steps -/

/-- A change of both channels, or of none, is no step. -/
theorem positionStep_of_same {i : Nat} {a b : Bool} {s : State}
    (h : decide (a ≠ (sensor s i).a) = decide (b ≠ (sensor s i).b)) : positionStep i a b s = s := if_pos (.inr h)

/-- A unit that is not enabled latches no sensor fault. -/
theorem sensorFault_of_off {i why : Nat} {s : State} (h : motionOn s = false) : sensorFault i why s = s :=
  if_neg fun hf => Bool.eq_false_iff.1 h hf.1

/-- MOTION_CFG is no POSITION register. -/
theorem motionCfg_ne_sensorPos (n : Nat) : Reg.motionCfg ≠ Reg.motionSensorPos n := by
  unfold Reg.motionCfg Reg.motionSensorPos; omega

/-- A sensor's record put, with its POSITION, leaves the unit enabled or not. -/
theorem motionOn_putPosition (i : Nat) (x : Sensor) (s : State) : motionOn (putPosition i x s) = motionOn s := by
  have hi : islandOk (putPosition i x s) = islandOk s := islandOk_congr rfl (by
    rw [putPosition, getReg_setReg_other _ (holmStatus_ne_sensorPos i), getReg_setSensor])
  have hc : bit (putPosition i x s) Reg.motionCfg 0 = bit s Reg.motionCfg 0 := bit_congr_getReg (by
    rw [putPosition, getReg_setReg_other _ (motionCfg_ne_sensorPos i), getReg_setSensor]) 0
  rw [motionOn, motionOn, hi, hc]

/-- Consecutive edges on the channel that steps. -/
def runLength (x : Sensor) (onB : Bool) : Nat :=
  match x.run with
  | some (ch, n) => if ch = onB then n + 1 else 1
  | none => 1

/-- A run of fewer than 15 edges is not the sixteenth after one more. -/
theorem runLength_lt {x : Sensor} (h : ∀ ch n, x.run = some (ch, n) → n < 15) (onB : Bool) : runLength x onB < 16 := by
  unfold runLength
  cases hr : x.run with
  | none => exact Nat.lt_of_lt_of_le Nat.one_lt_two (by omega)
  | some p =>
    obtain ⟨ch, n⟩ := p
    have hn := h ch n hr
    change (if ch = onB then n + 1 else 1) < 16
    split <;> omega

/-- A step that latches no sensor fault puts the sensor's record with the moved POSITION, and nothing else. -/
theorem positionStep_of_unlatched {i : Nat} {a b : Bool} {s : State} (hok : islandOk s = true)
    (hadj : decide (a ≠ (sensor s i).a) ≠ decide (b ≠ (sensor s i).b))
    (hl : motionOn s = false ∨ ∀ ch n, (sensor s i).run = some (ch, n) → n < 15) :
    ∃ x : Sensor, positionStep i a b s = putPosition i x s ∧ x.pos = (sensor s i).pos
      + (if leads (sensor s i).a (sensor s i).b a b = bit s (Reg.motionSensorCfg i) 10 then -1 else 1) := by
  have hstep : ¬(¬islandOk s ∨ decide (a ≠ (sensor s i).a) = decide (b ≠ (sensor s i).b)) :=
    not_or.2 ⟨not_not_intro hok, hadj⟩
  have hput : ∃ x : Sensor, positionStep i a b s =
        (if 16 ≤ runLength (sensor s i) (decide (b ≠ (sensor s i).b)) then sensorFault i 2 (putPosition i x s)
          else putPosition i x s) ∧ x.pos = (sensor s i).pos
      + (if leads (sensor s i).a (sensor s i).b a b = bit s (Reg.motionSensorCfg i) 10 then -1 else 1) :=
    ⟨_, if_neg hstep, rfl⟩
  obtain ⟨x, hx, hpos⟩ := hput
  refine ⟨x, hx.trans ?_, hpos⟩
  cases hl with
  | inl hoff => rw [sensorFault_of_off ((motionOn_putPosition i x s).trans hoff), ite_self]
  | inr hrun => exact if_neg (Nat.not_le.2 (runLength_lt hrun _))

/-! ### The latches -/

/-- A pair implausible for DISC_TIME latches PLAUS_FAULT. -/
theorem plausFault_of_held {a b : Nat} {s : State} (hab : a < b) (hon : motionOn s = true)
    (hl : bit s Reg.motionStatus 4 = false)
    (hh : heldLong s (8 * a + b) = true ∨ heldLong s (64 + 8 * a + b) = true) :
    plausFault a b s = deriveResults (raise Ev.plausFault (a + 16 * b)
      (motionDetail (stick (setBit s Reg.motionStatus 4 true) Reg.motionError 1))
      ((speedOf s a - speedOf s b).natAbs % 2 ^ 31 + (if heldLong s (64 + 8 * a + b) then 2 ^ 31 else 0))
      (stick (setBit s Reg.motionStatus 4 true) Reg.motionError 1)) := by
  unfold plausFault
  rw [Nat.min_eq_left (Nat.le_of_lt hab), Nat.max_eq_right (Nat.le_of_lt hab)]
  exact if_pos ⟨hon, Nat.ne_of_lt hab, Bool.eq_false_iff.1 hl, hh⟩

/-- SAFE_SPEED above the limit for LIMIT_TIME latches SLS. -/
theorem slsViolation_of_over {t : Nat} {s : State} (ho : s.motion.overAt = some t) (hon : motionOn s = true)
    (hl : bit s Reg.motionStatus 3 = false) (ht : msRaw (max 1 (fld s Reg.motionCfg 23 16)) ≤ rawNow s - t) :
    slsViolation s = applyGates (raise Ev.slsViolation 0xFF
      (motionDetail (stick (setBit s Reg.motionStatus 3 true) Reg.motionError 0))
      (getReg (stick (setBit s Reg.motionStatus 3 true) Reg.motionError 0) Reg.motionLimitNow).toNat
      (stick (setBit s Reg.motionStatus 3 true) Reg.motionError 0)) := by
  simp only [slsViolation, ho]
  exact if_pos ⟨hon, Bool.eq_false_iff.1 hl, ht⟩

/-! ### The tick and the selection -/

/-- A tick on a healthy island at a millisecond that has not run. -/
theorem motionTick_of_due {s : State} (hi : islandOk s = true) (ht : (corrected s).toNat / 1000000 ≠ s.motion.tickMs) :
    ¬ (¬islandOk s ∨ (corrected s).toNat / 1000000 = s.motion.tickMs) := not_or.2 ⟨not_not_intro hi, ht⟩

/-- The next selection message is taken off the link; a good one with a new bit is accepted. -/
theorem selectionRx_of_link {k : Nat} {sq : Bool} {rest : List (Nat × Bool)} {crcOk : Bool} {s : State}
    (hl : s.motion.link = (k, sq) :: rest) (hon : motionOn s = true) (hb : s.motion.lastBit ≠ some sq) :
    selectionRx crcOk s = if crcOk then
        { s with motion := { s.motion with link := rest, selected := some k, selAt := rawNow s, lastBit := some sq } }
      else { s with motion := { s.motion with link := rest } } := by
  simp only [selectionRx, hl]
  cases crcOk with
  | true => exact if_pos ⟨hon, rfl, hb⟩
  | false => exact if_neg fun h => Bool.false_ne_true h.2.1

/-- Settles O48. -/
theorem motionTakesEffect : Obligations.MotionTakesEffect := by
  unfold Obligations.MotionTakesEffect
  refine ⟨fun i b s _ hb => ⟨?both, ?none⟩, fun i a b x s hi _ hx hadj hl => ?step,
    fun i q x s hi hx hq => ⟨_, rfl, ?quad⟩, fun s _ ht => congrArg Host.Outcome.next (if_pos (.inr ht)),
    fun s hi ht he => ?derive, fun s u v hi ht he hu hv => ⟨_, rfl, ?tick⟩,
    fun i j sign s hon hij hl hs hh => ⟨_, rfl, ?plaus⟩, fun t s ho hon hl ht => ⟨_, rfl, ?sls⟩,
    fun k sq rest s hl hon hb => ⟨?accepted, ?badCrc⟩, fun k s hon hk hq => ⟨_, rfl, ?default⟩⟩
  case both =>
    refine congrArg Host.Outcome.next (positionStep_of_same ?_)
    rw [decide_eq_true hb, decide_eq_true (Bool.not_ne_self _)]
  case none =>
    refine congrArg Host.Outcome.next (positionStep_of_same ?_)
    have hbb : (!b) = (sensor s (i.val + 1)).b := Bool.not_eq_eq_eq_not.2 (Bool.eq_not_of_ne hb)
    rw [hbb, decide_eq_false (not_not_intro rfl), decide_eq_false (not_not_intro rfl)]
  case step =>
    subst hx
    obtain ⟨y, hstep, hpos⟩ := positionStep_of_unlatched hi hadj hl
    refine ⟨putPosition (i.val + 1) y s, congrArg Host.Outcome.next hstep, ?_, rfl⟩
    rw [putPosition, getReg_setReg_self, hpos]
  case quad =>
    subst hq hx
    exact congrArg Host.Outcome.next (if_neg (not_not_intro hi))
  case derive =>
    exact congrArg Host.Outcome.next ((if_neg (motionTick_of_due hi ht)).trans (if_neg (Bool.eq_false_iff.1 he)))
  case tick =>
    subst hv hu
    exact congrArg Host.Outcome.next ((if_neg (motionTick_of_due hi ht)).trans (if_pos he))
  case plaus =>
    subst hs
    exact congrArg Host.Outcome.next (plausFault_of_held (Nat.succ_lt_succ hij) hon hl hh)
  case sls => exact congrArg Host.Outcome.next (slsViolation_of_over ho hon hl ht)
  case accepted => exact congrArg Host.Outcome.next ((selectionRx_of_link hl hon hb).trans (if_pos rfl))
  case badCrc => exact congrArg Host.Outcome.next ((selectionRx_of_link hl hon hb).trans (if_neg Bool.false_ne_true))
  case default =>
    exact congrArg Host.Outcome.next (if_pos ⟨hon, by rw [hk]; rfl, hq⟩)

/-! ### The reset input and the enabling -/

/-- An accepted reset is counted (R311). -/
def countReset (v : State) : State := { v with motion := { v.motion with resets := (v.motion.resets + 1) % 65536 } }

/-- An accepted reset is reported with the length of its press, and the results follow. -/
def afterReset (h : Nat) (v : State) : State :=
  deriveResults (raise Ev.resetAccepted (fld v Reg.motionResetCfg 5 0) (motionDetail v) h v)

/-- The motion events' detail depends on the registers alone. -/
theorem motionDetail_congr {s t : State} (h : s.regs = t.regs) : motionDetail s = motionDetail t := by
  rw [motionDetail, motionDetail, getReg_congr h, fld_congr h]

/-- What an accepted reset reports does not depend on its own count. -/
theorem afterReset_countReset (h : Nat) (v : State) : afterReset h (countReset v) =
    deriveResults (raise Ev.resetAccepted (fld v Reg.motionResetCfg 5 0) (motionDetail v) h (countReset v)) := by
  rw [afterReset, fld_congr (s := countReset v) (t := v) rfl, motionDetail_congr (s := countReset v) (t := v) rfl]

/-- A reset request whose press has fallen is judged at the next tick. -/
theorem resetJudge_of_due {h fell : Nat} {s u : State} (hj : s.motion.judge = some (h, fell)) (hon : motionOn s = true)
    (hf : fell ≤ (corrected s).toNat / 1000000 * 1000000)
    (hu : u = { s with motion := { s.motion with judge := none } }) :
    resetJudge s = if anyLatch s ∧ ¬resetClear s ((corrected s).toNat / 1000000 * 1000000) then resetRefused 2 u
      else afterReset h (countReset (if anyLatch s then clearLatches u else u)) := by
  subst hu
  simp only [resetJudge, hj]
  exact if_pos ⟨hon, hf⟩

/-- The reset input is high for more than 5 s, by its accepted time or by the time since the unit started (R312). -/
theorem resetJammed_of_long {rise : Nat} {t : Dword} {accepted : Bool} {s : State}
    (hp : s.motion.press = some (rise, t, accepted)) (hon : motionOn s = true)
    (hl : t.toNat < (corrected s).toNat / 1000000 * 1000000)
    (ha : accepted = true → t.toNat + 5000000000 < (corrected s).toNat / 1000000 * 1000000)
    (hr : accepted = false → msRaw 5000 < rawNow s - rise) (hb : bit s Reg.motionStatus 7 = false) :
    resetJammed s = raise Ev.resetJammed (fld s Reg.motionResetCfg 5 0)
      (motionDetail (stick (setBit s Reg.motionStatus 7 true) Reg.motionError 3)) (fld s Reg.motionResetCfg 5 0)
      (stick (setBit s Reg.motionStatus 7 true) Reg.motionError 3) := by
  cases accepted with
  | true => simp only [resetJammed, hp, hon, hl, ha rfl, hb, decide_true, if_true, Bool.and_self, Bool.false_eq_true,
      not_false_eq_true, and_self]
  | false => simp only [resetJammed, hp, hon, hl, hr rfl, hb, decide_true, Bool.false_eq_true, if_false, Bool.and_self,
      not_false_eq_true, and_self, if_true]

/-- Settles O49. -/
theorem motionResetAndEnable : Obligations.MotionResetAndEnable := by
  unfold Obligations.MotionResetAndEnable
  refine ⟨fun h fell t s u hj hon ht hf hu => ?judge, fun rise m t accepted s hp hon hl ha hr hb hm => ⟨_, rfl, ?jammed⟩,
    fun v w s hw ho hn => ⟨fun hr => ?starts, fun why reg hr => ?refused⟩, fun v w s hw ho hn => ?enabled⟩
  case judge =>
    subst ht
    have hj' := resetJudge_of_due hj hon hf hu
    refine ⟨fun hl hc => ?_, fun hl => ?_, fun hl hc => ⟨_, rfl, ?_⟩⟩
    · exact congrArg Host.Outcome.next (hj'.trans (if_pos ⟨hl, Bool.eq_false_iff.1 hc⟩))
    · have hn : ¬ (anyLatch s = true) := Bool.eq_false_iff.1 hl
      rw [if_neg fun h => hn h.1, if_neg hn, afterReset_countReset] at hj'
      subst hu
      exact congrArg Host.Outcome.next hj'
    · rw [if_neg fun h => h.2 hc, if_pos hl, afterReset_countReset] at hj'
      exact congrArg Host.Outcome.next hj'
  case jammed =>
    subst hm
    exact congrArg Host.Outcome.next (resetJammed_of_long hp hon hl ha hr hb)
  case starts =>
    subst hw
    refine congrArg Host.Outcome.next ((if_neg (Bool.eq_false_iff.1 ho)).trans ((if_pos hn).trans ?_))
    rw [hr]
  case refused =>
    subst hw
    refine congrArg Host.Outcome.next ((if_neg (Bool.eq_false_iff.1 ho)).trans ((if_pos hn).trans ?_))
    rw [hr]
  case enabled =>
    subst hw
    exact congrArg Host.Outcome.next ((if_pos ho).trans (if_pos hn))

end Sys2Proof.Machine
end

section
/-!
PROOFS. O50: mastery lines, claim, takeover, give-up and the pair's own register commands.
-/
namespace Sys2Proof.Machine

/-- An ACTIVE module does not stand by. -/
theorem standsBy_of_active {s : State} (h : modState s = .active) : standsBy s = false := by
  simp only [standsBy, h, reduceCtorEq, decide_false, Bool.or_self]

/-- A module in SAFE_HALT does not stand by. -/
theorem standsBy_of_safeHalt {s : State} (h : modState s = .safeHalt) : standsBy s = false := by
  simp only [standsBy, h, reduceCtorEq, decide_false, Bool.or_self]

/-- A module that does not stand by is not concerned by its partner's going. -/
theorem partnerGone_of_not_standsBy {s : State} (h : standsBy s = false) : partnerGone s = s :=
  if_neg fun hs => Bool.eq_false_iff.1 h hs.1

/-- An ACTIVE module whose link is not silent has no further step on a change of the mastery line. -/
theorem mstInSteps_of_active {s : State} (hm : modState s = .active) (hl : s.pair.silent = false) :
    partnerGone (silentActive (offerHello (contention s))) = s := by
  have hc : contention s = s := if_neg fun h => h.2.2.1 hm
  have ho : offerHello s = s := if_neg fun h => by rw [hm] at h; cases h.1
  have hs : silentActive s = s := if_neg fun h => Bool.eq_false_iff.1 hl h.2.2
  rw [hc, ho, hs, partnerGone_of_not_standsBy (standsBy_of_active hm)]

/-- The state with the time since which mastery is absent replaced. -/
def setNoMastery (n : Nat) (u : State) : State := { u with pair := { u.pair with noMastery := n } }

theorem modState_setNoMastery (n : Nat) (u : State) : modState (setNoMastery n u) = modState u := modState_congr rfl

theorem setNoMastery_silent (n : Nat) (u : State) : (setNoMastery n u).pair.silent = u.pair.silent := rfl

/-- A change of MST_IN is shown, and where MASTERY ends the 20 µs without it count from the edge. -/
theorem mstInChange_eq {level : MstLevel} {s u : State} (hu : u = showScan (setFld s Reg.pairStatus 7 6
      (match level with | .low => 0 | .alive => 1 | .mastery => 2))) :
    mstInChange level s = partnerGone (silentActive (offerHello (contention (if mstIn s = 2 ∧ level ≠ .mastery
      then { u with pair := { u.pair with noMastery := rawNow u - usRaw 20 } } else u)))) := by
  subst hu
  cases level with
  | low => simp only [mstInChange, ne_eq, reduceCtorEq, not_false_eq_true, and_true, OfNat.zero_ne_ofNat]
  | alive => simp only [mstInChange, ne_eq, reduceCtorEq, not_false_eq_true, and_true, OfNat.one_ne_ofNat]
  | mastery => simp only [mstInChange, ne_eq, not_true_eq_false, and_false, if_false]

/-- An eligible standby may claim where its partner has given up or the link is silent. -/
theorem mayClaim_of_standby {s : State} (hm : modState s = .standby) (he : bit s Reg.pairStatus 2 = true)
    (hg : s.pair.give.isSome = true ∨ s.pair.silent = true) (hp : pairBank s = true) (hc : s.pair.claimAt = none)
    (hn : partnerMaster s = false) (ht : s.pair.noMastery + usRaw 20 ≤ rawNow s) : mayClaim s = true := by
  have hw : (s.pair.give.isSome || s.pair.silent) = true := Bool.or_eq_true_iff.2 hg
  simp only [mayClaim, hm, he, hw, hp, hc, hn, ht, decide_true, Option.isNone_none, Bool.not_false, Bool.and_self, Bool.true_or]

/-- A started module in BOOT may claim, on side 2 after 1 s without MASTERY. -/
theorem mayClaim_of_boot {s : State} (hm : modState s = .boot) (hs : s.chrono.startAt.isSome = true)
    (hp : pairBank s = true) (hc : s.pair.claimAt = none) (hn : partnerMaster s = false)
    (ht : s.pair.noMastery + usRaw 20 ≤ rawNow s)
    (h2 : bit s Reg.pairStatus 12 = false ∨ s.pair.noMastery + msRaw 1000 ≤ rawNow s) : mayClaim s = true := by
  have hw : (!bit s Reg.pairStatus 12 || decide (s.pair.noMastery + msRaw 1000 ≤ rawNow s)) = true :=
    Bool.or_eq_true_iff.2 (h2.imp (fun h => by rw [h]; rfl) decide_eq_true)
  simp only [mayClaim, hm, hs, hw, hp, hc, hn, ht, decide_true, Option.isNone_none, Bool.not_false, Bool.and_self, Bool.or_true]

/-- From 60 µs after the claim its lead has passed. -/
theorem claimLead_of_passed {s : State} {c : Nat} (hc : s.pair.claimAt = some c) (ht : c + usRaw 60 ≤ rawNow s) :
    claimLead s = true := by
  simp only [claimLead, hc, ht, decide_true]

/-- A standby's first access whose result is missing 200 µs after its vote formed. -/
theorem resultTimeout_of_missing {v : WinVote} {t : Nat} {rest : List WinVote} {s : State} (hs : standsBy s = true)
    (hp : partnerMaster s = true) (hv : s.isth.votes = v :: rest) (hn : v.stream = none) (hr : v.result = none)
    (hf : v.formed = some t) (ht : t + usRaw 200 ≤ rawNow s) :
    resultTimeout s = mirrorMissing 0xFF (endStandbyAccess v.order s) := by
  simp only [resultTimeout, hs, hp, and_self, if_true, hv, List.find?_cons, hn, hr, hf, ht, decide_true, Option.isNone_none,
    Bool.and_self]

/-- What ends the wait of a standby that is not eligible (R336). -/
theorem waited_of_reason {s : State} (h : s.pair.reason = 9 ∨ (s.pair.reason = 7 ∧ eligCycles s ≤ s.pair.eligCount) ∨
    (s.pair.reason = 8 ∧ max 1 (fld s Reg.pairXchk 7 0) ≤ s.pair.xchkOk)) :
    (match s.pair.reason with
      | 7 => decide (eligCycles s ≤ s.pair.eligCount)
      | 8 => decide (max 1 (fld s Reg.pairXchk 7 0) ≤ s.pair.xchkOk)
      | 9 => true
      | _ => false) = true := by
  rcases h with h | ⟨h, hc⟩ | ⟨h, hc⟩
  · rw [h]
    rfl
  · rw [h]
    exact decide_eq_true hc
  · rw [h]
    exact decide_eq_true hc

/-- A module that gave up enters SAFE_HALT, and restarts where a restart command led there. -/
theorem driversRelease_of_gaveUp {b : GiveUpCause} {s u v : State} (hm : modState s = .active) (hg : s.pair.gaveUp = some b)
    (hu : u = enterSafeHalt (raiseF 4 0) s) (hv : v = { u with pair := { u.pair with gaveUp := none } }) :
    driversRelease s = match s.chrono.req.restart with
      | some (cold, _) => bootEntry v.restart.cause cold true v
      | none => v := by
  subst hv hu
  exact if_pos ⟨hm, by rw [hg]; rfl⟩

/-- Silence of the link in a module that ends in SAFE_HALT. -/
theorem straitSilent_of_safeHalt {s p u v : State} (hn : s.pair.silent = false)
    (hp : p = { s with pair := { s.pair with silent := true } })
    (hu : u = raise Ev.straitSilent 0xFF (pairDetail p) (mstIn p) (stick p Reg.pairError 5))
    (hv : v = setFld (setFld u Reg.pairStatus 5 3 0) Reg.pairStatus 11 10 0) (hm : modState v = .safeHalt) :
    straitSilent s = v := by
  have hna : modState v ≠ .active := by rw [hm]; exact fun h => by cases h
  have hs : silentActive v = v := if_neg fun h => hna h.1
  have hstop : straitSilent s = partnerGone (silentActive (if modState v = .active then stopMirroring (endCopy v) else v)) := by
    subst hv hu hp
    exact if_neg (Bool.eq_false_iff.1 hn)
  rw [hstop, if_neg hna, hs, partnerGone_of_not_standsBy (standsBy_of_safeHalt hm)]

/-- Settles O50. -/
theorem masteryIsClaimedAndTaken : Obligations.MasteryIsClaimedAndTaken := by
  unfold Obligations.MasteryIsClaimedAndTaken
  refine ⟨fun level s u hu hm hl => ?line,
    fun s hm he hg hp hc hn ht => congrArg Host.Outcome.next (if_pos (mayClaim_of_standby hm he hg hp hc hn ht)),
    fun s hm hs hp hc hn ht h2 => congrArg Host.Outcome.next (if_pos (mayClaim_of_boot hm hs hp hc hn ht h2)),
    fun c s hm hc ht hr ho hi hd => ⟨_, _, _, rfl, rfl, rfl, ?takeover⟩,
    fun b s hm hg => ⟨_, _, rfl, rfl, fun hr => ?released, fun cold x hr => ?restarted⟩,
    fun s hm hc hn ht => congrArg Host.Outcome.next (if_pos ⟨hm, hc, Bool.eq_false_iff.1 hn, ht⟩),
    fun v t rest s hs hp hv hn hr hf ht => congrArg Host.Outcome.next (resultTimeout_of_missing hs hp hv hn hr hf ht),
    fun s hm he hr hv hl => congrArg Host.Outcome.next
      (if_pos ⟨hm, Bool.eq_false_iff.1 he, waited_of_reason hr, hv, hl⟩),
    fun s hm he => congrArg Host.Outcome.next (if_pos ⟨hm, he⟩), fun s h => congrArg Host.Outcome.next (if_neg h),
    fun s => rfl, fun s p u v hn hp hu hv hm => congrArg Host.Outcome.next (straitSilent_of_safeHalt hn hp hu hv hm),
    fun l s hb hn => ⟨_, rfl, congrArg Host.Outcome.next (if_pos ⟨hb, Bool.eq_false_iff.1 hn⟩)⟩, fun l s => rfl⟩
  case line =>
    refine congrArg Host.Outcome.next ((mstInChange_eq hu).trans ?_)
    split
    · exact mstInSteps_of_active (s := setNoMastery _ u) ((modState_setNoMastery _ u).trans hm) ((setNoMastery_silent _ u).trans hl)
    · exact mstInSteps_of_active hm hl
  case takeover =>
    refine congrArg Host.Outcome.next (if_pos ⟨hm, claimLead_of_passed hc ht, hr, ho, hi, Bool.eq_false_iff.1 hd⟩)
  case released =>
    refine congrArg Host.Outcome.next ((driversRelease_of_gaveUp hm hg rfl rfl).trans ?_)
    rw [hr]
  case restarted =>
    refine congrArg Host.Outcome.next ((driversRelease_of_gaveUp hm hg rfl rfl).trans ?_)
    rw [hr]

end Sys2Proof.Machine
end

section
/-!
PROOFS. O51 and O52: the frames of the Strait link, copies to a joining module and the phases of a join attempt.
-/
namespace Sys2Proof.Machine

/-! ### A valid frame ends the silence, and nothing else -/

theorem modState_heard (s : State) : modState (heard s) = modState s := modState_congr rfl

theorem standsBy_heard (s : State) : standsBy (heard s) = standsBy s := by
  rw [standsBy, standsBy, modState_heard]

theorem joinPhase_heard (s : State) : joinPhase (heard s) = joinPhase s := fld_congr rfl _ _ _

/-! ### Frames -/

/-- In SAFE_HALT no line is judged: the module neither stands by nor holds control. -/
theorem lineWrong_of_safeHalt {s : State} (hm : modState s = .safeHalt) (i : StatusInfo) : lineWrong s i = false := by
  simp only [lineWrong, standsBy_of_safeHalt hm, hm, reduceCtorEq, decide_false, Bool.false_and, Bool.or_self]

/-- STATUS of an ACTIVE partner with the eligibility known, at a SAFE_HALT module without a line fault, is shown and no more. -/
theorem statusRx_of_safeHalt {i : StatusInfo} {s u : State} (hi : i.state = .active)
    (hu : u = setBit (setFld { s with pair := { s.pair with partner := some i, silent := false } } Reg.pairStatus 5 4 1)
      Reg.pairStatus 3 i.eligible) (hm : modState u = .safeHalt) (hl : u.pair.lineFault = false)
    (he : bit (setFld s Reg.pairStatus 5 4 1) Reg.pairStatus 3 = i.eligible) : statusRx i s = u := by
  have hwas : bit (setFld (heard { s with pair := { s.pair with partner := some i } }) Reg.pairStatus 5 4
      (partnerCode i.state)) Reg.pairStatus 3 = i.eligible := by
    rw [← he, hi]
    exact bit_congr rfl _ _
  have hu' : setBit (setFld (heard { s with pair := { s.pair with partner := some i } }) Reg.pairStatus 5 4
      (partnerCode i.state)) Reg.pairStatus 3 i.eligible = u := by
    rw [hu, hi]
    rfl
  have hna : modState u ≠ .active := by rw [hm]; exact fun h => by cases h
  have hc : checkLine i u = u := by
    rw [checkLine, lineWrong_of_safeHalt hm, hl]
    rfl
  have hno : ¬ (i.eligible = true ∧ ¬ (i.eligible = true)) := fun ⟨h, hn⟩ => hn h
  unfold statusRx
  simp only [hwas, hu', hno, if_false, hna, hc]
  exact partnerGone_of_not_standsBy (standsBy_of_safeHalt hm)

/-- A STANDBY compares every item of a check. -/
theorem checkItems_of_standby {s : State} (hm : modState s = .standby) (items : List CheckItem) : checkItems s items = items :=
  if_neg fun h => by rw [hm] at h; cases h.1

/-- A STANDBY's comparison of a check, its counters stored and the result acknowledged. -/
theorem checkRx_of_standby {c : CheckContent} {s u v : State} (hm : modState s = .standby)
    (hu : u = c.counters.foldl (fun s (k, n) => if k < 128 then setReg s (Reg.safeConnSeq k) n else s)
      { s with pair := { s.pair with silent := false, digests := s.pair.digests.drop c.items.length } })
    (hv : v = emitOut u (.straitAck true c.seq (checkDiffers c.items s.pair.digests).isNone)) :
    checkRx c s = match checkDiffers c.items s.pair.digests with
      | some i => outputMismatch i v
      | none => confirmBlocks (s.pair.digests.take c.items.length) (s.pair.digests.drop c.items.length) v := by
  have hm' : modState (heard s) = .standby := (modState_heard s).trans hm
  subst hv hu
  unfold checkRx
  simp only [hm', true_or, if_true, checkItems_of_standby hm']
  rfl

/-- At an ACTIVE module the acknowledgement of its oldest batch is accepted and shown. -/
theorem ackRx_of_batch {seq : Word} {items : List JItem} {rest : List (Word × List JItem)} {s : State}
    (hm : modState s = .active) (hb : s.pair.batchOpen = (seq, items) :: rest) :
    ackRx false seq true s = setReg (batchAcked items
      { s with pair := { s.pair with silent := false, batchOpen := rest } }) Reg.pairBatch seq := by
  have hm' : modState (heard s) = .active := (modState_heard s).trans hm
  have hb' : (heard s).pair.batchOpen = (seq, items) :: rest := hb
  unfold ackRx
  simp only [hm', ne_eq, not_true_eq_false, if_false, Bool.false_eq_true, hb', List.find?_cons, decide_true,
    List.erase_cons_head]
  rfl

/-- At an ACTIVE module the acknowledgement of its oldest check drops it. -/
theorem ackRx_of_check {seq : Word} {rest : List Word} {s : State} (hm : modState s = .active)
    (hb : s.pair.checkOpen = seq :: rest) :
    ackRx true seq true s = { s with pair := { s.pair with silent := false, checkOpen := rest } } := by
  have hm' : modState (heard s) = .active := (modState_heard s).trans hm
  have hb' : (heard s).pair.checkOpen = seq :: rest := hb
  unfold ackRx
  simp only [hm', ne_eq, not_true_eq_false, if_false, hb', List.contains_cons, BEq.rfl, Bool.true_or, if_true,
    List.erase_cons_head]
  rfl

/-- HELLO at an ACTIVE module of a pair that knows no partner state is answered. -/
theorem helloRx_of_active {h : HelloInfo} {s u : State}
    (hu : u = setFld { s with pair := { s.pair with hello := some h, silent := false } } Reg.pairClass 31 16
      h.pairClass.toNat) (hm : modState u = .active) (hp : pairBank u = true)
    (hg : u.pair.gaveUp = none) (hn : u.pair.partner = none) :
    helloRx h s = emitOut (stopMirroring (endCopy u)) (.straitHello (ownHello u)) := by
  have hu' : setFld (heard { s with pair := { s.pair with hello := some h } }) Reg.pairClass 31 16 h.pairClass.toNat = u :=
    hu.symm
  unfold helloRx
  simp only [hu', hm, hp, hg, hn, Option.isNone_none, Option.map_none, Option.getD_none, Bool.false_eq_true,
    not_false_eq_true, and_self, if_true]

/-- Outside SLEEP and WAKING the module's own STATUS goes out. -/
theorem statusTx_of_awake {s : State} (hs : modState s ≠ .sleep) (hw : modState s ≠ .waking) :
    statusTx s = emitOut s (.straitStatus
      ⟨modState s, voteMode s, bit s Reg.pairStatus 2, levelOf (mstIn s), (getReg s Reg.pairClass).extractLsb' 0 16⟩) := by
  unfold statusTx
  split
  case h_1 h => exact absurd h hs
  case h_2 h => exact absurd h hw
  case h_3 => rfl

/-- Settles O51. -/
theorem straitFramesTakeEffect : Obligations.StraitFramesTakeEffect := by
  unfold Obligations.StraitFramesTakeEffect
  refine ⟨fun i s u hi hu hm hl he => congrArg Host.Outcome.next (statusRx_of_safeHalt hi hu hm hl he),
    fun c s hs => congrArg Host.Outcome.next (if_pos ((standsBy_heard s).trans hs)),
    fun b items s hs => ⟨_, rfl, congrArg Host.Outcome.next (if_pos ((standsBy_heard s).trans hs))⟩,
    fun c s hm => ⟨_, _, rfl, rfl, fun i hd => ?differs, fun hd => ?agrees⟩,
    fun seq items rest s hm hb => congrArg Host.Outcome.next (ackRx_of_batch hm hb),
    fun seq rest s hm hb => congrArg Host.Outcome.next (ackRx_of_check hm hb),
    fun r s hs => congrArg Host.Outcome.next (if_pos ((standsBy_heard s).trans hs)),
    fun n s u hu => ?notice,
    fun c s hs he => ?giveUp,
    fun h s u hu hm hp hg hn => congrArg Host.Outcome.next (helloRx_of_active hu hm hp hg hn),
    fun fseq l s => rfl, fun l fseq s => ⟨rfl, rfl, _, rfl⟩,
    fun s hs hw => congrArg Host.Outcome.next (statusTx_of_awake hs hw)⟩
  case differs =>
    refine congrArg Host.Outcome.next ((checkRx_of_standby hm rfl rfl).trans ?_)
    rw [hd]
  case agrees =>
    refine congrArg Host.Outcome.next ((checkRx_of_standby hm rfl rfl).trans ?_)
    rw [hd]
  case notice =>
    have hh : u = heard s := hu
    subst hh
    refine ⟨fun t h hn => ?overrun, fun c h k hn => ?force, fun c k hn hm => ?xchk, fun hn hm hj hr => ?copyFailed,
      fun h hn hs => ?exchange, fun h hn hs => ?sleep⟩
    all_goals subst hn
    case overrun => rfl
    case force => rfl
    case xchk => exact congrArg Host.Outcome.next (if_pos ((modState_heard s).trans hm))
    case copyFailed =>
      exact congrArg Host.Outcome.next (if_pos ⟨(modState_heard s).trans hm, (joinPhase_heard s).symm ▸ hj, by
        rw [heard, hr]; rfl⟩)
    case exchange =>
      have hs' : standsBy (heard s) = true := (standsBy_heard s).trans hs
      have hna : ¬ (modState (heard s) = .active) := fun ha => by rw [standsBy_of_active ha] at hs'; cases hs'
      exact congrArg Host.Outcome.next ((if_neg hna).trans (if_pos hs'))
    case sleep => exact congrArg Host.Outcome.next (if_pos ((standsBy_heard s).trans hs))
  case giveUp =>
    refine congrArg Host.Outcome.next ((if_pos ((standsBy_heard s).trans hs)).trans (if_neg fun h => h.2.1 ?_))
    exact (bit_congr rfl _ _).trans he

/-! ### Joining -/

/-- Where a joining module stands in its attempt. -/
theorem joinStep_of_phase {s : State} {p : Nat} (hm : modState s = .joining) (hp : joinPhase s = p) : joinStep s p = true :=
  Bool.and_eq_true_iff.2 ⟨decide_eq_true hm, decide_eq_true hp⟩

/-- An ACTIVE module whose partner joins sends its journal and retained data and starts to copy its state area. -/
theorem journalDone_of_active {i : StatusInfo} {s u v : State} (hm : modState s = .active) (hp : pairBank s = true)
    (hi : s.pair.partner = some i) (hj : i.state = .joining) (hh : s.pair.hello.isSome = true)
    (hr : s.pair.mirroring = false) (hl : s.pair.silent = false) (hc : copyPhase s = 0)
    (hu : u = emitOut s (.straitCopy (journalCopy s))) (hv : v = emitOut u (.straitCopy (retainCopy u))) :
    journalDone s = showDirty (setFld { v with
      pair := { v.pair with mirroring := true, delta := [], digests := [] }
      rejoin := { rejoin0 with fromPair := true, toCopy := saPages v } } Reg.pairJoin 2 0 3) := by
  have hn : ¬ (joinStep s 2 = true) := fun h => by
    have h' := of_decide_eq_true (Bool.and_eq_true_iff.1 h).1
    rw [hm] at h'
    cases h'
  have hjoin : ((s.pair.partner.map (fun i => decide (i.state = .joining))).getD false) = true := by
    rw [hi]
    exact decide_eq_true hj
  subst hv hu
  unfold journalDone
  rw [if_neg hn]
  exact if_pos ⟨hm, hp, hjoin, hh, Bool.eq_false_iff.1 hr, Bool.eq_false_iff.1 hl, hc⟩

/-- After FINAL and enough matching cycles the module is STANDBY, and eligible where its lanes vote and no line fault stands. -/
theorem joinComplete_of_voting {s u : State} (hm : modState s = .joining) (hp : joinPhase s = 6)
    (he : eligCycles s ≤ s.pair.eligCount) (hu : u = setFld (setModTo .standby s) Reg.pairJoin 2 0 0)
    (hv : isVoting u = true) (hl : u.pair.lineFault = false) :
    joinComplete s = setBit { u with pair := { u.pair with reason := 0 } } Reg.pairStatus 2 true := by
  unfold joinComplete
  rw [if_pos ⟨joinStep_of_phase hm hp, he⟩]
  simp only [← hu, hv, not_true_eq_false, if_false, hl, Bool.false_eq_true, decide_true]

/-- HELLO of the partner that holds mastery, at a started module in BOOT (R338 step 1). -/
theorem helloRx_of_boot {h : HelloInfo} {s u : State}
    (hu : u = setFld { s with pair := { s.pair with hello := some h, silent := false } } Reg.pairClass 31 16
      h.pairClass.toNat) (hm : modState u = .boot)
    (hs : u.chrono.startAt.isSome = true) (hp : pairBank u = true) (hn : partnerMaster u = true) :
    helloRx h s = if h.pairClass ≠ (ownHello u).pairClass then
        enterMaintenance 6 (raise Ev.pairClassMismatch 0xFF (pairDetail u) h.pairClass.toNat u)
      else if helloAlike u h then joinStarts h (joinFromBoot u)
      else enterMaintenance 6 (raise Ev.joinFailed 0xFF (pairDetail u) 2 (stick u Reg.pairError 7)) := by
  have hu' : setFld (heard { s with pair := { s.pair with hello := some h } }) Reg.pairClass 31 16 h.pairClass.toNat = u :=
    hu.symm
  have hs' : u.chrono.startAt.isNone = false := by
    obtain ⟨x, hx⟩ := Option.isSome_iff_exists.1 hs
    rw [hx]
    rfl
  unfold helloRx
  simp only [hu', hm, hs', hp, hn, not_true_eq_false, Bool.false_eq_true, or_self, if_false]

/-- Settles O52. -/
theorem joiningTakesEffect : Obligations.JoiningTakesEffect := by
  unfold Obligations.JoiningTakesEffect
  refine ⟨fun c s u hw hm hu => ?copy, fun s hm hp => congrArg Host.Outcome.next (if_pos (joinStep_of_phase hm hp)),
    fun i s u v hm hp hi hj hh hr hl hc hu hv =>
      congrArg Host.Outcome.next (journalDone_of_active hm hp hi hj hh hr hl hc hu hv),
    fun s hm hr ht => congrArg Host.Outcome.next (if_pos ⟨hm, by rw [hr]; rfl, ht⟩), fun t s hm hr ht => ?retry,
    fun s u hm hp he hu hv hl => congrArg Host.Outcome.next (joinComplete_of_voting hm hp he hu hv hl),
    fun h s u hu hm hs hp hn => ⟨fun hc => ?otherClass, fun hc ha => ?alike, fun hc ha => ?notAlike⟩⟩
  case copy =>
    have hh : u = heard s := hu
    have hm' : modState (heard s) = .joining := (modState_heard s).trans hm
    have hrx : exec (.straitCopy c) s = .next (copyRx c s) := if_pos hw
    clear hw hu
    subst hh
    refine ⟨fun r b x e h w hc => ?_, fun p bytes hc => ?_, fun ever invalid gen app size last log data hc => ?_⟩
    · subst hc
      exact hrx.trans (congrArg Host.Outcome.next (if_pos hm'))
    · subst hc
      exact hrx.trans (congrArg Host.Outcome.next (if_pos hm'))
    · subst hc
      exact ⟨_, rfl, rfl, rfl, rfl, rfl, rfl, rfl, rfl, hrx.trans (congrArg Host.Outcome.next (if_pos hm'))⟩
  case retry =>
    refine congrArg Host.Outcome.next ?_
    unfold joinRetry
    simp only [hr, hm, ht, and_self, if_true]
  case otherClass => exact congrArg Host.Outcome.next ((helloRx_of_boot hu hm hs hp hn).trans (if_pos hc))
  case alike =>
    exact congrArg Host.Outcome.next ((helloRx_of_boot hu hm hs hp hn).trans ((if_neg (not_not_intro hc)).trans (if_pos ha)))
  case notAlike =>
    exact congrArg Host.Outcome.next ((helloRx_of_boot hu hm hs hp hn).trans
      ((if_neg (not_not_intro hc)).trans (if_neg (Bool.eq_false_iff.1 ha))))

end Sys2Proof.Machine
end

section
/-!
PROOFS. O53: commands and tables of the fault manager, the scrubber and the list of corrected words.
-/
namespace Sys2Proof.Machine

/-- A change that is not made while the Chronograph runs, or lowers nothing, is not refused for lowering. -/
theorem not_lowering {r l : Bool} (h : r = false ∨ l = false) : ¬ (r = true ∧ l = true) := fun ⟨hr, hl⟩ =>
  h.elim (fun h => Bool.false_ne_true (h.symm.trans hr)) (fun h => Bool.false_ne_true (h.symm.trans hl))

/-- CLEAR_COUNTS zeroes the two decode counts and leaves every other register. -/
theorem getReg_clearCounts (s : State) (k : Nat) : getReg (clearCounts s) k =
    if k = Reg.faultCorrCount ∨ k = Reg.faultUncorrCount then 0 else getReg s k := by
  unfold clearCounts
  by_cases hu : k = Reg.faultUncorrCount
  · rw [if_pos (.inr hu), hu, getReg_setReg_self]
  · rw [getReg_setReg_other _ hu]
    by_cases hc : k = Reg.faultCorrCount
    · rw [if_pos (.inl hc), hc, getReg_setReg_self]
    · rw [getReg_setReg_other _ hc, if_neg (not_or.2 ⟨hc, hu⟩)]

/-- In a powered module that does not sleep the word of a region that exists is decoded. -/
theorem scrubRead_of_awake {r : Nat} {a : Nat} {w : BitVec 160} {s : State} (hp : s.skerry.powered = true)
    (hm : modState s ≠ .sleep) (hr : r ≤ 11) : scrubRead r a w s = match decode160 w with
      | .clean => s
      | .poisoned => spoilPoisoned r a s
      | .corrected p => scrubCorrected r a p w s
      | .uncorrectable => scrubBad r a s := by
  refine if_neg ?_
  rintro (h | h | h)
  · exact h hp
  · exact hm h
  · exact Nat.not_lt.2 hr h

/-- The listed words of a region and address are those that age. -/
theorem ite_sameWord {α : Type} (r a : Nat) (c : Corrected) (x y : α) :
    (if sameWord r a c then x else y) = if c.region = r ∧ c.addr = a then x else y :=
  if_congr (by simp only [sameWord, Bool.and_eq_true, decide_eq_true_eq]) rfl rfl

/-- Settles O53. -/
theorem faultManagerTakesEffect : Obligations.FaultManagerTakesEffect := by
  unfold Obligations.FaultManagerTakesEffect
  refine ⟨fun s => ⟨fun h => congrArg Host.Outcome.next (if_neg (Nat.not_le.2 h)), fun h => congrArg Host.Outcome.next (if_pos h)⟩,
    fun s _ => ⟨clearCounts s, rfl, ?corr, ?uncorr, rfl, fun k hc hu => ?other⟩,
    fun k v s => ⟨fun hl hc => ?stored, fun hr hl => congrArg Host.Outcome.next (if_pos ⟨hr, hl⟩), fun hl hc => ?code⟩,
    fun v s => ⟨fun hl => congrArg Host.Outcome.next (if_neg (not_lowering hl)),
      fun hr hl => congrArg Host.Outcome.next (if_pos ⟨hr, hl⟩)⟩,
    fun r a w s hp hm hr => ⟨fun hd => ?clean, fun p hd => ?corrected, fun hd => ?poisoned, fun hd => ⟨_, rfl, ?uncorrectable⟩⟩,
    fun r a s => ?ages, fun s => rfl⟩
  case corr => rw [getReg_clearCounts, if_pos (.inl rfl)]
  case uncorr => rw [getReg_clearCounts, if_pos (.inr rfl)]
  case other => rw [getReg_clearCounts, if_neg (not_or.2 ⟨hc, hu⟩)]
  case stored => exact congrArg Host.Outcome.next ((if_neg (not_lowering hl)).trans (if_neg (Nat.not_lt.2 hc)))
  case code => exact congrArg Host.Outcome.next ((if_neg (not_lowering hl)).trans (if_pos hc))
  case clean =>
    refine congrArg Host.Outcome.next ((scrubRead_of_awake hp hm hr).trans ?_)
    rw [hd]
  case corrected =>
    refine congrArg Host.Outcome.next ((scrubRead_of_awake hp hm hr).trans ?_)
    rw [hd]
    rfl
  case poisoned =>
    refine congrArg Host.Outcome.next ((scrubRead_of_awake hp hm hr).trans ?_)
    rw [hd]
  case uncorrectable =>
    refine congrArg Host.Outcome.next ((scrubRead_of_awake hp hm hr).trans ?_)
    rw [hd]
    rfl
  case ages =>
    refine congrArg Host.Outcome.next ?_
    simp only [correctionAgeOut, ite_sameWord]

end Sys2Proof.Machine
end

section
/-!
PROOFS. O55: supply, thermal, crystal and store events of Skerry.
-/
namespace Sys2Proof.Machine

/-! ### The supply -/

/-- The reading of the supply is shown in a register; Skerry's own record stands. -/
@[simp] theorem noteSupply_skerry (dv : BitVec 12) (s : State) : (noteSupply dv s).skerry = s.skerry := by
  simp only [noteSupply]
  split
  · rw [setFld_skerry, setFld_skerry]
  · rw [setFld_skerry]

/-- Outside SLEEP only the present reading is shown. -/
theorem noteSupply_of_awake {dv : BitVec 12} {s : State} (hm : modState s ≠ .sleep) :
    noteSupply dv s = setFld s Reg.skerrySupply 11 0 dv.toNat := by
  refine if_neg fun h => hm ?_
  rw [← h.1, modState, modState, fld, fld, getReg_setFld_other _ (by decide)]

/-- Skerry's record does not bear on the module's state. -/
theorem modState_setSkerry (s : State) (k : SkerrySt) : modState { s with skerry := k } = modState s := modState_congr rfl

/-- Skerry's record does not bear on the bank in use. -/
theorem pairBank_setSkerry (s : State) (k : SkerrySt) : pairBank { s with skerry := k } = pairBank s := rfl

/-- A supply that leaves its range outside SLEEP begins an interruption. -/
theorem interruptBegin_of_drop {dv : BitVec 12} {s : State} (hp : s.skerry.powered = true) (hd : dv.toNat < 55)
    (hn : s.skerry.interruptRaw = none) (hm : modState s ≠ .sleep) :
    interruptBegin dv s = { setFld s Reg.skerrySupply 11 0 dv.toNat with
      skerry := { s.skerry with back := none, interruptRaw := some (rawNow s) } } := by
  have hm' : modState { s with skerry := { s.skerry with back := none } } ≠ .sleep := by
    rw [modState_setSkerry]
    exact hm
  unfold interruptBegin
  rw [if_pos ⟨hp, hd⟩, noteSupply_of_awake hm']
  exact if_neg (by rw [setFld_skerry, hn]; exact Bool.false_ne_true)

/-- The return of the supply ends an interruption, or after a warning is kept for the power-down. -/
theorem interruptEnd_of_return {dv : BitVec 12} {t : Nat} {s u : State} (hi : s.skerry.interruptRaw = some t)
    (hp : s.skerry.powered = true) (hd : 60 ≤ dv.toNat)
    (hu : u = { noteSupply dv s with skerry := { s.skerry with interruptRaw := none } }) :
    interruptEnd dv s = if u.skerry.warned then { u with skerry := { u.skerry with back := some dv } }
      else raise Ev.supplyInterruption 0xFF (supplyDetail u) (usSince u t) u := by
  have h : interruptEnd dv s = if s.skerry.powered ∧ 60 ≤ dv.toNat then
        (if u.skerry.warned then supplyBack dv u else raise Ev.supplyInterruption 0xFF (supplyDetail u) (usSince u t) u)
      else s := by
    subst hu
    unfold interruptEnd
    rw [hi]
  rw [h, if_pos ⟨hp, hd⟩]
  by_cases hw : u.skerry.warned = true
  · rw [if_pos hw, if_pos hw, supplyBack, if_pos hw]
  · rw [if_neg hw, if_neg hw]

/-- A power-fail warning outside SLEEP: a pair's active module gives up, any other stops its Chronograph. -/
theorem powerFail_of_warning {s u : State} (hp : s.skerry.powered = true) (hw : s.skerry.warned = false)
    (hm : modState s ≠ .sleep) (hu : u = { s with skerry := { s.skerry with warned := true, back := none } }) :
    powerFail s = nvWrite (if modState s = .active ∧ pairBank s = true then giveUp (raiseF 4 0) .powerFail u
      else mstOut (stopChrono u) .alive) := by
  have hmu : modState u = modState s := by rw [hu, modState_setSkerry]
  have hpu : pairBank u = pairBank s := by rw [hu, pairBank_setSkerry]
  rw [← hmu, ← hpu]
  subst hu
  exact if_pos ⟨hp, Bool.eq_false_iff.1 hw, hm⟩

/-! ### The power-down -/

/-- Lanes, fabric and engines lose their supply, with time valid as it was. -/
def suppliesOff (s : State) : State :=
  mstOut (svcShut 4 (enginesOff { s with skerry := { s.skerry with timeValid := timeValid s } })) .low

/-- What a module keeps when it becomes Unpowered. -/
def emptied (s : State) : State :=
  setPending { s with regs := s.regs.filter (fun x => keptAtBoot false x.1), fm := { s.fm with pending := [] },
                      recQ := [], pair := pair0, time := { s.time with onCrystal := true } } []

/-- An Unpowered module, as its registers and Skerry show it. -/
def shownUnpowered (s : State) : State :=
  let s := setReg (setReg s Reg.pairStatus 0) Reg.modState 2
  let s := setFld s Reg.skerryStatus 2 1 0
  { s with skerry := { s.skerry with powered := false, charged := false, warned := false, back := none, interruptRaw := none } }

/-- After a warning the module becomes Unpowered, and starts where X_PWR is valid by then. -/
theorem powerDown_of_warned {s : State} (hp : s.skerry.powered = true) (hw : s.skerry.warned = true) :
    powerDown s = match s.skerry.back with
      | some dv => noteSupply dv (powerOn (shownUnpowered (emptied (suppliesOff s))))
      | none => shownUnpowered (emptied (suppliesOff s)) := if_pos ⟨hp, hw⟩

/-- The Unpowered module holds no pending record, no record for the recorder and a reset pair state. -/
theorem shownUnpowered_emptied (s : State) : (shownUnpowered (emptied s)).skerry.powered = false ∧
    (shownUnpowered (emptied s)).skerry.warned = false ∧ (shownUnpowered (emptied s)).fm.pending = [] ∧
    (shownUnpowered (emptied s)).pair = pair0 ∧ (shownUnpowered (emptied s)).recQ = [] := ⟨rfl, rfl, rfl, rfl, rfl⟩

/-! ### The crystal -/

/-- The TCXO has settled: its bit is set, and on the crystal the counter changes source. -/
theorem tcxoSettles_of_started {s u : State} (h1 : bit s Reg.skerryStatus 1 = true) (h2 : bit s Reg.skerryStatus 2 = false)
    (hu : u = setBit s Reg.skerryStatus 2 true) :
    tcxoSettles s = if u.time.onCrystal then restoreRate (leaveCrystal u) else u := by
  subst hu
  exact if_pos ⟨h1, Bool.eq_false_iff.1 h2⟩

/-- Settles O55. -/
theorem supplyAndSkerryTakeEffect : Obligations.SupplyAndSkerryTakeEffect := by
  unfold Obligations.SupplyAndSkerryTakeEffect
  refine ⟨fun dv s hd => ⟨fun hp => ?startsUp, fun hp hw => ?noted, fun u hp hw hu => ?kept⟩,
    fun dv s hd => congrArg Host.Outcome.next (if_pos hd), fun s hp => congrArg Host.Outcome.next (if_pos hp),
    fun dv s hp hd hn hm => congrArg Host.Outcome.next (interruptBegin_of_drop hp hd hn hm),
    fun dv t s u hi hp hd hu => congrArg Host.Outcome.next (interruptEnd_of_return hi hp hd hu),
    fun dv s hp hd => congrArg Host.Outcome.next (if_pos ⟨hp, hd⟩), fun s u hp hw hm hu => ⟨fun ha => ?givesUp, fun ha => ?stops⟩,
    fun s hp hw hb => ⟨_, ?down, shownUnpowered_emptied (suppliesOff s)⟩, fun dv s hp hw hb => ?downAndUp,
    fun s hp hm => congrArg Host.Outcome.next (if_pos ⟨hp, hm⟩), fun s hp hm => congrArg Host.Outcome.next (if_pos ⟨hm, hp⟩),
    fun s hp => congrArg Host.Outcome.next (if_pos hp),
    fun s h1 h2 => ⟨fun hc => ?onTcxo, rfl, fun u hu hc hk => ?leaves, fun u r hu hc hk => ?restores⟩,
    fun ten base hot s u hp ht hu => ?high, fun spot base hot s u hp hs hn hu => ?critical,
    fun s h => ⟨_, congrArg Host.Outcome.next (if_pos ?lost), rfl, rfl, rfl, rfl, rfl, rfl, rfl, rfl, rfl⟩⟩
  case startsUp =>
    exact congrArg Host.Outcome.next ((if_neg (Nat.not_lt.2 hd)).trans (if_neg (Bool.eq_false_iff.1 hp)))
  case noted =>
    refine congrArg Host.Outcome.next ((if_neg (Nat.not_lt.2 hd)).trans ((if_pos hp).trans (if_neg ?_)))
    rw [noteSupply_skerry, hw]
    exact Bool.false_ne_true
  case kept =>
    subst hu
    refine congrArg Host.Outcome.next ((if_neg (Nat.not_lt.2 hd)).trans ((if_pos hp).trans (if_pos ?_)))
    rw [noteSupply_skerry, hw]
  case givesUp => exact congrArg Host.Outcome.next ((powerFail_of_warning hp hw hm hu).trans (congrArg nvWrite (if_pos ha)))
  case stops => exact congrArg Host.Outcome.next ((powerFail_of_warning hp hw hm hu).trans (congrArg nvWrite (if_neg ha)))
  case down =>
    refine congrArg Host.Outcome.next ((powerDown_of_warned hp hw).trans ?_)
    rw [hb]
  case downAndUp =>
    obtain ⟨h1, h2, h3, h4, h5⟩ := shownUnpowered_emptied (suppliesOff s)
    refine ⟨_, h1, h2, h3, h4, h5, congrArg Host.Outcome.next ((powerDown_of_warned hp hw).trans ?_)⟩
    rw [hb]
  case onTcxo =>
    refine congrArg Host.Outcome.next ((tcxoSettles_of_started h1 h2 rfl).trans (if_neg ?_))
    rw [setBit_time, hc]
    exact Bool.false_ne_true
  case leaves =>
    refine congrArg Host.Outcome.next ((tcxoSettles_of_started h1 h2 hu).trans ((if_pos ?_).trans ?_))
    · rw [hu, setBit_time, hc]
    · have hk' : (leaveCrystal u).time.keptRate = none := by rw [hu]; exact hk
      rw [restoreRate, hk']
  case restores =>
    refine congrArg Host.Outcome.next ((tcxoSettles_of_started h1 h2 hu).trans ((if_pos ?_).trans ?_))
    · rw [hu, setBit_time, hc]
    · have hk' : (leaveCrystal u).time.keptRate = some r := by rw [hu]; exact hk
      simp only [restoreRate, hk']
  case high =>
    subst hu
    exact congrArg Host.Outcome.next (if_pos ⟨hp, ht⟩)
  case critical =>
    subst hu
    refine congrArg Host.Outcome.next (if_pos ⟨hp, ?_⟩)
    cases spot with
    | true => exact hs rfl
    | false => exact hn rfl
  case lost => exact h.imp_left Bool.eq_false_iff.1

end Sys2Proof.Machine
end

section
/-!
PROOFS. O56: from supply to the set-up phase, the start commands, SLEEP and wake.
-/
namespace Sys2Proof.Machine

/-! ### The image checks and loads of a start -/

/-- The image checks of a start in BOOT. -/
theorem imageChecks_of_boot {s : State} (hm : modState s = .boot) (hc : s.store.checksOk = false) :
    imageChecks s = (selectBank s).elim (enterMaintenance 1 s)
      (fun b => (setFailure s b).elim (judgeCombo b s) (fun f => fallBack f.1 f.2 s)) := by
  refine (if_pos ⟨hm, Bool.eq_false_iff.1 hc⟩).trans ?_
  cases selectBank s with
  | none => rfl
  | some b =>
    change (match setFailure s b with
      | some (n, why) => fallBack n why s
      | none => judgeCombo b s) = (setFailure s b).elim (judgeCombo b s) (fun f => fallBack f.1 f.2 s)
    cases setFailure s b with
    | none => rfl
    | some f => rfl

/-- An Ephemeris that passes its payload and load checks becomes bank 0, the active bank. -/
theorem bootLoads_of_good {x : Slot} {s : State} (hm : modState s = .boot) (hc : s.store.checksOk = true)
    (hb : s.chrono.bootLoaded = false) (hx : x = slotOf s (bootedSlot s 4))
    (hmc : payloadReason (slotOf s (bootedSlot s 3)) = 0) (hp : payloadReason x = 0)
    (hl : (loadChecks x.content 256 (payloadLen x)).reason = 0) :
    bootLoads s = followPtp (showBanks (setFld
      { setBank (showLoad s (loadChecks x.content 256 (payloadLen x))) 0 (some (parseBank x.content 256)) with
        chrono := { (setBank (showLoad s (loadChecks x.content 256 (payloadLen x))) 0
          (some (parseBank x.content 256))).chrono with bootLoaded := true } } Reg.chronoStatus 1 1 0)) := by
  unfold bootLoads
  rw [if_pos ⟨hm, hc, Bool.eq_false_iff.1 hb⟩]
  simp only [← hx, hmc, hp, hl, OfNat.zero_ne_ofNat, ne_eq, not_true_eq_false, if_false]

/-! ### The self-test -/

/-- A step of a lane under test other than the fifth: a failure fails the lane; a pass goes to the next step. -/
theorem selftestStep_of_other {l : Lane} {p : Bool} {s : State} (hl : laneState s l = .testing ∨ laneState s l = .rejoining)
    (h0 : (s.lanes.get l).testStep ≠ 0) (h5 : (s.lanes.get l).testStep ≠ 5) :
    selftestStep l p s = if !p then selftestFail l s else
      let s' := if (s.lanes.get l).testStep = 4 then { s with dram := s.dram.set l noMem } else s
      let x := if (s.lanes.get l).testStep = 4 then { s.lanes.get l with code := [] } else s.lanes.get l
      setLane (if x.testStep = 1 then setFld s' Reg.laneHealth (4 * l.idx + 2) (4 * l.idx) 7 else s') l
        { x with testStep := x.testStep + 1 } := by
  have hn : ¬ ((laneState s l ≠ .testing ∧ laneState s l ≠ .rejoining) ∨ (s.lanes.get l).testStep = 0) := by
    rintro (⟨ht, hr⟩ | hz)
    · exact hl.elim ht hr
    · exact h0 hz
  exact (if_neg hn).trans (if_neg h5)

/-- Step 5 of a lane under test once the image checks have passed. -/
theorem selftestStep_of_fifth {l : Lane} {p : Bool} {s : State} (hl : laneState s l = .testing ∨ laneState s l = .rejoining)
    (h5 : (s.lanes.get l).testStep = 5) (hc : s.store.checksOk = true) :
    selftestStep l p s = (step5Failure s).elim (if p then testsPassed l s else selftestFail l s)
      (fun f => if modState s = .boot then fallBack f.1 f.2 s else selftestFail l (reportIf f.2 f.1 s)) := by
  have hn : ¬ ((laneState s l ≠ .testing ∧ laneState s l ≠ .rejoining) ∨ (s.lanes.get l).testStep = 0) := by
    rintro (⟨ht, hr⟩ | hz)
    · exact hl.elim ht hr
    · omega
  refine (if_neg hn).trans ((if_pos h5).trans ((if_neg (not_not_intro hc)).trans ?_))
  cases step5Failure s with
  | none => rfl
  | some f => rfl

/-- A lane's record put twice stands as put last. -/
theorem PerLane.set_set {α : Type} (p : PerLane α) (l : Lane) (x y : α) : (p.set l x).set l y = p.set l y := by
  cases l <;> rfl

theorem setLane_setLane (s : State) (l : Lane) (x y : LaneSt) : setLane (setLane s l x) l y = setLane s l y := by
  rw [setLane, setLane, setLane, PerLane.set_set]

theorem laneState_congr {s t : State} (h : s.regs = t.regs) (l : Lane) : laneState s l = laneState t l := by
  rw [laneState, laneState, fld_congr h]

theorem inControl_congr {s t : State} (h : s.regs = t.regs) : inControl s = inControl t := by
  rw [inControl, inControl, modState_congr h]

/-- A TESTING lane of a module not in control that passes step 5 holds its code and is ready. -/
theorem testsPassed_of_start {l : Lane} {s : State} (hl : laneState s l = .testing) (hc : inControl s = false) :
    testsPassed l s = setLane (((step5Slots s).filterMap id).foldl (loadCode l) s) l
      { s.lanes.get l with code := (step5Slots s).filterMap id, testStep := 0, ready := true, step5Done := true } := by
  have hregs : ∀ x, (setLane (((step5Slots s).filterMap id).foldl (loadCode l) s) l x).regs = s.regs :=
    fun x => (setLane_regs _ _ _).trans (loadCodes_regs l _ s)
  have hnr : ∀ x, ¬ (laneState (setLane (((step5Slots s).filterMap id).foldl (loadCode l) s) l x) l = .rejoining) := fun x h => by
    rw [laneState_congr (hregs x), hl] at h
    cases h
  have hnc : ∀ x, ¬ (inControl (setLane (((step5Slots s).filterMap id).foldl (loadCode l) s) l x) = true) := fun x h => by
    rw [inControl_congr (hregs x), hc] at h
    cases h
  exact (if_neg (hnr _)).trans ((if_neg (hnc _)).trans (setLane_setLane _ _ _ _))

/-! ### The start gate and the start -/

/-- The start gate once every lane is ready or OFF. -/
theorem startGate_of_settled {s : State} (hm : modState s = .boot) (hg : s.chrono.gateOpen = false)
    (hl : ∀ l, (s.lanes.get l).ready = true ∨ laneState s l = .off) :
    startGate s = if (readyLanes s).length < 2 then enterMaintenance 4 s
      else if s.store.checksOk ∧ s.chrono.bootLoaded then
        { setFld s Reg.modBootInfo 4 2 (readyMask s) with
          chrono := { s.chrono with gateOpen := true }
          meridian := { s.meridian with queue := ⟨[], [], []⟩, stalled := ⟨[], [], []⟩, owed := ⟨[], [], []⟩ } }
      else s := by
  have hset : allLanes.all (fun l => (s.lanes.get l).ready || decide (laneState s l = .off)) = true :=
    List.all_eq_true.2 fun l _ => Bool.or_eq_true_iff.2 ((hl l).imp_right decide_eq_true)
  exact if_pos ⟨hm, Bool.eq_false_iff.1 hg, hset⟩

/-- The loss of the retained data is reported at a start that may be warm. -/
def retainFound (lost : Nat) (s : State) : State :=
  let s := if lost = 4 then meetRetain s else s
  if lost ≠ 0 then raise Ev.retainLost 0xFF 0 lost s else s

/-- A start is recorded, reported and offered to the partner. -/
def startRestart (warm rolled : Bool) (lost : Nat) (s : State) : State :=
  let s := setReg s Reg.modRestartInfo (restartInfo s warm rolled lost)
  offerHello (writeRestart warm rolled lost (raise Ev.restart 0xFF 0 (getReg s Reg.modRestartInfo).toNat s))

/-- START in the set-up phase. -/
theorem modStart_of_setup {s : State} (hs : setupPhase s = true) (hn : s.chrono.startAt = none) {lost : Nat} {warm : Bool}
    (hl : (if mayBeWarm s then lostReason s else 0) = lost) (hw : (mayBeWarm s && decide (lost = 0)) = warm) :
    modStart s = startRestart warm s.restart.rolled lost (retainFound lost s) := by
  subst hw hl
  exact if_pos ⟨hs, by rw [hn]; rfl⟩

/-! ### SLEEP and wake -/

/-- SLEEP that is not refused begins at once in MAINTENANCE, and in ACTIVE is requested for the next boundary. -/
theorem modSleep_of_taken {s u : State} (hr : sleepReason s = 0) (hu : u = { s with skerry := { s.skerry with held := 0 } }) :
    modSleep s = if modState s = .maintenance then sleepBegin u else
      let v := { u with chrono := { u.chrono with req := { u.chrono.req with sleep := some s.time.mt } } }
      if pairBank v then emitOut v (.straitNotice (.sleep (nextBoundary v))) else v := by
  have hmu : modState u = modState s := by rw [hu, modState_setSkerry]
  have htu : u.time.mt = s.time.mt := by rw [hu]
  rw [← hmu, ← htu]
  simp only [modSleep, hr, if_true, ne_eq, not_true_eq_false, if_false, ← hu]

/-- A wake source whose condition holds, in a powered module. -/
theorem wake_of_source {src : Byte} {ch : BitVec 20} {s : State} (hw : wakeSources s src ch ≠ 0)
    (hp : s.skerry.powered = true) : wake src ch s = if sleepAhead s then
        { s with skerry := { s.skerry with held := s.skerry.held ||| (wakeSources s src ch + 256 * wakeChannel s ch) } }
      else if modState s = .sleep then
        wakeUp (wakeSources s src ch) (if (wakeSources s src ch).testBit 1 then wakeChannel s ch else 0) s
      else s := if_neg (not_or.2 ⟨hw, not_not_intro hp⟩)

/-- Settles O56. -/
theorem startAndSleepTakeEffect : Obligations.StartAndSleepTakeEffect := by
  unfold Obligations.StartAndSleepTakeEffect
  refine ⟨fun di spd s hm hp hc => ⟨_, rfl, congrArg Host.Outcome.next (if_pos ⟨hm, hp, hc⟩)⟩,
    fun s hm hc => ⟨fun hb => ?noSet, fun b hb => ?judged⟩, fun x s hm hc hb hx hmc hp hl => ⟨_, rfl, ?loaded⟩,
    fun l n s hl hn h0 h5 => ?step, fun l s hl h5 hc hi => ?loads, fun l p s hl h5 hc => ?fifth,
    fun s hm hg hl => ⟨fun hr => ?tooFew, fun hr hc hb => ?opens⟩,
    fun s hs hn => ⟨?maintenance, fun u v hw hu hv => ?cold, fun u v hw h0 hu hv => ?warm, fun r u v hw h0 hr hu hv => ?lost⟩,
    fun s hs => ⟨?startRefused, ?maintenanceRefused⟩,
    fun s => ⟨fun hr => ?sleepRefused, fun u hr hu => ⟨fun hm => ?sleepNow, fun v hm hv => ?sleepLater⟩⟩,
    fun s u v w x he hu hv hw hx => ?entered, fun src ch s hw hp => ⟨fun ha => ?held, fun ha hm => ?wakes⟩⟩
  case noSet =>
    refine congrArg Host.Outcome.next ((imageChecks_of_boot hm hc).trans ?_)
    rw [hb]
    rfl
  case judged =>
    refine congrArg Host.Outcome.next ((imageChecks_of_boot hm hc).trans ?_)
    rw [hb]
    rfl
  case loaded => exact congrArg Host.Outcome.next (bootLoads_of_good hm hc hb hx hmc hp hl)
  case step =>
    have hstep := fun p => selftestStep_of_other (p := p) hl (hn ▸ h0) (hn ▸ h5)
    refine ⟨congrArg Host.Outcome.next (hstep false), fun h1 h4 => ?_, fun h1 => ?_, fun h4 => ?_⟩
    · refine congrArg Host.Outcome.next ((hstep true).trans ?_)
      simp only [hn, h1, h4, if_false, Bool.not_true, Bool.false_eq_true]
    · refine congrArg Host.Outcome.next ((hstep true).trans ?_)
      simp only [hn, h1, if_true, Bool.not_true, Bool.false_eq_true, if_false, OfNat.one_ne_ofNat]
    · refine congrArg Host.Outcome.next ((hstep true).trans ?_)
      simp only [hn, h4, if_true, Bool.not_true, Bool.false_eq_true, if_false, OfNat.ofNat_ne_one]
  case loads =>
    refine congrArg Host.Outcome.next ((selftestStep_of_fifth (.inl hl) h5 hc).trans ?_)
    rw [if_pos rfl, testsPassed_of_start hl hi]
  case fifth => exact congrArg Host.Outcome.next (selftestStep_of_fifth hl h5 hc)
  case tooFew => exact congrArg Host.Outcome.next ((startGate_of_settled hm hg hl).trans (if_pos hr))
  case opens =>
    exact ⟨_, congrArg Host.Outcome.next ((startGate_of_settled hm hg hl).trans ((if_neg (Nat.not_lt.2 hr)).trans
      (if_pos ⟨hc, hb⟩))), rfl, rfl, rfl, rfl, rfl, rfl⟩
  case maintenance => exact congrArg Host.Outcome.next (if_pos ⟨hs, by rw [hn]; rfl⟩)
  case cold =>
    subst hv hu
    exact congrArg Host.Outcome.next (modStart_of_setup hs hn (lost := 0) (warm := false) (by rw [hw]; rfl) (by rw [hw]; rfl))
  case warm =>
    subst hv hu
    exact congrArg Host.Outcome.next (modStart_of_setup hs hn (lost := 0) (warm := true) (by rw [hw, h0]; rfl) (by rw [hw]; rfl))
  case lost =>
    have hf : retainFound (lostReason s) s = r := (if_pos h0).trans hr.symm
    subst hv hu
    rw [← hf]
    exact congrArg Host.Outcome.next (modStart_of_setup hs hn (lost := lostReason s) (warm := false) (by rw [hw]; rfl)
      (by rw [hw, decide_eq_false h0]; rfl))
  case startRefused => exact congrArg Host.Outcome.next (if_neg fun h => Bool.eq_false_iff.1 hs h.1)
  case maintenanceRefused => exact congrArg Host.Outcome.next (if_neg fun h => Bool.eq_false_iff.1 hs h.1)
  case sleepRefused =>
    refine congrArg Host.Outcome.next ?_
    simp only [modSleep, hr, if_false, ne_eq, not_false_eq_true, if_true]
  case sleepNow => exact congrArg Host.Outcome.next ((modSleep_of_taken hr hu).trans (if_pos hm))
  case sleepLater =>
    subst hv
    exact congrArg Host.Outcome.next ((modSleep_of_taken hr hu).trans (if_neg (by rw [hm]; exact fun h => by cases h)))
  case entered =>
    subst hx hw hv hu
    exact congrArg Host.Outcome.next (if_pos he)
  case held => exact congrArg Host.Outcome.next ((wake_of_source hw hp).trans (if_pos ha))
  case wakes =>
    exact congrArg Host.Outcome.next ((wake_of_source hw hp).trans ((if_neg (Bool.eq_false_iff.1 ha)).trans (if_pos hm)))

end Sys2Proof.Machine
end

section
/-!
PROOFS. O57: the commands of the image store.
-/
namespace Sys2Proof.Machine

/-- A command written while another runs is refused with BUSY. -/
theorem imgCommand_of_busy {cmd : Nat} {a : ImgArgs} {svc : Bool} {s : State} (hc : 0 < cmd) (h7 : cmd ≤ 7)
    (hb : s.store.running.isSome = true) : imgCommand cmd a svc s = imgRefuse cmd a.slot 1 s :=
  (if_neg (by omega)).trans (if_pos hb)

/-- A command written while none runs is taken. -/
theorem imgCommand_of_idle {cmd : Nat} {a : ImgArgs} {svc : Bool} {s : State} (hc : 0 < cmd) (h7 : cmd ≤ 7)
    (hb : s.store.running = none) : imgCommand cmd a svc s =
      domAcquire (setBit { s with store := { s.store with running := some (cmd, a, svc) } } Reg.imgStatus 0 true) .img :=
  (if_neg (by omega)).trans (if_neg (by rw [imgBusy, hb]; exact Bool.false_ne_true))

/-- The end of a command whose domain runs. -/
theorem imgComplete_of_ready {cmd : Nat} {a : ImgArgs} {svc : Bool} {s u t : State} {e : ImgEnd}
    (hr : s.store.running = some (cmd, a, svc)) (hd : domReady s .img = true) (he : e = imgAct cmd a svc s)
    (hu : u = domRelease (setBit { e.2.2 with store := { e.2.2.store with running := none } } Reg.imgStatus 0 false) .img)
    (ht : t = if e.2.1 = 0 then raise Ev.imgCmdDone e.1 0 cmd (imgResult cmd 0 u) else imgRefuse cmd e.1 e.2.1 u) :
    imgComplete s = t.svc.imgFrom.elim t (fun q =>
      answer q 0x40 (if e.2.1 = 0 then 0 else 2) [] { t with svc := { t.svc with imgFrom := none } }) := by
  have h : imgComplete s = match t.svc.imgFrom with
      | some q => answer q 0x40 (if e.2.1 = 0 then 0 else 2) [] { t with svc := { t.svc with imgFrom := none } }
      | none => t := by
    subst ht hu he
    unfold imgComplete
    rw [hr]
    exact if_neg (by rw [hd]; exact Bool.false_ne_true)
  rw [h]
  cases t.svc.imgFrom <;> rfl

/-- OPEN of an empty slot with a type, no slot open, room and a legal length. -/
theorem imgOpen_of_free {a : ImgArgs} {svc : Bool} {s u : State} (he : (slotOf s a.slot).state = .empty) (ht : a.typ ≠ 0)
    (ho : openSlot s = none) (hf : (a.len + 131071) / 131072 * 131072 ≤ bankFree s (a.slot / 128)) (hl : 256 ≤ a.len)
    (hm : a.len ≤ 256 + largestPayload a.typ)
    (hu : u = setSlot a.slot { slot0 with state := .open_, typ := a.typ, alloc := a.len } s) :
    imgOpen a svc s = (a.slot, 0, { u with store := { u.store with viaSvc := svc } }) := by
  subst hu
  refine (if_neg ?_).trans ((if_neg (Nat.not_lt.2 hf)).trans (if_neg ?_))
  · rintro (h | h | h)
    · exact h he
    · exact ht h
    · rw [ho] at h
      cases h
  · omega

/-- WRITE of a legal length that fits, on which the lanes agree, appends the bytes. -/
theorem imgWrite_of_voted {a : ImgArgs} {s v : State} {n : Nat} {bs : List Byte} (ho : openSlot s = some n) (h0 : 0 < a.len)
    (hl : a.len ≤ 2 ^ 20) (ha : (slotOf s n).written + a.len ≤ (slotOf s n).alloc) (hs : a.src + a.len ≤ 2 ^ 33)
    (hv : voteDram 16385 a.src a.len [] [] s = (some bs, v)) : imgWrite a s = (n, 0, appendSlot n bs v) := by
  unfold imgWrite
  rw [ho]
  refine (if_neg (by omega)).trans ?_
  rw [hv]

/-- CLOSE makes the open slot's image VALID, or erases the slot with the check's reason. -/
theorem imgClose_of_open {a : ImgArgs} {s u v : State} {n : Nat} (ho : openSlot s = some n)
    (hu : u = reportIf (closeReason s (slotOf s n)) n s)
    (hv : v = setSlot n (if closeReason s (slotOf s n) = 0 then { slotOf s n with state := .valid } else slot0) u) :
    imgClose a s = (n, closeReason s (slotOf s n), { v with store := { v.store with viaSvc := false } }) := by
  subst hv hu
  unfold imgClose
  rw [ho]

/-- LOAD of a VALID image whose payload passes writes it into the lanes. -/
theorem imgLoad_of_valid {a : ImgArgs} {s : State} (hv : (slotOf s a.slot).state = .valid)
    (hs : a.src + payloadLen (slotOf s a.slot) ≤ 2 ^ 33) (hp : payloadReason (slotOf s a.slot) = 0) :
    imgLoad a s = (a.slot, 0, (if running s then receivingLanes s else imgLanes s).foldl (fun x l =>
        { x with dram := x.dram.set l (writeBytes (x.dram.get l) a.src
          (readBytes (slotOf s a.slot).content 256 (payloadLen (slotOf s a.slot)))) }) s) := by
  refine (if_neg (not_not_intro hv)).trans ((if_neg (Nat.not_lt.2 hs)).trans ?_)
  have hrep : reportIf 0 a.slot s = s := if_neg (by decide)
  simp only [hp, hrep, if_true]

/-- SET_BOOT that no check refuses writes the bank's set with the other bank's generation plus one. -/
theorem imgSetBoot_of_good {a : ImgArgs} {s : State} (hr : bootSetReason s a = 0) :
    imgSetBoot a s = (a.slot, 0, { s with store := if a.bank = 0
      then { s.store with boot0 := ⟨a.bootSet, (bootSet s 1).generation + 1, true⟩ }
      else { s.store with boot1 := ⟨a.bootSet, (bootSet s (1 - a.bank)).generation + 1, true⟩ } }) := by
  refine (if_neg (not_not_intro hr)).trans ?_
  by_cases hb : a.bank = 0
  · simp only [hb, if_true, Nat.sub_zero]
  · simp only [hb, if_false]

/-- INFO of a slot whose first 32 bytes are readable shows them. -/
theorem imgInfo_of_readable {a : ImgArgs} {s : State} (he : (slotOf s a.slot).state ≠ .empty)
    (hp : isPoisoned (slotOf s a.slot).content 0 32 = false) :
    imgInfo a s = (a.slot, 0, (List.range 8).foldl (fun x j =>
        setReg x (Reg.imgInfo j) (BitVec.ofNat 32 (imgFld (slotOf s a.slot) (4 * j) 4))) s) :=
  (if_neg he).trans (if_neg (Bool.eq_false_iff.1 hp))

/-- Settles O57. -/
theorem imageCommandsTakeEffect : Obligations.ImageCommandsTakeEffect := by
  unfold Obligations.ImageCommandsTakeEffect
  refine ⟨fun s hb => ?busy, fun s r hb hr => ?idle,
    fun cmd a svc s u t e hr hd he hu ht => congrArg Host.Outcome.next (imgComplete_of_ready hr hd he hu ht),
    fun s hr hd => ?waits, fun s a svc => ⟨fun he ht ho hf hl hm => ⟨_, rfl, imgOpen_of_free he ht ho hf hl hm rfl⟩,
      fun n bs v ho h0 hl ha hs hv => imgWrite_of_voted ho h0 hl ha hs hv, fun n u v ho hu hv => imgClose_of_open ho hu hv,
      fun hb hl => if_neg (not_or.2 ⟨Bool.eq_false_iff.1 hb, hl⟩), fun hv hs hp => imgLoad_of_valid hv hs hp,
      fun hr => imgSetBoot_of_good hr, fun he hp => imgInfo_of_readable he hp⟩⟩
  case busy =>
    have h := fun (cmd : Nat) (hc : 0 < cmd) (h7 : cmd ≤ 7) =>
      congrArg (Host.Outcome.next (φ := Fault) (ρ := Refusal))
        (imgCommand_of_busy (a := imgArgs s) (svc := false) hc h7 hb)
    exact ⟨h 1 (by decide) (by decide), h 2 (by decide) (by decide), h 3 (by decide) (by decide), h 4 (by decide) (by decide),
      h 5 (by decide) (by decide), h 6 (by decide) (by decide), h 7 (by decide) (by decide)⟩
  case idle =>
    have h := fun (cmd : Nat) (hc : 0 < cmd) (h7 : cmd ≤ 7) =>
      congrArg (Host.Outcome.next (φ := Fault) (ρ := Refusal))
        ((imgCommand_of_idle (a := imgArgs s) (svc := false) hc h7 hb).trans (hr cmd).symm)
    exact ⟨h 1 (by decide) (by decide), h 2 (by decide) (by decide), h 3 (by decide) (by decide), h 4 (by decide) (by decide),
      h 5 (by decide) (by decide), h 6 (by decide) (by decide), h 7 (by decide) (by decide)⟩
  case waits =>
    obtain ⟨x, hx⟩ := Option.isSome_iff_exists.1 hr
    refine congrArg Host.Outcome.next ?_
    unfold imgComplete
    rw [hx]
    exact if_pos (by rw [hd]; rfl)

end Sys2Proof.Machine
end

section
/-!
PROOFS. O58: samples, entries, clears and read-outs of the event recorder.
-/
namespace Sys2Proof.Machine

/-! ### Samples -/

/-- An update of a quantity area without poisoned words meets none. -/
theorem meetQuant_of_clean {s : State} (h : s.recorder.poison = []) : meetQuant s = (false, s) := by
  unfold meetQuant
  rw [h]

/-- An extreme kept in an area without poisoned words leaves counts and poison as they are. -/
theorem keepExtreme_of_clean {s : State} (h : s.recorder.poison = []) (key : Nat) (high : Bool) (x : Int) :
    (keepExtreme key high x s).recorder.hist = s.recorder.hist ∧ (keepExtreme key high x s).recorder.poison = [] := by
  simp only [keepExtreme, meetQuant_of_clean h]
  exact iteInduction (motive := fun t : State => t.recorder.hist = s.recorder.hist ∧ t.recorder.poison = [])
    (fun _ => ⟨rfl, h⟩) (fun _ => ⟨rfl, h⟩)

/-- The bin of a sample counts by one, saturating. -/
theorem sampleQuantity_hist {q : Nat} {low width x : Int} {lowest : Bool} {s : State} (h : s.recorder.poison = []) {n : Word}
    (hn : n = tget 0 s.recorder.hist (16 * q + binOf low width x)) :
    (sampleQuantity q low width x lowest s).recorder.hist =
      tset 0 s.recorder.hist (16 * q + binOf low width x) (if n = BitVec.allOnes 32 then n else n + 1) := by
  subst hn
  have hp : ∀ l, ({ s with recorder := { s.recorder with hist := l } } : State).recorder.poison = [] := fun _ => h
  simp only [sampleQuantity, meetQuant_of_clean h, Bool.false_eq_true, if_false]
  split
  · rw [(keepExtreme_of_clean (keepExtreme_of_clean (hp _) _ _ _).2 _ _ _).1]
    exact (keepExtreme_of_clean (hp _) _ _ _).1
  · exact (keepExtreme_of_clean (hp _) _ _ _).1

/-! ### Entries -/

/-- The oldest queued record is taken in a powered module with no clear running. -/
theorem logEntryWrite_of_queued {r : Record} {rest : List Record} {s u : State} (hq : s.recQ = r :: rest)
    (hp : s.skerry.powered = true) (hc : s.recorder.clearing = none) (hu : u = { s with recQ := rest }) :
    logEntryWrite s = if isApp r then
        match findRec u r.source r.seq with
        | some j => if j.state = .started then
            showRec (finishDesc (writeEntry r true u).2 r.source r.seq
              (if (writeEntry r true u).1 then .done else .refused) (if (writeEntry r true u).1 then 0 else 3))
          else showRec u
        | none => showRec u
      else showRec (writeEntry r false u).2 := by
  subst hu
  unfold logEntryWrite
  rw [hq]
  exact if_neg (not_or.2 ⟨not_not_intro hp, by rw [hc]; exact Bool.false_ne_true⟩)

/-- A log with room takes the entry. -/
theorem writeEntry_of_room {r : Record} {app : Bool} {s : State} (h : s.recorder.log.length < logSize) :
    writeEntry r app s = (true, putEntry (newEntry s r app false) s) := if_pos h

/-- A full log that holds nothing to displace drops the entry. -/
theorem writeEntry_of_full {r : Record} {app : Bool} {s : State} (h : logSize ≤ s.recorder.log.length)
    (hv : victim s.recorder.log (sevCode r.sev) = none) :
    writeEntry r app s = (false, stick (satAdd s Reg.recLoss 31 16 1) Reg.recError 1) := by
  refine (if_neg (Nat.not_lt.2 h)).trans ?_
  rw [hv]

/-- An APP_ENTRY that its ring may start is refused for its LEN or severity, else queued. -/
theorem recAppEntry_of_started {n : Nat} {r : JRecord} {s z : State} (hr : startRec s n 6 1 = (some r, z)) :
    recAppEntry n s = if 12 < r.desc.len.toNat then finishDesc z n r.desc.seq .refused 1
      else if 4 < dfld r.desc.spec 15 8 then finishDesc z n r.desc.seq .refused 2
      else showRec { markRec z n r.desc.seq .started with
        recQ := (markRec z n r.desc.seq .started).recQ ++ [appRecord (markRec z n r.desc.seq .started) n r.desc r.payload] } := by
  unfold recAppEntry
  rw [hr]

/-! ### Clears -/

/-- The end of a clear, by its source. -/
theorem recClearDone_of_clearing {source : Nat} {req : Option SvcReq} {s : State}
    (h : s.recorder.clearing = some (source, req)) :
    recClearDone s = req.elim (clearAll source s) (fun r => answer r 0x23 0 [] (clearAll source s)) := by
  unfold recClearDone
  rw [h]
  cases req <;> rfl

/-! ### Read-outs -/

/-- A request leaves the recorder. -/
@[simp] theorem svcTouch_recorder (req : SvcReq) (s : State) : (svcTouch req s).recorder = s.recorder := by
  unfold svcTouch
  split <;> rfl

/-- Free bytes are as many as asked for, and leave the recorder. -/
theorem freeBytes_spec (n : Nat) (s : State) : (freeBytes n s).1.length = n ∧ (freeBytes n s).2.recorder = s.recorder := by
  induction n generalizing s with
  | zero => exact ⟨rfl, rfl⟩
  | succ n ih =>
    obtain ⟨hl, hr⟩ := ih (takeFree s).2
    exact ⟨(List.length_cons ..).trans (congrArg (· + 1) hl), hr⟩

/-- QUANT of an area without poisoned words answers as many bytes as asked for. -/
theorem recQuant_of_clean {req : SvcReq} {u : State} (hn : req.count.toNat ≤ 1024)
    (ha : req.start.toNat + req.count.toNat ≤ quantArea) (hp : u.recorder.poison = []) :
    ∃ bs : List Byte, bs.length = req.count.toNat ∧ recQuant req u =
      emitOut (freeBytes req.count.toNat u).2 (.svc req 0x21 0 req.count.toNat bs) := by
  obtain ⟨hl, hr⟩ := freeBytes_spec req.count.toNat u
  have hp' : (freeBytes req.count.toNat u).2.recorder.poison = [] := by rw [hr, hp]
  refine ⟨(freeBytes req.count.toNat u).1.zipIdx.map (fun (b, i) => if (freeBytes req.count.toNat u).2.recorder.poison.any
    (fun w => decide (w / 16 = (req.start.toNat + i) / 16)) then 0 else b), ?_, ?_⟩
  · rw [List.length_map, List.length_zipIdx, hl]
  · refine (if_neg (by omega)).trans ?_
    simp only [hp', List.filter_nil, List.foldl_nil, List.isEmpty_nil, if_true, answerCount]

/-- A poisoned entry that is read out is reported (R427). -/
def reportEntry (s : State) (e : LogEntry) : State :=
  if e.poison then
    let i := (s.recorder.log.idxOf? e).getD 0
    recPoisoned (0x10000 + 32 * i) s
  else s

/-- A read-out of entries none of which is poisoned reports nothing. -/
theorem foldl_reportEntry_of_clean {es : List LogEntry} (h : (es.all (fun e => !e.poison)) = true) (s : State) :
    es.foldl reportEntry s = s := by
  induction es with
  | nil => rfl
  | cons e es ih =>
    obtain ⟨he, hes⟩ := Bool.and_eq_true_iff.1 h
    have hclean : reportEntry s e = s := if_neg (by simpa using he)
    rw [List.foldl_cons, hclean, ih hes]

/-- LOG answers the entries from START on where none of them is poisoned. -/
theorem recLog_of_clean {req : SvcReq} {u : State} {es : List LogEntry}
    (he : es = (u.recorder.log.filter (fun e => decide (wsub e.seq req.start < 2 ^ 31))).take (min 32 req.count.toNat))
    (hp : (es.all (fun e => !e.poison)) = true) :
    recLog req u = emitOut u (.svc req 0x22 0 es.length (es.flatMap entryBytes)) := by
  have h : recLog req u = answerCount req 0x22 0 es.length (es.flatMap entryBytes) (es.foldl reportEntry u) := by
    subst he
    rfl
  rw [h, foldl_reportEntry_of_clean hp, answerCount]

/-- INFO of a log that is not empty. -/
theorem recInfo_of_entries {req : SvcReq} {a b : LogEntry} {u : State} (ha : (readClear u).2.recorder.log.head? = some a)
    (hb : (readClear u).2.recorder.log.getLast? = some b) :
    recInfo req u = answer req 0x20 0
      ([(readClear u).1.1, (readClear u).1.2.1, (readClear u).1.2.2, getReg (showRec (readClear u).2) Reg.recStatus,
        getReg (showRec (readClear u).2) Reg.recLoss, a.seq, b.seq].flatMap (fun w => leBytes 4 w.toNat))
      (showRec (readClear u).2) := by
  simp only [recInfo, ha, hb]

/-- Settles O58. -/
theorem recorderTakesEffect : Obligations.RecorderTakesEffect := by
  unfold Obligations.RecorderTakesEffect
  refine ⟨fun dv base hot x y z load s => ⟨fun hp hm => ⟨_, _, rfl, rfl, congrArg Host.Outcome.next (if_pos ⟨hp, hm⟩)⟩,
      fun hp => congrArg Host.Outcome.next (if_neg fun h => Bool.eq_false_iff.1 hp h.1)⟩,
    fun q low width x lowest s h => ⟨_, rfl, sampleQuantity_hist h rfl⟩, fun r rest s hq hp hc ha hl => ?entry,
    fun r rest s u hq hp hc ha hl hv hu => ?dropped, fun r rest s u j hq hp hc ha hu hf hj => ?appEntry,
    fun n r s z hr => ⟨fun hl => ?badLen, fun hl hv => ?badSeverity, fun hl hv => ⟨_, rfl, ?queued⟩⟩,
    fun s => ⟨fun hc => ?clear, fun hc => congrArg Host.Outcome.next (if_pos hc)⟩,
    fun source s hc => congrArg Host.Outcome.next (recClearDone_of_clearing hc),
    fun source s => ⟨_, _, _, rfl, rfl, rfl, rfl, rfl, rfl, rfl, rfl, rfl, rfl, rfl⟩,
    fun source req s hc => congrArg Host.Outcome.next (recClearDone_of_clearing hc),
    fun req s hs hc => ⟨_, rfl, ?svcClear⟩, fun req a b s u hs hu ha hb hl => ?info,
    fun req s u hs hu => ⟨fun hb => ?outside, fun hn ha hp => ?quant⟩, fun req s u es hs hu he hp => ?log⟩
  case entry =>
    refine ⟨newEntry { s with recQ := rest } r false false, _, rfl, rfl, rfl, rfl, rfl, rfl, rfl, rfl,
      congrArg Host.Outcome.next ((logEntryWrite_of_queued hq hp hc rfl).trans ((if_neg (Bool.eq_false_iff.1 ha)).trans ?_))⟩
    rw [writeEntry_of_room (s := { s with recQ := rest }) hl]
    rfl
  case dropped =>
    refine congrArg Host.Outcome.next ((logEntryWrite_of_queued hq hp hc hu).trans ((if_neg (Bool.eq_false_iff.1 ha)).trans ?_))
    have hr : u.recorder = s.recorder := by rw [hu]
    rw [writeEntry_of_full (hr ▸ hl) (hr ▸ hv)]
  case appEntry =>
    refine congrArg Host.Outcome.next ((logEntryWrite_of_queued hq hp hc hu).trans ((if_pos ha).trans ?_))
    rw [hf]
    exact if_pos hj
  case badLen => exact congrArg Host.Outcome.next ((recAppEntry_of_started hr).trans (if_pos hl))
  case badSeverity =>
    exact congrArg Host.Outcome.next ((recAppEntry_of_started hr).trans ((if_neg (Nat.not_lt.2 hl)).trans (if_pos hv)))
  case queued =>
    exact congrArg Host.Outcome.next ((recAppEntry_of_started hr).trans
      ((if_neg (Nat.not_lt.2 hl)).trans (if_neg (Nat.not_lt.2 hv))))
  case clear => exact congrArg Host.Outcome.next (if_neg (by rw [hc]; exact Bool.false_ne_true))
  case svcClear =>
    refine congrArg Host.Outcome.next ((if_pos hs).trans (if_neg ?_))
    rw [svcTouch_recorder, hc]
    exact Bool.false_ne_true
  case info =>
    subst hu
    exact congrArg Host.Outcome.next ((if_pos hs).trans (recInfo_of_entries (by rw [hl, ha]) (by rw [hl, hb])))
  case outside =>
    subst hu
    exact congrArg Host.Outcome.next ((if_pos hs).trans (if_pos hb))
  case quant =>
    subst hu
    obtain ⟨bs, hlen, hbs⟩ := recQuant_of_clean (u := svcTouch req s) hn ha (by rw [svcTouch_recorder, hp])
    exact ⟨bs, _, hlen, congrArg Host.Outcome.next ((if_pos hs).trans hbs)⟩
  case log =>
    subst hu
    exact congrArg Host.Outcome.next ((if_pos hs).trans (recLog_of_clean (by rw [svcTouch_recorder, he]) hp))

end Sys2Proof.Machine
end

section
/-!
PROOFS. O59: requests on X_SVC, each by its state of access.
-/
namespace Sys2Proof.Machine

/-! ### A request by the state of access -/

section
variable {req : SvcReq} {s : State}

/-- Where X_SVC is served a request acts on the state in which the idle time has restarted. -/
theorem svcServe_of_served {f : State → State} (h : svcServed s = true) : svcServe req f s = f (svcTouch req s) := if_pos h

/-- The holder of open access has its request acted on. -/
theorem svcOpened_of_held {op : Nat} {f : State → State} (h : svcHeld s req = true) : svcOpened req op f s = f s := if_pos h

/-- Any other requester is DENIED. -/
theorem svcOpened_of_not_held {op : Nat} {f : State → State} (h : svcHeld s req = false) :
    svcOpened req op f s = answer req op 5 [] s := if_neg (Bool.eq_false_iff.1 h)

/-- Any other requester is DENIED what needs MAINTENANCE as well. -/
theorem svcMaintenance_of_not_held {op : Nat} {f : State → State} (h : svcHeld s req = false) :
    svcMaintenance req op f s = answer req op 5 [] s := svcOpened_of_not_held h

/-- In MAINTENANCE the holder has its request acted on. -/
theorem svcMaintenance_of_held {op : Nat} {f : State → State} (h : svcHeld s req = true) (hm : modState s = .maintenance) :
    svcMaintenance req op f s = f s := (svcOpened_of_held h).trans (if_pos hm)

/-! ### Requests that need no open access -/

/-- CHALLENGE where access is not LOCKED answers a NONCE of two free values, noted with its time, and the SALT. -/
theorem svcChallenge_of_unlocked (h : svcIsLocked s = false) : ∃ (a b : BitVec 64) (v : State),
    v.svc = { s.svc with nonce := some ((a ++ b : BitVec 128), rawNow s) } ∧
    svcChallenge req s = answer req 2 0 (secretBytes (a ++ b : BitVec 128) ++ secretBytes s.svc.salt) v :=
  ⟨(takeFree s).1, (takeFree (takeFree s).2).1, { (takeFree (takeFree s).2).2 with svc := { s.svc with
    nonce := some ((takeFree s).1 ++ (takeFree (takeFree s).2).1, rawNow s) } }, rfl, if_neg (Bool.eq_false_iff.1 h)⟩

/-- OPEN with a defined METHOD in CLOSED access takes the valid NONCE and judges the response. -/
theorem svcOpen_of_closed {method : Byte} {r : BitVec 256} {nonce : BitVec 128} (ho : svcIsOpen s = false)
    (hl : svcIsLocked s = false) (hm : method = 1 ∨ method = 2) (hn : validNonce s = some nonce) :
    svcOpen req method r s = if expectedResponse s nonce method = secretBytes r
      then openSuccess req method { s with svc := { s.svc with nonce := none } }
      else openFailure req { s with svc := { s.svc with nonce := none } } := by
  have hm' : ¬ (method ≠ 1 ∧ method ≠ 2) := fun ⟨h1, h2⟩ => hm.elim h1 h2
  have ho' : ¬ (svcIsOpen s = true ∧ s.svc.holder ≠ some (req.ip, req.port)) := fun h => Bool.eq_false_iff.1 ho h.1
  refine (if_neg (Bool.eq_false_iff.1 hl)).trans ((if_neg hm').trans ((if_neg ho').trans ?_))
  rw [hn]
  exact if_congr decide_eq_true_iff rfl rfl

/-! ### Requests of the holder -/

/-- REG_READ of at most 256 registers within the blocks answers them. -/
theorem svcRegRead_of_held (h : svcHeld s req = true) (hn : req.count.toNat ≤ 256)
    (hr : regRange req req.count.toNat = true) : svcRegRead req s = answerCount req 0x30 0 req.count.toNat
      ((liveRegs req.count.toNat req.start.toNat s).1.flatMap (fun v => leBytes 4 v.toNat))
      (liveRegs req.count.toNat req.start.toNat s).2 :=
  (svcOpened_of_held h).trans (if_neg (not_or.2 ⟨Nat.not_lt.2 hn, not_not_intro hr⟩))

/-- REG_WRITE of as many values as COUNT says, in MAINTENANCE or within the force registers, writes them. -/
theorem svcRegWrite_of_held {vs : List Word} (h : svcHeld s req = true) (hc : req.count.toNat = vs.length)
    (hr : regRange req vs.length = true) (hm : modState s = .maintenance ∨ forceOnly req vs.length = true) :
    svcRegWrite req vs s = answer req 0x31 0 [] (writeRegs req vs req.start.toNat s) :=
  (svcOpened_of_held h).trans ((if_neg fun ⟨h1, h2⟩ => hm.elim h1 h2).trans
    (if_neg (not_or.2 ⟨not_not_intro hc, not_not_intro hr⟩)))

/-- IMG with a defined command starts it, and is answered when it completes. -/
theorem svcImg_of_held {arg len cmd : Word} {b : List Word} {v : State} (h : svcHeld s req = true) (hb : imgBusy s = false)
    (h1 : 1 ≤ wordFld cmd 3 0) (h7 : wordFld cmd 3 0 ≤ 7)
    (hv : v = imgCommand (wordFld cmd 3 0) (svcImgArgs arg len b s) true s) :
    svcImg req arg len b cmd s = { v with svc := { v.svc with imgFrom := some req } } := by
  subst hv
  exact (svcOpened_of_held h).trans ((if_neg (Bool.eq_false_iff.1 hb)).trans (if_neg (by omega)))

/-- IMG_DATA that fits is appended to the slot opened over X_SVC. -/
theorem svcImgData_of_held {data : List Byte} {n : Nat} (h : svcHeld s req = true) (h1 : 1 ≤ data.length)
    (hl : data.length ≤ 1024) (ho : openSlot s = some n) (hv : s.store.viaSvc = true)
    (ha : (slotOf s n).written + data.length ≤ (slotOf s n).alloc) (hb : imgBusy s = false) :
    svcImgData req data s = answer req 0x41 0 [] (appendSlot n data s) := by
  refine (svcOpened_of_held h).trans ?_
  have hfits : ¬ (¬ s.store.viaSvc = true ∨ data.length = 0 ∨ 1024 < data.length ∨
      (slotOf s n).alloc < (slotOf s n).written + data.length) := by
    rintro (h | h | h | h)
    · exact h hv
    · omega
    · omega
    · omega
  simp only [ho]
  exact (if_neg hfits).trans (if_neg (Bool.eq_false_iff.1 hb))

/-- RESTART is answered and restarts warm, but not after a common-cause SAFE_HALT. -/
theorem svcRestart_of_held (h : svcHeld s req = true) : svcRestart req s =
    if modState s = .safeHalt ∧ s.pair.common then answer req 0x50 6 [] s
    else restartCmd false 3 (answer req 0x50 0 [] s) := svcOpened_of_held h

end

/-- Settles O59. -/
theorem serviceRequestsAreServed : Obligations.ServiceRequestsAreServed := by
  unfold Obligations.ServiceRequestsAreServed
  refine ⟨fun req s u hs hu => ?anyone, fun req s u hs hu hh => ?holder, fun req s u hs hu hn => ?denied⟩
  all_goals
    subst hu
    have served : ∀ f : State → State, (Host.Outcome.next (svcServe req f s) : Host.Outcome State Fault Refusal) =
      .next (f (svcTouch req s)) := fun f => congrArg Host.Outcome.next (svcServe_of_served hs)
  case anyone =>
    refine ⟨served _, fun hl => (served _).trans ?locked, fun hl => ?challenge,
      fun method r nonce v ho hl hm hn hv => ?opened, fun op hop => ?unknown⟩
    case locked => exact congrArg Host.Outcome.next (if_pos hl)
    case challenge =>
      obtain ⟨a, b, v, hv, hc⟩ := svcChallenge_of_unlocked (req := req) hl
      exact ⟨a, b, v, hv, (served _).trans (congrArg Host.Outcome.next hc)⟩
    case opened =>
      subst hv
      exact ⟨fun hr => (served _).trans (congrArg Host.Outcome.next ((svcOpen_of_closed ho hl hm hn).trans (if_pos hr))),
        fun hr => (served _).trans (congrArg Host.Outcome.next ((svcOpen_of_closed ho hl hm hn).trans (if_neg hr)))⟩
    case unknown => exact (congrArg Host.Outcome.next (if_neg (Bool.eq_false_iff.1 hop))).trans (served _)
  case holder =>
    refine ⟨(served _).trans (congrArg Host.Outcome.next (svcOpened_of_held hh)), fun hm salt key i => ⟨?password, ?module, fun h1 h4 => ?enrol⟩,
      fun hn hr => (served _).trans (congrArg Host.Outcome.next (svcRegRead_of_held hh hn hr)),
      fun vs hl hc hr hm => (if_pos hl).trans ((served _).trans (congrArg Host.Outcome.next (svcRegWrite_of_held hh hc hr hm))),
      fun arg len cmd b v hl hb h1 h7 hv =>
        (if_pos hl).trans ((served _).trans (congrArg Host.Outcome.next (svcImg_of_held hh hb h1 h7 hv))),
      fun data n h1 hl ho hv ha hb => (if_pos (Nat.le_trans hl (by decide))).trans ((served _).trans
        (congrArg Host.Outcome.next (svcImgData_of_held hh h1 hl ho hv ha hb))),
      fun hr => (served _).trans (congrArg Host.Outcome.next ((svcRestart_of_held hh).trans (if_neg ?restarts))),
      fun hm hc => (served _).trans (congrArg Host.Outcome.next ((svcRestart_of_held hh).trans (if_pos ⟨hm, hc⟩)))⟩
    case password =>
      exact (served _).trans (congrArg Host.Outcome.next ((svcMaintenance_of_held hh hm).trans (if_pos rfl)))
    case module =>
      exact (served _).trans (congrArg Host.Outcome.next ((svcMaintenance_of_held hh hm).trans
        ((if_neg (by decide)).trans (if_pos rfl))))
    case enrol =>
      exact (served _).trans (congrArg Host.Outcome.next ((svcMaintenance_of_held hh hm).trans (if_pos ⟨h1, h4⟩)))
    case restarts => exact fun ⟨hm, hc⟩ => hr.elim (fun h => h hm) (fun h => Bool.eq_false_iff.1 h hc)
  case denied =>
    have deny : ∀ (op : Nat) (f : State → State), (Host.Outcome.next (svcOpened req op f (svcTouch req s)) :
        Host.Outcome State Fault Refusal) = .next (answer req op 5 [] (svcTouch req s)) :=
      fun op f => congrArg Host.Outcome.next (svcOpened_of_not_held hn)
    exact ⟨(served _).trans (deny _ _), (served _).trans (deny _ _), (served _).trans (deny _ _),
      fun m i salt key => ⟨(served _).trans (congrArg Host.Outcome.next (svcMaintenance_of_not_held hn)),
        (served _).trans (congrArg Host.Outcome.next (svcMaintenance_of_not_held hn))⟩,
      fun vs hl => (if_pos hl).trans ((served _).trans (deny _ _)),
      fun arg len cmd b hl => (if_pos hl).trans ((served _).trans (deny _ _)),
      fun data hl => (if_pos hl).trans ((served _).trans (deny _ _))⟩

end Sys2Proof.Machine
end

section
/-!
PROOFS. O60: the ends of service access, the link, and boundary scan.
-/
namespace Sys2Proof.Machine

/-! ### The ends of service access -/

/-- Open access closes with its reason. -/
theorem svcShut_of_open {why : Nat} {s : State} (h : svcIsOpen s = true) :
    svcShut why s = raise Ev.svcClosed 0xFF 0 why (svcEnd s) := if_pos h

/-- Without open access nothing closes. -/
theorem svcShut_of_closed {why : Nat} {s : State} (h : svcIsOpen s = false) : svcShut why s = s :=
  if_neg (Bool.eq_false_iff.1 h)

/-- The state of access is a register's alone. -/
theorem svcIsOpen_congr {s t : State} (h : s.regs = t.regs) : svcIsOpen s = svcIsOpen t := by
  rw [svcIsOpen, svcIsOpen, fld_congr h]

/-- The link of X_SVC is lost. -/
def linkLost (s : State) : State := { s with svc := { s.svc with link := false } }

theorem svcIsOpen_linkLost (s : State) : svcIsOpen (linkLost s) = svcIsOpen s := svcIsOpen_congr rfl

/-- At the end of the lockout access is CLOSED with no failures, and the other fields stand. -/
theorem svcStatus_unlocked (s : State) :
    fld (setFld (setFld s Reg.svcStatus 1 0 0) Reg.svcStatus 6 4 0) Reg.svcStatus 1 0 = 0 ∧
    fld (setFld (setFld s Reg.svcStatus 1 0 0) Reg.svcStatus 6 4 0) Reg.svcStatus 6 4 = 0 ∧
    fld (setFld (setFld s Reg.svcStatus 1 0 0) Reg.svcStatus 6 4 0) Reg.svcStatus 18 7 = fld s Reg.svcStatus 18 7 := by
  refine ⟨?_, ?_, ?_⟩
  · rw [fld_setFld_near _ _ _ (by decide) (by decide) (by decide) (.inl (by decide)),
      fld_setFld_self _ _ _ (by decide) (by decide)]
    rfl
  · rw [fld_setFld_self _ _ _ (by decide) (by decide)]
    rfl
  · rw [fld_setFld_near _ _ _ (by decide) (by decide) (by decide) (.inr (by decide)),
      fld_setFld_near _ _ _ (by decide) (by decide) (by decide) (.inr (by decide))]

/-! ### Boundary scan -/

/-- What the instruction register captures, as it is shifted out. -/
theorem captureIr_setWidth : captureIr.setWidth 257 = 1 := by simp [captureIr]

/-- The device identification, as it is shifted out. -/
theorem idcode_setWidth : idcode.setWidth 257 = 0x0B372C1D := by simp [idcode]

/-- The TAP takes an instruction: an instruction in effect is released first. -/
theorem tapUpdate_eq {code : Byte} {s r u : State} (hr : r = emitOut s (.shift 8 1))
    (hu : u = (let x := if s.tap.acting.isSome then scanRelease r else r; { x with tap := { x.tap with ir := code } })) :
    tapUpdate code s = u := by
  subst hu hr
  rw [← captureIr_setWidth]
  rfl

/-- The TAP takes an instruction with none in effect. -/
theorem tapUpdate_of_idle {code : Byte} {s r : State} (hn : s.tap.acting = none) (hr : r = emitOut s (.shift 8 1)) :
    tapUpdate code s = { r with tap := { r.tap with ir := code } } := by
  refine (tapUpdate_eq hr rfl).trans ?_
  rw [hn]
  rfl

/-- EXTEST, CLAMP and HIGHZ act with their codes. -/
theorem exec_driving {i : Fin 3} {c : Instr} {code : Byte}
    (h : (c, code) = nth (.jtagExtest, 0) [(.jtagExtest, 0), (.jtagClamp, 3), (.jtagHighz, 4)] i.val) (s : State) :
    exec c s = .next (tapDrive code s) := by
  match i, h with
  | 0, h => cases h; rfl
  | 1, h => cases h; rfl
  | 2, h => cases h; rfl

/-- A driving instruction acts in MAINTENANCE with open access, and is refused elsewhere. -/
theorem tapDrive_of_powered {code : Byte} {s u : State} (hp : s.skerry.powered = true) (hu : tapUpdate code s = u) :
    tapDrive code s = if modState u = .maintenance ∧ svcIsOpen u then
        showScan (settleOuts allOuts (fun s => { s with tap := { s.tap with acting := some code } })
          (setBit u Reg.svcStatus 18 true))
      else raise Ev.scanRefused 0xFF 0 code.toNat u := by
  subst hu
  exact if_neg (not_not_intro hp)

/-- An unpowered module takes no driving instruction. -/
theorem tapDrive_of_unpowered {code : Byte} {s : State} (hp : s.skerry.powered = false) : tapDrive code s = s :=
  if_pos (Bool.eq_false_iff.1 hp)

/-- SAMPLE/PRELOAD with none in effect shifts out the captured cells and takes those shifted in. -/
theorem samplePreload_of_powered {cells : BitVec 257} {s u : State} {v : BitVec 257 × State} (hp : s.skerry.powered = true)
    (hu : tapUpdate 1 s = u) (hv : v = captureCells u) :
    samplePreload cells s = emitOut { v.2 with tap := { v.2.tap with cells := cells } } (.shift 257 v.1) := by
  subst hv hu
  exact if_pos hp

/-- Settles O60. -/
theorem serviceAccessEndsAndScansAct : Obligations.ServiceAccessEndsAndScansAct := by
  unfold Obligations.ServiceAccessEndsAndScansAct
  refine ⟨fun s h => congrArg Host.Outcome.next ((if_pos h).trans (svcShut_of_open h)),
    fun s h ht => congrArg Host.Outcome.next ((if_pos ⟨h, ht⟩).trans (svcShut_of_open h)),
    fun s u hu => ⟨fun h => ?closes, fun h => ?noted⟩, fun s hp => congrArg Host.Outcome.next (if_pos hp),
    fun s hn hv => congrArg Host.Outcome.next (if_pos ⟨hn, hv⟩), fun s _ hl hr => ?unlocks,
    fun i c code s r u hc hp hr hu => ⟨fun hm ho => ?drives, fun h => ?refused⟩,
    fun s cells code hp => ?unpowered, fun s r cells code hn hp hr => ⟨fun u v hu hv => ?sample, ?idcode, fun hc => ?bypass, ?reset⟩,
    fun s ha => congrArg Host.Outcome.next (if_pos ha)⟩
  case closes =>
    have hu' : u = linkLost s := hu
    subst hu'
    exact congrArg Host.Outcome.next (svcShut_of_open ((svcIsOpen_linkLost s).trans h))
  case noted =>
    have hu' : u = linkLost s := hu
    subst hu'
    exact congrArg Host.Outcome.next (svcShut_of_closed ((svcIsOpen_linkLost s).trans h))
  case unlocks =>
    obtain ⟨h1, h2, h3⟩ := svcStatus_unlocked s
    exact ⟨_, congrArg Host.Outcome.next (if_pos ⟨hl, hr⟩), h1, h2, h3, rfl⟩
  case drives =>
    exact (exec_driving hc s).trans (congrArg Host.Outcome.next
      ((tapDrive_of_powered hp (tapUpdate_eq hr hu)).trans (if_pos ⟨hm, ho⟩)))
  case refused =>
    exact (exec_driving hc s).trans (congrArg Host.Outcome.next ((tapDrive_of_powered hp (tapUpdate_eq hr hu)).trans
      (if_neg fun ⟨hm, ho⟩ => h.elim (fun hne => hne hm) (fun hno => Bool.eq_false_iff.1 hno ho))))
  case unpowered =>
    have hn : ¬ (s.skerry.powered = true) := Bool.eq_false_iff.1 hp
    exact ⟨congrArg Host.Outcome.next (tapDrive_of_unpowered hp), congrArg Host.Outcome.next (tapDrive_of_unpowered hp),
      congrArg Host.Outcome.next (tapDrive_of_unpowered hp), congrArg Host.Outcome.next (if_neg hn),
      congrArg Host.Outcome.next (if_neg hn), congrArg Host.Outcome.next (if_neg fun h => hn h.1)⟩
  case sample =>
    subst hu
    exact congrArg Host.Outcome.next (samplePreload_of_powered hp (tapUpdate_of_idle hn hr) hv)
  case idcode =>
    refine congrArg Host.Outcome.next ((if_pos hp).trans ?_)
    rw [tapUpdate_of_idle hn hr, idcode_setWidth]
  case bypass => exact congrArg Host.Outcome.next ((if_pos ⟨hp, hc⟩).trans (tapUpdate_of_idle hn hr))
  case reset => exact congrArg Host.Outcome.next (if_neg (by rw [hn]; exact Bool.false_ne_true))

end Sys2Proof.Machine
end
